-- ==== Sys2Proof/Word.lean ====
section
/-! DEFINITION. The word types of the N3200 (spec 00 R4: every register is 32 or 64 bits wide). -/
namespace Sys2Proof

/-- A register or engine register: 64 bits (a 32-bit register uses the low half). -/
abbrev Word := BitVec 64

/-- One byte. -/
abbrev Byte := BitVec 8

end Sys2Proof
end

