-- ==== Sys2Proof/Formats.lean ====
section
/-! DEFINITION. The operand forms of the commands: who makes an access, which snapshot, which thread, the fields of
the Cloig instruction formats (spec 07 R177), and the facts an event brings with it. -/
namespace Sys2Proof

/-- Who makes a register access: a PF's host, by a request with or without its TEE-originator bit (13 R348, R350), or Ulyar. -/
inductive Src where
  | pf (n : Fin 4) (tee : Bool)
  | ulyar
  deriving DecidableEq, Repr

/-- The selecting registers of R535. -/
inductive SnapSel where
  | tmgQ (slice : Fin 6)
  | tmgP (slice : Fin 6)
  | keySlot
  | ring (pf : Fin 4)
  | mtrLive
  deriving DecidableEq, Repr

/-- A memory access: a read, a write, a write that arrives poisoned (13 R369). -/
inductive AccKind where
  | read | write | poisoned
  deriving DecidableEq, Repr

/-- What a read of host memory returns: its bytes, or none for an error (13 R363). -/
abbrev HostData := Option (List Byte)

/-- Where a parse tree read meets an uncorrectable error (05 R120): a node or a transition, and its index. -/
structure TreeEcc where
  transition : Bool
  index : Nat
  deriving DecidableEq, Repr

/-- A table entry named by TABLE_ID and index. -/
structure EntryRef where
  table : Nat
  index : Nat
  deriving DecidableEq, Repr

/-- What comes with a program's run (06): the pipeline cycle it begins in (R154), whether an update command writes the key it learns in the same cycle (R154), how many of its lookups missed the
flow cache (R133), and an entry whose read meets an uncorrectable error (R156). -/
structure ClsFacts where
  cycle : Nat
  overridden : Bool
  flowMiss : Nat
  ecc : Option EntryRef
  deriving DecidableEq, Repr

/-- An engine thread: slice, position, thread (07 R164). -/
structure ThId where
  slice : Fin 6
  pos : Fin 32
  thread : Fin 8
  deriving DecidableEq, Repr

/-- Format R (07 R177): predicate, RD, RA, RB, FN. -/
structure FmtR where
  pred : Fin 8
  pn : Bool
  rd : Fin 32
  ra : Fin 32
  rb : Fin 32
  fn : Fin 128
  deriving DecidableEq, Repr

/-- Format R with its FN given by the row: RD, RA, RB. -/
structure FmtN where
  pred : Fin 8
  pn : Bool
  rd : Fin 32
  ra : Fin 32
  rb : Fin 32
  deriving DecidableEq, Repr

/-- Format I: RD, RA, IMM12. -/
structure FmtI where
  pred : Fin 8
  pn : Bool
  rd : Fin 32
  ra : Fin 32
  imm : Fin 4096
  deriving DecidableEq, Repr

/-- Format W: RD and the 17 bits below it. -/
structure FmtW where
  pred : Fin 8
  pn : Bool
  rd : Fin 32
  imm : Fin 131072
  deriving DecidableEq, Repr

/-- Format F: RD, RA, POS, WM1. -/
structure FmtF where
  pred : Fin 8
  pn : Bool
  rd : Fin 32
  ra : Fin 32
  at_ : Fin 64
  wm1 : Fin 64
  deriving DecidableEq, Repr

/-- Format C of CMP: PD, CC, RA, RB, the reserved bits. -/
structure FmtC where
  pred : Fin 8
  pn : Bool
  pd : Fin 8
  cc : Fin 8
  ra : Fin 32
  rb : Fin 32
  rsv : Fin 64
  deriving DecidableEq, Repr

/-- Format C of CMPI: PD, CC, RA, IMM11. -/
structure FmtCI where
  pred : Fin 8
  pn : Bool
  pd : Fin 8
  cc : Fin 8
  ra : Fin 32
  imm : Fin 2048
  deriving DecidableEq, Repr

/-- Format P: PD, PA, PB, the reserved bits, FN. -/
structure FmtP where
  pred : Fin 8
  pn : Bool
  pd : Fin 8
  pa : Fin 8
  pb : Fin 8
  rsv : Fin 1024
  fn : Fin 8
  deriving DecidableEq, Repr

/-- Format M: RD, RA, BE, SZ, OFF9. -/
structure FmtM where
  pred : Fin 8
  pn : Bool
  rd : Fin 32
  ra : Fin 32
  be : Bool
  sz : Fin 4
  off : Fin 512
  deriving DecidableEq, Repr

/-- Format A: RD, RA, RB, FN, W, the reserved bits. -/
structure FmtA where
  pred : Fin 8
  pn : Bool
  rd : Fin 32
  ra : Fin 32
  rb : Fin 32
  fn : Fin 16
  w : Bool
  rsv : Fin 4
  deriving DecidableEq, Repr

/-- Format B: DISP22. -/
structure FmtB where
  pred : Fin 8
  pn : Bool
  disp : Fin 4194304
  deriving DecidableEq, Repr

/-- Format D: RD, DISP17. -/
structure FmtD where
  pred : Fin 8
  pn : Bool
  rd : Fin 32
  disp : Fin 131072
  deriving DecidableEq, Repr

/-- Format X: RD, RA, CNT, TABLE, the reserved bits. -/
structure FmtX where
  pred : Fin 8
  pn : Bool
  rd : Fin 32
  ra : Fin 32
  cnt : Fin 8
  table : Fin 64
  rsv : Fin 8
  deriving DecidableEq, Repr

/-- Format O: RD, RA, the reserved bits. -/
structure FmtO where
  pred : Fin 8
  pn : Bool
  rd : Fin 32
  ra : Fin 32
  rsv : Fin 4096
  deriving DecidableEq, Repr

/-- Format S: RD, RA, CNT, PD, the reserved bits. -/
structure FmtS where
  pred : Fin 8
  pn : Bool
  rd : Fin 32
  ra : Fin 32
  cnt : Fin 8
  pd : Fin 8
  rsv : Fin 64
  deriving DecidableEq, Repr

/-- Format V: RD, CH, PD, the reserved bits. -/
structure FmtV where
  pred : Fin 8
  pn : Bool
  rd : Fin 32
  ch : Fin 16
  pd : Fin 8
  rsv : Fin 1024
  deriving DecidableEq, Repr

/-- Format T: RD, RA, the five enables, the reserved bits. -/
structure FmtT where
  pred : Fin 8
  pn : Bool
  rd : Fin 32
  ra : Fin 32
  frame : Bool
  chan : Bool
  ticket : Bool
  ext : Bool
  nodl : Bool
  rsv : Fin 128
  deriving DecidableEq, Repr

/-- Format Y with its DIR given by the row: RD, RA, the reserved bits, SPR. -/
structure FmtY where
  pred : Fin 8
  pn : Bool
  rd : Fin 32
  ra : Fin 32
  rsv : Fin 8
  spr : Fin 256
  deriving DecidableEq, Repr

/-- Format K: the reserved bits, IMM7. -/
structure FmtK where
  pred : Fin 8
  pn : Bool
  rsv : Fin 32768
  imm : Fin 128
  deriving DecidableEq, Repr

/-- Why a migration is triggered (08 R242): a write of ENG_SPARE_CFG with GO, an aging warning, an uncorrectable error that remains after soft repair. -/
inductive MigWhy where
  | go (src : Src) (v : Word)
  | aging
  | sram
  deriving DecidableEq, Repr

/-- What an operation of a cipher or compression block works on: a frame with a pending CIPHER action, or the offload command of that number (06 R142; 07 R200). -/
inductive Work where
  | frame (id : Nat)
  | op (n : Nat)
  deriving DecidableEq, Repr

/-- What comes with a cipher operation: whether the slot's record is fetched because the key cache misses (11 R295), and whether the two computations differ (11 R310). -/
structure CphFacts where
  miss : Bool
  mismatch : Bool
  deriving DecidableEq, Repr

/-- What comes with a compression operation: an uncorrectable error in the block's own buffers (12 R337), a VERIFY that does not match (12 R325), the offsets in the input of the bytes whose placement
writes a host port reports an error for (12 R333). -/
structure CmpFacts where
  ecc : Bool
  verifyBad : Bool
  hostErrors : List Nat
  deriving DecidableEq, Repr

/-- What a configuration request names (13 R344 to R347): a register of the header, of a capability, of the Ovlorek DVSEC (by dword), a BAR, the
ID of entry `i` of the capability list or of the extended one, or another place. -/
inductive CfgReg where
  | vendorDevice | revisionClass | headerType | subsystem | intPin | romBar
  | command | devCtl | devCtl2 | devStatus | msixCtl | pmcsr
  | serial (high : Bool)
  | dvsec (dword : Fin 8)
  | bar (n : Fin 6)
  | capId (extended : Bool) (i : Fin 8)
  | pasid | devCap2 | aerUncorr | aerCorr
  | other (off : Nat)
  deriving DecidableEq, Repr

/-- What a configuration write writes; none for a read. -/
abbrev CfgData := Option Nat

/-- A doorbell page (14 R383): TF n's page of a PF's BAR2, or page k of the PF's own in BAR4. -/
inductive DbPage where
  | tf (n : Fin 4096)
  | own (k : Fin 16)
  deriving DecidableEq, Repr

/-- A CXL.mem request (15 R412): a read, or a write, which may arrive poisoned (13 R369). -/
inductive CxlReq where
  | read
  | write (data : List Byte) (poisoned : Bool)
  deriving DecidableEq, Repr

/-- What a DRAM read finds (15 R412). -/
inductive EccFound where
  | clean
  | corrected
  | uncorrectable
  deriving DecidableEq, Repr

/-- A PLDM message (17 R466): of the base specification or platform monitoring, or a firmware update of a component with its image. -/
inductive PldmMsg where
  | query (data : List Byte)
  | update (component : Nat) (image : List Byte)
  deriving DecidableEq, Repr

/-- Plain lists as operands. -/
abbrev WordList := List Nat
abbrev Bytes := List Byte
abbrev OptEid := Option Nat

/-- A run of a power-on test (18 R476 to R478): its number, the bins of its measurements in their order (0 below the window, 1 within it, 2 above) where it is an analog test, whether it finds a failing
word or pattern where it is an SRAM or logic test, and whether it passes on the spare or redundant row that takes the element's place, where there is one. -/
structure BistRun where
  test : Nat
  bins : List (Fin 3)
  bad : Bool
  spareOk : Bool
  deriving DecidableEq, Repr

/-- The tests whose runs are not all in bin 1 and without a failing word, in the order of their numbers. -/
abbrev BistRuns := List BistRun

/-- The strap balls (20 R504), each whether it is high. -/
structure Straps where
  hp0Cxl : Bool
  hp0Bif : Bool
  hp1Cxl : Bool
  hp1Bif : Bool
  i3c : Bool
  perstSel : Bool
  deriving DecidableEq, Repr

/-- What a boot meets (19 R500): the straps, the power-on tests that are not plain passes, and, as a mask, the DRAM channels that fail training or break the rules of population (15 R411), whether the regulator answers, and where Ulyar
places the regions that must be SEALED (R422). -/
structure BootIn where
  straps : Straps
  tests : BistRuns
  untrained : Nat
  /-- The VDD_CMP regulator acknowledges the write of its set point (20 R506). -/
  avsAck : Bool
  /-- How many of the lowest granules Ulyar makes SEALED, and where in device DRAM it places the firmware exception queues (05 R119). -/
  sealLow : Nat
  fwBase : Nat
  deriving DecidableEq, Repr

/-- A change of a PF's D-state (19 R491): by its Power Management capability, or by the level of a PERST_N. -/
inductive DChange where
  | pf (n : Fin 4) (state : Fin 4)
  | perst (hp : Fin 2) (low : Bool)
  deriving DecidableEq, Repr

/-- A memory that R481 scrubs (18): the local memory of a physical engine, a quad memory, the packet buffer or the table SRAM of a slice, the hub SRAM; or a cluster bank, which only an access
or a software scrub reads. -/
inductive Sram where
  | engineLocal (n : Fin 204)
  | quad (q : Fin 48)
  | buffer (slice : Fin 6)
  | tables (slice : Fin 6)
  | hub
  | bank (k : Fin 12) (b : Fin 16)
  deriving DecidableEq, Repr

end Sys2Proof
end

