-- ==== Sys2Proof/Syntax.lean ====
section
/-! DEFINITION. The commands of the N3200: one constructor per row of spec/opcode_table.json, in the table's order but for UNDEFINED_OPCODE, which stands beside ALWAYS_ILLEGAL. -/
namespace Sys2Proof

/-- A command: one row of the table with its operands. -/
inductive Instr where
  /-- REGISTER_WRITE (R5): A whole-register write to a register without a row of its own acts by its access code and field rules. -/
  | registerWrite (src : Src) (addr : Nat) (v : Word)
  /-- PARTIAL_ACCESS (R4): An access that does not cover exactly one whole register from its first byte is discarded or reads all ones. -/
  | partialAccess (src : Src) (addr len : Nat) (kind : AccKind)
  /-- UNMAPPED_ACCESS (R38): An access to an unmapped or undefined offset reads 0 or is discarded, and is recorded in the GLB registers. -/
  | unmappedAccess (src : Src) (addr : Nat) (write : Bool)
  /-- RC_READ (R5): A read of an RC field returns its value and clears it in the same access, keeping a coinciding increment. -/
  | rcRead (src : Src) (addr : Nat)
  /-- COUNTER_CLEAR_READ (R98): A read at a counter's read-and-clear alias returns the count and clears it. -/
  | counterClearRead (src : Src) (addr : Nat)
  /-- TMG_QSEL_WRITE (R535): A write selecting a queue clears VALID and starts a queue snapshot. -/
  | tmgQselWrite (src : Src) (slice : Fin 6) (v : Word)
  /-- TMG_PSEL_WRITE (R535): A write selecting a policer clears VALID and starts a policer snapshot. -/
  | tmgPselWrite (src : Src) (slice : Fin 6) (v : Word)
  /-- KEY_SLOT_SEL_WRITE (R535): A write selecting a key slot clears VALID and starts a slot snapshot. -/
  | keySlotSelWrite (src : Src) (v : Word)
  /-- RGM_RING_SEL_WRITE (R536): A write selecting a ring in a PF window starts a snapshot of its context, or leaves VALID 0 for a ring the PF does not own. -/
  | rgmRingSelWrite (src : Src) (pf : Fin 4) (v : Word)
  /-- MTR_LIVE_SEL_WRITE (R535): A write selecting a TF clears VALID and starts a snapshot of its open-epoch counters. -/
  | mtrLiveSelWrite (src : Src) (v : Word)
  /-- SNAPSHOT_TAKEN (R535): The snapshot of a selected item is taken and VALID sets when the data registers hold it. -/
  | snapshotTaken (which : SnapSel)
  /-- NTU_TICK (R41): At each 250 MHz tick the NTU adds NTU_INCR to network time and evaluates every compare. -/
  | ntuTick
  /-- NTU_CTRL_WRITE (R44): A write to NTU_CTRL is judged field by field against the owner before the write, counting foreign changes. -/
  | ntuCtrlWrite (src : Src) (v : Word)
  /-- NTU_TIME_READ (R42): A 64-bit read of NTU_TIME_NS returns network time and latches the matching fraction. -/
  | ntuTimeRead (src : Src)
  /-- PPS_IN_READ (R58): A 64-bit read of NTU_PPS_IN_NS returns the capture and latches its fraction. -/
  | ppsInRead (src : Src)
  /-- STEP (R49): NTU_CMD.OP 1 commands a step of network time by the signed adjustment at the next tick. -/
  | step (src : Src)
  /-- SLEW (R50): NTU_CMD.OP 2 starts a gradual slew of the adjustment at NTU_SLEW_RATE, abandoning any slew in progress. -/
  | slew (src : Src)
  /-- ABANDON (R51): NTU_CMD.OP 3 abandons a slew in progress, keeping its unapplied part in NTU_SLEW_REMAIN. -/
  | abandon (src : Src)
  /-- STEP_APPLIED (R49): At the first tick after the step command the adjustment is added, STEP_GEN increments and STEPPED sets. -/
  | stepApplied
  /-- SLEW_DONE (R50): A slew ends when its whole adjustment has been applied and SLEWING clears. -/
  | slewDone
  /-- PPS_IN_EDGE (R58): An edge of PPS_IN captures network time and sets PPS_IN_SEEN: the capture stands `skew` x 2^-16 ns after 1 ns before the last tick's time, the edge lying within the 4 ns after that tick and the error within ±1 ns. -/
  | ppsInEdge (rising : Bool) (skew : Fin 393217)
  /-- PPS_OUT_RISE (R59): PPS_OUT rises when network time reaches a second boundary plus the offset. -/
  | ppsOutRise
  /-- PPS_OUT_FALL (R59): PPS_OUT falls after WIDTH_US microseconds of network time. -/
  | ppsOutFall
  /-- EPOCH_SWITCH (R64): At the switch time of a verified load the data plane switches to the new epoch and SWITCHED sets. -/
  | epochSwitch
  /-- IMAGE_VERIFIED (R63): The Kyotas core ends checks 0x01 to 0x07 on a staged image, refusing it or moving it to WAIT_DRAIN or WAIT_SWITCH. -/
  | imageVerified
  /-- EPOCH_DRAINED (R68): When the older epoch's in-flight count reaches zero its slot is freed and DRAINING clears. -/
  | epochDrained
  /-- FORCED_DRAIN (R71): When the drain limit expires while a load waits, every remaining frame of the older epoch is dropped. -/
  | forcedDrain
  /-- GATE_LIST_SWITCH (R70): A new gate list takes effect at its base time or first heat at or after the switch, and longest open spans are computed. -/
  | gateListSwitch (port : Fin 16)
  /-- MAC_HALF_MODE_WRITE (R78): A write of a die's port mode moves every port of the affected groups to ABSENT, TRAINING or DISABLED. -/
  | macHalfModeWrite (src : Src) (slice : Fin 6) (v : Word)
  /-- SPARE_NOW (R91): A write of SPARE_NOW fails the lane at LANE_SEL and starts sparing if possible. -/
  | spareNow (src : Src) (slice : Fin 6) (groupB : Bool) (v : Word)
  /-- PORT_CTRL_WRITE (R95): A write of MAC_PORT_CTRL enables or disables a port or changes its loopback, moving its state. -/
  | portCtrlWrite (src : Src) (slice : Fin 6) (port : Fin 8) (v : Word)
  /-- FEC_WINDOW_END (R91): A lane's 1 s window ends with `symbols` corrected symbols; its port counts the code words. -/
  | fecWindowEnd (die : Fin 2) (lane : Fin 10) (symbols corrCw uncorrCw : Nat)
  /-- LANE_LOCK_LOSS (R91): A receiver that loses lock for more than 1 ms fails its lane. -/
  | laneLockLoss (die : Fin 2) (lane : Fin 10)
  /-- LANE_LOCK_REGAIN (R95): A lane that regains lock moves its DOWN port to TRAINING. -/
  | laneLockRegain (die : Fin 2) (lane : Fin 10)
  /-- PORT_ALIGNED (R95): PCS alignment and FEC lock take a TRAINING or SPARING port to UP. -/
  | portAligned (port : Fin 16)
  /-- ALIGNMENT_LOSS (R95): Loss of alignment takes an UP port to DOWN and loses the frame on the wire. -/
  | alignmentLoss (port : Fin 16)
  /-- SPARING_TIMEOUT (R93): A port not UP 40 ms after sparing began goes DOWN and SPARE_FAILED sets. -/
  | sparingTimeout (port : Fin 16)
  /-- LPI_ENTRY (R89): After LPI_IDLE_US of idle transmit the port enters low-power idle. -/
  | lpiEntry (port : Fin 16)
  /-- LPI_WAKE_END (R89): TW_NS after a wake request the port may start transmitting. -/
  | lpiWakeEnd (port : Fin 16)
  /-- SLICE_CLOCK_DOWN (R90): When all of a slice's ports are in LPI and it holds no frame its pipeline clocks step down to 400 MHz. -/
  | sliceClockDown (slice : Fin 6)
  /-- SLICE_CLOCK_UP (R90): Within 1 µs of a wake or a frame the stepped units return to 1.6 GHz. -/
  | sliceClockUp (slice : Fin 6)
  /-- FRAME_START (R84): The MAC holds a frame's first 64 bytes (fewer for a runt): runts are discarded, the slice is chosen and admission judged. The stamp of its start of frame stands `skew` x 2^-16 ns after 2 ns before the last tick's time, the frame's start lying within the 4 ns after that tick and the error within ±2 ns. -/
  | frameStart (port : Fin 16) (skew : Fin 524289) (first : List Byte)
  /-- FRAME_END (R83): A frame ends: its bytes after the first 64, whether it holds a PCS error block, whether its FCS is right. -/
  | frameEnd (port : Fin 16) (rest : List Byte) (symErr fcsOk : Bool)
  /-- PARSER_WALK (R110): The parser walks a waiting frame; `ecc` names an entry (true for a transition) whose read meets an uncorrectable error. -/
  | parserWalk (frame : Nat) (ecc : Option TreeEcc)
  /-- CLASSIFY (R127): The classifier runs a frame's program, looks up its tables and applies the pending actions in order. -/
  | classify (frame : Nat) (c : ClsFacts)
  /-- INSERT (R139): A write of CLS_UPD_CTRL with GO, its OP taken as INSERT: an installed entry is added to a table. -/
  | insert (src : Src) (slice : Fin 6) (v : Word)
  /-- MODIFY (R139): A write of CLS_UPD_CTRL with GO, its OP taken as MODIFY. -/
  | modify (src : Src) (slice : Fin 6) (v : Word)
  /-- DELETE (R139): A write of CLS_UPD_CTRL with GO, its OP taken as DELETE. -/
  | delete (src : Src) (slice : Fin 6) (v : Word)
  /-- READ (R139): A write of CLS_UPD_CTRL with GO, its OP taken as READ. -/
  | read (src : Src) (slice : Fin 6) (v : Word)
  /-- UPD_LOOKUP (R139): A write of CLS_UPD_CTRL with GO, its OP taken as LOOKUP. -/
  | updLookup (src : Src) (slice : Fin 6) (v : Word)
  /-- TREE_LOAD (R139): A write of CLS_UPD_CTRL with GO, its OP taken as TREE_LOAD: the bank's header is read from host memory. -/
  | treeLoad (src : Src) (slice : Fin 6) (v : Word)
  /-- TREE_LOAD_DONE (R135): The tree bank has been read; `rest` are its bytes after the header. -/
  | treeLoadDone (slice : Fin 6) (rest : List Byte)
  /-- FLUSH_LEARNED (R139): A write of CLS_UPD_CTRL with GO, its OP taken as FLUSH_LEARNED. -/
  | flushLearned (src : Src) (slice : Fin 6) (v : Word)
  /-- AGE_SWEEP (R155): At each sweep time a learnable table removes idle learned entries and clears HIT on the rest. -/
  | ageSweep (slice : Fin 6) (slot : Fin 2) (table : Fin 64)
  /-- SKIM_GO (R161): A write of CLS_SKIM_CTRL with GO. -/
  | skimGo (src : Src) (slice : Fin 6) (v : Word)
  /-- SKIM_CHUNK (R161): A fetched chunk of 64 shadow entries is compared with the hardware entries and differences recorded. -/
  | skimChunk (slice : Fin 6)
  /-- SKIM_ABORT (R161): A write of CLS_SKIM_CTRL with ABORT. -/
  | skimAbort (src : Src) (slice : Fin 6) (v : Word)
  /-- ALWAYS_ILLEGAL (R176): A thread issues a word whose opcode is 0x00: it traps ILLEGAL whatever its predicate. -/
  | alwaysIllegal (th : ThId)
  /-- UNDEFINED_OPCODE (R179): A thread issues a word whose opcode is not listed, or whose FN its opcode does not define where the row would give the FN. -/
  | undefinedOpcode (th : ThId) (word : BitVec 32)
  /-- ALU (R180): ALU computes RD from RA and RB by the operation FN selects. -/
  | alu (th : ThId) (x : FmtR)
  /-- ADDI (R181): ADDI adds a sign-extended immediate to RA. -/
  | addi (th : ThId) (x : FmtI)
  /-- ANDI (R181): ANDI ANDs RA with a zero-extended immediate. -/
  | andi (th : ThId) (x : FmtI)
  /-- ORI (R181): ORI ORs RA with a zero-extended immediate. -/
  | ori (th : ThId) (x : FmtI)
  /-- XORI (R181): XORI XORs RA with a zero-extended immediate. -/
  | xori (th : ThId) (x : FmtI)
  /-- SHLI (R181): SHLI shifts RA left by an immediate. -/
  | shli (th : ThId) (x : FmtI)
  /-- SHRI (R181): SHRI shifts RA right logically by an immediate. -/
  | shri (th : ThId) (x : FmtI)
  /-- SARI (R181): SARI shifts RA right arithmetically by an immediate. -/
  | sari (th : ThId) (x : FmtI)
  /-- LIMS (R181): LIMS writes a sign-extended 17-bit immediate to RD. -/
  | lims (th : ThId) (x : FmtW)
  /-- LIMU (R181): LIMU writes a zero-extended 17-bit immediate to RD. -/
  | limu (th : ThId) (x : FmtW)
  /-- CAT (R181): CAT shifts RD left 16 bits and places a 16-bit immediate below. -/
  | cat (th : ThId) (x : FmtW)
  /-- BFX (R182): BFX extracts a bit field of RA into RD. -/
  | bfx (th : ThId) (x : FmtF)
  /-- BFI (R182): BFI inserts low bits of RA into a field of RD. -/
  | bfi (th : ThId) (x : FmtF)
  /-- CMP (R183): CMP compares two registers and writes a predicate. -/
  | cmp (th : ThId) (x : FmtC)
  /-- CMPI (R183): CMPI compares a register with an immediate and writes a predicate. -/
  | cmpi (th : ThId) (x : FmtCI)
  /-- PLOG (R184): PLOG combines predicates into a predicate. -/
  | plog (th : ThId) (x : FmtP)
  /-- LD (R186): LD loads a zero-extended value from an engine address. -/
  | ld (th : ThId) (x : FmtM)
  /-- LDS (R186): LDS loads a sign-extended value from an engine address. -/
  | lds (th : ThId) (x : FmtM)
  /-- ST (R186): ST stores the low bits of RD at an engine address, the header deck included. -/
  | st (th : ThId) (x : FmtM)
  /-- ATOM (R188): ATOM performs an indivisible read-modify-write by FN and returns the old value. -/
  | atom (th : ThId) (x : FmtA)
  /-- BR (R185): BR branches PC-relative. -/
  | br (th : ThId) (x : FmtB)
  /-- CALL (R185): CALL branches PC-relative and writes the return address to g31. -/
  | call (th : ThId) (x : FmtB)
  /-- JR (R185): JR jumps to RA and writes PC + 4 to RD. -/
  | jr (th : ThId) (x : FmtR)
  /-- ADR (R185): ADR writes a PC-relative address to RD. -/
  | adr (th : ThId) (x : FmtD)
  /-- FRAME_WINDOW (R192): FRAME WINDOW moves the header deck to show bytes from RA. -/
  | frameWindow (th : ThId) (x : FmtN)
  /-- FRAME_INSERT (R192): FRAME INSERT inserts zero bytes into the held frame. -/
  | frameInsert (th : ThId) (x : FmtN)
  /-- FRAME_REMOVE (R192): FRAME REMOVE removes bytes from the held frame. -/
  | frameRemove (th : ThId) (x : FmtN)
  /-- FRAME_TRIM (R192): FRAME TRIM sets the held frame's length. -/
  | frameTrim (th : ThId) (x : FmtN)
  /-- LOOKUP (R196): The LOOKUP instruction looks up a table; `flowMiss` says how often it missed the flow cache, `ecc` names an entry whose read meets an uncorrectable error. -/
  | lookup (th : ThId) (x : FmtX) (flowMiss : Nat) (ecc : Option EntryRef)
  /-- CIPH (R200): CIPH submits a cipher command descriptor and takes a ticket. -/
  | ciph (th : ThId) (x : FmtO)
  /-- CMPR (R200): CMPR submits a compression command descriptor and takes a ticket. -/
  | cmpr (th : ThId) (x : FmtO)
  /-- DMAC (R200): DMAC submits a DMA descriptor and takes a ticket. -/
  | dmac (th : ThId) (x : FmtO)
  /-- CRC (R198): CRC updates a CRC32C over bytes in memory. -/
  | crc (th : ThId) (x : FmtR)
  /-- TOEP (R199): TOEP computes the Toeplitz hash of bytes with a key. -/
  | toep (th : ThId) (x : FmtR)
  /-- SEND (R203): SEND reserves a channel slot and stages a message word by word, or reports no room. -/
  | send (th : ThId) (x : FmtS)
  /-- RECV (R204): RECV takes the oldest visible message of a receive channel. -/
  | recv (th : ThId) (x : FmtV)
  /-- WAIT (R205): WAIT arms the deadline and makes the thread wait for a deadline or enabled event. -/
  | wait (th : ThId) (x : FmtT)
  /-- SPR_READ (R207): SPR with DIR 0 copies a special register into RD. -/
  | sprRead (th : ThId) (x : FmtY)
  /-- SPR_WRITE (R207): SPR with DIR 1 copies RA into a special register. -/
  | sprWrite (th : ThId) (x : FmtY)
  /-- TSETG (R208): COX TSETG sets a register of a stopped or trapped thread. -/
  | tsetg (th : ThId) (x : FmtN)
  /-- TGETG (R208): COX TGETG reads a register of a stopped or trapped thread. -/
  | tgetg (th : ThId) (x : FmtN)
  /-- TSETPC (R208): COX TSETPC sets the PC of a stopped or trapped thread. -/
  | tsetpc (th : ThId) (x : FmtN)
  /-- TRELEASE (R227): COX TRELEASE puts a stopped or trapped thread in RUNNING. -/
  | trelease (th : ThId) (x : FmtN)
  /-- TSTOP (R228): COX TSTOP stops a thread, at once or after its instruction completes. -/
  | tstop (th : ThId) (x : FmtN)
  /-- TSTATE (R229): COX TSTATE returns a thread's state word. -/
  | tstate (th : ThId) (x : FmtN)
  /-- TRAP (R209): TRAP raises a soft trap with cause 0x80 + IMM7. -/
  | trap (th : ThId) (x : FmtK)
  /-- RETT (R210): RETT returns from a trap handler to TRAP_PC and clears IN_HANDLER. -/
  | rett (th : ThId) (x : FmtK)
  /-- BRK (R241): BRK halts the thread for the debugger or traps BREAK. -/
  | brk (th : ThId) (x : FmtK)
  /-- RELEASE_LIST (R193): RELEASE FN 0 applies an action list to the held frame and ends the hold. -/
  | releaseList (th : ThId) (x : FmtN)
  /-- RELEASE_DROP (R193): RELEASE FN 1 drops the held frame. -/
  | releaseDrop (th : ThId) (x : FmtN)
  /-- RELEASE_EXC_HOST (R193): RELEASE FN 2 sends the held frame on the exception path to the host. -/
  | releaseExcHost (th : ThId) (x : FmtN)
  /-- RELEASE_EXC_FW (R193): RELEASE FN 3 sends the held frame on the exception path to firmware. -/
  | releaseExcFw (th : ThId) (x : FmtN)
  /-- ORDER_RELEASE (R224): A released frame leaves the engine stage once every earlier frame of its order key has left. -/
  | orderRelease (frame : Nat)
  /-- DISPATCH_FROM_QUEUE (R222): When a candidate appears the head of a group's dispatch queue is dispatched to it. -/
  | dispatchFromQueue (slice : Fin 6) (slot : Fin 2) (group : Fin 256)
  /-- THREAD_WAKE (R230): A thread's deadline fires and the thread becomes ready. -/
  | threadWake (th : ThId)
  /-- MESSAGE_VISIBLE (R237): The oldest message being staged by thread `th` to channel `ch` of position `dst` of its slice becomes visible. -/
  | messageVisible (th : ThId) (dst : Fin 32) (ch : Fin 16)
  /-- STALL_DETECTED (R235): After 16 quiescent cycles of T1 to T7 STALL is made pending for T0 or an engine fault is reported. -/
  | stallDetected (slice : Fin 6) (pos : Fin 32)
  /-- HALT (R241): ENG_DBG_CTRL.HALT halts a thread at the next cycle boundary. -/
  | halt (src : Src) (th : ThId)
  /-- STEP_THREAD (R241): ENG_DBG_CTRL.STEP issues exactly one instruction of a halted thread. -/
  | stepThread (src : Src) (th : ThId)
  /-- KILL (R239): ENG_DBG_CTRL.KILL stops a halted thread, discarding staged message words. -/
  | kill (src : Src) (th : ThId)
  /-- RESUME (R225): ENG_DBG_CTRL.RESUME returns a halted thread to its previous state. -/
  | resume (src : Src) (th : ThId)
  /-- TDBG_DATA_ACCESS (R241): A read or write of ENG_TDBG_DATA reaches the selected register of a halted or stopped thread. -/
  | tdbgDataAccess (src : Src) (slice : Fin 6) (pos : Fin 32) (write : Bool) (v : Word)
  /-- COX_RESTART (R233): ENG_CTRL.COX_RESTART restarts T0 at its entry and clears the engine fault. -/
  | coxRestart (src : Src) (slice : Fin 6) (pos : Fin 32)
  /-- ENGINE_RESET (R499): ENG_CTRL.RESET resets a position's threads, dropping held frames and channel contents. -/
  | engineReset (src : Src) (slice : Fin 6) (pos : Fin 32)
  /-- MIGRATION_GO (R242): A GO write or automatic trigger starts migration of a position to the cluster's spare, or sets ABORTED. -/
  | migrationGo (slice : Fin 6) (pos : Fin 32) (why : MigWhy)
  /-- SPARE_TEST_DONE (R243): The spare's self-test ends, failing the migration or beginning the freeze. -/
  | spareTestDone (cluster : Fin 12) (ok : Bool)
  /-- MIGRATION_FROZEN (R243): When every instruction and SEND in progress has completed the copy of state begins. -/
  | migrationFrozen (cluster : Fin 12)
  /-- MIGRATION_SWITCH (R243): After the copy the spare takes the position and every thread resumes. -/
  | migrationSwitch (cluster : Fin 12)
  /-- MIGRATION_TIMEOUT (R243): A migration not switched by 200 µs is abandoned and ABORTED sets. -/
  | migrationTimeout (cluster : Fin 12)
  /-- POSITION_OFFLINE (R245): Ulyar sets a failed position OFFLINE, stopping its threads and dropping their frames. -/
  | positionOffline (slice : Fin 6) (pos : Fin 32)
  /-- BANK_HANDOVER (R253): A write of ENG_BANK_HANDOVER starts a handover of a bank to a named owner, or is refused. -/
  | bankHandover (src : Src) (slice : Fin 6) (bank : Fin 32) (v : Word)
  /-- HANDOVER_DONE (R253): When the old owner's accesses have completed the named owner takes the bank. -/
  | handoverDone (slice : Fin 6) (bank : Fin 32)
  /-- EXC_BANK_ACCESS (R256): Ulyar reads or writes a word of a bank owned by the exception path. -/
  | excBankAccess (slice : Fin 6) (bank : Fin 32) (word : Fin 32768) (write : Bool) (v : Word)
  /-- TM_ARRIVAL (R275): A frame reaching the traffic manager is policed and admitted to its queue or dropped. -/
  | tmArrival (frame : Nat)
  /-- SCHEDULER_CHOICE (R267): Per port node and cycle the traffic manager walks the tree and chooses the next frame. -/
  | schedulerChoice (slice : Fin 6) (port : Fin 17)
  /-- WHEEL_SLOT_RELEASE (R271): A fine wheel slot is released and its shapers become eligible. -/
  | wheelSlotRelease (slice : Fin 6)
  /-- COARSE_SLOT_RELEASE (R270): A coarse wheel slot is released into the fine wheel. -/
  | coarseSlotRelease (slice : Fin 6)
  /-- GATE_TRANSITION (R281): A gate list entry begins and the port's gate states change. -/
  | gateTransition (port : Fin 16)
  /-- OVERFLOW_READBACK (R278): The oldest overflow frame of a queue is read back; `bad` when its read meets an uncorrectable error. -/
  | overflowReadback (slice : Fin 6) (queue : Fin 65536) (bad : Bool)
  /-- FRAME_TRANSMITTED (R68): The last byte of the frame on the wire passes to the MAC; its egress stamp stands `skew` x 2^-16 ns after 2 ns before its planned start of frame, the error within ±2 ns. -/
  | frameTransmitted (port : Fin 16) (skew : Fin 262145)
  /-- INSTALL (R289): KEY_CMD INSTALL writes a key and attributes to an EMPTY slot, making it ACTIVE. -/
  | install (src : Src) (slot : Fin 1048576)
  /-- REVOKE (R293): KEY_CMD REVOKE recalls every lease of a slot and puts it in REVOKED. -/
  | revoke (src : Src) (slot : Fin 1048576)
  /-- ERASE (R293): KEY_CMD ERASE recalls leases, zeroes the record and puts the slot in EMPTY. -/
  | erase (src : Src) (slot : Fin 1048576)
  /-- RECALL_DONE (R293): When every slice has acknowledged the recall BUSY clears. -/
  | recallDone
  /-- LEASE_GRANT (R297): The draw of slice `slice` on slot `slot` is answered, and the operation it is for performs its use; `miss` when the key cache does not hold the slot. The command of the operation itself draws as well. -/
  | leaseGrant (slice : Fin 6) (slot : Fin 1048576) (miss : Bool)
  /-- LEASE_EXPIRY (R299): A lease expires at its TTL and its unused part returns to RET of its slice. -/
  | leaseExpiry (slice : Fin 6) (slot : Fin 1048576)
  /-- KEY_DEBUG_CLEAR (R294): Unit 0 to 5: the cipher block of that slice; 6: the key store manager. -/
  | keyDebugClear (unit : Fin 7)
  /-- ESP_ENC (R306): The cipher operation ESP_ENC protects a frame with ESP. -/
  | espEnc (w : Work) (x : CphFacts)
  /-- ESP_DEC (R307): The cipher operation ESP_DEC verifies and decrypts an ESP frame. -/
  | espDec (w : Work) (x : CphFacts)
  /-- MACSEC_ENC (R308): The cipher operation MACSEC_ENC inserts a SecTAG and encrypts a frame. -/
  | macsecEnc (w : Work) (x : CphFacts)
  /-- MACSEC_DEC (R308): The cipher operation MACSEC_DEC verifies and decrypts a MACsec frame. -/
  | macsecDec (w : Work) (x : CphFacts)
  /-- TLS_ENC (R309): The cipher operation TLS_ENC seals one TLS 1.3 record. -/
  | tlsEnc (w : Work) (x : CphFacts)
  /-- TLS_DEC (R309): The cipher operation TLS_DEC verifies and decrypts one TLS 1.3 record. -/
  | tlsDec (w : Work) (x : CphFacts)
  /-- XTS_ENC (R304): The cipher operation XTS_ENC encrypts data units in memory. -/
  | xtsEnc (w : Work) (x : CphFacts)
  /-- XTS_DEC (R304): The cipher operation XTS_DEC decrypts data units in memory. -/
  | xtsDec (w : Work) (x : CphFacts)
  /-- GCM_ENC (R304): The cipher operation GCM_ENC seals a buffer with raw AES-GCM. -/
  | gcmEnc (w : Work) (x : CphFacts)
  /-- GCM_DEC (R304): The cipher operation GCM_DEC verifies and decrypts a buffer with raw AES-GCM. -/
  | gcmDec (w : Work) (x : CphFacts)
  /-- DEFLATE_COMP (R322): The compression operation DEFLATE_COMP writes a raw DEFLATE stream of its input. -/
  | deflateComp (op : Nat) (x : CmpFacts)
  /-- DEFLATE_DECOMP (R326): The compression operation DEFLATE_DECOMP decodes one raw DEFLATE stream. -/
  | deflateDecomp (op : Nat) (x : CmpFacts)
  /-- PDU_RX (R331): The stream operation PDU_RX frames NVMe/TCP PDUs, checks digests and places data. -/
  | pduRx (op : Nat) (x : CmpFacts)
  /-- PDU_TX (R335): The stream operation PDU_TX checks a PDU header and fills its digests. -/
  | pduTx (op : Nat) (x : CmpFacts)
  /-- CONFIG_REQUEST (R345): A configuration request to a PF is served, or answered with retry status until ready. -/
  | configRequest (pf : Fin 4) (reg : CfgReg) (data : CfgData)
  /-- LINK_UP (R340): A host link completes training at its rate code and width; `flit` whether both ends enable flit mode where the rate leaves it open. -/
  | linkUp (pf : Fin 4) (speed : Fin 8) (width : Fin 17) (flit : Bool)
  /-- LINK_DOWN (R373): Loss of a host data link freezes it, frees its tags and resets its configuration space. -/
  | linkDown (pf : Fin 4)
  /-- COMPLETION_RECEIVED (R364): A completion arrives: its data, whether its status is UR or CA, whether EP is set. -/
  | completionReceived (pf : Fin 4) (tag : Nat) (data : List Byte) (error poisoned : Bool)
  /-- CTO_CHECK (R362): At each 1,000 ns multiple outstanding reads past CTO time out and quarantines end. -/
  | ctoCheck
  /-- LINK_ERROR (R369): An uncorrectable link error freezes the link with cause UNCORRECTABLE. -/
  | linkError (pf : Fin 4)
  /-- VIRAL (R369): A CXL viral indication freezes the link. -/
  | viral (pf : Fin 4)
  /-- FREEZE_NOW (R369): A write of FREEZE_NOW freezes the link with cause SOFTWARE. -/
  | freezeNow (src : Src) (pf : Fin 4)
  /-- HIF_RELEASE (R372): A write of GO to HIF_RELEASE releases a frozen link whose data link is up, or is refused. -/
  | hifRelease (src : Src) (pf : Fin 4)
  /-- BME_CLEAR (R367): Clearing Bus Master Enable stops every request of the PF and its TFs. -/
  | bmeClear (pf : Fin 4)
  /-- BME_SET (R368): Setting Bus Master Enable lets requests issue again. -/
  | bmeSet (pf : Fin 4)
  /-- HOT_RESET (R499): A host hot reset or link disable resets a host port's links and resets its PFs. -/
  | hotReset (hp : Fin 2)
  /-- FLR (R402): A Function Level Reset begins a reset of a PF and its assigned TFs. -/
  | flr (pf : Fin 4)
  /-- DOORBELL (R384): A write of `width` bits at offset `off` of a doorbell page, over PF `pf`'s link. -/
  | doorbell (pf : Fin 4) (page : DbPage) (off width : Nat) (v : Word)
  /-- MEDIATE (R384): A write of `width` bits to TF `tf`'s MEDIATE slot, over PF `pf`'s link. -/
  | mediate (pf : Fin 4) (tf : Fin 4096) (width : Nat)
  /-- RING_WRITE_CFG (R382): RGM_RING_CMD WRITE stages BASE, PUB, CFG and MOD into a DISABLED ring. -/
  | ringWriteCfg (src : Src) (pf : Fin 4)
  /-- RING_ENABLE (R382): RGM_RING_CMD ENABLE checks the configuration and starts the ring at START. -/
  | ringEnable (src : Src) (pf : Fin 4) (start : Fin 65536)
  /-- RING_DISABLE (R381): RGM_RING_CMD DISABLE moves the ring to STOPPING. -/
  | ringDisable (src : Src) (pf : Fin 4)
  /-- RING_RESTART (R381): RGM_RING_CMD RESTART clears the error, publishes HEAD and fetches again. -/
  | ringRestart (src : Src) (pf : Fin 4)
  /-- RING_STOPPED (R381): A STOPPING ring with no fetched entry in progress becomes DISABLED. -/
  | ringStopped (ring : Fin 131072)
  /-- DESCRIPTOR_FETCH (R391): The ring manager issues reads of entries between HEAD and PROD. -/
  | descriptorFetch (ring : Fin 131072)
  /-- DESCRIPTOR_ARRIVAL (R397): Fetched entries are captured; `lines` are the entries' bytes of a coherent ring, read through CXL.cache. -/
  | descriptorArrival (ring : Fin 131072) (lines : List Byte)
  /-- SNOOP (R399): A host snoop of a held coherent line clears its mark. -/
  | snoop (pf : Fin 4) (addr : Nat)
  /-- TX_DATA_READ_DONE (R391): A chain's data has been read and the frame is handed to its bound slice. -/
  | txDataReadDone (ring : Fin 131072)
  /-- RX_DELIVERY (R390): A frame is written into posted RX or EXC buffers and the slots written back. -/
  | rxDelivery (ring : Fin 131072)
  /-- HEAD_PUBLISH (R392): A ring's publication block is written after HEAD moves. -/
  | headPublish (ring : Fin 131072)
  /-- MODERATION_TIMEOUT (R396): An armed event ring sends its message when its moderation time expires. -/
  | moderationTimeout (ring : Fin 131072)
  /-- FUNC_CTL_WRITE (R378): A write of RGM_FUNC_CTL assigns, enables or disables a function, subject to its source and state. -/
  | funcCtlWrite (src : Src) (fn : Fin 4100) (v : Word)
  /-- TF_RESET (R402): RGM_FUNC_CTL.RESET begins a reset of a TF. -/
  | tfReset (src : Src) (tf : Fin 4096)
  /-- RESET_DRAIN_DONE (R402): When a function's reads have drained its rings are wiped and the reset completes. -/
  | resetDrainDone (fn : Fin 4100)
  /-- MED_NOTIFY (R400): RGM_MED_NOTIFY sends vector 0 of a TF. -/
  | medNotify (src : Src) (pf : Fin 4) (tf : Fin 4096)
  /-- DMA_CH_CFG_WRITE (R438): A write of DMA_CH_CFG binds an idle channel to a submitter. -/
  | dmaChCfgWrite (src : Src) (ch : Fin 64) (v : Word)
  /-- DMA_GO (R427): GO submits the descriptor in DMA_CH_DESC0 to 7 on a PF or Ulyar channel. -/
  | dmaGo (src : Src) (ch : Fin 64)
  /-- DMA_ABORT (R437): ABORT ends a channel's current and queued descriptors with ABORTED. -/
  | dmaAbort (src : Src) (ch : Fin 64)
  /-- COPY (R431): The channel moves up to `bursts` bursts of its current descriptor, a COPY. -/
  | copy (ch : Fin 64) (bursts : Nat)
  /-- INTERLEAVE (R432): The DMA operation INTERLEAVE stripes K buffers, optionally with parity. -/
  | interleave (ch : Fin 64) (bursts : Nat)
  /-- DEINTERLEAVE (R432): The DMA operation DEINTERLEAVE splits stripes into K buffers. -/
  | deinterleave (ch : Fin 64) (bursts : Nat)
  /-- FILL (R429): The DMA operation FILL writes a pattern over a range. -/
  | fill (ch : Fin 64) (bursts : Nat)
  /-- COMPARE (R433): The DMA operation COMPARE compares a range with a source or pattern. -/
  | compare (ch : Fin 64) (bursts : Nat)
  /-- FIFO_ADJ (R434): A write of DMA_FIFO_ADJ adds a signed delta to a pacing FIFO's level. -/
  | fifoAdj (src : Src) (fifo : Fin 16) (delta : Word)
  /-- GRANULE_WRITE (R421): An accepted write of MEM_GRANULE changing class or TF sets PENDING and starts zeroing. -/
  | granuleWrite (src : Src) (g : Fin 6144) (v : Word)
  /-- GRANULE_ZEROED (R421): A zeroed granule takes its new class and TF and PENDING clears. -/
  | granuleZeroed (g : Fin 6144)
  /-- MEM_MAP_WRITE (R415): A write of a set's ORDER takes effect only while all its granules are FREE. -/
  | memMapWrite (src : Src) (v : Word)
  /-- DRAM_REFRESH (R416): A rank receives all-bank refresh at its interval. -/
  | dramRefresh (channel : Fin 12) (rank : Fin 4)
  /-- SELF_REFRESH_ENTRY (R417): An idle DRAM set enters self-refresh after SR_IDLE_US when allowed. -/
  | selfRefreshEntry (set : Fin 3)
  /-- PATROL_SCRUB (R413): The next burst to scrub is the one at device address `addr`. -/
  | patrolScrub (addr : Nat) (found : EccFound)
  /-- DRAM_ROW_REPAIR (R418): The row that holds device address `addr`; whether its bank group has a repair left. -/
  | dramRowRepair (addr : Nat) (left : Bool)
  /-- CXL_MEM_ACCESS (R424): An access to `len` bytes at a host address. -/
  | cxlMemAccess (pf : Fin 4) (hpa len : Nat) (data : CxlReq)
  /-- HDM_COMMIT (R423): An HDM decoder commit is accepted or left uncommitted with Error Not Committed. -/
  | hdmCommit (pf : Fin 4) (dec : Fin 8) (base size dpa ways : Nat)
  /-- METERING_EPOCH_END (R443): At an epoch boundary every slice switches to a fresh counter bank. -/
  | meteringEpochEnd
  /-- GRACE_END (R443): 1 ms after a boundary the old banks are summed and the epoch closed into a block or held. -/
  | graceEnd
  /-- BLOCK_SIGNED (R447): The Kyotas core completes a block's signature over its root record. -/
  | blockSigned
  /-- BLOCK_PUBLISH (R448): A signed block is written into the metering ring when it fits and its producer published. -/
  | blockPublish
  /-- SKETCH_QUERY (R450): A write of MTR_SK_QUERY. -/
  | sketchQuery (src : Src) (slice : Fin 6) (v : Word)
  /-- MBX_TX_PUSH (R457): A write of MBX_TX_DATA pushes a word into the request FIFO or sets OVERRUN. -/
  | mbxTxPush (src : Src) (ch : Fin 6) (v : Word)
  /-- MBX_RX_POP (R457): A read of MBX_RX_DATA removes the oldest reply word or sets UNDERRUN. -/
  | mbxRxPop (src : Src) (ch : Fin 6)
  /-- MBX_ABORT (R464): A write of MBX_CH_CTRL with value `v`: with ABORT it abandons the channel's request. -/
  | mbxAbort (src : Src) (ch : Fin 6) (v : Word)
  /-- GET_INFO (R461): The mailbox command GET_INFO returns versions, life-cycle code and BOOT_COUNT. -/
  | getInfo (ch : Fin 8)
  /-- IMAGE_LOAD (R63): Ulyar takes the IMAGE_LOAD at the head of channel `ch`; `data` is what a copy from host memory returns, none for an error. -/
  | imageLoad (ch : Fin 8) (data : HostData)
  /-- IMAGE_QUERY (R461): The mailbox command IMAGE_QUERY returns IMG_STATUS and IMG_EPOCH. -/
  | imageQuery (ch : Fin 8)
  /-- GET_CERT (R472): The mailbox command GET_CERT writes the identity certificate chain to memory. -/
  | getCert (ch : Fin 8)
  /-- CERT_WRITE (R472): As IMAGE_LOAD. -/
  | certWrite (ch : Fin 8) (data : HostData)
  /-- FW_UPDATE (R470): As IMAGE_LOAD. -/
  | fwUpdate (ch : Fin 8) (data : HostData)
  /-- LIFECYCLE (R474): The mailbox command LIFECYCLE accepts a transition to the next life-cycle state. -/
  | lifecycle (ch : Fin 8)
  /-- LIFECYCLE_BURN (R474): After the reply is read or 1 s passes the state is burnt and the part cold reset. -/
  | lifecycleBurn (b : BootIn)
  /-- SET_MIN_VERSION (R471): The mailbox command SET_MIN_VERSION raises a fused minimum security version. -/
  | setMinVersion (ch : Fin 8)
  /-- KEY_REVOKE (R471): The mailbox command KEY_REVOKE revokes a fused signing key index. -/
  | keyRevoke (ch : Fin 8)
  /-- SEAL (R462): The mailbox command SEAL seals granules or returns them to FREE. -/
  | seal (ch : Fin 8)
  /-- WATCHDOG_EXPIRY (R455): 2 s without a watchdog write makes the Kyotas core restart Ulyar. -/
  | watchdogExpiry
  /-- MCTP_VENDOR_MESSAGE (R465): The message's 32-bit words. -/
  | mctpVendorMessage (words : WordList)
  /-- PLDM_MESSAGE (R466): A PLDM message on channel 7 is served for base, monitoring or firmware update. -/
  | pldmMessage (m : PldmMsg)
  /-- GET_VERSION (R467): The SPDM request GET_VERSION is answered. -/
  | getVersion
  /-- GET_CAPABILITIES (R467): The SPDM request GET_CAPABILITIES is answered. -/
  | getCapabilities
  /-- NEGOTIATE_ALGORITHMS (R467): The SPDM request NEGOTIATE_ALGORITHMS is answered. -/
  | negotiateAlgorithms
  /-- GET_DIGESTS (R467): The SPDM request GET_DIGESTS is answered. -/
  | getDigests
  /-- GET_CERTIFICATE (R467): The SPDM request GET_CERTIFICATE returns the slot 0 chain. -/
  | getCertificate (slot : Nat) (off len : Nat)
  /-- CHALLENGE (R467): The SPDM request CHALLENGE is answered with a signature by the identity key. -/
  | challenge (slot : Nat)
  /-- GET_MEASUREMENTS (R467): Block `index`, or 0xFF for all; whether a signature is asked for. -/
  | getMeasurements (index : Nat) (signed : Bool)
  /-- AGING_MEASURE (R483): One element's monitor is measured: its slowdown in ppm. -/
  | agingMeasure (element : Fin 236) (driftPpm : Nat)
  /-- SRAM_SCRUB (R481): A 64-bit word of a row is read by the scrub. -/
  | sramScrub (mem : Sram) (row word : Nat) (found : EccFound)
  /-- SRAM_ROW_REPAIR (R482): `left`: the macro has a spare row left. -/
  | sramRowRepair (mem : Sram) (row : Nat) (left : Bool)
  /-- STORM_WINDOW_END (R488): At each storm window boundary every record's WINDOW_COUNT returns to 0. -/
  | stormWindowEnd
  /-- RECORD_CLEAR (R489): RAS_REC_SEL.CLEAR frees the selected fault record. -/
  | recordClear (src : Src) (v : Word)
  /-- PLL_LOCK_LOSS (R485): A PLL losing lock for more than 10 µs takes its die, port or the part out of service. -/
  | pllLockLoss (pll : Fin 8)
  /-- RAIL_FAULT (R507): A rail outside its operating range for more than 10 µs is reported. -/
  | railFault (rail : Fin 10)
  /-- THERMAL_READ (R518): Each thermal sensor is read every millisecond and compared with its limits. -/
  | thermalRead (die : Fin 3) (sensor : Fin 4) (celsius : Int)
  /-- PWR_CMD_WRITE (R491): A write of PWR_CMD.TARGET recomputes the effective pressure state, or is refused. -/
  | pwrCmdWrite (src : Src) (v : Word)
  /-- PWR_ALLOW_WRITE (R492): A write of PWR_ALLOW enables states, refusing EASY while any granule is not FREE. -/
  | pwrAllowWrite (src : Src) (v : Word)
  /-- PWR_HALF_SLICES_WRITE (R501): A write of PWR_HALF_SLICES names the slices kept in HALF, starting a transition if HALF is in force. -/
  | pwrHalfSlicesWrite (src : Src) (v : Word)
  /-- D_STATE_CHANGE (R491): A PF's D-state change recomputes the implied and effective pressure state. -/
  | dStateChange (change : DChange)
  /-- TRANSITION_DONE (R493): Slices leave or join service and CHANGED sets when a transition ends. -/
  | transitionDone
  /-- EASY_ENTRY (R494): The part reaches EASY once every granule is FREE and the open epoch's block is published. -/
  | easyEntry
  /-- EASY_EXIT (R495): Release of the selected PERST_N in EASY boots the part keeping network time. -/
  | easyExit (b : BootIn)
  /-- COLD_RESET (R499): At the cold reset instant straps are sampled and BIST, the undercoat wipe and boot run. -/
  | coldReset (b : BootIn)
  /-- POWER_GOOD_LOSS (R509): How long PWRGD is low. -/
  | powerGoodLoss (ns : Nat)
  /-- WARM_RESET (R499): PWR_RESET.WARM resets the compute dies and hub units outside the always-on domain. -/
  | warmReset (src : Src)
  /-- WARM_RESET_DONE (R499): A warm reset completes and WARM_DONE sets. -/
  | warmResetDone
  /-- SLICE_RESET (R499): PWR_RESET.SLICE resets a slice, dropping its frames and restarting its engines. -/
  | sliceReset (src : Src) (slice : Fin 6)
  /-- SLICE_RESET_DONE (R499): A slice reset completes and SLICE_DONE sets. -/
  | sliceResetDone (slice : Fin 6)
  /-- DRAM_WIPE_DONE (R475): The undercoat wipe's zero fill of DRAM covers a granule and clears its PENDING. -/
  | dramWipeDone (g : Fin 6144)
  /-- FUNCTION_READY (R500): Functions become ready at PHASE 5, on refusal of the default image, or at 1,000 ms. -/
  | functionReady
  /-- POWER_AVERAGE (R498): The average of the last 1 ms, in 0.1 W. -/
  | powerAverage (deciwatt : Nat)
  /-- CLOCK_GATE (R497): An engine whose threads have been quiescent for the idle time is clock gated. -/
  | clockGate (slice : Fin 6) (pos : Fin 32)
  /-- RX_LPI_ENTRY (R90): The module signals low-power idle on a port's receive side, which sets RX_LPI and counts in RX_LPI_ENTRIES. -/
  | rxLpiEntry (port : Fin 16)
  /-- RX_LPI_WAKE (R90): The module ends low-power idle on a port's receive side, which clears RX_LPI and is the receive wake of R90. -/
  | rxLpiWake (port : Fin 16)
  /-- FIRMWARE_QUEUE_READ (R119): Ulyar takes a frame from a slice's 256-frame firmware exception queue and frees its entry. -/
  | firmwareQueueRead (slice : Fin 6)
  /-- MCTP_CONTROL_MESSAGE (R465): The endpoint ID the message assigns, if it does. -/
  | mctpControlMessage (eid : OptEid)
  /-- RGMII_FRAME_RECEIVED (R466): A frame arriving on the 1 GbE RGMII management port is taken by Ulyar and passed nowhere else. -/
  | rgmiiFrameReceived (data : Bytes)
  deriving DecidableEq, Repr

end Sys2Proof
end

