-- ==== Sys2Proof/Decode.lean ====
section
/-! DEFINITION. The command that a word spells. spec/opcode_table.json gives no row any bits, so no word of the table spells one; the engines' instructions have the encoding of 07 R176 to
R179, by which a 32-bit word at a thread's PC spells the command that stands for it. -/
namespace Sys2Proof

/-- The command that a word of `nbits` bits spells: none, as no row of the table has bits. -/
def decodeTableWord (_nbits _w : Nat) : Option Instr := none

/-! The fields of an instruction word (07 R176, R177). -/

/-- PRED, PN and the opcode. -/
def wordPred (w : BitVec 32) : Fin 8 := (w.extractLsb' 29 3).toFin
def wordPn (w : BitVec 32) : Bool := w.getLsbD 28
def wordOpcode (w : BitVec 32) : Nat := (w.extractLsb' 22 6).toNat

/-- The five-bit fields [21:17], [16:12] and [11:7]. -/
def wordRd (w : BitVec 32) : Fin 32 := (w.extractLsb' 17 5).toFin
def wordRa (w : BitVec 32) : Fin 32 := (w.extractLsb' 12 5).toFin
def wordRb (w : BitVec 32) : Fin 32 := (w.extractLsb' 7 5).toFin

/-- The formats of R177, as read from a word. -/
def FmtR.of (w : BitVec 32) : FmtR := ⟨wordPred w, wordPn w, wordRd w, wordRa w, wordRb w, (w.extractLsb' 0 7).toFin⟩
def FmtN.of (w : BitVec 32) : FmtN := ⟨wordPred w, wordPn w, wordRd w, wordRa w, wordRb w⟩
def FmtI.of (w : BitVec 32) : FmtI := ⟨wordPred w, wordPn w, wordRd w, wordRa w, (w.extractLsb' 0 12).toFin⟩
def FmtW.of (w : BitVec 32) : FmtW := ⟨wordPred w, wordPn w, wordRd w, (w.extractLsb' 0 17).toFin⟩
def FmtF.of (w : BitVec 32) : FmtF := ⟨wordPred w, wordPn w, wordRd w, wordRa w, (w.extractLsb' 6 6).toFin, (w.extractLsb' 0 6).toFin⟩
def FmtC.of (w : BitVec 32) : FmtC :=
  ⟨wordPred w, wordPn w, (w.extractLsb' 19 3).toFin, (w.extractLsb' 16 3).toFin, (w.extractLsb' 11 5).toFin, (w.extractLsb' 6 5).toFin, (w.extractLsb' 0 6).toFin⟩
def FmtCI.of (w : BitVec 32) : FmtCI :=
  ⟨wordPred w, wordPn w, (w.extractLsb' 19 3).toFin, (w.extractLsb' 16 3).toFin, (w.extractLsb' 11 5).toFin, (w.extractLsb' 0 11).toFin⟩
def FmtP.of (w : BitVec 32) : FmtP :=
  ⟨wordPred w, wordPn w, (w.extractLsb' 19 3).toFin, (w.extractLsb' 16 3).toFin, (w.extractLsb' 13 3).toFin, (w.extractLsb' 3 10).toFin, (w.extractLsb' 0 3).toFin⟩
def FmtM.of (w : BitVec 32) : FmtM := ⟨wordPred w, wordPn w, wordRd w, wordRa w, w.getLsbD 11, (w.extractLsb' 9 2).toFin, (w.extractLsb' 0 9).toFin⟩
def FmtA.of (w : BitVec 32) : FmtA := ⟨wordPred w, wordPn w, wordRd w, wordRa w, wordRb w, (w.extractLsb' 3 4).toFin, w.getLsbD 2, (w.extractLsb' 0 2).toFin⟩
def FmtB.of (w : BitVec 32) : FmtB := ⟨wordPred w, wordPn w, (w.extractLsb' 0 22).toFin⟩
def FmtD.of (w : BitVec 32) : FmtD := ⟨wordPred w, wordPn w, wordRd w, (w.extractLsb' 0 17).toFin⟩
def FmtX.of (w : BitVec 32) : FmtX := ⟨wordPred w, wordPn w, wordRd w, wordRa w, (w.extractLsb' 9 3).toFin, (w.extractLsb' 3 6).toFin, (w.extractLsb' 0 3).toFin⟩
def FmtO.of (w : BitVec 32) : FmtO := ⟨wordPred w, wordPn w, wordRd w, wordRa w, (w.extractLsb' 0 12).toFin⟩
def FmtS.of (w : BitVec 32) : FmtS := ⟨wordPred w, wordPn w, wordRd w, wordRa w, (w.extractLsb' 9 3).toFin, (w.extractLsb' 6 3).toFin, (w.extractLsb' 0 6).toFin⟩
def FmtV.of (w : BitVec 32) : FmtV := ⟨wordPred w, wordPn w, wordRd w, (w.extractLsb' 13 4).toFin, (w.extractLsb' 10 3).toFin, (w.extractLsb' 0 10).toFin⟩
def FmtT.of (w : BitVec 32) : FmtT :=
  ⟨wordPred w, wordPn w, wordRd w, wordRa w, w.getLsbD 11, w.getLsbD 10, w.getLsbD 9, w.getLsbD 8, w.getLsbD 7, (w.extractLsb' 0 7).toFin⟩
def FmtY.of (w : BitVec 32) : FmtY := ⟨wordPred w, wordPn w, wordRd w, wordRa w, (w.extractLsb' 8 3).toFin, (w.extractLsb' 0 8).toFin⟩
def FmtK.of (w : BitVec 32) : FmtK := ⟨wordPred w, wordPn w, (w.extractLsb' 7 15).toFin, (w.extractLsb' 0 7).toFin⟩

/-! Decoding (07 R178, R179, R192, R193, R207, R208). -/

/-- FRAME by its FN (R192). -/
def cloigFrame (th : ThId) (w : BitVec 32) : Instr :=
  match (w.extractLsb' 0 7).toNat with
  | 0 => .frameWindow th (FmtN.of w)
  | 1 => .frameInsert th (FmtN.of w)
  | 2 => .frameRemove th (FmtN.of w)
  | 3 => .frameTrim th (FmtN.of w)
  | _ => .undefinedOpcode th w

/-- COX by its FN (R208). -/
def cloigCox (th : ThId) (w : BitVec 32) : Instr :=
  match (w.extractLsb' 0 7).toNat with
  | 0 => .tsetg th (FmtN.of w)
  | 1 => .tgetg th (FmtN.of w)
  | 2 => .tsetpc th (FmtN.of w)
  | 3 => .trelease th (FmtN.of w)
  | 4 => .tstop th (FmtN.of w)
  | 5 => .tstate th (FmtN.of w)
  | _ => .undefinedOpcode th w

/-- RELEASE by its FN (R193). -/
def cloigRelease (th : ThId) (w : BitVec 32) : Instr :=
  match (w.extractLsb' 0 7).toNat with
  | 0 => .releaseList th (FmtN.of w)
  | 1 => .releaseDrop th (FmtN.of w)
  | 2 => .releaseExcHost th (FmtN.of w)
  | 3 => .releaseExcFw th (FmtN.of w)
  | _ => .undefinedOpcode th w

/-- The command that stands for the instruction word `w` of thread `th` (R176 to R179). A LOOKUP meets neither the flow cache's misses nor an error. -/
def cloigDecode (th : ThId) (w : BitVec 32) : Instr :=
  match wordOpcode w with
  | 0x00 => .alwaysIllegal th
  | 0x01 => .alu th (FmtR.of w)
  | 0x02 => .addi th (FmtI.of w)
  | 0x03 => .andi th (FmtI.of w)
  | 0x04 => .ori th (FmtI.of w)
  | 0x05 => .xori th (FmtI.of w)
  | 0x06 => .shli th (FmtI.of w)
  | 0x07 => .shri th (FmtI.of w)
  | 0x08 => .sari th (FmtI.of w)
  | 0x0A => .lims th (FmtW.of w)
  | 0x0B => .limu th (FmtW.of w)
  | 0x0C => .cat th (FmtW.of w)
  | 0x0E => .bfx th (FmtF.of w)
  | 0x0F => .bfi th (FmtF.of w)
  | 0x10 => .cmp th (FmtC.of w)
  | 0x11 => .cmpi th (FmtCI.of w)
  | 0x12 => .plog th (FmtP.of w)
  | 0x14 => .ld th (FmtM.of w)
  | 0x15 => .lds th (FmtM.of w)
  | 0x16 => .st th (FmtM.of w)
  | 0x18 => .atom th (FmtA.of w)
  | 0x1C => .br th (FmtB.of w)
  | 0x1D => .call th (FmtB.of w)
  | 0x1E => .jr th (FmtR.of w)
  | 0x1F => .adr th (FmtD.of w)
  | 0x20 => cloigFrame th w
  | 0x24 => .lookup th (FmtX.of w) 0 none
  | 0x25 => .ciph th (FmtO.of w)
  | 0x26 => .cmpr th (FmtO.of w)
  | 0x27 => .dmac th (FmtO.of w)
  | 0x28 => .crc th (FmtR.of w)
  | 0x29 => .toep th (FmtR.of w)
  | 0x2C => .send th (FmtS.of w)
  | 0x2D => .recv th (FmtV.of w)
  | 0x2E => .wait th (FmtT.of w)
  | 0x30 => if w.getLsbD 11 then .sprWrite th (FmtY.of w) else .sprRead th (FmtY.of w)
  | 0x31 => cloigCox th w
  | 0x32 => .trap th (FmtK.of w)
  | 0x33 => .rett th (FmtK.of w)
  | 0x34 => cloigRelease th w
  | 0x36 => .brk th (FmtK.of w)
  | _ => .undefinedOpcode th w

/-! Encoding (07 R176, R177). -/

/-- The word of a predicate, its sense, an opcode and the operand bits [21:0]. -/
def wordOf (pred : Fin 8) (pn : Bool) (opcode operands : Nat) : BitVec 32 := BitVec.ofNat 32 (pred.val * 2 ^ 29 + pn.toNat * 2 ^ 28 + opcode * 2 ^ 22 + operands)

/-- The words of an opcode's operands in the formats of R177. -/
def FmtR.word (op : Nat) (x : FmtR) : BitVec 32 := wordOf x.pred x.pn op (x.rd.val * 2 ^ 17 + x.ra.val * 2 ^ 12 + x.rb.val * 2 ^ 7 + x.fn.val)
def FmtN.word (op fn : Nat) (x : FmtN) : BitVec 32 := wordOf x.pred x.pn op (x.rd.val * 2 ^ 17 + x.ra.val * 2 ^ 12 + x.rb.val * 2 ^ 7 + fn)
def FmtI.word (op : Nat) (x : FmtI) : BitVec 32 := wordOf x.pred x.pn op (x.rd.val * 2 ^ 17 + x.ra.val * 2 ^ 12 + x.imm.val)
def FmtW.word (op : Nat) (x : FmtW) : BitVec 32 := wordOf x.pred x.pn op (x.rd.val * 2 ^ 17 + x.imm.val)
def FmtF.word (op : Nat) (x : FmtF) : BitVec 32 := wordOf x.pred x.pn op (x.rd.val * 2 ^ 17 + x.ra.val * 2 ^ 12 + x.at_.val * 2 ^ 6 + x.wm1.val)
def FmtC.word (op : Nat) (x : FmtC) : BitVec 32 :=
  wordOf x.pred x.pn op (x.pd.val * 2 ^ 19 + x.cc.val * 2 ^ 16 + x.ra.val * 2 ^ 11 + x.rb.val * 2 ^ 6 + x.rsv.val)
def FmtCI.word (op : Nat) (x : FmtCI) : BitVec 32 := wordOf x.pred x.pn op (x.pd.val * 2 ^ 19 + x.cc.val * 2 ^ 16 + x.ra.val * 2 ^ 11 + x.imm.val)
def FmtP.word (op : Nat) (x : FmtP) : BitVec 32 :=
  wordOf x.pred x.pn op (x.pd.val * 2 ^ 19 + x.pa.val * 2 ^ 16 + x.pb.val * 2 ^ 13 + x.rsv.val * 2 ^ 3 + x.fn.val)
def FmtM.word (op : Nat) (x : FmtM) : BitVec 32 :=
  wordOf x.pred x.pn op (x.rd.val * 2 ^ 17 + x.ra.val * 2 ^ 12 + x.be.toNat * 2 ^ 11 + x.sz.val * 2 ^ 9 + x.off.val)
def FmtA.word (op : Nat) (x : FmtA) : BitVec 32 :=
  wordOf x.pred x.pn op (x.rd.val * 2 ^ 17 + x.ra.val * 2 ^ 12 + x.rb.val * 2 ^ 7 + x.fn.val * 2 ^ 3 + x.w.toNat * 2 ^ 2 + x.rsv.val)
def FmtB.word (op : Nat) (x : FmtB) : BitVec 32 := wordOf x.pred x.pn op x.disp.val
def FmtD.word (op : Nat) (x : FmtD) : BitVec 32 := wordOf x.pred x.pn op (x.rd.val * 2 ^ 17 + x.disp.val)
def FmtX.word (op : Nat) (x : FmtX) : BitVec 32 :=
  wordOf x.pred x.pn op (x.rd.val * 2 ^ 17 + x.ra.val * 2 ^ 12 + x.cnt.val * 2 ^ 9 + x.table.val * 2 ^ 3 + x.rsv.val)
def FmtO.word (op : Nat) (x : FmtO) : BitVec 32 := wordOf x.pred x.pn op (x.rd.val * 2 ^ 17 + x.ra.val * 2 ^ 12 + x.rsv.val)
def FmtS.word (op : Nat) (x : FmtS) : BitVec 32 :=
  wordOf x.pred x.pn op (x.rd.val * 2 ^ 17 + x.ra.val * 2 ^ 12 + x.cnt.val * 2 ^ 9 + x.pd.val * 2 ^ 6 + x.rsv.val)
def FmtV.word (op : Nat) (x : FmtV) : BitVec 32 := wordOf x.pred x.pn op (x.rd.val * 2 ^ 17 + x.ch.val * 2 ^ 13 + x.pd.val * 2 ^ 10 + x.rsv.val)
def FmtT.word (op : Nat) (x : FmtT) : BitVec 32 :=
  wordOf x.pred x.pn op (x.rd.val * 2 ^ 17 + x.ra.val * 2 ^ 12 + x.frame.toNat * 2 ^ 11 + x.chan.toNat * 2 ^ 10 + x.ticket.toNat * 2 ^ 9 + x.ext.toNat * 2 ^ 8 +
    x.nodl.toNat * 2 ^ 7 + x.rsv.val)
def FmtY.word (op : Nat) (dir : Bool) (x : FmtY) : BitVec 32 :=
  wordOf x.pred x.pn op (x.rd.val * 2 ^ 17 + x.ra.val * 2 ^ 12 + dir.toNat * 2 ^ 11 + x.rsv.val * 2 ^ 8 + x.spr.val)
def FmtK.word (op : Nat) (x : FmtK) : BitVec 32 := wordOf x.pred x.pn op (x.rsv.val * 2 ^ 7 + x.imm.val)

end Sys2Proof
end

