-- ==== Sys2Proof/Config.lean ====
section
/-! DEFINITION. The free values: what the spec leaves open and the machine goes on with. Each is an opaque constant,
so nothing can be proved of its value. -/
namespace Sys2Proof

/-- A fresh unconstrained number, the `k`-th drawn (log entry 7). -/
opaque Config.free : Nat → Nat

/-- Slice spreading of a port as an image's bytes give it, by fields as bit offset and width, and a Toeplitz key: 01 R21 has the image name them and no layout gives their place (log entry 10). -/
opaque Config.spreadOf : List Byte → Nat → Option (List (Nat × Nat) × List Byte)

/-- The slice (modulo 6) an image binds a transmit ring to: 01 R27 has the image bind it and no layout gives the place (log entry 10). -/
opaque Config.ringSlice : List Byte → Nat → Nat

/-- The sketch hash of a row, drawn by the Kyotas core at the cold reset numbered (16 R450): no path reads its seed (log entry 12). -/
opaque Config.sketchHash : Nat → Nat → List Byte → Nat

/-- The hash position of a key in a table of a capacity, by way: 06 R126 and R139 have four and no layout gives the hash (log entry 14). -/
opaque Config.hashPos : List Byte → Nat → Nat → Nat

/-- Whether the SLH-DSA-SHA2-128s signature at the end of a signed unit verifies against the fused key of an index (03 R63; 17 R470): the fused keys are the part's own, and the algorithm is FIPS 205's (log entry 23). -/
opaque Config.sigOk : Nat → List Byte → Bool

/-- Whether the public key that an Ulyar image is signed with has the fused KEY_HASH of its index (17 R468, R470): its place in the image is not given, and the fuses are the part's own (log entry 23). -/
opaque Config.keyHashOk : Nat → List Byte → Bool

/-- The signature by the identity key of a public key over bytes (17 R467, R472; 16 R447): the private key is the part's own (log entry 27). -/
opaque Config.sign : List Byte → List Byte → Nat

/-- The SHA-256 of the Kyotas mask ROM (17 R467, log entry 28). -/
opaque Config.romHash : Nat

/-- The bits of the compressed form that the compressor emits for a chunk at a LEVEL of 1 to 3, after the three header bits, given the input before the chunk: 12 R322 fixes the kind of codes and
of matching, and that they are the same on every part, but not which matches and codes are chosen (log entry 26). -/
opaque Config.deflateBody : Nat → List Byte → List Byte → List Bool

/-- The packet buffer bytes that a frame of these bytes takes after header compression, before its bound: 04 R84 does not state it (log entry 38). -/
opaque Config.storedLen : List Byte → Nat

/-- How many measurements an analog power-on test takes, where 18 R476 does not say (log entry 32). -/
opaque Config.measures : Nat → Nat

/-- The bank groups of a DRAM channel's modules that have a hard repair left when they are first used (15 R418); the modules are not the part's (log entry 140). -/
opaque Config.hardRepairs : Nat → Nat

end Sys2Proof
end

