-- ==== Sys2Proof/Machine/Tab.lean ====
section
/-! DEFINITION. Sparse tables: lists of (key, value) pairs with strictly rising keys, the form every
sparse piece of state is held in. An unlisted key has the value its reader names. -/
namespace Sys2Proof.Machine

/-- A sparse table from numbers to values. -/
abbrev Tab (α : Type) := List (Nat × α)

/-- The value listed for `n`, if any. -/
def Tab.look {α : Type} : Tab α → Nat → Option α
  | [], _ => none
  | (k, v) :: t, n => if n = k then some v else if n < k then none else Tab.look t n

/-- The value listed for `n`, or the default `d`. -/
def Tab.lookD {α : Type} (t : Tab α) (n : Nat) (d : α) : α := (t.look n).getD d

/-- `t` with `n` listed as `v`. -/
def Tab.put {α : Type} : Tab α → Nat → α → Tab α
  | [], n, v => [(n, v)]
  | (k, w) :: t, n, v =>
    if n = k then (n, v) :: t else if n < k then (n, v) :: (k, w) :: t else (k, w) :: Tab.put t n v

/-- `t` with `n` not listed. -/
def Tab.del {α : Type} : Tab α → Nat → Tab α
  | [], _ => []
  | (k, w) :: t, n => if n = k then t else if n < k then (k, w) :: t else (k, w) :: Tab.del t n

/-- `t` with the value for `n` (default `d`) replaced by its image. -/
def Tab.upd {α : Type} (t : Tab α) (n : Nat) (d : α) (f : α → α) : Tab α := t.put n (f (t.lookD n d))

/-- `t` with `n` listed as `v`, or not listed for `none`. -/
def Tab.putOpt {α : Type} (t : Tab α) (n : Nat) : Option α → Tab α
  | some v => t.put n v
  | none => t.del n

/-- Every value of `t` replaced by its image under `f`, which also sees the key. -/
def Tab.mapVals {α : Type} (t : Tab α) (f : Nat → α → α) : Tab α := t.map fun kv => (kv.1, f kv.1 kv.2)

/-- Whether every key of `t` is above `lo`, and the keys rise strictly. -/
def Tab.risesFrom {α : Type} : Nat → Tab α → Bool
  | _, [] => true
  | lo, (k, _) :: t => decide (lo < k) && Tab.risesFrom k t

/-- Whether the keys of `t` rise strictly. -/
def Tab.rising {α : Type} : Tab α → Bool
  | [] => true
  | (k, _) :: t => Tab.risesFrom k t

/-- The smallest number of `0 .. n - 1` that is not listed in `t`, or `n`. -/
def Tab.firstFree {α : Type} (t : Tab α) (n : Nat) : Nat :=
  ((List.range n).find? fun k => (t.look k).isNone).getD n

end Sys2Proof.Machine
end

