-- ==== Sys2Proof/Machine/Bits.lean ====
section
/-! DEFINITION. Bit fields of registers, little-endian and big-endian byte strings, sign extension
(spec 00 R4, R10; 07 R171). -/
namespace Sys2Proof.Machine

/-- A bit field: its lowest bit and its width. -/
structure Fld where
  lo : Nat
  w : Nat
  deriving DecidableEq, Repr

/-- The value of field `f` in `v`. -/
def Fld.get (f : Fld) (v : Word) : Nat := v.toNat / 2 ^ f.lo % 2 ^ f.w

/-- The bits of field `f`. -/
def Fld.mask (f : Fld) : Word := BitVec.ofNat 64 ((2 ^ f.w - 1) * 2 ^ f.lo)

/-- `v` with field `f` set to `x` (modulo the field's width). -/
def Fld.set (f : Fld) (x : Nat) (v : Word) : Word :=
  (v &&& ~~~f.mask) ||| (BitVec.ofNat 64 (x % 2 ^ f.w * 2 ^ f.lo))

/-- Bits `lo .. lo + w - 1` of a number. -/
def bitsOf (v lo w : Nat) : Nat := v / 2 ^ lo % 2 ^ w

/-- Bit `n` of a number. -/
def bitOf (v n : Nat) : Bool := v.testBit n

/-- 1 for true, 0 for false. -/
def b2n (b : Bool) : Nat := if b then 1 else 0

/-- The number a little-endian byte string spells (R10). -/
def leNat : List Byte → Nat
  | [] => 0
  | b :: bs => b.toNat + 256 * leNat bs

/-- The number a big-endian (network order) byte string spells (R10). -/
def beNat (bs : List Byte) : Nat := bs.foldl (fun a b => a * 256 + b.toNat) 0

/-- The low `n` bytes of `v`, little-endian. -/
def leBytes : Nat → Nat → List Byte
  | 0, _ => []
  | n + 1, v => BitVec.ofNat 8 v :: leBytes n (v / 256)

/-- The low `n` bytes of `v`, big-endian. -/
def beBytes (n v : Nat) : List Byte := (leBytes n v).reverse

/-- Bytes `off .. off + n - 1` of a byte string, zero beyond its end. -/
def bytesAt (bs : List Byte) (off n : Nat) : List Byte :=
  let s := (bs.drop off).take n
  s ++ List.replicate (n - s.length) 0

/-- A little-endian field of a byte string, zero beyond its end. -/
def leAt (bs : List Byte) (off n : Nat) : Nat := leNat (bytesAt bs off n)

/-- A network-order field of a byte string, zero beyond its end. -/
def beAt (bs : List Byte) (off n : Nat) : Nat := beNat (bytesAt bs off n)

/-- `bs` with the bytes from `off` replaced by `xs`, as far as `bs` reaches. -/
def setBytes (bs : List Byte) (off : Nat) (xs : List Byte) : List Byte :=
  bs.take off ++ (xs.take (bs.length - off)) ++ bs.drop (off + xs.length)

/-- The signed value of the low `w` bits of `v`. -/
def signedOf (w v : Nat) : Int :=
  let x := v % 2 ^ w
  if x < 2 ^ (w - 1) then Int.ofNat x else Int.ofNat x - Int.ofNat (2 ^ w)

/-- The low `w` bits of a signed number, as an unsigned number. -/
def unsignedOf (w : Nat) (i : Int) : Nat := (i % Int.ofNat (2 ^ w)).toNat

/-- Numbers below `n` whose bit is set in `m`. -/
def setBits (n m : Nat) : List Nat := (List.range n).filter fun k => m.testBit k

/-- The number with exactly the bits of `l` set. -/
def maskOf (l : List Nat) : Nat := l.foldl (fun a k => if a.testBit k then a else a + 2 ^ k) 0

/-- `m` with bit `n` set to `b`. -/
def setBit (m n : Nat) (b : Bool) : Nat :=
  if m.testBit n = b then m else if b then m + 2 ^ n else m - 2 ^ n

/-- Replacement of the element at `i` of a list, if it has one. -/
def setNth {α : Type} : List α → Nat → α → List α
  | [], _, _ => []
  | _ :: t, 0, v => v :: t
  | h :: t, n + 1, v => h :: setNth t n v

/-- Whether `a` is a power of two. -/
def isPow2 (a : Nat) : Bool := a != 0 && a == 2 ^ a.log2

end Sys2Proof.Machine
end

