-- ==== Sys2Proof/Machine/Mem.lean ====
section
/-! DEFINITION. Byte memory: one list of (address, byte) cells in canonical form, an unlisted byte reading 0
(spec 17 R475: the undercoat wipe fills every memory with 0). The device's DRAM lies at its device addresses,
the on-chip memories at addresses of the model's own above 2^48 (see `bankAt`, `localAt`, `quadAt`, `codeAt`). -/
namespace Sys2Proof.Machine

/-- Byte memory. -/
abbrev Memory := List Host.Cell

/-- The byte at `a`; what an unlisted address reads as is 0 (R475). -/
def Memory.read (m : Memory) (a : Nat) : Byte := Tab.lookD m a 0

/-- `m` with byte `a` holding `b`; writing 0 unlists the address. -/
def Memory.write (m : Memory) (a : Nat) (b : Byte) : Memory :=
  if b = 0 then Tab.del m a else Tab.put m a b

/-- The `n` bytes from `a`. -/
def Memory.readN (m : Memory) (a n : Nat) : List Byte := (List.range n).map fun i => m.read (a + i)

/-- `m` with the bytes from `a` replaced by `bs`. -/
def Memory.writeN : Memory → Nat → List Byte → Memory
  | m, _, [] => m
  | m, a, b :: bs => Memory.writeN (m.write a b) (a + 1) bs

/-- The `n`-byte little-endian number at `a` (R171). -/
def Memory.readLE (m : Memory) (a n : Nat) : Nat := leNat (m.readN a n)

/-- `m` with the `n` bytes from `a` holding `v`, little-endian (R171). -/
def Memory.writeLE (m : Memory) (a n v : Nat) : Memory := m.writeN a (leBytes n v)

/-- `m` with every byte of `[a, a + n)` reading 0. -/
def Memory.zero (m : Memory) (a n : Nat) : Memory := m.filter fun c => decide (c.1 < a) || decide (a + n ≤ c.1)

/-- The canonical form: addresses strictly rising, and no listed byte is 0. -/
def Memory.wf (m : Memory) : Bool := Tab.rising m && m.all fun c => c.2 != 0

end Sys2Proof.Machine
end

