-- ==== Sys2Proof/Machine/RegDefs.lean ====
section
/-! DEFINITION. The registers of the N3200, one definition per register table of spec/ (its absolute BAR0 offset and
reset value; a register of BAR4 stands at 2^32 plus its offset), and one per field (lowest bit, width). -/
namespace Sys2Proof.Machine

/-- A register: the address its value is kept under, and its reset value (R7). -/
structure Reg where
  addr : Nat
  rst : Nat
  deriving DecidableEq, Repr

/-! Registers of spec/01_architecture.md. -/

def GLB_IDENT : Reg := ⟨0x0, 0x32001E7A⟩
def GLB_IDENT_DEVICE : Fld := ⟨16, 16⟩
def GLB_IDENT_VENDOR : Fld := ⟨0, 16⟩

def GLB_STEP : Reg := ⟨0x4, 0xB1⟩
def GLB_STEP_MAJOR : Fld := ⟨4, 4⟩
def GLB_STEP_MINOR : Fld := ⟨0, 4⟩

def GLB_UNMAPPED_ADDR : Reg := ⟨0x10, 0x0⟩
def GLB_UNMAPPED_ADDR_VALID : Fld := ⟨31, 1⟩
def GLB_UNMAPPED_ADDR_WRITE : Fld := ⟨28, 1⟩
def GLB_UNMAPPED_ADDR_OFFSET : Fld := ⟨0, 28⟩

def GLB_UNMAPPED_COUNT : Reg := ⟨0x14, 0x0⟩
def GLB_UNMAPPED_COUNT_COUNT : Fld := ⟨0, 32⟩

/-! Registers of spec/02_network_time.md. -/

def NTU_TIME_NS : Reg := ⟨0x100000, 0x0⟩
def NTU_TIME_NS_NS : Fld := ⟨0, 64⟩

def NTU_TIME_FRAC : Reg := ⟨0x100008, 0x0⟩
def NTU_TIME_FRAC_FRAC : Fld := ⟨0, 16⟩

def NTU_CTRL : Reg := ⟨0x100010, 0x8⟩
def NTU_CTRL_OWNER : Fld := ⟨3, 1⟩
def NTU_CTRL_PPS_IN_EDGE : Fld := ⟨2, 1⟩
def NTU_CTRL_PPS_IN_EN : Fld := ⟨1, 1⟩
def NTU_CTRL_PPS_OUT_EN : Fld := ⟨0, 1⟩

def NTU_INCR : Reg := ⟨0x100018, 0x400000000⟩
def NTU_INCR_INCR : Fld := ⟨0, 36⟩

def NTU_ADJ_NS : Reg := ⟨0x100020, 0x0⟩
def NTU_ADJ_NS_NS : Fld := ⟨0, 64⟩

def NTU_ADJ_FRAC : Reg := ⟨0x100028, 0x0⟩
def NTU_ADJ_FRAC_FRAC : Fld := ⟨0, 16⟩

def NTU_CMD : Reg := ⟨0x100030, 0x0⟩
def NTU_CMD_OP : Fld := ⟨0, 2⟩

def NTU_SLEW_RATE : Reg := ⟨0x100034, 0xC350⟩
def NTU_SLEW_RATE_RATE_PPB : Fld := ⟨0, 17⟩

def NTU_STATUS : Reg := ⟨0x100038, 0x0⟩
def NTU_STATUS_FOREIGN_WRITES : Fld := ⟨12, 16⟩
def NTU_STATUS_STEP_GEN : Fld := ⟨4, 8⟩
def NTU_STATUS_STEPPED : Fld := ⟨3, 1⟩
def NTU_STATUS_PPS_IN_SEEN : Fld := ⟨2, 1⟩
def NTU_STATUS_INCR_CLAMP : Fld := ⟨1, 1⟩
def NTU_STATUS_SLEWING : Fld := ⟨0, 1⟩

def NTU_SLEW_REMAIN : Reg := ⟨0x100040, 0x0⟩
def NTU_SLEW_REMAIN_NS : Fld := ⟨0, 64⟩

def NTU_PPS_IN_NS : Reg := ⟨0x100048, 0x0⟩
def NTU_PPS_IN_NS_NS : Fld := ⟨0, 64⟩

def NTU_PPS_IN_FRAC : Reg := ⟨0x100050, 0x0⟩
def NTU_PPS_IN_FRAC_FRAC : Fld := ⟨0, 16⟩

def NTU_PPS_OUT_CFG : Reg := ⟨0x100054, 0x64⟩
def NTU_PPS_OUT_CFG_WIDTH_US : Fld := ⟨0, 16⟩

def NTU_PPS_OUT_OFFSET : Reg := ⟨0x100058, 0x0⟩
def NTU_PPS_OUT_OFFSET_OFFSET : Fld := ⟨0, 30⟩

/-! Registers of spec/03_program_images.md. -/

def IMG_STATUS : Reg := ⟨0xB00000, 0x8⟩
def IMG_STATUS_LAST_ERROR : Fld := ⟨24, 8⟩
def IMG_STATUS_HOST_WRITES : Fld := ⟨16, 8⟩
def IMG_STATUS_LOAD_STATE : Fld := ⟨8, 3⟩
def IMG_STATUS_NO_IMAGE : Fld := ⟨3, 1⟩
def IMG_STATUS_DRAINING : Fld := ⟨2, 1⟩
def IMG_STATUS_CUR_SLOT : Fld := ⟨1, 1⟩
def IMG_STATUS_SWITCHED : Fld := ⟨0, 1⟩

def IMG_EPOCH : Reg := ⟨0xB00004, 0x0⟩
def IMG_EPOCH_OLD : Fld := ⟨16, 16⟩
def IMG_EPOCH_CUR : Fld := ⟨0, 16⟩

def IMG_SWITCH_AT : Reg := ⟨0xB00008, 0x0⟩
def IMG_SWITCH_AT_NS : Fld := ⟨0, 64⟩

def IMG_INFLIGHT : Reg := ⟨0xB00010, 0x0⟩
def IMG_INFLIGHT_OLD : Fld := ⟨32, 32⟩
def IMG_INFLIGHT_CUR : Fld := ⟨0, 32⟩

def IMG_DRAIN_LIMIT : Reg := ⟨0xB00018, 0x0⟩
def IMG_DRAIN_LIMIT_LIMIT_MS : Fld := ⟨0, 16⟩

def IMG_FORCED_DROPS : Reg := ⟨0xB0001C, 0x0⟩
def IMG_FORCED_DROPS_COUNT : Fld := ⟨0, 32⟩

def IMG_BUILD_ID : Reg := ⟨0xB00020, 0x0⟩
def IMG_BUILD_ID_BUILD_ID : Fld := ⟨0, 64⟩

def IMG_TREE_MEM : Reg := ⟨0xB00028, 0x0⟩
def IMG_TREE_MEM_MIB : Fld := ⟨0, 32⟩

/-! Registers of spec/04_ethernet_ports.md. -/

def MAC_HALF_MODE (s : Nat) : Reg := ⟨0x1000000 + s * 0x1000000, 0x0⟩
def MAC_HALF_MODE_GROUP_B : Fld := ⟨3, 2⟩
def MAC_HALF_MODE_GROUP_A : Fld := ⟨1, 2⟩
def MAC_HALF_MODE_FULL_1T6 : Fld := ⟨0, 1⟩

def MAC_GROUP_SPARE_A (s : Nat) : Reg := ⟨0x1000010 + s * 0x1000000, 0x640000⟩
def MAC_GROUP_SPARE_A_SER_LIMIT_K : Fld := ⟨16, 16⟩
def MAC_GROUP_SPARE_A_LANE_SEL : Fld := ⟨5, 2⟩
def MAC_GROUP_SPARE_A_SPARE_NOW : Fld := ⟨4, 1⟩
def MAC_GROUP_SPARE_A_SPARE_USED : Fld := ⟨3, 1⟩
def MAC_GROUP_SPARE_A_AUTO : Fld := ⟨1, 1⟩
def MAC_GROUP_SPARE_A_ROUTED : Fld := ⟨0, 1⟩

def MAC_GROUP_SPARE_B (s : Nat) : Reg := ⟨0x1000014 + s * 0x1000000, 0x640000⟩
def MAC_GROUP_SPARE_B_SER_LIMIT_K : Fld := ⟨16, 16⟩
def MAC_GROUP_SPARE_B_LANE_SEL : Fld := ⟨5, 2⟩
def MAC_GROUP_SPARE_B_SPARE_NOW : Fld := ⟨4, 1⟩
def MAC_GROUP_SPARE_B_SPARE_USED : Fld := ⟨3, 1⟩
def MAC_GROUP_SPARE_B_AUTO : Fld := ⟨1, 1⟩
def MAC_GROUP_SPARE_B_ROUTED : Fld := ⟨0, 1⟩

def MAC_PORT_CTRL (s n : Nat) : Reg := ⟨0x1001000 + s * 0x1000000 + n * 0x100, 0xA240000⟩
def MAC_PORT_CTRL_LPI_IDLE_US : Fld := ⟨24, 8⟩
def MAC_PORT_CTRL_MAX_FRAME : Fld := ⟨8, 16⟩
def MAC_PORT_CTRL_LOOPBACK : Fld := ⟨2, 2⟩
def MAC_PORT_CTRL_LPI_EN : Fld := ⟨1, 1⟩
def MAC_PORT_CTRL_ENABLE : Fld := ⟨0, 1⟩

def MAC_PORT_STATUS (s n : Nat) : Reg := ⟨0x1001008 + s * 0x1000000 + n * 0x100, 0x0⟩
def MAC_PORT_STATUS_SPARE_FAILED : Fld := ⟨13, 1⟩
def MAC_PORT_STATUS_RX_LPI : Fld := ⟨12, 1⟩
def MAC_PORT_STATUS_TX_LPI : Fld := ⟨11, 1⟩
def MAC_PORT_STATUS_ACTING_SLICE : Fld := ⟨8, 3⟩
def MAC_PORT_STATUS_SPEED : Fld := ⟨5, 3⟩
def MAC_PORT_STATUS_SPREAD : Fld := ⟨4, 1⟩
def MAC_PORT_STATUS_STATE : Fld := ⟨0, 3⟩

def MAC_PORT_WAKE (s n : Nat) : Reg := ⟨0x1001010 + s * 0x1000000 + n * 0x100, 0xFA0⟩
def MAC_PORT_WAKE_TW_NS : Fld := ⟨0, 16⟩

def MAC_LANE_STATUS (s n : Nat) : Reg := ⟨0x1002000 + s * 0x1000000 + n * 0x40, 0x3⟩
def MAC_LANE_STATUS_AGING_WARN : Fld := ⟨7, 1⟩
def MAC_LANE_STATUS_CDR_LOCK : Fld := ⟨6, 1⟩
def MAC_LANE_STATUS_LOGICAL : Fld := ⟨2, 4⟩
def MAC_LANE_STATUS_LANE_STATE : Fld := ⟨0, 2⟩

def MAC_STAT_HALF_STATUS (s : Nat) : Reg := ⟨0x1003000 + s * 0x1000000, 0x0⟩
def MAC_STAT_HALF_STATUS_HALF : Fld := ⟨0, 32⟩

def MAC_STAT_HALF_MASK (s : Nat) : Reg := ⟨0x1003004 + s * 0x1000000, 0xFFFFFFFF⟩
def MAC_STAT_HALF_MASK_MASK : Fld := ⟨0, 32⟩

/-! Registers of spec/05_parser.md. -/

def PRS_STATUS (s : Nat) : Reg := ⟨0x1100000 + s * 0x1000000, 0x0⟩
def PRS_STATUS_ECC_ERR : Fld := ⟨2, 1⟩
def PRS_STATUS_SLOT1_TREE : Fld := ⟨1, 1⟩
def PRS_STATUS_SLOT0_TREE : Fld := ⟨0, 1⟩

def PRS_EXC_CFG (s : Nat) : Reg := ⟨0x1100010 + s * 0x1000000, 0x1000002⟩
def PRS_EXC_CFG_SNAP_LEN : Fld := ⟨16, 15⟩
def PRS_EXC_CFG_HOST_PF : Fld := ⟨4, 2⟩
def PRS_EXC_CFG_FW_EN : Fld := ⟨1, 1⟩
def PRS_EXC_CFG_HOST_EN : Fld := ⟨0, 1⟩

def PRS_EXC_HOST_RATE (s : Nat) : Reg := ⟨0x1100014 + s * 0x1000000, 0x186A0⟩
def PRS_EXC_HOST_RATE_RATE_FPS : Fld := ⟨0, 24⟩

def PRS_EXC_HOST_BURST (s : Nat) : Reg := ⟨0x1100018 + s * 0x1000000, 0x100⟩
def PRS_EXC_HOST_BURST_BURST : Fld := ⟨0, 16⟩

def PRS_EXC_FW_RATE (s : Nat) : Reg := ⟨0x110001C + s * 0x1000000, 0x2710⟩
def PRS_EXC_FW_RATE_RATE_FPS : Fld := ⟨0, 24⟩

def PRS_EXC_FW_BURST (s : Nat) : Reg := ⟨0x1100020 + s * 0x1000000, 0x40⟩
def PRS_EXC_FW_BURST_BURST : Fld := ⟨0, 16⟩

def PRS_EXC_TOKENS (s : Nat) : Reg := ⟨0x1100024 + s * 0x1000000, 0x1000040⟩
def PRS_EXC_TOKENS_HOST : Fld := ⟨16, 16⟩
def PRS_EXC_TOKENS_FW : Fld := ⟨0, 16⟩

def PRS_ECC_LOG (s : Nat) : Reg := ⟨0x1100028 + s * 0x1000000, 0x0⟩
def PRS_ECC_LOG_VALID : Fld := ⟨31, 1⟩
def PRS_ECC_LOG_KIND : Fld := ⟨17, 1⟩
def PRS_ECC_LOG_SLOT : Fld := ⟨16, 1⟩
def PRS_ECC_LOG_INDEX : Fld := ⟨0, 16⟩

/-! Registers of spec/06_classification.md. -/

def CLS_STATUS (s : Nat) : Reg := ⟨0x1200000 + s * 0x1000000, 0x0⟩
def CLS_STATUS_SKIM_DONE : Fld := ⟨3, 1⟩
def CLS_STATUS_ECC_ERR : Fld := ⟨2, 1⟩
def CLS_STATUS_SLOT1_BODY : Fld := ⟨1, 1⟩
def CLS_STATUS_SLOT0_BODY : Fld := ⟨0, 1⟩

def CLS_UPD_CTRL (s : Nat) : Reg := ⟨0x1200010 + s * 0x1000000, 0x0⟩
def CLS_UPD_CTRL_GO : Fld := ⟨31, 1⟩
def CLS_UPD_CTRL_PORT_FILTER : Fld := ⟨23, 1⟩
def CLS_UPD_CTRL_PORT : Fld := ⟨19, 4⟩
def CLS_UPD_CTRL_SLOT : Fld := ⟨18, 1⟩
def CLS_UPD_CTRL_TABLE : Fld := ⟨12, 6⟩
def CLS_UPD_CTRL_OP : Fld := ⟨0, 4⟩

def CLS_UPD_STATUS (s : Nat) : Reg := ⟨0x1200018 + s * 0x1000000, 0x0⟩
def CLS_UPD_STATUS_INDEX : Fld := ⟨32, 32⟩
def CLS_UPD_STATUS_BUSY : Fld := ⟨31, 1⟩
def CLS_UPD_STATUS_RESULT : Fld := ⟨0, 4⟩

def CLS_UPD_DATA (s n : Nat) : Reg := ⟨0x1200020 + s * 0x1000000 + n * 0x8, 0x0⟩
def CLS_UPD_DATA_DATA : Fld := ⟨0, 64⟩

def CLS_UPD_TREE_ADDR (s : Nat) : Reg := ⟨0x1200060 + s * 0x1000000, 0x0⟩
def CLS_UPD_TREE_ADDR_PF : Fld := ⟨62, 2⟩
def CLS_UPD_TREE_ADDR_ADDR : Fld := ⟨0, 62⟩

def CLS_LRN_RING_BASE (s : Nat) : Reg := ⟨0x1200100 + s * 0x1000000, 0x0⟩
def CLS_LRN_RING_BASE_ADDR : Fld := ⟨0, 64⟩

def CLS_LRN_RING_CFG (s : Nat) : Reg := ⟨0x1200108 + s * 0x1000000, 0x6⟩
def CLS_LRN_RING_CFG_EN : Fld := ⟨31, 1⟩
def CLS_LRN_RING_CFG_PF : Fld := ⟨8, 2⟩
def CLS_LRN_RING_CFG_SIZE_LOG2 : Fld := ⟨0, 4⟩

def CLS_LRN_CONS (s : Nat) : Reg := ⟨0x120010C + s * 0x1000000, 0x0⟩
def CLS_LRN_CONS_CONS : Fld := ⟨0, 16⟩

def CLS_LRN_PROD (s : Nat) : Reg := ⟨0x1200110 + s * 0x1000000, 0x0⟩
def CLS_LRN_PROD_PROD : Fld := ⟨0, 16⟩

def CLS_SKIM_CFG (s : Nat) : Reg := ⟨0x1200200 + s * 0x1000000, 0x0⟩
def CLS_SKIM_CFG_END : Fld := ⟨38, 26⟩
def CLS_SKIM_CFG_START : Fld := ⟨12, 26⟩
def CLS_SKIM_CFG_SLOT : Fld := ⟨11, 1⟩
def CLS_SKIM_CFG_TABLE : Fld := ⟨5, 6⟩
def CLS_SKIM_CFG_PF : Fld := ⟨3, 2⟩

def CLS_SKIM_SHADOW (s : Nat) : Reg := ⟨0x1200208 + s * 0x1000000, 0x0⟩
def CLS_SKIM_SHADOW_ADDR : Fld := ⟨0, 64⟩

def CLS_SKIM_DIFF (s : Nat) : Reg := ⟨0x1200210 + s * 0x1000000, 0x0⟩
def CLS_SKIM_DIFF_ADDR : Fld := ⟨0, 64⟩

def CLS_SKIM_CTRL (s : Nat) : Reg := ⟨0x1200218 + s * 0x1000000, 0x100400⟩
def CLS_SKIM_CTRL_GO : Fld := ⟨31, 1⟩
def CLS_SKIM_CTRL_ABORT : Fld := ⟨30, 1⟩
def CLS_SKIM_CTRL_RATE_K : Fld := ⟨16, 14⟩
def CLS_SKIM_CTRL_DIFF_MAX : Fld := ⟨0, 16⟩

def CLS_SKIM_STATUS (s : Nat) : Reg := ⟨0x1200220 + s * 0x1000000, 0x0⟩
def CLS_SKIM_STATUS_SKIPPED_BUSY : Fld := ⟨40, 24⟩
def CLS_SKIM_STATUS_DIFFS : Fld := ⟨8, 32⟩
def CLS_SKIM_STATUS_STATE : Fld := ⟨0, 3⟩

def CLS_LRN_COUNT (s n : Nat) : Reg := ⟨0x1200300 + s * 0x1000000 + n * 0x4, 0x0⟩
def CLS_LRN_COUNT_COUNT : Fld := ⟨0, 27⟩

def CLS_ECC_LOG (s : Nat) : Reg := ⟨0x1200380 + s * 0x1000000, 0x0⟩
def CLS_ECC_LOG_VALID : Fld := ⟨31, 1⟩
def CLS_ECC_LOG_LEARNED : Fld := ⟨30, 1⟩
def CLS_ECC_LOG_SLOT : Fld := ⟨29, 1⟩
def CLS_ECC_LOG_INDEX : Fld := ⟨0, 26⟩

def CLS_ECC_TABLE (s : Nat) : Reg := ⟨0x1200384 + s * 0x1000000, 0x0⟩
def CLS_ECC_TABLE_TABLE : Fld := ⟨0, 6⟩

/-! Registers of spec/08_threads_channels.md. -/

def ENG_CTRL (s n : Nat) : Reg := ⟨0x1800000 + s * 0x1000000 + n * 0x1000, 0x0⟩
def ENG_CTRL_DBG_EN : Fld := ⟨8, 8⟩
def ENG_CTRL_COX_RESTART : Fld := ⟨1, 1⟩
def ENG_CTRL_RESET : Fld := ⟨0, 1⟩

def ENG_STATUS (s n : Nat) : Reg := ⟨0x1800008 + s * 0x1000000 + n * 0x1000, 0x0⟩
def ENG_STATUS_PHYS : Fld := ⟨24, 8⟩
def ENG_STATUS_OFFLINE : Fld := ⟨23, 1⟩
def ENG_STATUS_FAULT : Fld := ⟨22, 1⟩
def ENG_STATUS_STALLED : Fld := ⟨21, 1⟩
def ENG_STATUS_MODE : Fld := ⟨20, 1⟩
def ENG_STATUS_CODE_SLOTS : Fld := ⟨18, 2⟩
def ENG_STATUS_MIGRATED : Fld := ⟨17, 1⟩

def ENG_STROKE (s n : Nat) : Reg := ⟨0x1800010 + s * 0x1000000 + n * 0x1000, 0x0⟩
def ENG_STROKE_SLOTS : Fld := ⟨0, 64⟩

def ENG_SWEEP (s n : Nat) : Reg := ⟨0x1800018 + s * 0x1000000 + n * 0x1000, 0x0⟩
def ENG_SWEEP_PRI : Fld := ⟨0, 32⟩

def ENG_THREAD_STATE (s n : Nat) : Reg := ⟨0x1800020 + s * 0x1000000 + n * 0x1000, 0x0⟩
def ENG_THREAD_STATE_STATES : Fld := ⟨0, 32⟩

def ENG_DBG_CTRL (s n : Nat) : Reg := ⟨0x1800028 + s * 0x1000000 + n * 0x1000, 0x0⟩
def ENG_DBG_CTRL_STEP : Fld := ⟨24, 8⟩
def ENG_DBG_CTRL_KILL : Fld := ⟨16, 8⟩
def ENG_DBG_CTRL_RESUME : Fld := ⟨8, 8⟩
def ENG_DBG_CTRL_HALT : Fld := ⟨0, 8⟩

def ENG_TDBG_SEL (s n : Nat) : Reg := ⟨0x1800030 + s * 0x1000000 + n * 0x1000, 0x0⟩
def ENG_TDBG_SEL_ITEM : Fld := ⟨8, 8⟩
def ENG_TDBG_SEL_THREAD : Fld := ⟨0, 3⟩

def ENG_TDBG_DATA (s n : Nat) : Reg := ⟨0x1800038 + s * 0x1000000 + n * 0x1000, 0x0⟩
def ENG_TDBG_DATA_DATA : Fld := ⟨0, 64⟩

def ENG_CNT (s n k : Nat) : Reg := ⟨0x1800100 + s * 0x1000000 + n * 0x1000 + k * 0x8, 0x0⟩
def ENG_CNT_COUNT : Fld := ⟨0, 48⟩

def ENG_SPARE_CFG (s : Nat) : Reg := ⟨0x1A00000 + s * 0x1000000, 0x0⟩
def ENG_SPARE_CFG_GO : Fld := ⟨16, 1⟩
def ENG_SPARE_CFG_POSITION : Fld := ⟨8, 5⟩
def ENG_SPARE_CFG_AUTO : Fld := ⟨0, 1⟩

def ENG_SPARE_STATUS (s : Nat) : Reg := ⟨0x1A00008 + s * 0x1000000, 0x0⟩
def ENG_SPARE_STATUS_ABORTED : Fld := ⟨17, 1⟩
def ENG_SPARE_STATUS_DONE : Fld := ⟨16, 1⟩
def ENG_SPARE_STATUS_POSITION_B : Fld := ⟨11, 5⟩
def ENG_SPARE_STATUS_STATE_B : Fld := ⟨8, 3⟩
def ENG_SPARE_STATUS_POSITION_A : Fld := ⟨3, 5⟩
def ENG_SPARE_STATUS_STATE_A : Fld := ⟨0, 3⟩

def ENG_DSP_COUNT (s n : Nat) : Reg := ⟨0x1A10000 + s * 0x1000000 + n * 0x8, 0x0⟩
def ENG_DSP_COUNT_COUNT : Fld := ⟨0, 48⟩

def ENG_DSP_FULL (s n : Nat) : Reg := ⟨0x1A10800 + s * 0x1000000 + n * 0x8, 0x0⟩
def ENG_DSP_FULL_COUNT : Fld := ⟨0, 48⟩

def ENG_DSP_NO_GROUP (s : Nat) : Reg := ⟨0x1A11000 + s * 0x1000000, 0x0⟩
def ENG_DSP_NO_GROUP_COUNT : Fld := ⟨0, 48⟩

/-! Registers of spec/09_scratchpads_banks.md. -/

def ENG_BANK_HANDOVER (s n : Nat) : Reg := ⟨0x1A20000 + s * 0x1000000 + n * 0x8, 0x0⟩
def ENG_BANK_HANDOVER_KIND : Fld := ⟨8, 2⟩
def ENG_BANK_HANDOVER_ID : Fld := ⟨0, 6⟩

def ENG_BANK_STATUS (s n : Nat) : Reg := ⟨0x1A20004 + s * 0x1000000 + n * 0x8, 0x0⟩
def ENG_BANK_STATUS_DRAINING : Fld := ⟨31, 1⟩
def ENG_BANK_STATUS_REFUSED : Fld := ⟨30, 1⟩
def ENG_BANK_STATUS_DISCARDED_WRITES : Fld := ⟨16, 8⟩
def ENG_BANK_STATUS_PEND_KIND : Fld := ⟨14, 2⟩
def ENG_BANK_STATUS_PEND_ID : Fld := ⟨8, 6⟩
def ENG_BANK_STATUS_KIND : Fld := ⟨6, 2⟩
def ENG_BANK_STATUS_ID : Fld := ⟨0, 6⟩

def ENG_BANK_DENIED (s n : Nat) : Reg := ⟨0x1A20100 + s * 0x1000000 + n * 0x8, 0x0⟩
def ENG_BANK_DENIED_COUNT : Fld := ⟨0, 48⟩

/-! Registers of spec/10_traffic_manager.md. -/

def TMG_STATUS (s : Nat) : Reg := ⟨0x1400000 + s * 0x1000000, 0x0⟩
def TMG_STATUS_OVF_REFUSED : Fld := ⟨6, 1⟩
def TMG_STATUS_OVF_ECC : Fld := ⟨5, 1⟩
def TMG_STATUS_OVF_FULL : Fld := ⟨4, 1⟩
def TMG_STATUS_SLOT1_GATES : Fld := ⟨3, 1⟩
def TMG_STATUS_SLOT0_GATES : Fld := ⟨2, 1⟩
def TMG_STATUS_SLOT1_TREE : Fld := ⟨1, 1⟩
def TMG_STATUS_SLOT0_TREE : Fld := ⟨0, 1⟩

def TMG_BUF_STATUS (s : Nat) : Reg := ⟨0x1400008 + s * 0x1000000, 0x0⟩
def TMG_BUF_STATUS_HELD : Fld := ⟨32, 32⟩
def TMG_BUF_STATUS_STORED : Fld := ⟨0, 32⟩

def TMG_OVF_BASE (s : Nat) : Reg := ⟨0x1400010 + s * 0x1000000, 0x0⟩
def TMG_OVF_BASE_ADDR : Fld := ⟨0, 48⟩

def TMG_OVF_SIZE (s : Nat) : Reg := ⟨0x1400018 + s * 0x1000000, 0x0⟩
def TMG_OVF_SIZE_MIB : Fld := ⟨0, 20⟩

def TMG_OVF_USED (s : Nat) : Reg := ⟨0x1400020 + s * 0x1000000, 0x0⟩
def TMG_OVF_USED_BYTES : Fld := ⟨0, 48⟩

def TMG_QSEL (s : Nat) : Reg := ⟨0x1400100 + s * 0x1000000, 0x0⟩
def TMG_QSEL_VALID : Fld := ⟨31, 1⟩
def TMG_QSEL_QUEUE : Fld := ⟨0, 16⟩

def TMG_QDATA0 (s : Nat) : Reg := ⟨0x1400108 + s * 0x1000000, 0x0⟩
def TMG_QDATA0_FRAMES : Fld := ⟨32, 32⟩
def TMG_QDATA0_ONCHIP : Fld := ⟨0, 32⟩

def TMG_QDATA1 (s : Nat) : Reg := ⟨0x1400110 + s * 0x1000000, 0x0⟩
def TMG_QDATA1_DRAM : Fld := ⟨0, 48⟩

def TMG_QDATA2 (s : Nat) : Reg := ⟨0x1400118 + s * 0x1000000, 0x0⟩
def TMG_QDATA2_TAIL_DROPS : Fld := ⟨0, 48⟩

def TMG_QDATA3 (s : Nat) : Reg := ⟨0x1400120 + s * 0x1000000, 0x0⟩
def TMG_QDATA3_TOKENS : Fld := ⟨32, 32⟩
def TMG_QDATA3_DEFICIT : Fld := ⟨0, 32⟩

def TMG_PSEL (s : Nat) : Reg := ⟨0x1400200 + s * 0x1000000, 0x0⟩
def TMG_PSEL_VALID : Fld := ⟨31, 1⟩
def TMG_PSEL_SLOT : Fld := ⟨16, 1⟩
def TMG_PSEL_POLICER : Fld := ⟨0, 16⟩

def TMG_PDATA0 (s : Nat) : Reg := ⟨0x1400208 + s * 0x1000000, 0x0⟩
def TMG_PDATA0_COUNT : Fld := ⟨0, 48⟩

def TMG_PDATA1 (s : Nat) : Reg := ⟨0x1400210 + s * 0x1000000, 0x0⟩
def TMG_PDATA1_COUNT : Fld := ⟨0, 48⟩

def TMG_GATE_STATUS (s n : Nat) : Reg := ⟨0x1401000 + s * 0x1000000 + n * 0x10, 0xFF⟩
def TMG_GATE_STATUS_HEAT : Fld := ⟨32, 32⟩
def TMG_GATE_STATUS_ENTRY : Fld := ⟨16, 10⟩
def TMG_GATE_STATUS_LIST : Fld := ⟨8, 1⟩
def TMG_GATE_STATUS_STATES : Fld := ⟨0, 8⟩

/-! Registers of spec/11_cipher_keys.md. -/

def KEY_CTRL : Reg := ⟨0x600000, 0x0⟩
def KEY_CTRL_PF_MASK : Fld := ⟨4, 4⟩
def KEY_CTRL_SECURE_ONLY : Fld := ⟨0, 1⟩

def KEY_STORE_BASE : Reg := ⟨0x600008, 0x0⟩
def KEY_STORE_BASE_ADDR : Fld := ⟨0, 48⟩

def KEY_LEASE_CFG : Reg := ⟨0x600010, 0x3E8⟩
def KEY_LEASE_CFG_TTL_MS : Fld := ⟨0, 16⟩

def KEY_STATUS : Reg := ⟨0x600018, 0x0⟩
def KEY_STATUS_PINNED : Fld := ⟨32, 32⟩
def KEY_STATUS_DENIED : Fld := ⟨16, 16⟩
def KEY_STATUS_CORRUPT : Fld := ⟨1, 1⟩
def KEY_STATUS_READY : Fld := ⟨0, 1⟩

def KEY_CMD : Reg := ⟨0x600020, 0x0⟩
def KEY_CMD_GO : Fld := ⟨31, 1⟩
def KEY_CMD_OP : Fld := ⟨24, 4⟩
def KEY_CMD_SLOT : Fld := ⟨0, 20⟩

def KEY_CMD_STATUS : Reg := ⟨0x600024, 0x0⟩
def KEY_CMD_STATUS_BUSY : Fld := ⟨31, 1⟩
def KEY_CMD_STATUS_RESULT : Fld := ⟨0, 4⟩

def KEY_INST_ATTR : Reg := ⟨0x600030, 0xFFFF00700000⟩
def KEY_INST_ATTR_OWNER_TF : Fld := ⟨32, 16⟩
def KEY_INST_ATTR_REASON : Fld := ⟨24, 6⟩
def KEY_INST_ATTR_SLICE_BIND : Fld := ⟨20, 3⟩
def KEY_INST_ATTR_POLICY : Fld := ⟨15, 1⟩
def KEY_INST_ATTR_ESN : Fld := ⟨14, 1⟩
def KEY_INST_ATTR_AN : Fld := ⟨12, 2⟩
def KEY_INST_ATTR_DIR : Fld := ⟨8, 1⟩
def KEY_INST_ATTR_PROTO : Fld := ⟨4, 4⟩
def KEY_INST_ATTR_ALG : Fld := ⟨0, 4⟩

def KEY_INST_LIMIT : Reg := ⟨0x600038, 0x0⟩
def KEY_INST_LIMIT_LIMIT : Fld := ⟨0, 64⟩

def KEY_INST_PARAM : Reg := ⟨0x600040, 0x0⟩
def KEY_INST_PARAM_PARAM : Fld := ⟨0, 64⟩

def KEY_INST_SALT0 : Reg := ⟨0x600048, 0x0⟩
def KEY_INST_SALT0_SALT_LO : Fld := ⟨0, 64⟩

def KEY_INST_SALT1 : Reg := ⟨0x600050, 0x0⟩
def KEY_INST_SALT1_SSCI : Fld := ⟨32, 32⟩
def KEY_INST_SALT1_SALT_HI : Fld := ⟨0, 32⟩

def KEY_INST_KEY (n : Nat) : Reg := ⟨0x600060 + n * 0x8, 0x0⟩
def KEY_INST_KEY_KEY : Fld := ⟨0, 64⟩

def KEY_SLOT_SEL : Reg := ⟨0x600100, 0x0⟩
def KEY_SLOT_SEL_VALID : Fld := ⟨31, 1⟩
def KEY_SLOT_SEL_SLOT : Fld := ⟨0, 20⟩

def KEY_SLOT_DATA0 : Reg := ⟨0x600108, 0x0⟩
def KEY_SLOT_DATA0_OWNER_TF : Fld := ⟨48, 16⟩
def KEY_SLOT_DATA0_LEASES : Fld := ⟨42, 6⟩
def KEY_SLOT_DATA0_RETURNED : Fld := ⟨36, 6⟩
def KEY_SLOT_DATA0_ATTR : Fld := ⟨0, 16⟩

def KEY_SLOT_DATA1 : Reg := ⟨0x600110, 0x0⟩
def KEY_SLOT_DATA1_LIMIT : Fld := ⟨0, 64⟩

def KEY_SLOT_DATA2 : Reg := ⟨0x600118, 0x0⟩
def KEY_SLOT_DATA2_NEXT : Fld := ⟨0, 64⟩

def KEY_SLOT_DATA3 : Reg := ⟨0x600120, 0x0⟩
def KEY_SLOT_DATA3_STRANDED : Fld := ⟨2, 62⟩
def KEY_SLOT_DATA3_STATE : Fld := ⟨0, 2⟩

def CPH_STATUS (s : Nat) : Reg := ⟨0x1600000 + s * 0x1000000, 0x0⟩
def CPH_STATUS_LEASES : Fld := ⟨16, 16⟩
def CPH_STATUS_FAULT : Fld := ⟨0, 1⟩

def CPH_FAULT_LOG (s : Nat) : Reg := ⟨0x1600008 + s * 0x1000000, 0x0⟩
def CPH_FAULT_LOG_VALID : Fld := ⟨31, 1⟩
def CPH_FAULT_LOG_OPCODE : Fld := ⟨20, 4⟩
def CPH_FAULT_LOG_SLOT : Fld := ⟨0, 20⟩

/-! Registers of spec/12_storage_compression.md. -/

def CMP_STATUS (s : Nat) : Reg := ⟨0x1700000 + s * 0x1000000, 0x0⟩
def CMP_STATUS_ECC_ERR : Fld := ⟨1, 1⟩
def CMP_STATUS_FAULT : Fld := ⟨0, 1⟩

def CMP_QUEUE (s : Nat) : Reg := ⟨0x1700008 + s * 0x1000000, 0x0⟩
def CMP_QUEUE_STREAM : Fld := ⟨32, 9⟩
def CMP_QUEUE_DECOMP : Fld := ⟨16, 9⟩
def CMP_QUEUE_COMP : Fld := ⟨0, 9⟩

def CMP_FAULT_LOG (s : Nat) : Reg := ⟨0x1700010 + s * 0x1000000, 0x0⟩
def CMP_FAULT_LOG_VALID : Fld := ⟨31, 1⟩
def CMP_FAULT_LOG_OPCODE : Fld := ⟨20, 4⟩
def CMP_FAULT_LOG_KIND : Fld := ⟨16, 4⟩
def CMP_FAULT_LOG_POSITION : Fld := ⟨8, 5⟩
def CMP_FAULT_LOG_THREAD : Fld := ⟨0, 3⟩

/-! Registers of spec/13_host_interface.md. -/

def HIF_LINK_STATUS (n : Nat) : Reg := ⟨0x200000 + n * 0x1000, 0x20000⟩
def HIF_LINK_STATUS_CAUSE : Fld := ⟨28, 4⟩
def HIF_LINK_STATUS_FROZEN : Fld := ⟨24, 1⟩
def HIF_LINK_STATUS_QUIESCED : Fld := ⟨17, 1⟩
def HIF_LINK_STATUS_BME : Fld := ⟨16, 1⟩
def HIF_LINK_STATUS_CXL_CM : Fld := ⟨14, 1⟩
def HIF_LINK_STATUS_FLIT : Fld := ⟨13, 1⟩
def HIF_LINK_STATUS_WIDTH : Fld := ⟨8, 5⟩
def HIF_LINK_STATUS_SPEED : Fld := ⟨4, 4⟩
def HIF_LINK_STATUS_PRESENT : Fld := ⟨3, 1⟩
def HIF_LINK_STATUS_LINK_UP : Fld := ⟨2, 1⟩
def HIF_LINK_STATUS_BIFURCATED : Fld := ⟨1, 1⟩
def HIF_LINK_STATUS_MODE : Fld := ⟨0, 1⟩

def HIF_LINK_CTL (n : Nat) : Reg := ⟨0x200008 + n * 0x1000, 0x0⟩
def HIF_LINK_CTL_CTO_FREEZE : Fld := ⟨1, 1⟩
def HIF_LINK_CTL_FREEZE_NOW : Fld := ⟨0, 1⟩

def HIF_CTO (n : Nat) : Reg := ⟨0x200010 + n * 0x1000, 0x2710⟩
def HIF_CTO_US : Fld := ⟨0, 17⟩

def HIF_RELEASE (n : Nat) : Reg := ⟨0x200018 + n * 0x1000, 0x0⟩
def HIF_RELEASE_GO : Fld := ⟨0, 1⟩

def HIF_FREEZE_LOG (n : Nat) : Reg := ⟨0x200020 + n * 0x1000, 0x0⟩
def HIF_FREEZE_LOG_VALID : Fld := ⟨31, 1⟩
def HIF_FREEZE_LOG_REFUSED : Fld := ⟨30, 1⟩
def HIF_FREEZE_LOG_LAST_CAUSE : Fld := ⟨24, 4⟩
def HIF_FREEZE_LOG_TRIGGERS : Fld := ⟨0, 16⟩

def HIF_FREEZE_TIME (n : Nat) : Reg := ⟨0x200028 + n * 0x1000, 0x0⟩
def HIF_FREEZE_TIME_NS : Fld := ⟨0, 64⟩

def HIF_OUTSTANDING (n : Nat) : Reg := ⟨0x200030 + n * 0x1000, 0x0⟩
def HIF_OUTSTANDING_QUARANTINED : Fld := ⟨32, 16⟩
def HIF_OUTSTANDING_OUTSTANDING : Fld := ⟨0, 16⟩

def HIF_INT_ROUTE (n : Nat) : Reg := ⟨0x208000 + n * 0x4, 0x80000000⟩
def HIF_INT_ROUTE_DEST : Fld := ⟨30, 2⟩
def HIF_INT_ROUTE_PF : Fld := ⟨16, 2⟩
def HIF_INT_ROUTE_VECTOR : Fld := ⟨0, 11⟩

def HIF_EVENT : Reg := ⟨0x209000, 0x0⟩
def HIF_EVENT_LINK_UP : Fld := ⟨8, 4⟩
def HIF_EVENT_QUIESCED : Fld := ⟨4, 4⟩
def HIF_EVENT_FROZE : Fld := ⟨0, 4⟩

/-! Registers of spec/14_rings_tenants.md. -/

def RGM_EVENT : Reg := ⟨0x300000, 0x0⟩
def RGM_EVENT_MEDIATE : Fld := ⟨2, 1⟩
def RGM_EVENT_RESET_DONE : Fld := ⟨1, 1⟩
def RGM_EVENT_RING_ERROR : Fld := ⟨0, 1⟩

def RGM_MEDIATOR : Reg := ⟨0x300008, 0x0⟩
def RGM_MEDIATOR_PF_MASK : Fld := ⟨0, 4⟩

def RGM_RING_SEL (n : Nat) : Reg := ⟨0x300100 + n * 0x100, 0x0⟩
def RGM_RING_SEL_VALID : Fld := ⟨31, 1⟩
def RGM_RING_SEL_RING : Fld := ⟨0, 17⟩

def RGM_RING_BASE (n : Nat) : Reg := ⟨0x300108 + n * 0x100, 0x0⟩
def RGM_RING_BASE_ADDR : Fld := ⟨0, 64⟩

def RGM_RING_PUB (n : Nat) : Reg := ⟨0x300110 + n * 0x100, 0x0⟩
def RGM_RING_PUB_ADDR : Fld := ⟨0, 64⟩

def RGM_RING_CFG (n : Nat) : Reg := ⟨0x300118 + n * 0x100, 0x0⟩
def RGM_RING_CFG_COHERENT : Fld := ⟨63, 1⟩
def RGM_RING_CFG_RO_DEFAULT : Fld := ⟨62, 1⟩
def RGM_RING_CFG_PREFETCH_LINES : Fld := ⟨58, 4⟩
def RGM_RING_CFG_EV_EN : Fld := ⟨49, 1⟩
def RGM_RING_CFG_EV_RING : Fld := ⟨32, 17⟩
def RGM_RING_CFG_KIND : Fld := ⟨28, 4⟩
def RGM_RING_CFG_SIZE_LOG2 : Fld := ⟨24, 4⟩
def RGM_RING_CFG_BUF_KIB : Fld := ⟨19, 5⟩

def RGM_RING_MOD (n : Nat) : Reg := ⟨0x300120 + n * 0x100, 0x100000000⟩
def RGM_RING_MOD_MOD_COUNT : Fld := ⟨32, 16⟩
def RGM_RING_MOD_MOD_TIME : Fld := ⟨16, 16⟩
def RGM_RING_MOD_VECTOR : Fld := ⟨0, 11⟩

def RGM_RING_STATE (n : Nat) : Reg := ⟨0x300128 + n * 0x100, 0x0⟩
def RGM_RING_STATE_HEAD : Fld := ⟨48, 16⟩
def RGM_RING_STATE_PROD : Fld := ⟨32, 16⟩
def RGM_RING_STATE_ERR_INDEX : Fld := ⟨16, 16⟩
def RGM_RING_STATE_ERR_REASON : Fld := ⟨8, 8⟩
def RGM_RING_STATE_STATE : Fld := ⟨0, 3⟩

def RGM_RING_CMD (n : Nat) : Reg := ⟨0x300130 + n * 0x100, 0x0⟩
def RGM_RING_CMD_GO : Fld := ⟨31, 1⟩
def RGM_RING_CMD_OP : Fld := ⟨16, 3⟩
def RGM_RING_CMD_START : Fld := ⟨0, 16⟩

def RGM_RING_CMD_STATUS (n : Nat) : Reg := ⟨0x300134 + n * 0x100, 0x0⟩
def RGM_RING_CMD_STATUS_BUSY : Fld := ⟨31, 1⟩
def RGM_RING_CMD_STATUS_RESULT : Fld := ⟨0, 4⟩

def RGM_MSG_SEL (n : Nat) : Reg := ⟨0x300140 + n * 0x100, 0x0⟩
def RGM_MSG_SEL_ENTRY : Fld := ⟨0, 16⟩

def RGM_MSG_ADDR (n : Nat) : Reg := ⟨0x300148 + n * 0x100, 0x0⟩
def RGM_MSG_ADDR_ADDR : Fld := ⟨0, 64⟩

def RGM_MSG_DATA (n : Nat) : Reg := ⟨0x300150 + n * 0x100, 0x0⟩
def RGM_MSG_DATA_DATA : Fld := ⟨0, 32⟩

def RGM_MSG_CTL (n : Nat) : Reg := ⟨0x300154 + n * 0x100, 0x1⟩
def RGM_MSG_CTL_PENDING : Fld := ⟨1, 1⟩
def RGM_MSG_CTL_MASK : Fld := ⟨0, 1⟩

def RGM_MED_NOTIFY (n : Nat) : Reg := ⟨0x300158 + n * 0x100, 0x0⟩
def RGM_MED_NOTIFY_GO : Fld := ⟨31, 1⟩
def RGM_MED_NOTIFY_TF : Fld := ⟨0, 12⟩

def RGM_MED_PENDING (n : Nat) : Reg := ⟨0x301000 + n * 0x8, 0x0⟩
def RGM_MED_PENDING_PENDING : Fld := ⟨0, 64⟩

def RGM_FUNC_CTL (n : Nat) : Reg := ⟨0x310000 + n * 0x20, 0x0⟩
def RGM_FUNC_CTL_PASID : Fld := ⟨44, 20⟩
def RGM_FUNC_CTL_PF : Fld := ⟨42, 2⟩
def RGM_FUNC_CTL_RING_COUNT : Fld := ⟨29, 13⟩
def RGM_FUNC_CTL_RING_BASE : Fld := ⟨12, 17⟩
def RGM_FUNC_CTL_RESET : Fld := ⟨2, 1⟩
def RGM_FUNC_CTL_ENABLE : Fld := ⟨1, 1⟩
def RGM_FUNC_CTL_ASSIGNED : Fld := ⟨0, 1⟩

def RGM_FUNC_MSG (n : Nat) : Reg := ⟨0x310008 + n * 0x20, 0x0⟩
def RGM_FUNC_MSG_MSG_BASE : Fld := ⟨16, 16⟩
def RGM_FUNC_MSG_MSG_COUNT : Fld := ⟨0, 11⟩

def RGM_FUNC_STATUS (n : Nat) : Reg := ⟨0x31000C + n * 0x20, 0x0⟩
def RGM_FUNC_STATUS_STATE : Fld := ⟨29, 3⟩
def RGM_FUNC_STATUS_REFUSED : Fld := ⟨28, 1⟩
def RGM_FUNC_STATUS_DOORBELL_DROPS : Fld := ⟨0, 16⟩

/-! Registers of spec/15_dma_memory.md. -/

def DMA_CH_CFG (n : Nat) : Reg := ⟨0x400000 + n * 0x100, 0x0⟩
def DMA_CH_CFG_PACE_EN : Fld := ⟨15, 1⟩
def DMA_CH_CFG_PACE_ROLE : Fld := ⟨14, 1⟩
def DMA_CH_CFG_PACE_FIFO : Fld := ⟨10, 4⟩
def DMA_CH_CFG_BIND_ID : Fld := ⟨2, 3⟩
def DMA_CH_CFG_BIND_KIND : Fld := ⟨0, 2⟩

def DMA_CH_CTRL (n : Nat) : Reg := ⟨0x400004 + n * 0x100, 0x0⟩
def DMA_CH_CTRL_ABORT : Fld := ⟨1, 1⟩
def DMA_CH_CTRL_GO : Fld := ⟨0, 1⟩

def DMA_CH_STATUS (n : Nat) : Reg := ⟨0x400008 + n * 0x100, 0x0⟩
def DMA_CH_STATUS_LAST_RESULT : Fld := ⟨16, 16⟩
def DMA_CH_STATUS_QUEUED : Fld := ⟨8, 8⟩
def DMA_CH_STATUS_STATE : Fld := ⟨0, 3⟩

def DMA_CH_DESC (n k : Nat) : Reg := ⟨0x400040 + n * 0x100 + k * 0x8, 0x0⟩
def DMA_CH_DESC_DATA : Fld := ⟨0, 64⟩

def DMA_FIFO_LEVEL (n : Nat) : Reg := ⟨0x408000 + n * 0x20, 0x0⟩
def DMA_FIFO_LEVEL_BYTES : Fld := ⟨0, 48⟩

def DMA_FIFO_MARKS (n : Nat) : Reg := ⟨0x408008 + n * 0x20, 0x0⟩
def DMA_FIFO_MARKS_HIGH : Fld := ⟨32, 32⟩
def DMA_FIFO_MARKS_LOW : Fld := ⟨0, 32⟩

def DMA_FIFO_ADJ (n : Nat) : Reg := ⟨0x408010 + n * 0x20, 0x0⟩
def DMA_FIFO_ADJ_DELTA : Fld := ⟨0, 64⟩

def DMA_EVENT : Reg := ⟨0x409000, 0x0⟩
def DMA_EVENT_DONE : Fld := ⟨0, 64⟩

def DMA_CNT (n : Nat) : Reg := ⟨0x40A000 + n * 0x8, 0x0⟩
def DMA_CNT_COUNT : Fld := ⟨0, 48⟩

def MEM_POP : Reg := ⟨0x500000, 0x0⟩
def MEM_POP_SPEED_MTS : Fld := ⟨18, 14⟩
def MEM_POP_CH_GIB : Fld := ⟨8, 8⟩
def MEM_POP_SETS : Fld := ⟨0, 3⟩

def MEM_GEOM : Reg := ⟨0x500004, 0x50⟩
def MEM_GEOM_ROW_BITS : Fld := ⟨12, 5⟩
def MEM_GEOM_RANK_BITS : Fld := ⟨8, 2⟩
def MEM_GEOM_BANK_BITS : Fld := ⟨4, 4⟩
def MEM_GEOM_COL_BITS : Fld := ⟨0, 4⟩

def MEM_MAP : Reg := ⟨0x500008, 0x0⟩
def MEM_MAP_MAP_REFUSED : Fld := ⟨6, 1⟩
def MEM_MAP_ORDER_2 : Fld := ⟨4, 2⟩
def MEM_MAP_ORDER_1 : Fld := ⟨2, 2⟩
def MEM_MAP_ORDER_0 : Fld := ⟨0, 2⟩

def MEM_REFRESH : Reg := ⟨0x50000C, 0x1800⟩
def MEM_REFRESH_SCRUB_H : Fld := ⟨8, 8⟩
def MEM_REFRESH_REFRESH_2X : Fld := ⟨0, 1⟩

def MEM_PWR : Reg := ⟨0x500010, 0x64000⟩
def MEM_PWR_SR_IDLE_US : Fld := ⟨12, 20⟩
def MEM_PWR_SR_STATE : Fld := ⟨4, 3⟩
def MEM_PWR_SR_EN : Fld := ⟨0, 1⟩

def MEM_PPR : Reg := ⟨0x500018, 0x100000⟩
def MEM_PPR_CE_LIMIT : Fld := ⟨16, 16⟩
def MEM_PPR_HARD_EN : Fld := ⟨1, 1⟩
def MEM_PPR_AUTO : Fld := ⟨0, 1⟩

def MEM_PPR_STATUS (n : Nat) : Reg := ⟨0x500100 + n * 0x4, 0x0⟩
def MEM_PPR_STATUS_HARD_LEFT : Fld := ⟨24, 8⟩
def MEM_PPR_STATUS_HARD_DONE : Fld := ⟨16, 8⟩
def MEM_PPR_STATUS_SOFT_ACTIVE : Fld := ⟨0, 16⟩

def MEM_ECC_LOG : Reg := ⟨0x500020, 0x0⟩
def MEM_ECC_LOG_VALID : Fld := ⟨63, 1⟩
def MEM_ECC_LOG_UNCORRECTABLE : Fld := ⟨62, 1⟩
def MEM_ECC_LOG_CHANNEL : Fld := ⟨56, 4⟩
def MEM_ECC_LOG_ADDR : Fld := ⟨0, 48⟩

def MEM_EVENT : Reg := ⟨0x500028, 0x0⟩
def MEM_EVENT_PPR_DONE : Fld := ⟨3, 1⟩
def MEM_EVENT_CXL_REFUSED : Fld := ⟨2, 1⟩
def MEM_EVENT_SEALED_MISS : Fld := ⟨1, 1⟩
def MEM_EVENT_ECC_UE : Fld := ⟨0, 1⟩

def MEM_GRANULE (n : Nat) : Reg := ⟨0x508000 + n * 0x4, 0x0⟩
def MEM_GRANULE_PENDING : Fld := ⟨31, 1⟩
def MEM_GRANULE_CLASS : Fld := ⟨16, 2⟩
def MEM_GRANULE_TF : Fld := ⟨0, 12⟩

/-! Registers of spec/16_metering_telemetry.md. -/

def MTR_STATUS : Reg := ⟨0x700000, 0x0⟩
def MTR_STATUS_BACKLOG : Fld := ⟨16, 16⟩
def MTR_STATUS_MERGING : Fld := ⟨3, 1⟩
def MTR_STATUS_SIGN_WAIT : Fld := ⟨2, 1⟩
def MTR_STATUS_CLOSED : Fld := ⟨1, 1⟩
def MTR_STATUS_BUF_FULL : Fld := ⟨0, 1⟩

def MTR_EPOCH_START : Reg := ⟨0x700008, 0x0⟩
def MTR_EPOCH_START_NS : Fld := ⟨0, 64⟩

def MTR_EPOCH_CFG : Reg := ⟨0x700010, 0x3C⟩
def MTR_EPOCH_CFG_PEND_S : Fld := ⟨16, 12⟩
def MTR_EPOCH_CFG_LENGTH_S : Fld := ⟨0, 12⟩

def MTR_BUF : Reg := ⟨0x700018, 0x0⟩
def MTR_BUF_MIB : Fld := ⟨48, 16⟩
def MTR_BUF_BASE : Fld := ⟨0, 48⟩

def MTR_RING_BASE : Reg := ⟨0x700020, 0x0⟩
def MTR_RING_BASE_ADDR : Fld := ⟨0, 64⟩

def MTR_RING_CFG : Reg := ⟨0x700028, 0xD⟩
def MTR_RING_CFG_EN : Fld := ⟨31, 1⟩
def MTR_RING_CFG_PF : Fld := ⟨8, 2⟩
def MTR_RING_CFG_SIZE_LOG2 : Fld := ⟨0, 4⟩

def MTR_RING_CONS : Reg := ⟨0x70002C, 0x0⟩
def MTR_RING_CONS_CONS : Fld := ⟨0, 16⟩

def MTR_RING_PROD : Reg := ⟨0x700030, 0x0⟩
def MTR_RING_PROD_PROD : Fld := ⟨0, 16⟩

def MTR_LIVE_SEL : Reg := ⟨0x700100, 0x0⟩
def MTR_LIVE_SEL_VALID : Fld := ⟨31, 1⟩
def MTR_LIVE_SEL_TF : Fld := ⟨0, 12⟩

def MTR_LIVE_DATA (n : Nat) : Reg := ⟨0x700108 + n * 0x8, 0x0⟩
def MTR_LIVE_DATA_COUNT : Fld := ⟨0, 64⟩

def MTR_SK_CFG (n : Nat) : Reg := ⟨0x701000 + n * 0x100, 0x0⟩
def MTR_SK_CFG_EN : Fld := ⟨31, 1⟩
def MTR_SK_CFG_UNIT : Fld := ⟨0, 1⟩

def MTR_SK_KEY (n k : Nat) : Reg := ⟨0x701008 + n * 0x100 + k * 0x8, 0x0⟩
def MTR_SK_KEY_KEY : Fld := ⟨0, 64⟩

def MTR_SK_QUERY (n : Nat) : Reg := ⟨0x701038 + n * 0x100, 0x0⟩
def MTR_SK_QUERY_GO : Fld := ⟨31, 1⟩
def MTR_SK_QUERY_VALID : Fld := ⟨30, 1⟩
def MTR_SK_QUERY_BANK : Fld := ⟨0, 1⟩

def MTR_SK_EST (n : Nat) : Reg := ⟨0x701040 + n * 0x100, 0x0⟩
def MTR_SK_EST_EST : Fld := ⟨0, 64⟩

def MTR_SK_TOTAL (n : Nat) : Reg := ⟨0x701048 + n * 0x100, 0x0⟩
def MTR_SK_TOTAL_N : Fld := ⟨0, 64⟩

def MTR_FR_BASE (n : Nat) : Reg := ⟨0x702000 + n * 0x100, 0x0⟩
def MTR_FR_BASE_ADDR : Fld := ⟨0, 64⟩

def MTR_FR_CFG (n : Nat) : Reg := ⟨0x702008 + n * 0x100, 0x6⟩
def MTR_FR_CFG_EN : Fld := ⟨31, 1⟩
def MTR_FR_CFG_PF : Fld := ⟨8, 2⟩
def MTR_FR_CFG_SIZE_LOG2 : Fld := ⟨0, 4⟩

def MTR_FR_CONS (n : Nat) : Reg := ⟨0x70200C + n * 0x100, 0x0⟩
def MTR_FR_CONS_CONS : Fld := ⟨0, 16⟩

def MTR_FR_PROD (n : Nat) : Reg := ⟨0x702010 + n * 0x100, 0x0⟩
def MTR_FR_PROD_PROD : Fld := ⟨0, 16⟩

/-! Registers of spec/17_management_security.md. -/

def MBX_BOOT_STATUS : Reg := ⟨0x800000, 0x0⟩
def MBX_BOOT_STATUS_PHASE : Fld := ⟨28, 4⟩
def MBX_BOOT_STATUS_TEST : Fld := ⟨16, 12⟩
def MBX_BOOT_STATUS_RESTARTS : Fld := ⟨8, 8⟩
def MBX_BOOT_STATUS_ERROR : Fld := ⟨0, 8⟩

def MBX_LIFECYCLE : Reg := ⟨0x800004, 0x0⟩
def MBX_LIFECYCLE_STATE : Fld := ⟨0, 3⟩

def MBX_FUSE : Reg := ⟨0x800008, 0x0⟩
def MBX_FUSE_ULYAR_MIN : Fld := ⟨16, 8⟩
def MBX_FUSE_IMAGE_MIN : Fld := ⟨8, 8⟩
def MBX_FUSE_REVOKED : Fld := ⟨0, 4⟩

def MBX_POLICY : Reg := ⟨0x80000C, 0x0⟩
def MBX_POLICY_NS_IMAGE : Fld := ⟨0, 1⟩

def MBX_EVENT : Reg := ⟨0x800010, 0x0⟩
def MBX_EVENT_RX_READY : Fld := ⟨4, 4⟩
def MBX_EVENT_TX_EMPTY : Fld := ⟨0, 4⟩

def MBX_NS_DENIED : Reg := ⟨0x800014, 0x0⟩
def MBX_NS_DENIED_COUNT : Fld := ⟨0, 32⟩

def MBX_TX_DATA (n : Nat) : Reg := ⟨0x100000000 + n * 0x1000, 0x0⟩
def MBX_TX_DATA_WORD : Fld := ⟨0, 32⟩

def MBX_RX_DATA (n : Nat) : Reg := ⟨0x100000004 + n * 0x1000, 0x0⟩
def MBX_RX_DATA_WORD : Fld := ⟨0, 32⟩

def MBX_CH_STATUS (n : Nat) : Reg := ⟨0x100000008 + n * 0x1000, 0x2000⟩
def MBX_CH_STATUS_RX_COUNT : Fld := ⟨16, 6⟩
def MBX_CH_STATUS_TX_FREE : Fld := ⟨8, 6⟩
def MBX_CH_STATUS_UNDERRUN : Fld := ⟨3, 1⟩
def MBX_CH_STATUS_OVERRUN : Fld := ⟨2, 1⟩
def MBX_CH_STATUS_RX_READY : Fld := ⟨1, 1⟩
def MBX_CH_STATUS_TX_EMPTY : Fld := ⟨0, 1⟩

def MBX_CH_CTRL (n : Nat) : Reg := ⟨0x10000000C + n * 0x1000, 0x0⟩
def MBX_CH_CTRL_ABORT : Fld := ⟨2, 1⟩
def MBX_CH_CTRL_IE_RX : Fld := ⟨1, 1⟩
def MBX_CH_CTRL_IE_TX : Fld := ⟨0, 1⟩

def MBX_CH_ROUTE (n : Nat) : Reg := ⟨0x100000010 + n * 0x1000, 0x0⟩
def MBX_CH_ROUTE_EN : Fld := ⟨31, 1⟩
def MBX_CH_ROUTE_PF : Fld := ⟨16, 2⟩
def MBX_CH_ROUTE_VECTOR : Fld := ⟨0, 11⟩

/-! Registers of spec/18_reliability.md. -/

def RAS_STATUS : Reg := ⟨0x900000, 0x0⟩
def RAS_STATUS_RECORDS : Fld := ⟨16, 8⟩
def RAS_STATUS_OVERFLOW : Fld := ⟨1, 1⟩
def RAS_STATUS_NEW : Fld := ⟨0, 1⟩

def RAS_STORM_CFG : Reg := ⟨0x900008, 0x3E80100⟩
def RAS_STORM_CFG_WINDOW_MS : Fld := ⟨16, 16⟩
def RAS_STORM_CFG_THRESHOLD : Fld := ⟨0, 16⟩

def RAS_SRAM_CFG : Reg := ⟨0x900010, 0x4E20000000100018⟩
def RAS_SRAM_CFG_WARN_PPM : Fld := ⟨48, 16⟩
def RAS_SRAM_CFG_CE_LIMIT : Fld := ⟨16, 16⟩
def RAS_SRAM_CFG_SCRUB_H : Fld := ⟨0, 8⟩

def RAS_LOST : Reg := ⟨0x900018, 0x0⟩
def RAS_LOST_COUNT : Fld := ⟨0, 32⟩

def RAS_REC_SEL : Reg := ⟨0x900100, 0x0⟩
def RAS_REC_SEL_VALID : Fld := ⟨31, 1⟩
def RAS_REC_SEL_CLEAR : Fld := ⟨30, 1⟩
def RAS_REC_SEL_INDEX : Fld := ⟨0, 8⟩

def RAS_REC_DATA0 : Reg := ⟨0x900108, 0x0⟩
def RAS_REC_DATA0_FIRST_NS : Fld := ⟨0, 64⟩

def RAS_REC_DATA1 : Reg := ⟨0x900110, 0x0⟩
def RAS_REC_DATA1_DETAIL : Fld := ⟨0, 64⟩

def RAS_REC_DATA2 : Reg := ⟨0x900118, 0x0⟩
def RAS_REC_DATA2_ID : Fld := ⟨48, 16⟩
def RAS_REC_DATA2_COUNT : Fld := ⟨32, 16⟩
def RAS_REC_DATA2_WINDOW_COUNT : Fld := ⟨16, 16⟩
def RAS_REC_DATA2_KIND : Fld := ⟨8, 8⟩
def RAS_REC_DATA2_STORM : Fld := ⟨0, 1⟩

def RAS_REC_DATA3 : Reg := ⟨0x900120, 0x0⟩
def RAS_REC_DATA3_SLICE : Fld := ⟨56, 8⟩
def RAS_REC_DATA3_POSITION : Fld := ⟨48, 8⟩
def RAS_REC_DATA3_THREAD : Fld := ⟨40, 8⟩
def RAS_REC_DATA3_CODE : Fld := ⟨0, 32⟩

def RAS_BIST_STATE (n : Nat) : Reg := ⟨0x901000 + n * 0x4, 0x0⟩
def RAS_BIST_STATE_RESULT : Fld := ⟨28, 4⟩
def RAS_BIST_STATE_FIRST_BAD : Fld := ⟨0, 16⟩

def RAS_BIST_SIG (n : Nat) : Reg := ⟨0x902000 + n * 0x8, 0x0⟩
def RAS_BIST_SIG_SIG : Fld := ⟨0, 64⟩

def RAS_AGING (n : Nat) : Reg := ⟨0x904000 + n * 0x4, 0x0⟩
def RAS_AGING_WARN : Fld := ⟨31, 1⟩
def RAS_AGING_DRIFT_PPM : Fld := ⟨0, 20⟩

/-! Registers of spec/19_power_reset_boot.md. -/

def PWR_CMD : Reg := ⟨0xA00000, 0x0⟩
def PWR_CMD_TARGET : Fld := ⟨0, 2⟩

def PWR_ALLOW : Reg := ⟨0xA00004, 0x1⟩
def PWR_ALLOW_ALLOW : Fld := ⟨1, 3⟩
def PWR_ALLOW_FULL : Fld := ⟨0, 1⟩

def PWR_HALF_SLICES : Reg := ⟨0xA00008, 0x7⟩
def PWR_HALF_SLICES_MASK : Fld := ⟨0, 6⟩

def PWR_ENVELOPE : Reg := ⟨0xA00010, 0x0⟩
def PWR_ENVELOPE_CAP_W : Fld := ⟨48, 16⟩
def PWR_ENVELOPE_LATENCY_NS : Fld := ⟨8, 24⟩
def PWR_ENVELOPE_CLK_GATE : Fld := ⟨2, 1⟩
def PWR_ENVELOPE_DRAM_SR : Fld := ⟨1, 1⟩
def PWR_ENVELOPE_IDLE_STEP : Fld := ⟨0, 1⟩

def PWR_STATUS : Reg := ⟨0xA00018, 0x3F0000⟩
def PWR_STATUS_SLICES : Fld := ⟨16, 6⟩
def PWR_STATUS_CHANGED : Fld := ⟨10, 1⟩
def PWR_STATUS_REFUSED : Fld := ⟨9, 1⟩
def PWR_STATUS_CAP_EXCEEDED : Fld := ⟨8, 1⟩
def PWR_STATUS_EASY_WAIT : Fld := ⟨5, 1⟩
def PWR_STATUS_IN_TRANSITION : Fld := ⟨4, 1⟩
def PWR_STATUS_IMPLIED : Fld := ⟨2, 2⟩
def PWR_STATUS_STATE : Fld := ⟨0, 2⟩

def PWR_MEASURE : Reg := ⟨0xA00020, 0x0⟩
def PWR_MEASURE_MAX_DW : Fld := ⟨16, 16⟩
def PWR_MEASURE_AVG_DW : Fld := ⟨0, 16⟩

def PWR_RESET : Reg := ⟨0xA00028, 0x0⟩
def PWR_RESET_WARM : Fld := ⟨31, 1⟩
def PWR_RESET_SLICE : Fld := ⟨0, 6⟩

def PWR_RESET_STATUS : Reg := ⟨0xA0002C, 0x0⟩
def PWR_RESET_STATUS_WARM_DONE : Fld := ⟨31, 1⟩
def PWR_RESET_STATUS_SLICE_BUSY : Fld := ⟨16, 6⟩
def PWR_RESET_STATUS_SLICE_DONE : Fld := ⟨0, 6⟩

end Sys2Proof.Machine
end

