-- ==== Sys2Proof/Machine/State.lean ====
section
/-! DEFINITION. The state of the N3200. `Dev` holds everything but the byte memories and the queue of commands: every
software-visible register (`regs`, one home for each, an unlisted one at its reset value), every statistics counter
(`cnt`), and the state behind them, unit by unit. Sparse tables list what differs from the reset value. -/
namespace Sys2Proof.Machine

/-- What the part sends out, newest first in `Dev.out`: the model's record of it. -/
inductive Emit where
  /-- The value a register read returns. -/
  | readData (v : Nat)
  /-- A memory write on PF `pf`'s link; `pasid` when made for a TF (13 R356), `ro` and `ido` its Relaxed Ordering and ID-Based Ordering bits (R357, R358). -/
  | hostWrite (pf : Nat) (pasid : Option Nat) (ro ido : Bool) (addr : Nat) (data : List Byte)
  /-- A memory read request issued on PF `pf`'s link with tag `tag`. -/
  | hostRead (pf tag : Nat) (pasid : Option Nat) (ro ido : Bool) (addr len : Nat)
  /-- A coherent line read through CXL.cache (14 R398). -/
  | cacheRead (pf addr : Nat)
  /-- An MSI-X message of PF `pf`, vector `vec` (13 R361), with its ID-Based Ordering bit (R357). -/
  | msix (pf vec : Nat) (ido : Bool)
  /-- A TF's message from the message store on PF `pf`'s link (14 R400): the TF, its PASID (13 R356), the ID-Based Ordering bit, address and data. -/
  | tfMsg (pf tf pasid : Nat) (ido : Bool) (addr data : Nat)
  /-- An interrupt source delivered to Ulyar (13 R360). -/
  | ulyarIrq (source : Nat)
  /-- The frame a port transmits, its padding included, its FCS not. -/
  | frameTx (port : Nat) (data : List Byte)
  /-- What a port in far-end loopback sends back to the module (04 R96). -/
  | loopBack (port : Nat) (data : List Byte)
  /-- A frame handed to Ulyar: from a firmware exception queue (05 R119) or the RGMII port (17 R466). -/
  | ulyarFrame (data : List Byte)
  /-- A PLDM event for a fault source (18 R487, R488). -/
  | pldmEvent (id : Nat)
  /-- A write of the VDD_CMP regulator's set point in mV over AVSBus (20 R506). -/
  | avsWrite (mv : Nat)
  /-- The level of an output pin, by name. -/
  | pin (name : String) (high : Bool)
  /-- An answer to a configuration request: its data, or retry status (13 R345). -/
  | cfgData (v : Nat)
  | cfgRetry
  /-- An AER report on PF `pf`'s link. -/
  | aer (pf : Nat) (what : String)
  /-- The answer to a CXL.mem read, and whether it is marked poisoned (15 R412, R424). -/
  | cxlData (pf : Nat) (data : List Byte) (poisoned : Bool)
  /-- A response of the SPDM responder (17 R467): which, and what it carries. -/
  | spdm (name : String) (data : List Byte)
  /-- A message returned to the management controller on a channel (17 R456), or, as channel 8, in answer to an MCTP control message. -/
  | reply (chan : Nat) (data : List Byte)
  deriving DecidableEq, Repr

/-- The registers whose reset value the straps give (13 R339, R343; log entry 2: no strap set): HIF_LINK_STATUS of PF0 and PF2
shows PRESENT. -/
def resetRegs : Tab Word :=
  [((HIF_LINK_STATUS 0).addr, 0x20008), ((HIF_LINK_STATUS 2).addr, 0x20008)]

/-- The kinds of deadlines, in the order that breaks ties (02 R55). -/
inductive DueKind where
  | gate | wheel | lease | wake | epochStop
  deriving DecidableEq, Repr

/-- A deadline that a tick found due: its time in ns, its kind, and the number of the thing it belongs to. -/
structure Due where
  t : Nat
  kind : DueKind
  id : Nat
  deriving DecidableEq, Repr

/-- A command of NTU_CMD.OP that waits for the next tick (02 R49), with the signed adjustment in 2^-32 ns it was given. -/
inductive NtuOp where
  | step (adj : Int)
  | slew (adj : Int)
  | abandon
  deriving DecidableEq, Repr

/-- The network time unit (02). -/
structure Ntu where
  /-- Network time in units of 2^-32 ns (R40, R41). -/
  acc : Nat
  /-- The latest network time reached (2^-32 ns), before steps back too: what buckets and credits fill by (10 R269). -/
  peak : Nat
  /-- Ticks since cold reset: what the per-tick buckets count by (05 R115). -/
  ticks : Nat
  /-- The commands of NTU_CMD that wait for the next tick, oldest first (R49). -/
  ops : List NtuOp
  /-- The unapplied part of the current or abandoned slew, signed, in 2^-32 ns (R50, R51). -/
  slewRem : Int
  /-- The slew's accrued billionths of 2^-32 ns, not yet a whole one. -/
  slewPpb : Nat
  /-- The fraction of the PPS_IN capture, in 2^-16 ns (R58). -/
  ppsFrac : Nat
  /-- The second boundary (ns) the count has reached and whose PPS_OUT edge has not been driven (R59). -/
  ppsDue : Option Nat
  /-- The level of PPS_OUT. -/
  ppsHigh : Bool
  /-- The network time (ns) at which the pulse ends. -/
  ppsEnd : Nat
  deriving DecidableEq, Repr

/-- A key field of a step (06 R129). -/
structure KeyField where
  src : Nat
  occ : Nat
  hdr : Nat
  off : Nat
  width : Nat
  deriving DecidableEq, Repr

/-- A metering definition (16 R442). -/
structure MtrDef where
  exempt : Bool
  sketch : Bool
  sample : Bool
  sampleLog : Nat
  adj : Int
  dir : Nat
  deriving DecidableEq, Repr

/-- The metering body of an image (16 R442). -/
structure MtrBody where
  epochS : Nat
  keyBytes : Nat
  fields : List KeyField
  defs : List MtrDef
  deriving DecidableEq, Repr

/-- A parse tree node (05 R103). -/
structure PNode where
  hdrId : Nat
  reject : Bool
  tunnel : Bool
  minLen : Nat
  lenBase : Nat
  lenOff : Nat
  lenWidth : Nat
  lenShift : Nat
  selOff : Nat
  selWidth : Nat
  claimOff : Nat
  claimWidth : Nat
  claimMode : Nat
  claimShift : Nat
  claimAdd : Int
  defaultNext : Nat
  transBase : Nat
  transCount : Nat
  deriving DecidableEq, Repr

/-- A parse tree transition (05 R104). -/
structure PTrans where
  value : Nat
  mask : Nat
  next : Nat
  deriving DecidableEq, Repr

/-- A disposition of a class that is not PARSE_OK (05 R112). -/
structure Disp where
  action : Nat
  reason : Nat
  group : Nat
  deriving DecidableEq, Repr

/-- A parse tree body (05 R102). -/
structure ParseBody where
  maxDepth : Nat
  hostRoot : Nat
  portRoot : List Nat
  roots : List Nat
  disp : List Disp
  nodes : List PNode
  trans : List PTrans
  deriving DecidableEq, Repr

/-- A step of a lookup program (06 R128). -/
structure ClsStep where
  table : Nat
  learn : Bool
  stopHit : Bool
  stopMiss : Bool
  skipAbsent : Bool
  missList : Nat
  fields : List KeyField
  deriving DecidableEq, Repr

/-- A table declaration (06 R124); `kind` 1 EM, 2 FLOW, 3 LPM4, 4 LPM6, 5 RULE. -/
structure TblDecl where
  id : Nat
  kind : Nat
  keyBytes : Nat
  flags : Nat
  capacity : Nat
  layoutHash : Nat
  ageS : Nat
  learnList : Nat
  treeKib : Nat
  deriving DecidableEq, Repr

/-- An action word (06 R140). -/
structure ActWord where
  op : Nat
  a : Nat
  b : Nat
  c : Nat
  deriving DecidableEq, Repr

/-- A header template (06 R145). -/
structure Template where
  bytes : List Byte
  len : Nat
  ipv4 : Bool
  patchOff : Nat
  patchWidth : Nat
  lenfixOff : Nat
  lenfixAdd : Int
  deriving DecidableEq, Repr

/-- A mirror session (06 R148). -/
structure MirrorSes where
  kind : Nat
  target : Nat
  queue : Nat
  trunc : Nat
  deriving DecidableEq, Repr

/-- The learning limits of a port (06 R152). -/
structure LearnLim where
  maxEntries : Nat
  rate : Nat
  burst : Nat
  excess : Nat
  deriving DecidableEq, Repr

/-- An initial entry of a table: its TABLE_ID and its update record (06 R123). -/
structure InitEnt where
  table : Nat
  record : List Byte
  deriving DecidableEq, Repr

/-- A classification body (06 R123). -/
structure ClsBody where
  ipv4Hdr : Nat
  programs : List (Nat × Nat)
  limits : List LearnLim
  mirrors : List MirrorSes
  tables : List TblDecl
  steps : List ClsStep
  lists : List (List ActWord)
  templates : List Template
  init : List InitEnt
  deriving DecidableEq, Repr

/-- An engine position's entry of the thread configuration (08 R219). -/
structure PosCfg where
  stroke : List Nat
  sweep : List Nat
  weight : List Nat
  deriving DecidableEq, Repr

/-- A dispatch group (08 R219): a byte of member threads per position, and the queue's length. -/
structure Group where
  members : List Nat
  depth : Nat
  deriving DecidableEq, Repr

/-- An engine code body (07 R172). -/
structure CodeBody where
  nodlOk : Bool
  compat : Bool
  engineMask : Nat
  code : List Byte
  data : List Byte
  quad : List Byte
  entry : List Nat
  trapv : List Nat
  pos : List PosCfg
  groups : List Group
  deriving DecidableEq, Repr

/-- A node record of the scheduler tree (10 R263). -/
structure NodeRec where
  parent : Nat
  slot : Nat
  shaped : Bool
  cbs : Bool
  privileged : Bool
  gated : Bool
  quantum : Nat
  creditMax : Nat
  rate : Nat
  burst : Nat
  gate : Nat
  tf : Nat
  onchip : Nat
  dram : Nat
  ring : Nat
  deriving DecidableEq, Repr

/-- A policer record (10 R274). -/
structure PolRec where
  cir : Nat
  cbs : Nat
  deriving DecidableEq, Repr

/-- A scheduler tree body (10 R262). -/
structure SchedBody where
  ports : List NodeRec
  classes : List NodeRec
  tenants : List NodeRec
  queues : List NodeRec
  policers : List PolRec
  deriving DecidableEq, Repr

/-- A gate list (10 R280); an entry is its STATES and DURATION_NS. -/
structure GateList where
  port : Nat
  cycle : Nat
  base : Nat
  entries : List (Nat × Nat)
  deriving DecidableEq, Repr

/-- The bodies an image carries for one slice (03 R60); an absent one is an empty body. -/
structure SliceImg where
  parse : Option ParseBody
  cls : Option ClsBody
  code : Option CodeBody
  sched : Option SchedBody
  gates : Option (List GateList)
  deriving DecidableEq, Repr

/-- A slice for which an image carries no body. -/
def SliceImg.empty : SliceImg := ⟨none, none, none, none, none⟩

/-- Slice spreading of a port (01 R21): the fields named, as bit offset and width from frame byte 0, and the Toeplitz key. -/
structure Spread where
  port : Nat
  fields : List (Nat × Nat)
  key : List Byte
  deriving DecidableEq, Repr

/-- A verified image: its bodies, its metering body (16), and what its bytes say of spreading and of the slice each transmit ring is bound to. -/
structure Image where
  buildId : Nat
  slices : List SliceImg
  mtr : MtrBody
  spread : List Spread
  bytes : List Byte
  /-- The free value that places the initial entries of its tables (06 R139 gives no index). -/
  fill : Nat
  deriving DecidableEq, Repr

/-- An epoch slot that holds an epoch (03 R66), or the image of a load in WAIT_SWITCH: its number, the first stamp (ns) that takes it (2^64 for a load verified after its switch time, until
its switch), and its image. -/
structure EpochSlot where
  epoch : Nat
  since : Nat
  img : Image
  deriving DecidableEq, Repr

/-- The load in progress (03 R63, R74): the mailbox channel that asked and its tag, the staged bytes, the image once verified, and the time (ns) at which
it began to wait for a drain. -/
structure Load where
  chan : Nat
  tag : Nat
  bytes : List Byte
  image : Option Image
  waitSince : Nat
  deriving DecidableEq, Repr

/-- What a network port holds beside its registers (04), by port number 0 to 15. -/
structure PortSt where
  /-- The die-local lane whose logical position a sparing in progress moves, and the reference time (ns) it began (R93). -/
  sparing : Option (Nat × Nat)
  /-- The port is DOWN only because no slice of its die is in service (R80). -/
  noSlice : Bool
  /-- The reference time (ns) since which the transmit side has been idle (R89). -/
  idleSince : Nat
  /-- The reference time (ns) at which transmit or receive low-power idle began. -/
  txLpiAt : Nat
  rxLpiAt : Nat
  /-- The reference time (ns) before which no transmission starts after a wake request (R89). -/
  wakeEnd : Option Nat
  /-- The frame on the wire, the class it left (none for an orphan queue's), the network time at which its start of frame passes, and that at which its occupancy of the port ends (2^-32 ns /
  125; 10 R282; 02 R47). -/
  onWire : Option Nat
  wireClass : Option Nat
  sfdAt : Nat
  busyTo : Nat
  deriving DecidableEq, Repr

/-- A port after reset. -/
def PortSt.reset : PortSt := ⟨none, false, 0, 0, 0, none, none, none, 0, 0⟩

/-- A header stack entry (05 R114). -/
structure StackEnt where
  hdr : Nat
  off : Nat
  len : Nat
  tunnel : Bool
  conflict : Bool
  deriving DecidableEq, Repr

/-- What a walk leaves in the metadata block (05 R113) beside what the frame carries itself. -/
structure ParseMeta where
  pclass : Nat
  flags : Nat
  tunnels : Nat
  payloadOff : Nat
  trustedEnd : Nat
  conflictIdx : Nat
  root : Nat
  lastNode : Nat
  claimedEnd : Nat
  stack : List StackEnt
  deriving DecidableEq, Repr

/-- The metadata before any walk. -/
def ParseMeta.none : ParseMeta := ⟨0, 0, 0, 0, 0, 0xFF, 0, 0, 0, []⟩

/-- Where a frame comes from: a network port, a transmit ring (and the chain's number), or a mirror action (06 R148). -/
inductive Origin where
  | net (port : Nat)
  | ring (ring chain : Nat)
  | mirror
  deriving DecidableEq, Repr

/-- The queue a frame is sent to: a network port's or a host queue (`host`), the port or TF named, and the queue index (10 R261). -/
structure QTarget where
  host : Bool
  target : Nat
  queue : Nat
  deriving DecidableEq, Repr

/-- A CIPHER action (06 R141): operation profile and key slot; where the header that the profile's STACK_INDEX names now begins, and the offset and length of the header P that now ends
there (11 R306); the unit it comes from (05 R117); and its place in the order in which operations entered the cipher block, among the numbers of offload commands (11 R311). -/
structure CiphAct where
  profile : Nat
  slot : Nat
  place : Option Nat
  before : Option (Nat × Nat)
  source : Nat
  entered : Nat
  deriving DecidableEq, Repr

/-- What a terminal action asks for once the earlier actions are applied (06 R141, R142). -/
inductive Terminal where
  | queue (t : QTarget)
  | steer (group : Nat)
  | recirc (root : Nat)
  | drop
  | exception (fw : Bool) (reason : Nat)
  deriving DecidableEq, Repr

/-- How far a frame has come on its path (01 R25). -/
inductive Stage where
  /-- In the MAC and the packet buffer, its end not yet received; the buffer bytes reserved (04 R84), and whether its port has lost a lane or alignment meanwhile (R83). -/
  | receiving (reserved : Nat) (broken : Bool)
  /-- In the packet buffer, waiting for the parser with this root index (05 R100). -/
  | stored (root : Nat)
  /-- Parsed with class PARSE_OK, waiting for the classifier. -/
  | parsed
  /-- Waiting for the end of a CIPHER action, its terminal action after it (06 R142). -/
  | cipher (act : CiphAct) (next : Terminal)
  /-- In the dispatch queue of a group (08 R222). -/
  | waitGroup (group : Nat)
  /-- Held by a thread: position and thread number (07). -/
  | held (pos thread : Nat)
  /-- Released by an engine, waiting for its turn in its order key (08 R224), with what follows. -/
  | released (cipher : Option CiphAct) (next : Terminal)
  /-- On its way to the traffic manager of slice `tm` (10 R261). -/
  | toQueue (t : QTarget)
  /-- In a queue's on-chip part, or its overflow part. -/
  | queued (tm queue : Nat) (overflow : Bool)
  /-- On the wire of a port. -/
  | wire (port : Nat)
  /-- Chosen for a host ring, waiting for its delivery (14 R390). -/
  | toRing (ring : Nat)
  deriving DecidableEq, Repr

/-- The physical facts in force when a frame reached step 1 of 01 R25, or step 3 of R26, under which it is finished (01 R29): its slice's PRS_EXC_CFG, and every port's MAX_FRAME. -/
structure Facts where
  exc : Word
  maxFrames : List Nat
  deriving DecidableEq, Repr

/-- The facts before any register write. -/
def Facts.reset : Facts := ⟨0x1000002, List.replicate 16 0x2400⟩

/-- A frame in the N3200: its F bytes (FCS excluded), its slice, its origin, its start-of-frame stamp in 2^-16 ns, its epoch slot, its pass, its TF (0xFFFF none),
the physical facts it is finished under, the spreading hash, whether its egress is to be stamped, the user words U0 to U7, the metadata of its last walk, its POLICE and METER actions, the order key it was dispatched
under, and how far it has come. -/
structure Frame where
  data : List Byte
  slice : Nat
  origin : Origin
  stamp : Nat
  slot : Nat
  pass : Nat
  tf : Nat
  facts : Facts
  hash : Nat
  wantTs : Bool
  user : List Nat
  pmeta : ParseMeta
  police : List Nat
  meters : List Nat
  orderKey : Option Nat
  stage : Stage
  deriving DecidableEq, Repr

/-- A token bucket filled per tick (05 R115): its units, and the tick at which it was last filled. -/
structure TickBucket where
  units : Nat
  last : Nat
  deriving DecidableEq, Repr

/-- An entry of a table (06 R137): KEY, VALUE or ADDR bytes; MASK bytes of a rule; DOMAIN and LEN of a prefix; PRIORITY and RULE_ID of a rule; ACTION_LIST; PARAM;
the LEARNED and HIT flags; and whether it has an uncorrectable error (R156). Every listed entry is VALID. -/
structure Entry where
  key : List Byte
  mask : List Byte
  dom : Nat
  len : Nat
  prio : Nat
  ruleId : Nat
  list : Nat
  param : Nat
  learned : Bool
  hit : Bool
  bad : Bool
  deriving DecidableEq, Repr

/-- A node of a rule tree (R136): an inner node cuts `bits` key bits at `off` and goes to `base` plus them; a leaf compares `bits` rules from `base`. -/
structure TreeNode where
  leaf : Bool
  bits : Nat
  off : Nat
  base : Nat
  deriving DecidableEq, Repr

/-- A loaded rule tree bank (R135, R136): its nodes, and the indices of the rules that INSERT added since, which every lookup also compares. -/
structure TreeBank where
  nodes : List TreeNode
  added : List Nat
  deriving DecidableEq, Repr

/-- A stored table: its declaration, its entries by index, for a RULE table whose active bank was loaded that bank (R135), and the network time in ns up to which its
sweeps are done (R155). -/
structure Table where
  decl : TblDecl
  entries : Tab Entry
  tree : Option TreeBank
  sweptAt : Nat
  deriving DecidableEq, Repr

/-- A skim pass in progress (R161): the stored table, the index its next chunk begins at, the indices written since that chunk was fetched, the
difference records written, and the reference time in ns before which RATE_K lets no further chunk be compared (R162). -/
structure Skim where
  tab : Nat
  next : Nat
  written : List Nat
  wrote : Nat
  rest : Nat
  deriving DecidableEq, Repr

/-- A thread's states (08 R225). -/
inductive TState where
  | stopped | running | waiting | trapped | halted | stopping
  deriving DecidableEq, Repr

/-- The enables of the wait a thread is in (07 R205), and the register its reason goes to. -/
structure WaitArm where
  rd : Nat
  frame : Bool
  chan : Bool
  ticket : Bool
  ext : Bool
  nodl : Bool
  deriving DecidableEq, Repr

/-- A SEND of more than one word whose last word is not yet written (08 R237, R239): destination position and channel, and the thread's PC and predicates before the SEND. -/
structure Sending where
  pos : Nat
  chan : Nat
  pc : Nat
  p : Nat
  deriving DecidableEq, Repr

/-- A thread (07 R164, R207). Registers not listed in `g` hold 0; bit n of `p` is predicate pn. -/
structure Thr where
  g : Tab Word
  p : Nat
  pc : Nat
  st : TState
  /-- The state before a debugger halt (08 R225). -/
  prev : TState
  /-- The held frame and the deck's window offset (07 R192). -/
  frame : Option Nat
  win : Nat
  /-- TICKETS: BUSY, DONE, and which busy tickets are FRAME-flagged (07 R202). -/
  busy : Nat
  done : Nat
  frameTk : Nat
  /-- WAKE_AT and whether it is armed (07 R205). -/
  wakeAt : Nat
  armed : Bool
  chanMask : Nat
  events : Nat
  /-- MIGRATED holds until EVENTS is next written (08 R231). -/
  migrated : Bool
  cause : Nat
  tpc : Nat
  taddr : Nat
  tfault : Nat
  tvec : Nat
  inHandler : Bool
  cycles : Nat
  /-- The epoch slot of the code the thread runs (03 R69). -/
  slot : Nat
  wait : Option WaitArm
  sending : Option Sending
  /-- The wait's deadline has fired (07 R205; 08 R230). -/
  fired : Bool
  /-- The debugger lets one instruction issue (08 R241). -/
  stepOnce : Bool
  /-- An access the thread has issued is held by a bank's handover (09 R253 step 4, R255). -/
  heldAcc : Bool
  /-- The bank that held it, and its place among the accesses held there (0: none) (09 R253 step 5). -/
  heldBank : Nat
  heldSeq : Nat
  /-- The debugger's halt waits for the access held to end (08 R241). -/
  haltNext : Bool
  /-- The bytes of the held frame as they stood when a FRAME-flagged ticket locked it (07 R202). -/
  shot : List Byte
  deriving DecidableEq, Repr

/-- A thread in the entry state of R166, before its entry point is set. -/
def Thr.reset : Thr where
  g := []
  p := 1
  pc := 0
  st := .stopped
  prev := .stopped
  frame := none
  win := 0
  busy := 0
  done := 0
  frameTk := 0
  wakeAt := 0
  armed := false
  chanMask := 0
  events := 0
  migrated := false
  cause := 0
  tpc := 0
  taddr := 0
  tfault := 0
  tvec := 1
  inHandler := false
  cycles := 0
  slot := 0
  wait := none
  sending := none
  fired := false
  stepOnce := false
  heldAcc := false
  heldBank := 0
  heldSeq := 0
  haltNext := false
  shot := []

/-- A message in a receive channel (08 R236): sender position and thread, and its words. -/
structure Msg where
  pos : Nat
  thread : Nat
  words : List Word
  deriving DecidableEq, Repr

/-- A receive channel: visible messages in the order they became visible, and reserved slots being filled. -/
structure Chan where
  vis : List Msg
  res : List Msg
  deriving DecidableEq, Repr

/-- The stall detector of an engine position (08 R234, R235): STALL pending for T0, and whether this episode has been reported. -/
structure StallSt where
  pending : Bool
  told : Bool
  deriving DecidableEq, Repr

/-- The round of an engine in compatibility mode (08 R217): each thread's credit, and the thread that issued last. -/
structure WrrSt where
  credit : List Nat
  last : Nat
  deriving DecidableEq, Repr

/-- The round at the first cycle of compatibility mode. -/
def WrrSt.fresh : WrrSt := ⟨[0, 0, 0, 0, 0, 0, 0, 0], 7⟩

/-- An access of Ulyar through the exception path that a handover holds (09 R253, R256): slice, bank, word, and the value of a write. -/
structure ExcAcc where
  slice : Nat
  bank : Nat
  word : Nat
  write : Option Word
  deriving DecidableEq, Repr

/-- What the stream unit keeps of a PDU left open (12 R330 to R334): the context as it wrote it back, the placement entry read at the header with its number (0xFFFF: none), the bytes placed so
far, and why the data is not placed (0: it is). -/
structure PduOpen where
  ctx : List Byte
  entry : List Byte
  index : Nat
  placed : Nat
  reason : Nat
  deriving DecidableEq, Repr

/-- A migration in progress of a cluster (08 R243): the position in its slice, when it began (ns by `Dev.refNs`), and whether the position is frozen. -/
structure Mig where
  pos : Nat
  start : Nat
  frozen : Bool
  deriving DecidableEq, Repr

/-- An offload command in progress: which unit, whose ticket, where its descriptor lies, the frame it works on, and the descriptor's bytes as they were read (07 R200). -/
structure OpRec where
  unit : Nat
  slice : Nat
  pos : Nat
  thread : Nat
  ticket : Nat
  addr : Nat
  frame : Option Nat
  desc : List Byte
  deriving DecidableEq, Repr

/-- What a node of the scheduling tree holds (10 R267, R269, R273): as a member its deficit and last_v and whether it counts as eligible, and whether it
has been empty since it last was; as a parent its group's v, cur and nxt and the member in service; its shaper bucket in 10^-9 byte x 2^-32 (`none`: full, SHAPE_BURST)
and the latest network time (2^-32 ns) it was filled by; its CBS credit in 10^-6 bit x 2^-32 / 25, the latest time it was brought up to, and the time to which it rises as things
stand (no later than `creditAt`: it does not rise). -/
structure NodeSt where
  deficit : Nat
  lastV : Nat
  elig : Bool
  wasEmpty : Bool
  v : Nat
  cur : List Nat
  nxt : List Nat
  serving : Option Nat
  tokens : Option Int
  filled : Nat
  credit : Int
  creditAt : Nat
  riseTo : Nat
  deriving DecidableEq, Repr

/-- A node that has just come to exist (R267, R285). -/
def NodeSt.fresh : NodeSt := ⟨0, 0, false, true, 0, [], [], none, none, 0, 0, 0, 0⟩

/-- A queue: the frames of its on-chip and overflow parts, oldest first, and TAIL_DROPS (R277); `orphan` holds the port node, the ring and the tenant's TF of a queue that the tree in force
no longer has (03 R70). -/
structure QueueSt where
  on : List Nat
  ov : List Nat
  tailDrops : Nat
  orphan : Option (Nat × Nat × Nat)
  deriving DecidableEq, Repr

/-- A timing wheel entry (R270): the node, its eligible time E (ns), and which wheel. -/
structure WheelEnt where
  node : Nat
  e : Nat
  coarse : Bool
  deriving DecidableEq, Repr

/-- A policer (R274): its bucket as a node's (`none`: full), the latest network time it was filled by, and its counts. -/
structure PolSt where
  tokens : Option Int
  filled : Nat
  conform : Nat
  dropped : Nat
  deriving DecidableEq, Repr

/-- A port's gate schedule (R280 to R283): the list in force, the lists that will replace it, one after another, each with the time it does, the heat and entry governing, and the longest open time of each gate (ns; none for unbounded). -/
structure GateSt where
  cur : Option GateList
  next : List (GateList × Nat)
  heat : Nat
  entry : Nat
  longest : List (Option Nat)
  deriving DecidableEq, Repr

/-- A lease of a slice on a slot (11 R297 to R299): the uses `[next, stop)` it still holds, when it expires (ns of network time), and the order of its last use. -/
structure Lease where
  next : Nat
  stop : Nat
  expiry : Nat
  used : Nat
  deriving DecidableEq, Repr

/-- A key slot that is not EMPTY (11 R287, R288, R292, R297): its attributes as KEY_INST_ATTR held them, LIMIT, PARAM, SALT (12 bytes), SSCI, KEY (64 bytes); its state 1 ACTIVE, 2 SPENT,
3 REVOKED; whether its record failed authentication; whether an ERASE of it runs; NEXT, RET by slice as a range, leases by slice, STRANDED; the order of its last draw; and its record as it was sealed. -/
structure KeySlot where
  attr : Word
  limit : Nat
  param : Nat
  salt : List Byte
  ssci : Nat
  key : List Byte
  state : Nat
  corrupt : Bool
  erasing : Bool
  next : Nat
  ret : Tab (Nat × Nat)
  leases : Tab Lease
  stranded : Nat
  drawn : Nat
  record : List Byte
  deriving DecidableEq, Repr

/-- An outstanding read on a host link (13 R362): the unit's own name for it, the function it is made for, its length, the bytes received, its issue time, and
the completion timeout in force at its issue (µs); `dropped` when Bus Master Enable was cleared under it (R367). -/
structure HostRd where
  unit : Nat
  fn : Nat
  len : Nat
  got : List Byte
  issued : Nat
  cto : Nat
  dropped : Bool
  deriving DecidableEq, Repr

/-- A quarantined tag (R364): the bytes still missing, and the check time (ns) that ends it. -/
structure Quar where
  missing : Nat
  stop : Nat
  deriving DecidableEq, Repr

/-- An MSI-X table entry (R359). -/
structure MsixEnt where
  addr : Nat
  data : Nat
  masked : Bool
  deriving DecidableEq, Repr

/-- What a PF's link holds beside its registers (13). -/
structure PfLink where
  /-- Memory Space Enable, Enable Relaxed Ordering, IDO Request Enable, MSI-X Enable, MSI-X Function Mask. -/
  mse : Bool
  roEn : Bool
  idoEn : Bool
  msixEn : Bool
  fnMask : Bool
  /-- The function answers configuration requests (R345). -/
  ready : Bool
  /-- The D-state, 0 to 3. -/
  dstate : Nat
  /-- The other writable configuration dwords, by offset. -/
  cfg : Tab Nat
  /-- Outstanding reads and quarantined tags, by tag. -/
  reads : Tab HostRd
  quar : Tab Quar
  /-- MSI-X table entries that differ from their reset value, and the pending bit array. -/
  msix : Tab MsixEnt
  pba : Tab Unit
  /-- The uncorrectable and correctable error status of Advanced Error Reporting (R345, R363, R365, R369). -/
  aerUncorr : Nat
  aerCorr : Nat
  deriving DecidableEq, Repr

/-- A record that waits to be posted: its slice, whether it is a flow record or a learn event, its bytes (06 R157; 16 R451; 13 R367). -/
structure RecPost where
  slice : Nat
  flow : Bool
  data : List Byte
  deriving DecidableEq, Repr

/-- A PF's link after reset. -/
def PfLink.reset : PfLink := ⟨false, false, false, false, false, false, 0, [], [], [], [], [], 0, 0⟩

/-- A transmit chain the ring manager has captured (14 R388, R391): the model's number for it, the index of its first entry and its count of entries, its buffers as
address and length, TS and RO, and how far it is: 0 its data reads not issued, 1 issued, 2 its frame handed to the slice and its write-back awaited, 3 done. -/
structure TxChain where
  id : Nat
  first : Nat
  count : Nat
  bufs : List (Nat × Nat)
  ts : Bool
  ro : Bool
  /-- The network time (ns) its descriptors were fetched, taken when its chain forms (log entry 141): the frame's STAMP (05 R113, 03 R64). -/
  fetched : Nat
  /-- The physical facts in force when its data reads were issued (01 R29). -/
  facts : Facts
  stage : Nat
  /-- A write-back that is due and waits to be issued: its status and stamp (13 R367). -/
  wb : Option (Nat × Nat)
  deriving DecidableEq, Repr

/-- A delivery that waits to be written into a receive ring (14 R389, R390): the frame, or the bytes of a host exception, the TF of the frame's tenant node, and the metadata of the write-back. -/
structure Deliv where
  frame : Option Nat
  tf : Nat
  bytes : List Byte
  port : Nat
  stamp : Nat
  hash : Nat
  u0 : Nat
  u1 : Nat
  slice : Nat
  /-- Of a host exception: what its limiter dropped since the exception before it (05 R117). -/
  before : Nat
  deriving DecidableEq, Repr

/-- A held coherent line (14 R398): its address and whether its mark is still set. -/
structure HeldLine where
  addr : Nat
  marked : Bool
  deriving DecidableEq, Repr

/-- A ring's context (14 R381 to R399). -/
structure RingSt where
  base : Nat
  pub : Nat
  cfg : Word
  mod : Word
  state : Nat
  /-- HEAD, or CONS for an EV ring; PROD. -/
  head : Nat
  prod : Nat
  errReason : Nat
  errIndex : Nat
  /-- The index the next fetch begins at; a fetch outstanding as its first index and count. -/
  nextFetch : Nat
  fetching : Option (Nat × Nat)
  /-- Captured entries not yet used: index and bytes, in order. -/
  captured : List (Nat × List Byte)
  chains : List TxChain
  /-- Deliveries that wait to be written, oldest first. -/
  rxq : List Deliv
  /-- The doorbells recorded in ERROR or FROZEN, oldest first (R385). -/
  pendDb : List Nat
  /-- A publication waits; the event kinds that wait with it (bit 1 PROGRESS, 2 ERROR, 3 STOPPED). -/
  pubWait : Bool
  evWait : Nat
  /-- The index in the event ring of the last PROGRESS event. -/
  lastProgress : Option Nat
  /-- Of an EV ring: GEN, SUMMARY, FOLDED, armed, events since the last message, and t0. -/
  gen : Nat
  summary : Nat
  folded : Bool
  armed : Bool
  evSince : Nat
  t0 : Option Nat
  held : List HeldLine
  /-- Coherent lines whose fresh read waits until the link takes CXL.cache requests (R399; 13 R367, R538). -/
  capWait : List Nat
  deriving DecidableEq, Repr

/-- A ring after cold reset or a wipe. -/
def RingSt.reset : RingSt where
  base := 0
  pub := 0
  cfg := 0
  mod := 0x100000000
  state := 0
  head := 0
  prod := 0
  errReason := 0
  errIndex := 0
  nextFetch := 0
  fetching := none
  captured := []
  chains := []
  rxq := []
  pendDb := []
  pubWait := false
  evWait := 0
  lastProgress := none
  gen := 0
  summary := 0
  folded := false
  armed := false
  evSince := 0
  t0 := none
  held := []
  capWait := []

/-- A message store entry (14 R400). -/
structure MsgEnt where
  addr : Nat
  data : Nat
  masked : Bool
  pending : Bool
  deriving DecidableEq, Repr

/-- A DMA channel (15 R426, R427, R434): the descriptor of its PF or Ulyar in progress, the bytes of output (or of comparison) behind the current descriptor, the bytes it has written, which
host reads of its next burst have been issued, and whether pacing has paused it. -/
structure DmaCh where
  host : Option (List Byte)
  pos : Nat
  wrote : Nat
  want : List Nat
  paused : Bool
  deriving DecidableEq, Repr

/-- An HDM decoder (15 R423): host base, size and DPA in bytes, whether it is committed, and Error Not Committed. -/
structure Hdm where
  base : Nat
  size : Nat
  dpa : Nat
  committed : Bool
  err : Bool
  deriving DecidableEq, Repr

/-- The counters of one TF in one metering epoch (16 R440): the nine counters in the order of the TF record, and LATE_FRAMES (R443). -/
structure TfCnt where
  c : List Nat
  late : Nat
  deriving DecidableEq, Repr

/-- No count. -/
def TfCnt.zero : TfCnt := ⟨List.replicate 9 0, 0⟩

/-- A metering epoch being counted (16 R443): its start and end (ns), its definitions, its counts by TF, the TFs that were assigned and those that were withdrawn at any moment of it, whether a step marked it
(02 R57; 16 R444), and the BUILD_ID of the image whose definitions apply in it. -/
structure MtrEpoch where
  start : Nat
  stop : Nat
  /-- The length in force, in seconds. -/
  lenS : Nat
  body : MtrBody
  cnt : Tab TfCnt
  assigned : List Nat
  withdrawn : List Nat
  stepped : Bool
  build : Nat
  deriving DecidableEq, Repr

/-- What the hub accumulator holds of epochs not yet closed (16 R444): how many, and their counts as one. -/
structure MtrHeld where
  n : Nat
  e : MtrEpoch
  deriving DecidableEq, Repr

/-- A block in the metering buffer (16 R444, R445): its records up to the root record, and its signature once made. -/
structure MtrBlock where
  recs : List (List Byte)
  sig : Option (List Byte)
  deriving DecidableEq, Repr

/-- One slice's sketch banks (16 R450): counters by row x 65,536 + column, and the bank's total, of the open bank and of the previous one. -/
structure Sketch where
  cur : Tab Nat
  curN : Nat
  prev : Tab Nat
  prevN : Nat
  deriving DecidableEq, Repr

/-- A mailbox channel (17 R456 to R464): the request and the reply FIFO, oldest word first, the replies that wait for room, and whether a request has been taken and not answered. -/
structure Mbx where
  tx : List Nat
  rx : List Nat
  out : List (List Nat)
  busy : Bool
  deriving DecidableEq, Repr

/-- A life-cycle transition that has been accepted (17 R474): the next state, the channel that asked, the time (ns by `Dev.refNs`) of the reply, and the identity public key that leaving BLANK makes. -/
structure LifeNext where
  target : Nat
  chan : Nat
  since : Nat
  key : List Byte
  deriving DecidableEq, Repr

/-- A SEAL request not answered yet (17 R462): channel, header word, first granule and count. -/
structure SealWait where
  chan : Nat
  hdr : Nat
  first : Nat
  count : Nat
  deriving DecidableEq, Repr

/-- One fault record (18 R487); a reporter field holds 0xFF for none. -/
structure RasRec where
  firstNs : Nat
  detail : Nat
  id : Nat
  count : Nat
  window : Nat
  kind : Nat
  storm : Bool
  slice : Nat
  pos : Nat
  thread : Nat
  code : Nat
  deriving DecidableEq, Repr

/-- How the part runs (18 R480; 19 R490, R499, R509; 20 R518): as ever; in EASY; held in reset while PWRGD is low; in the safe state; with its clocks stopped after THERMTRIP_N; in a warm reset. -/
inductive PwrMode where
  | running | easy | held | safe | tripped | warm
  deriving DecidableEq, Repr

/-- What the part holds of program images and epochs (03), beside the registers. -/
structure ImgU where
  /-- The two epoch slots, those that hold an epoch (03 R66). -/
  slots : Tab EpochSlot
  /-- The image load in progress (03 R63). -/
  load : Option Load
  /-- The number of the epoch last switched in, 0 before the first (03 R66). -/
  lastEpoch : Nat
  deriving DecidableEq, Repr

/-- `ImgU` after reset. -/
def ImgU.reset : ImgU where
  slots := []
  load := none
  lastEpoch := 0

/-- What the part holds of the network ports (04), beside the registers. -/
structure MacU where
  /-- The sixteen network ports, by number (an unlisted one is as `PortSt.reset`). -/
  port : Tab PortSt
  /-- Bit s: the stepped units of slice s run at 400 MHz (04 R90). -/
  slowClk : Nat
  deriving DecidableEq, Repr

/-- `MacU` after reset. -/
def MacU.reset : MacU where
  port := []
  slowClk := 0

/-- What the part holds of frames and the exception path (05), beside the registers. -/
structure FrmU where
  /-- Every frame in the N3200, by a number of the model's own given in order of entry. -/
  frames : Tab Frame
  /-- The next frame's number. -/
  nextFrame : Nat
  /-- The exception limiters: slice x 2 + (0 host, 1 firmware) (05 R115); an unlisted one holds BURST x 10^9. -/
  exc : Tab TickBucket
  /-- DROPPED_BEFORE per slice x 2 + destination (05 R117). -/
  dropBefore : Tab Nat
  /-- The firmware exception queues per slice, oldest first (05 R119): which of its 256 entries a frame stands in, and its bytes. -/
  fwq : Tab (List (Nat × List Byte))
  /-- Where Ulyar placed the firmware exception queues in device DRAM (05 R119). -/
  fwBase : Nat
  deriving DecidableEq, Repr

/-- `FrmU` after reset. -/
def FrmU.reset : FrmU where
  frames := []
  nextFrame := 0
  exc := []
  dropBefore := []
  fwq := []
  fwBase := 0

/-- What the part holds of the classifiers (06), beside the registers. -/
structure ClsU where
  /-- The stored tables, by a number of the model's own (06 R124). -/
  tbl : Tab Table
  /-- Which stored table (slice x 2 + epoch slot) x 64 + TABLE_ID names; shared storage is one number (03 R72). -/
  tblMap : Tab Nat
  /-- The learn buckets per slice x 16 + port (06 R152). -/
  lrnTok : Tab TickBucket
  /-- Per slice: recent learn attempts, as pipeline cycle, stored table, key (06 R154). -/
  lrnRecent : Tab (List (Nat × Nat × List Byte))
  /-- The last learn-event number per slice (06 R158). -/
  lrnSeq : Tab Nat
  /-- The skim pass in progress per slice (06 R161). -/
  skim : Tab Skim
  /-- The stored table a TREE_LOAD in progress of a slice fills, and the epoch slot it named (06 R135, R138). -/
  treeLoad : Tab (Nat × Nat)
  deriving DecidableEq, Repr

/-- `ClsU` after reset. -/
def ClsU.reset : ClsU where
  tbl := []
  tblMap := []
  lrnTok := []
  lrnRecent := []
  lrnSeq := []
  skim := []
  treeLoad := []

/-- What the part holds of engines, threads and channels (07 to 09), beside the registers. -/
structure EngU where
  /-- The threads, by (slice x 32 + position) x 8 + thread (07 R164); an unlisted one is as `Thr.reset`. -/
  thr : Tab Thr
  /-- The receive channels, by (slice x 32 + position) x 16 + channel (08 R236). -/
  chan : Tab Chan
  /-- The stall detectors, by slice x 32 + position (08 R234). -/
  stall : Tab StallSt
  /-- The rounds of the engines in compatibility mode, by slice x 32 + position; an unlisted one is as `WrrSt.fresh` (08 R217). -/
  round : Tab WrrSt
  /-- Migrations in progress, by cluster (08 R243). -/
  mig : Tab Mig
  /-- The physical engine of a position, by slice x 32 + position, where it is not that number itself (08 R243). -/
  phys : Tab Nat
  /-- Offload commands in progress, in order of submission (07 R200). -/
  ops : Tab OpRec
  /-- What the stream units know of the PDU that an operation left open, by the context's place (12 R331, R334). -/
  pduOpen : Tab PduOpen
  /-- The next offload command's number; a frame that enters the cipher block takes one too (11 R311). -/
  nextOp : Nat
  /-- The position last chosen for (slice x 2 + epoch slot) x 256 + group (08 R221). -/
  dspLast : Tab Nat
  /-- The dispatch queues, by the same key: frame numbers, oldest first (08 R222). -/
  dspq : Tab (List Nat)
  /-- Per slice: the frames dispatched to engines and not yet past the engine stage, in dispatch order (08 R224). -/
  order : Tab (List Nat)
  /-- The poisoned 64-bit words of memory, by word address (address / 8), with the fault source a read traps with where it is not the word's own (0: its own) (09 R248, 15 R412, 08 R243). -/
  poison : Tab Nat
  /-- The exception path's accesses held by handovers to it, oldest first (09 R253, R256). -/
  excHeld : List ExcAcc
  /-- Bit s: the clearing of the banks of slice s has not ended (09 R258). -/
  bankHeld : Nat
  deriving DecidableEq, Repr

/-- `EngU` after reset. -/
def EngU.reset : EngU where
  thr := []
  chan := []
  stall := []
  round := []
  mig := []
  phys := []
  ops := []
  pduOpen := []
  nextOp := 0
  dspLast := []
  dspq := []
  order := []
  poison := []
  excHeld := []
  bankHeld := 0

/-- What the part holds of the traffic managers (10), beside the registers. -/
structure TmU where
  /-- The scheduling nodes, by (slice x 4 + level) x 65,536 + index (10 R259). -/
  node : Tab NodeSt
  /-- The queues, by slice x 65,536 + index (10 R277). -/
  queue : Tab QueueSt
  /-- The timing wheel entries per slice (10 R270). -/
  wheels : Tab (List WheelEnt)
  /-- The policers, by a number of the model's own (10 R274). -/
  pol : Tab PolSt
  /-- Which policer (slice x 2 + epoch slot) x 65,536 + index names (10 R276). -/
  polMap : Tab Nat
  /-- The gate schedules per port (10 R280). -/
  gate : Tab GateSt
  /-- Per slice, the last tick at which wheel entries were released, and how many were (10 R271). -/
  wheelRel : Tab (Nat × Nat)
  deriving DecidableEq, Repr

/-- `TmU` after reset. -/
def TmU.reset : TmU where
  node := []
  queue := []
  wheels := []
  pol := []
  polMap := []
  gate := []
  wheelRel := []

/-- What the part holds of the key store and the offload units (11, 12), beside the registers. -/
structure KeyU where
  /-- Key slots that are not EMPTY (11 R287). -/
  keySlot : Tab KeySlot
  /-- The model's count of lease draws and uses, by which the least recent is known (11 R295, R296). -/
  keyOrder : Nat
  deriving DecidableEq, Repr

/-- `KeyU` after reset. -/
def KeyU.reset : KeyU where
  keySlot := []
  keyOrder := 0

/-- What the part holds of the host interface (13), beside the registers. -/
structure HifU where
  /-- The four host links, by PF number (an unlisted one is as `PfLink.reset`). -/
  link : Tab PfLink
  /-- Bit i: interrupt source i was asserted when last judged (13 R361). -/
  irq : Nat
  /-- The reads that have ended, by the unit's name for them: their data, or none for an error (13 R363). -/
  arrived : Tab (Option (List Byte))
  /-- Records that wait for Bus Master Enable, oldest first (13 R367). -/
  recWait : List RecPost
  deriving DecidableEq, Repr

/-- `HifU` after reset. -/
def HifU.reset : HifU where
  link := []
  irq := 0
  arrived := []
  recWait := []

/-- What the part holds of rings and functions (14), beside the registers. -/
structure RgmU where
  /-- The rings, by global number (an unlisted one is as `RingSt.reset`). -/
  ring : Tab RingSt
  /-- The message store (14 R400); an unlisted entry is zero and masked. -/
  msg : Tab MsgEnt
  /-- The next transmit chain's number. -/
  nextChain : Nat
  /-- Bit p: PF p is RESETTING (14 R380). -/
  pfReset : Nat
  deriving DecidableEq, Repr

/-- `RgmU` after reset. -/
def RgmU.reset : RgmU where
  ring := []
  msg := []
  nextChain := 0
  pfReset := 0

/-- What the part holds of the DMA engine and device memory (15), beside the registers. -/
structure DmaU where
  /-- The DMA channels (15 R426). -/
  dmaCh : Tab DmaCh
  /-- The class and TF that granules being zeroed are to take (15 R421). -/
  granNext : Tab (Nat × Nat)
  /-- Bit 4n + r: rank r of channel n is refreshed at the halved interval (15 R416). -/
  fastRanks : Nat
  /-- When each DRAM set was last accessed (ns by `Dev.refNs`, 15 R417). -/
  setAt : Tab Nat
  /-- Correctable errors of DRAM rows in the scrub period (15 R418), by a number of the model's own for the row. -/
  rowErr : Tab Nat
  /-- DRAM rows that hold an uncorrectable burst (15 R418). -/
  rowBad : Tab Unit
  /-- Hard repairs made of the rows of a DRAM channel's modules (15 R418): a fact of the modules, which no reset undoes. -/
  hardUsed : Tab Nat
  /-- HDM decoders by PF x 8 + decoder (15 R423). -/
  hdm : Tab Hdm
  deriving DecidableEq, Repr

/-- `DmaU` after reset. -/
def DmaU.reset : DmaU where
  dmaCh := []
  granNext := []
  fastRanks := 0
  setAt := []
  rowErr := []
  rowBad := []
  hardUsed := []
  hdm := []

/-- What the part holds of metering (16), beside the registers. -/
structure MtrU where
  /-- The open metering epoch (16 R443). -/
  mtrOpen : MtrEpoch
  /-- The epoch in its grace (16 R443). -/
  mtrOld : Option MtrEpoch
  /-- Epochs held in the accumulator (16 R444). -/
  mtrHeld : Option MtrHeld
  /-- The definitions that replace those in force at the next boundary (03 R70). -/
  mtrNext : Option MtrBody
  /-- The switch time (ns) from which they may (03 R70, 16 R442). -/
  mtrNextFrom : Nat
  /-- The blocks in the metering buffer, oldest first (16 R444). -/
  mtrBlocks : List MtrBlock
  /-- The SHA-256 of the last root record, none before the first block (16 R447). -/
  mtrRoot : Option (List Byte)
  /-- The network time (ns) up to which CXL_GRANULE_NS has been counted (16 R440). -/
  mtrCxlAt : Int
  /-- The sketches by slice (16 R450). -/
  sketch : Tab Sketch
  /-- The flow record SEQ by slice (16 R451). -/
  flowSeq : Tab Nat
  /-- The frame counts by slice x 256 + definition (16 R451). -/
  flowCnt : Tab Nat
  deriving DecidableEq, Repr

/-- `MtrU` after reset. -/
def MtrU.reset : MtrU where
  mtrOpen := ⟨0, 60000000000, 60, ⟨60, 0, [], [⟨false, false, false, 0, 0, 0⟩]⟩, [], [], [], false, 0⟩
  mtrOld := none
  mtrHeld := none
  mtrNext := none
  mtrNextFrom := 0
  mtrBlocks := []
  mtrRoot := none
  mtrCxlAt := 0
  sketch := []
  flowSeq := []
  flowCnt := []

/-- What the part holds of management (17), beside the registers. -/
structure MgtU where
  /-- The mailbox channels 0 to 6 (17 R456). -/
  mbx : Tab Mbx
  /-- The life-cycle transition that waits to be burnt (17 R474). -/
  lifeNext : Option LifeNext
  /-- SEAL requests that wait for their granules (17 R462). -/
  sealWait : List SealWait
  /-- The granules SEALED by SEAL requests, not at boot (17 R462). -/
  seals : List Nat
  /-- The identity certificate chain in flash (17 R469, R472). -/
  chain : List Byte
  /-- The identity public key (17 R472). -/
  pubKey : List Byte
  /-- The Ulyar bank the selector names, 0 A or 1 B (17 R469). -/
  bankSel : Nat
  /-- Ulyar bank A (17 R469). -/
  bankA : List Byte
  /-- Ulyar bank B (17 R469). -/
  bankB : List Byte
  /-- The Ulyar image that runs (17 R470). -/
  ulyar : List Byte
  /-- The default program image in flash (17 R469). -/
  defImage : List Byte
  /-- The MCTP endpoint ID, 0 before it is assigned (17 R465). -/
  eid : Nat
  /-- How far the SPDM exchange has come: 0 none, 1 version, 2 capabilities, 3 algorithms (17 R467). -/
  spdm : Nat
  deriving DecidableEq, Repr

/-- `MgtU` after reset. -/
def MgtU.reset : MgtU where
  mbx := []
  lifeNext := none
  sealWait := []
  seals := []
  chain := []
  pubKey := []
  bankSel := 0
  bankA := []
  bankB := []
  ulyar := []
  defImage := []
  eid := 0
  spdm := 0

/-- What the part holds of reliability (18), beside the registers. -/
structure RelU where
  /-- The 256 fault records, those that are held (18 R487). -/
  ras : Tab RasRec
  /-- The power-on tests have run since State.reset (18 R476). -/
  tested : Bool
  /-- Correctable errors of SRAM rows: the scrub period they fell in and their number (18 R482), by memory x 2^32 + row. -/
  sramErr : Tab (Nat × Nat)
  /-- SRAM rows that wait for a repair (18 R482). -/
  sramBad : Tab Unit
  /-- SRAM rows that a spare row has replaced (18 R482). -/
  sramFixed : Tab Unit
  deriving DecidableEq, Repr

/-- `RelU` after reset. -/
def RelU.reset : RelU where
  ras := []
  tested := false
  sramErr := []
  sramBad := []
  sramFixed := []

/-- What the part holds of power, reset and boot (19, 20), beside the registers. -/
structure PwrU where
  /-- How the part runs. -/
  pwrMode : PwrMode
  /-- BOOT_COUNT: cold resets since the part entered PROVISIONED (13 R352). -/
  bootCount : Nat
  /-- Bit s: slice s passed its power-on tests at this boot (13 R353; 18 R478). -/
  bistSlices : Nat
  /-- Bit d: compute die d is out of service since a PLL lost lock (18 R485). -/
  diesDown : Nat
  /-- The straps as last sampled (20 R504). -/
  straps : Straps
  /-- The board description in flash (18 R478, R479): bits 2:0 DEGRADE, bit 3 + 2d + g whether the spare of group g of die d is routed, bit 8 NTU_CTRL.OWNER (02 R44), bits 31:16 and 47:32 the subsystem vendor ID and subsystem ID (13 R344). -/
  board : Nat
  /-- The state and the slices that the transition in progress leads to (19 R493). -/
  pwrNext : (Nat × Nat)
  /-- The selected PERST_N has been asserted in PADDLE (19 R491). -/
  perst : Bool
  /-- The end of the metering epoch that was open when, in PADDLE, every granule was FREE (19 R494). -/
  easyEpoch : Option Nat
  /-- The first granule that the undercoat wipe has not covered (17 R475); 6,144 when it has covered all. -/
  wipeFrom : Nat
  /-- The engine positions, by slice x 32 + position, that are clock gated (19 R497). -/
  gated : List Nat
  /-- The idle time before gating is 64 ns (19 R498). -/
  gateShort : Bool
  /-- When the present boot began (ns by `Dev.refNs`; 19 R500). -/
  bootAt : Nat
  /-- Bit t: DRAM set t is left out of service since the power-on tests (18 R478) or its training (15 R411). -/
  setsOut : Nat
  /-- The fused set point of the VDD_CMP regulator in mV (20 R506). -/
  avsFuse : Nat
  /-- What the VDD_CMP regulator is set to, in mV (20 R506). -/
  vddCmp : Nat
  deriving DecidableEq, Repr

/-- `PwrU` after reset. -/
def PwrU.reset : PwrU where
  pwrMode := .running
  bootCount := 0
  bistSlices := 63
  diesDown := 0
  straps := ⟨false, false, false, false, false, false⟩
  board := 256
  pwrNext := (0, 63)
  perst := false
  easyEpoch := none
  wipeFrom := 6144
  gated := []
  gateShort := false
  bootAt := 0
  setsOut := 0
  avsFuse := 900
  vddCmp := 900

/-- Everything the part holds but its byte memories and the queue of waiting commands. -/
structure Dev where
  /-- Every software-visible register by address; an unlisted one holds its reset value (R7). -/
  regs : Tab Word
  /-- Every 48-bit statistics counter by its register address; an unlisted one is 0. -/
  cnt : Tab Nat
  /-- The model's own record of what the part has sent out, newest first (log entry 4). -/
  out : List Emit
  /-- The model's own counter the free values are drawn with (log entry 7). -/
  freeCtr : Nat
  /-- The compares that were due at the last tick and have not fired, in the order of 02 R55. -/
  due : List Due
  /-- The snapshots that a write of a selecting register has begun and that have not been taken (00 R535). -/
  snapWait : List SnapSel
  /-- The network time unit. -/
  ntu : Ntu
  /-- Program images and epochs (03). -/
  img : ImgU
  /-- The network ports (04). -/
  mac : MacU
  /-- Frames and the exception path (05). -/
  frm : FrmU
  /-- The classifiers (06). -/
  cls : ClsU
  /-- Engines, threads and channels (07 to 09). -/
  eng : EngU
  /-- The traffic managers (10). -/
  tm : TmU
  /-- The key store and the offload units (11, 12). -/
  key : KeyU
  /-- The host interface (13). -/
  hif : HifU
  /-- Rings and functions (14). -/
  rgm : RgmU
  /-- The DMA engine and device memory (15). -/
  dma : DmaU
  /-- Metering (16). -/
  mtr : MtrU
  /-- Management (17). -/
  mgt : MgtU
  /-- Reliability (18). -/
  rel : RelU
  /-- Power, reset and boot (19, 20). -/
  pwr : PwrU
  deriving DecidableEq, Repr

/-- The machine's state: the device, its byte memories, and the commands that wait, first in, first out. -/
structure State extends Dev where
  /-- Device DRAM, cluster banks, quad memories, engine-local data and code (09 R246, 15 R410). -/
  mem : Memory
  /-- The commands that wait (the block's queue). -/
  pending : List Instr
  deriving DecidableEq, Repr

/-- Why the machine stops. -/
inductive Fault where
  /-- Network time left [0, 2^63) ns, whose behaviour R43 calls undefined. Raised by NTU_TICK, STEP_APPLIED and SLEW_DONE. Safe: the
  machine stops where the hardware's behaviour is undefined. -/
  | networkTimeRange
  deriving DecidableEq, Repr

/-- Why a command has no meaning here. -/
inductive Refusal where
  /-- The command of this mnemonic has no meaning yet. Safe: the machine stops. -/
  | notModelled (mnemonic : String)
  deriving DecidableEq, Repr

/-- The device after reset: every field as the spec states for reset, else the value of assumption log entries 1 to 3. -/
def Dev.reset : Dev where
  regs := resetRegs
  cnt := []
  out := []
  freeCtr := 0
  due := []
  snapWait := []
  ntu := ⟨0, 0, 0, [], 0, 0, 0, none, false, 0⟩
  img := ImgU.reset
  mac := MacU.reset
  frm := FrmU.reset
  cls := ClsU.reset
  eng := EngU.reset
  tm := TmU.reset
  key := KeyU.reset
  hif := HifU.reset
  rgm := RgmU.reset
  dma := DmaU.reset
  mtr := MtrU.reset
  mgt := MgtU.reset
  rel := RelU.reset
  pwr := PwrU.reset

/-- The machine right after reset: no memory byte listed, no command waiting. -/
def State.reset : State where
  toDev := Dev.reset
  mem := []
  pending := []

/-! Replacement of one unit. -/

/-- `d` with `regs` replaced. -/
def Dev.setRegs (d : Dev) (x : Tab Word) : Dev :=
  { d with regs := x }

/-- `d` with `cnt` replaced. -/
def Dev.setCnt (d : Dev) (x : Tab Nat) : Dev :=
  { d with cnt := x }

/-- `d` with `out` replaced. -/
def Dev.setOut (d : Dev) (x : List Emit) : Dev :=
  { d with out := x }

/-- `d` with `freeCtr` replaced. -/
def Dev.setFreeCtr (d : Dev) (x : Nat) : Dev :=
  { d with freeCtr := x }

/-- `d` with `due` replaced. -/
def Dev.setDue (d : Dev) (x : List Due) : Dev :=
  { d with due := x }

/-- `d` with `snapWait` replaced. -/
def Dev.setSnapWait (d : Dev) (x : List SnapSel) : Dev :=
  { d with snapWait := x }

/-- `d` with `ntu` replaced. -/
def Dev.setNtu (d : Dev) (x : Ntu) : Dev :=
  { d with ntu := x }

/-- `d` with `img` replaced. -/
def Dev.setImg (d : Dev) (x : ImgU) : Dev :=
  { d with img := x }

/-- `d` with `mac` replaced. -/
def Dev.setMac (d : Dev) (x : MacU) : Dev :=
  { d with mac := x }

/-- `d` with `frm` replaced. -/
def Dev.setFrm (d : Dev) (x : FrmU) : Dev :=
  { d with frm := x }

/-- `d` with `cls` replaced. -/
def Dev.setCls (d : Dev) (x : ClsU) : Dev :=
  { d with cls := x }

/-- `d` with `eng` replaced. -/
def Dev.setEng (d : Dev) (x : EngU) : Dev :=
  { d with eng := x }

/-- `d` with `tm` replaced. -/
def Dev.setTm (d : Dev) (x : TmU) : Dev :=
  { d with tm := x }

/-- `d` with `key` replaced. -/
def Dev.setKey (d : Dev) (x : KeyU) : Dev :=
  { d with key := x }

/-- `d` with `hif` replaced. -/
def Dev.setHif (d : Dev) (x : HifU) : Dev :=
  { d with hif := x }

/-- `d` with `rgm` replaced. -/
def Dev.setRgm (d : Dev) (x : RgmU) : Dev :=
  { d with rgm := x }

/-- `d` with `dma` replaced. -/
def Dev.setDma (d : Dev) (x : DmaU) : Dev :=
  { d with dma := x }

/-- `d` with `mtr` replaced. -/
def Dev.setMtr (d : Dev) (x : MtrU) : Dev :=
  { d with mtr := x }

/-- `d` with `mgt` replaced. -/
def Dev.setMgt (d : Dev) (x : MgtU) : Dev :=
  { d with mgt := x }

/-- `d` with `rel` replaced. -/
def Dev.setRel (d : Dev) (x : RelU) : Dev :=
  { d with rel := x }

/-- `d` with `pwr` replaced. -/
def Dev.setPwr (d : Dev) (x : PwrU) : Dev :=
  { d with pwr := x }

/-! The fields of the units, and their replacement. -/

/-- `slots` of program images and epochs (03). -/
@[reducible] def Dev.slots (d : Dev) : Tab EpochSlot := d.img.slots
/-- `d` with `slots` replaced. -/
@[reducible] def Dev.setSlots (d : Dev) (x : Tab EpochSlot) : Dev := d.setImg { d.img with slots := x }

/-- `load` of program images and epochs (03). -/
@[reducible] def Dev.load (d : Dev) : Option Load := d.img.load
/-- `d` with `load` replaced. -/
@[reducible] def Dev.setLoad (d : Dev) (x : Option Load) : Dev := d.setImg { d.img with load := x }

/-- `lastEpoch` of program images and epochs (03). -/
@[reducible] def Dev.lastEpoch (d : Dev) : Nat := d.img.lastEpoch
/-- `d` with `lastEpoch` replaced. -/
@[reducible] def Dev.setLastEpoch (d : Dev) (x : Nat) : Dev := d.setImg { d.img with lastEpoch := x }

/-- `port` of the network ports (04). -/
@[reducible] def Dev.port (d : Dev) : Tab PortSt := d.mac.port
/-- `d` with `port` replaced. -/
@[reducible] def Dev.setPort (d : Dev) (x : Tab PortSt) : Dev := d.setMac { d.mac with port := x }

/-- `slowClk` of the network ports (04). -/
@[reducible] def Dev.slowClk (d : Dev) : Nat := d.mac.slowClk
/-- `d` with `slowClk` replaced. -/
@[reducible] def Dev.setSlowClk (d : Dev) (x : Nat) : Dev := d.setMac { d.mac with slowClk := x }

/-- `frames` of frames and the exception path (05). -/
@[reducible] def Dev.frames (d : Dev) : Tab Frame := d.frm.frames
/-- `d` with `frames` replaced. -/
@[reducible] def Dev.setFrames (d : Dev) (x : Tab Frame) : Dev := d.setFrm { d.frm with frames := x }

/-- `nextFrame` of frames and the exception path (05). -/
@[reducible] def Dev.nextFrame (d : Dev) : Nat := d.frm.nextFrame
/-- `d` with `nextFrame` replaced. -/
@[reducible] def Dev.setNextFrame (d : Dev) (x : Nat) : Dev := d.setFrm { d.frm with nextFrame := x }

/-- `exc` of frames and the exception path (05). -/
@[reducible] def Dev.exc (d : Dev) : Tab TickBucket := d.frm.exc
/-- `d` with `exc` replaced. -/
@[reducible] def Dev.setExc (d : Dev) (x : Tab TickBucket) : Dev := d.setFrm { d.frm with exc := x }

/-- `dropBefore` of frames and the exception path (05). -/
@[reducible] def Dev.dropBefore (d : Dev) : Tab Nat := d.frm.dropBefore
/-- `d` with `dropBefore` replaced. -/
@[reducible] def Dev.setDropBefore (d : Dev) (x : Tab Nat) : Dev := d.setFrm { d.frm with dropBefore := x }

/-- `fwq` of frames and the exception path (05). -/
@[reducible] def Dev.fwq (d : Dev) : Tab (List (Nat × List Byte)) := d.frm.fwq
/-- `d` with `fwq` replaced. -/
@[reducible] def Dev.setFwq (d : Dev) (x : Tab (List (Nat × List Byte))) : Dev := d.setFrm { d.frm with fwq := x }

/-- `fwBase` of frames and the exception path (05). -/
@[reducible] def Dev.fwBase (d : Dev) : Nat := d.frm.fwBase
/-- `d` with `fwBase` replaced. -/
@[reducible] def Dev.setFwBase (d : Dev) (x : Nat) : Dev := d.setFrm { d.frm with fwBase := x }

/-- `tbl` of the classifiers (06). -/
@[reducible] def Dev.tbl (d : Dev) : Tab Table := d.cls.tbl
/-- `d` with `tbl` replaced. -/
@[reducible] def Dev.setTbl (d : Dev) (x : Tab Table) : Dev := d.setCls { d.cls with tbl := x }

/-- `tblMap` of the classifiers (06). -/
@[reducible] def Dev.tblMap (d : Dev) : Tab Nat := d.cls.tblMap
/-- `d` with `tblMap` replaced. -/
@[reducible] def Dev.setTblMap (d : Dev) (x : Tab Nat) : Dev := d.setCls { d.cls with tblMap := x }

/-- `lrnTok` of the classifiers (06). -/
@[reducible] def Dev.lrnTok (d : Dev) : Tab TickBucket := d.cls.lrnTok
/-- `d` with `lrnTok` replaced. -/
@[reducible] def Dev.setLrnTok (d : Dev) (x : Tab TickBucket) : Dev := d.setCls { d.cls with lrnTok := x }

/-- `lrnRecent` of the classifiers (06). -/
@[reducible] def Dev.lrnRecent (d : Dev) : Tab (List (Nat × Nat × List Byte)) := d.cls.lrnRecent
/-- `d` with `lrnRecent` replaced. -/
@[reducible] def Dev.setLrnRecent (d : Dev) (x : Tab (List (Nat × Nat × List Byte))) : Dev := d.setCls { d.cls with lrnRecent := x }

/-- `lrnSeq` of the classifiers (06). -/
@[reducible] def Dev.lrnSeq (d : Dev) : Tab Nat := d.cls.lrnSeq
/-- `d` with `lrnSeq` replaced. -/
@[reducible] def Dev.setLrnSeq (d : Dev) (x : Tab Nat) : Dev := d.setCls { d.cls with lrnSeq := x }

/-- `skim` of the classifiers (06). -/
@[reducible] def Dev.skim (d : Dev) : Tab Skim := d.cls.skim
/-- `d` with `skim` replaced. -/
@[reducible] def Dev.setSkim (d : Dev) (x : Tab Skim) : Dev := d.setCls { d.cls with skim := x }

/-- `treeLoad` of the classifiers (06). -/
@[reducible] def Dev.treeLoad (d : Dev) : Tab (Nat × Nat) := d.cls.treeLoad
/-- `d` with `treeLoad` replaced. -/
@[reducible] def Dev.setTreeLoad (d : Dev) (x : Tab (Nat × Nat)) : Dev := d.setCls { d.cls with treeLoad := x }

/-- `thr` of engines, threads and channels (07 to 09). -/
@[reducible] def Dev.thr (d : Dev) : Tab Thr := d.eng.thr
/-- `d` with `thr` replaced. -/
@[reducible] def Dev.setThr (d : Dev) (x : Tab Thr) : Dev := d.setEng { d.eng with thr := x }

/-- `chan` of engines, threads and channels (07 to 09). -/
@[reducible] def Dev.chan (d : Dev) : Tab Chan := d.eng.chan
/-- `d` with `chan` replaced. -/
@[reducible] def Dev.setChan (d : Dev) (x : Tab Chan) : Dev := d.setEng { d.eng with chan := x }

/-- `stall` of engines, threads and channels (07 to 09). -/
@[reducible] def Dev.stall (d : Dev) : Tab StallSt := d.eng.stall
/-- `d` with `stall` replaced. -/
@[reducible] def Dev.setStall (d : Dev) (x : Tab StallSt) : Dev := d.setEng { d.eng with stall := x }

/-- `round` of engines, threads and channels (07 to 09). -/
@[reducible] def Dev.round (d : Dev) : Tab WrrSt := d.eng.round
/-- `d` with `round` replaced. -/
@[reducible] def Dev.setRound (d : Dev) (x : Tab WrrSt) : Dev := d.setEng { d.eng with round := x }

/-- `mig` of engines, threads and channels (07 to 09). -/
@[reducible] def Dev.mig (d : Dev) : Tab Mig := d.eng.mig
/-- `d` with `mig` replaced. -/
@[reducible] def Dev.setMig (d : Dev) (x : Tab Mig) : Dev := d.setEng { d.eng with mig := x }

/-- `phys` of engines, threads and channels (07 to 09). -/
@[reducible] def Dev.phys (d : Dev) : Tab Nat := d.eng.phys
/-- `d` with `phys` replaced. -/
@[reducible] def Dev.setPhys (d : Dev) (x : Tab Nat) : Dev := d.setEng { d.eng with phys := x }

/-- `ops` of engines, threads and channels (07 to 09). -/
@[reducible] def Dev.ops (d : Dev) : Tab OpRec := d.eng.ops
/-- `d` with `ops` replaced. -/
@[reducible] def Dev.setOps (d : Dev) (x : Tab OpRec) : Dev := d.setEng { d.eng with ops := x }

/-- `pduOpen` of engines, threads and channels (07 to 09). -/
@[reducible] def Dev.pduOpen (d : Dev) : Tab PduOpen := d.eng.pduOpen
/-- `d` with `pduOpen` replaced. -/
@[reducible] def Dev.setPduOpen (d : Dev) (x : Tab PduOpen) : Dev := d.setEng { d.eng with pduOpen := x }

/-- `nextOp` of engines, threads and channels (07 to 09). -/
@[reducible] def Dev.nextOp (d : Dev) : Nat := d.eng.nextOp
/-- `d` with `nextOp` replaced. -/
@[reducible] def Dev.setNextOp (d : Dev) (x : Nat) : Dev := d.setEng { d.eng with nextOp := x }

/-- `dspLast` of engines, threads and channels (07 to 09). -/
@[reducible] def Dev.dspLast (d : Dev) : Tab Nat := d.eng.dspLast
/-- `d` with `dspLast` replaced. -/
@[reducible] def Dev.setDspLast (d : Dev) (x : Tab Nat) : Dev := d.setEng { d.eng with dspLast := x }

/-- `dspq` of engines, threads and channels (07 to 09). -/
@[reducible] def Dev.dspq (d : Dev) : Tab (List Nat) := d.eng.dspq
/-- `d` with `dspq` replaced. -/
@[reducible] def Dev.setDspq (d : Dev) (x : Tab (List Nat)) : Dev := d.setEng { d.eng with dspq := x }

/-- `order` of engines, threads and channels (07 to 09). -/
@[reducible] def Dev.order (d : Dev) : Tab (List Nat) := d.eng.order
/-- `d` with `order` replaced. -/
@[reducible] def Dev.setOrder (d : Dev) (x : Tab (List Nat)) : Dev := d.setEng { d.eng with order := x }

/-- `poison` of engines, threads and channels (07 to 09). -/
@[reducible] def Dev.poison (d : Dev) : Tab Nat := d.eng.poison
/-- `d` with `poison` replaced. -/
@[reducible] def Dev.setPoison (d : Dev) (x : Tab Nat) : Dev := d.setEng { d.eng with poison := x }

/-- `excHeld` of engines, threads and channels (07 to 09). -/
@[reducible] def Dev.excHeld (d : Dev) : List ExcAcc := d.eng.excHeld
/-- `d` with `excHeld` replaced. -/
@[reducible] def Dev.setExcHeld (d : Dev) (x : List ExcAcc) : Dev := d.setEng { d.eng with excHeld := x }

/-- `bankHeld` of engines, threads and channels (07 to 09). -/
@[reducible] def Dev.bankHeld (d : Dev) : Nat := d.eng.bankHeld
/-- `d` with `bankHeld` replaced. -/
@[reducible] def Dev.setBankHeld (d : Dev) (x : Nat) : Dev := d.setEng { d.eng with bankHeld := x }

/-- `node` of the traffic managers (10). -/
@[reducible] def Dev.node (d : Dev) : Tab NodeSt := d.tm.node
/-- `d` with `node` replaced. -/
@[reducible] def Dev.setNode (d : Dev) (x : Tab NodeSt) : Dev := d.setTm { d.tm with node := x }

/-- `queue` of the traffic managers (10). -/
@[reducible] def Dev.queue (d : Dev) : Tab QueueSt := d.tm.queue
/-- `d` with `queue` replaced. -/
@[reducible] def Dev.setQueue (d : Dev) (x : Tab QueueSt) : Dev := d.setTm { d.tm with queue := x }

/-- `wheels` of the traffic managers (10). -/
@[reducible] def Dev.wheels (d : Dev) : Tab (List WheelEnt) := d.tm.wheels
/-- `d` with `wheels` replaced. -/
@[reducible] def Dev.setWheels (d : Dev) (x : Tab (List WheelEnt)) : Dev := d.setTm { d.tm with wheels := x }

/-- `pol` of the traffic managers (10). -/
@[reducible] def Dev.pol (d : Dev) : Tab PolSt := d.tm.pol
/-- `d` with `pol` replaced. -/
@[reducible] def Dev.setPol (d : Dev) (x : Tab PolSt) : Dev := d.setTm { d.tm with pol := x }

/-- `polMap` of the traffic managers (10). -/
@[reducible] def Dev.polMap (d : Dev) : Tab Nat := d.tm.polMap
/-- `d` with `polMap` replaced. -/
@[reducible] def Dev.setPolMap (d : Dev) (x : Tab Nat) : Dev := d.setTm { d.tm with polMap := x }

/-- `gate` of the traffic managers (10). -/
@[reducible] def Dev.gate (d : Dev) : Tab GateSt := d.tm.gate
/-- `d` with `gate` replaced. -/
@[reducible] def Dev.setGate (d : Dev) (x : Tab GateSt) : Dev := d.setTm { d.tm with gate := x }

/-- `wheelRel` of the traffic managers (10). -/
@[reducible] def Dev.wheelRel (d : Dev) : Tab (Nat × Nat) := d.tm.wheelRel
/-- `d` with `wheelRel` replaced. -/
@[reducible] def Dev.setWheelRel (d : Dev) (x : Tab (Nat × Nat)) : Dev := d.setTm { d.tm with wheelRel := x }

/-- `keySlot` of the key store and the offload units (11, 12). -/
@[reducible] def Dev.keySlot (d : Dev) : Tab KeySlot := d.key.keySlot
/-- `d` with `keySlot` replaced. -/
@[reducible] def Dev.setKeySlot (d : Dev) (x : Tab KeySlot) : Dev := d.setKey { d.key with keySlot := x }

/-- `keyOrder` of the key store and the offload units (11, 12). -/
@[reducible] def Dev.keyOrder (d : Dev) : Nat := d.key.keyOrder
/-- `d` with `keyOrder` replaced. -/
@[reducible] def Dev.setKeyOrder (d : Dev) (x : Nat) : Dev := d.setKey { d.key with keyOrder := x }

/-- `link` of the host interface (13). -/
@[reducible] def Dev.link (d : Dev) : Tab PfLink := d.hif.link
/-- `d` with `link` replaced. -/
@[reducible] def Dev.setLink (d : Dev) (x : Tab PfLink) : Dev := d.setHif { d.hif with link := x }

/-- `irq` of the host interface (13). -/
@[reducible] def Dev.irq (d : Dev) : Nat := d.hif.irq
/-- `d` with `irq` replaced. -/
@[reducible] def Dev.setIrq (d : Dev) (x : Nat) : Dev := d.setHif { d.hif with irq := x }

/-- `arrived` of the host interface (13). -/
@[reducible] def Dev.arrived (d : Dev) : Tab (Option (List Byte)) := d.hif.arrived
/-- `d` with `arrived` replaced. -/
@[reducible] def Dev.setArrived (d : Dev) (x : Tab (Option (List Byte))) : Dev := d.setHif { d.hif with arrived := x }

/-- `recWait` of the host interface (13). -/
@[reducible] def Dev.recWait (d : Dev) : List RecPost := d.hif.recWait
/-- `d` with `recWait` replaced. -/
@[reducible] def Dev.setRecWait (d : Dev) (x : List RecPost) : Dev := d.setHif { d.hif with recWait := x }

/-- `ring` of rings and functions (14). -/
@[reducible] def Dev.ring (d : Dev) : Tab RingSt := d.rgm.ring
/-- `d` with `ring` replaced. -/
@[reducible] def Dev.setRing (d : Dev) (x : Tab RingSt) : Dev := d.setRgm { d.rgm with ring := x }

/-- `msg` of rings and functions (14). -/
@[reducible] def Dev.msg (d : Dev) : Tab MsgEnt := d.rgm.msg
/-- `d` with `msg` replaced. -/
@[reducible] def Dev.setMsg (d : Dev) (x : Tab MsgEnt) : Dev := d.setRgm { d.rgm with msg := x }

/-- `nextChain` of rings and functions (14). -/
@[reducible] def Dev.nextChain (d : Dev) : Nat := d.rgm.nextChain
/-- `d` with `nextChain` replaced. -/
@[reducible] def Dev.setNextChain (d : Dev) (x : Nat) : Dev := d.setRgm { d.rgm with nextChain := x }

/-- `pfReset` of rings and functions (14). -/
@[reducible] def Dev.pfReset (d : Dev) : Nat := d.rgm.pfReset
/-- `d` with `pfReset` replaced. -/
@[reducible] def Dev.setPfReset (d : Dev) (x : Nat) : Dev := d.setRgm { d.rgm with pfReset := x }

/-- `dmaCh` of the DMA engine and device memory (15). -/
@[reducible] def Dev.dmaCh (d : Dev) : Tab DmaCh := d.dma.dmaCh
/-- `d` with `dmaCh` replaced. -/
@[reducible] def Dev.setDmaCh (d : Dev) (x : Tab DmaCh) : Dev := d.setDma { d.dma with dmaCh := x }

/-- `granNext` of the DMA engine and device memory (15). -/
@[reducible] def Dev.granNext (d : Dev) : Tab (Nat × Nat) := d.dma.granNext
/-- `d` with `granNext` replaced. -/
@[reducible] def Dev.setGranNext (d : Dev) (x : Tab (Nat × Nat)) : Dev := d.setDma { d.dma with granNext := x }

/-- `fastRanks` of the DMA engine and device memory (15). -/
@[reducible] def Dev.fastRanks (d : Dev) : Nat := d.dma.fastRanks
/-- `d` with `fastRanks` replaced. -/
@[reducible] def Dev.setFastRanks (d : Dev) (x : Nat) : Dev := d.setDma { d.dma with fastRanks := x }

/-- `setAt` of the DMA engine and device memory (15). -/
@[reducible] def Dev.setAt (d : Dev) : Tab Nat := d.dma.setAt
/-- `d` with `setAt` replaced. -/
@[reducible] def Dev.setSetAt (d : Dev) (x : Tab Nat) : Dev := d.setDma { d.dma with setAt := x }

/-- `rowErr` of the DMA engine and device memory (15). -/
@[reducible] def Dev.rowErr (d : Dev) : Tab Nat := d.dma.rowErr
/-- `d` with `rowErr` replaced. -/
@[reducible] def Dev.setRowErr (d : Dev) (x : Tab Nat) : Dev := d.setDma { d.dma with rowErr := x }

/-- `rowBad` of the DMA engine and device memory (15). -/
@[reducible] def Dev.rowBad (d : Dev) : Tab Unit := d.dma.rowBad
/-- `d` with `rowBad` replaced. -/
@[reducible] def Dev.setRowBad (d : Dev) (x : Tab Unit) : Dev := d.setDma { d.dma with rowBad := x }

/-- `hardUsed` of the DMA engine and device memory (15). -/
@[reducible] def Dev.hardUsed (d : Dev) : Tab Nat := d.dma.hardUsed
/-- `d` with `hardUsed` replaced. -/
@[reducible] def Dev.setHardUsed (d : Dev) (x : Tab Nat) : Dev := d.setDma { d.dma with hardUsed := x }

/-- `hdm` of the DMA engine and device memory (15). -/
@[reducible] def Dev.hdm (d : Dev) : Tab Hdm := d.dma.hdm
/-- `d` with `hdm` replaced. -/
@[reducible] def Dev.setHdm (d : Dev) (x : Tab Hdm) : Dev := d.setDma { d.dma with hdm := x }

/-- `mtrOpen` of metering (16). -/
@[reducible] def Dev.mtrOpen (d : Dev) : MtrEpoch := d.mtr.mtrOpen
/-- `d` with `mtrOpen` replaced. -/
@[reducible] def Dev.setMtrOpen (d : Dev) (x : MtrEpoch) : Dev := d.setMtr { d.mtr with mtrOpen := x }

/-- `mtrOld` of metering (16). -/
@[reducible] def Dev.mtrOld (d : Dev) : Option MtrEpoch := d.mtr.mtrOld
/-- `d` with `mtrOld` replaced. -/
@[reducible] def Dev.setMtrOld (d : Dev) (x : Option MtrEpoch) : Dev := d.setMtr { d.mtr with mtrOld := x }

/-- `mtrHeld` of metering (16). -/
@[reducible] def Dev.mtrHeld (d : Dev) : Option MtrHeld := d.mtr.mtrHeld
/-- `d` with `mtrHeld` replaced. -/
@[reducible] def Dev.setMtrHeld (d : Dev) (x : Option MtrHeld) : Dev := d.setMtr { d.mtr with mtrHeld := x }

/-- `mtrNext` of metering (16). -/
@[reducible] def Dev.mtrNext (d : Dev) : Option MtrBody := d.mtr.mtrNext
/-- `d` with `mtrNext` replaced. -/
@[reducible] def Dev.setMtrNext (d : Dev) (x : Option MtrBody) : Dev := d.setMtr { d.mtr with mtrNext := x }

/-- `mtrNextFrom` of metering (16). -/
@[reducible] def Dev.mtrNextFrom (d : Dev) : Nat := d.mtr.mtrNextFrom
/-- `d` with `mtrNextFrom` replaced. -/
@[reducible] def Dev.setMtrNextFrom (d : Dev) (x : Nat) : Dev := d.setMtr { d.mtr with mtrNextFrom := x }

/-- `mtrBlocks` of metering (16). -/
@[reducible] def Dev.mtrBlocks (d : Dev) : List MtrBlock := d.mtr.mtrBlocks
/-- `d` with `mtrBlocks` replaced. -/
@[reducible] def Dev.setMtrBlocks (d : Dev) (x : List MtrBlock) : Dev := d.setMtr { d.mtr with mtrBlocks := x }

/-- `mtrRoot` of metering (16). -/
@[reducible] def Dev.mtrRoot (d : Dev) : Option (List Byte) := d.mtr.mtrRoot
/-- `d` with `mtrRoot` replaced. -/
@[reducible] def Dev.setMtrRoot (d : Dev) (x : Option (List Byte)) : Dev := d.setMtr { d.mtr with mtrRoot := x }

/-- `mtrCxlAt` of metering (16). -/
@[reducible] def Dev.mtrCxlAt (d : Dev) : Int := d.mtr.mtrCxlAt
/-- `d` with `mtrCxlAt` replaced. -/
@[reducible] def Dev.setMtrCxlAt (d : Dev) (x : Int) : Dev := d.setMtr { d.mtr with mtrCxlAt := x }

/-- `sketch` of metering (16). -/
@[reducible] def Dev.sketch (d : Dev) : Tab Sketch := d.mtr.sketch
/-- `d` with `sketch` replaced. -/
@[reducible] def Dev.setSketch (d : Dev) (x : Tab Sketch) : Dev := d.setMtr { d.mtr with sketch := x }

/-- `flowSeq` of metering (16). -/
@[reducible] def Dev.flowSeq (d : Dev) : Tab Nat := d.mtr.flowSeq
/-- `d` with `flowSeq` replaced. -/
@[reducible] def Dev.setFlowSeq (d : Dev) (x : Tab Nat) : Dev := d.setMtr { d.mtr with flowSeq := x }

/-- `flowCnt` of metering (16). -/
@[reducible] def Dev.flowCnt (d : Dev) : Tab Nat := d.mtr.flowCnt
/-- `d` with `flowCnt` replaced. -/
@[reducible] def Dev.setFlowCnt (d : Dev) (x : Tab Nat) : Dev := d.setMtr { d.mtr with flowCnt := x }

/-- `mbx` of management (17). -/
@[reducible] def Dev.mbx (d : Dev) : Tab Mbx := d.mgt.mbx
/-- `d` with `mbx` replaced. -/
@[reducible] def Dev.setMbx (d : Dev) (x : Tab Mbx) : Dev := d.setMgt { d.mgt with mbx := x }

/-- `lifeNext` of management (17). -/
@[reducible] def Dev.lifeNext (d : Dev) : Option LifeNext := d.mgt.lifeNext
/-- `d` with `lifeNext` replaced. -/
@[reducible] def Dev.setLifeNext (d : Dev) (x : Option LifeNext) : Dev := d.setMgt { d.mgt with lifeNext := x }

/-- `sealWait` of management (17). -/
@[reducible] def Dev.sealWait (d : Dev) : List SealWait := d.mgt.sealWait
/-- `d` with `sealWait` replaced. -/
@[reducible] def Dev.setSealWait (d : Dev) (x : List SealWait) : Dev := d.setMgt { d.mgt with sealWait := x }

/-- `seals` of management (17). -/
@[reducible] def Dev.seals (d : Dev) : List Nat := d.mgt.seals
/-- `d` with `seals` replaced. -/
@[reducible] def Dev.setSeals (d : Dev) (x : List Nat) : Dev := d.setMgt { d.mgt with seals := x }

/-- `chain` of management (17). -/
@[reducible] def Dev.chain (d : Dev) : List Byte := d.mgt.chain
/-- `d` with `chain` replaced. -/
@[reducible] def Dev.setChain (d : Dev) (x : List Byte) : Dev := d.setMgt { d.mgt with chain := x }

/-- `pubKey` of management (17). -/
@[reducible] def Dev.pubKey (d : Dev) : List Byte := d.mgt.pubKey
/-- `d` with `pubKey` replaced. -/
@[reducible] def Dev.setPubKey (d : Dev) (x : List Byte) : Dev := d.setMgt { d.mgt with pubKey := x }

/-- `bankSel` of management (17). -/
@[reducible] def Dev.bankSel (d : Dev) : Nat := d.mgt.bankSel
/-- `d` with `bankSel` replaced. -/
@[reducible] def Dev.setBankSel (d : Dev) (x : Nat) : Dev := d.setMgt { d.mgt with bankSel := x }

/-- `bankA` of management (17). -/
@[reducible] def Dev.bankA (d : Dev) : List Byte := d.mgt.bankA
/-- `d` with `bankA` replaced. -/
@[reducible] def Dev.setBankA (d : Dev) (x : List Byte) : Dev := d.setMgt { d.mgt with bankA := x }

/-- `bankB` of management (17). -/
@[reducible] def Dev.bankB (d : Dev) : List Byte := d.mgt.bankB
/-- `d` with `bankB` replaced. -/
@[reducible] def Dev.setBankB (d : Dev) (x : List Byte) : Dev := d.setMgt { d.mgt with bankB := x }

/-- `ulyar` of management (17). -/
@[reducible] def Dev.ulyar (d : Dev) : List Byte := d.mgt.ulyar
/-- `d` with `ulyar` replaced. -/
@[reducible] def Dev.setUlyar (d : Dev) (x : List Byte) : Dev := d.setMgt { d.mgt with ulyar := x }

/-- `defImage` of management (17). -/
@[reducible] def Dev.defImage (d : Dev) : List Byte := d.mgt.defImage
/-- `d` with `defImage` replaced. -/
@[reducible] def Dev.setDefImage (d : Dev) (x : List Byte) : Dev := d.setMgt { d.mgt with defImage := x }

/-- `eid` of management (17). -/
@[reducible] def Dev.eid (d : Dev) : Nat := d.mgt.eid
/-- `d` with `eid` replaced. -/
@[reducible] def Dev.setEid (d : Dev) (x : Nat) : Dev := d.setMgt { d.mgt with eid := x }

/-- `spdm` of management (17). -/
@[reducible] def Dev.spdm (d : Dev) : Nat := d.mgt.spdm
/-- `d` with `spdm` replaced. -/
@[reducible] def Dev.setSpdm (d : Dev) (x : Nat) : Dev := d.setMgt { d.mgt with spdm := x }

/-- `ras` of reliability (18). -/
@[reducible] def Dev.ras (d : Dev) : Tab RasRec := d.rel.ras
/-- `d` with `ras` replaced. -/
@[reducible] def Dev.setRas (d : Dev) (x : Tab RasRec) : Dev := d.setRel { d.rel with ras := x }

/-- `tested` of reliability (18). -/
@[reducible] def Dev.tested (d : Dev) : Bool := d.rel.tested
/-- `d` with `tested` replaced. -/
@[reducible] def Dev.setTested (d : Dev) (x : Bool) : Dev := d.setRel { d.rel with tested := x }

/-- `sramErr` of reliability (18). -/
@[reducible] def Dev.sramErr (d : Dev) : Tab (Nat × Nat) := d.rel.sramErr
/-- `d` with `sramErr` replaced. -/
@[reducible] def Dev.setSramErr (d : Dev) (x : Tab (Nat × Nat)) : Dev := d.setRel { d.rel with sramErr := x }

/-- `sramBad` of reliability (18). -/
@[reducible] def Dev.sramBad (d : Dev) : Tab Unit := d.rel.sramBad
/-- `d` with `sramBad` replaced. -/
@[reducible] def Dev.setSramBad (d : Dev) (x : Tab Unit) : Dev := d.setRel { d.rel with sramBad := x }

/-- `sramFixed` of reliability (18). -/
@[reducible] def Dev.sramFixed (d : Dev) : Tab Unit := d.rel.sramFixed
/-- `d` with `sramFixed` replaced. -/
@[reducible] def Dev.setSramFixed (d : Dev) (x : Tab Unit) : Dev := d.setRel { d.rel with sramFixed := x }

/-- `pwrMode` of power, reset and boot (19, 20). -/
@[reducible] def Dev.pwrMode (d : Dev) : PwrMode := d.pwr.pwrMode
/-- `d` with `pwrMode` replaced. -/
@[reducible] def Dev.setPwrMode (d : Dev) (x : PwrMode) : Dev := d.setPwr { d.pwr with pwrMode := x }

/-- `bootCount` of power, reset and boot (19, 20). -/
@[reducible] def Dev.bootCount (d : Dev) : Nat := d.pwr.bootCount
/-- `d` with `bootCount` replaced. -/
@[reducible] def Dev.setBootCount (d : Dev) (x : Nat) : Dev := d.setPwr { d.pwr with bootCount := x }

/-- `bistSlices` of power, reset and boot (19, 20). -/
@[reducible] def Dev.bistSlices (d : Dev) : Nat := d.pwr.bistSlices
/-- `d` with `bistSlices` replaced. -/
@[reducible] def Dev.setBistSlices (d : Dev) (x : Nat) : Dev := d.setPwr { d.pwr with bistSlices := x }

/-- `diesDown` of power, reset and boot (19, 20). -/
@[reducible] def Dev.diesDown (d : Dev) : Nat := d.pwr.diesDown
/-- `d` with `diesDown` replaced. -/
@[reducible] def Dev.setDiesDown (d : Dev) (x : Nat) : Dev := d.setPwr { d.pwr with diesDown := x }

/-- `straps` of power, reset and boot (19, 20). -/
@[reducible] def Dev.straps (d : Dev) : Straps := d.pwr.straps
/-- `d` with `straps` replaced. -/
@[reducible] def Dev.setStraps (d : Dev) (x : Straps) : Dev := d.setPwr { d.pwr with straps := x }

/-- `board` of power, reset and boot (19, 20). -/
@[reducible] def Dev.board (d : Dev) : Nat := d.pwr.board
/-- `d` with `board` replaced. -/
@[reducible] def Dev.setBoard (d : Dev) (x : Nat) : Dev := d.setPwr { d.pwr with board := x }

/-- `pwrNext` of power, reset and boot (19, 20). -/
@[reducible] def Dev.pwrNext (d : Dev) : (Nat × Nat) := d.pwr.pwrNext
/-- `d` with `pwrNext` replaced. -/
@[reducible] def Dev.setPwrNext (d : Dev) (x : (Nat × Nat)) : Dev := d.setPwr { d.pwr with pwrNext := x }

/-- `perst` of power, reset and boot (19, 20). -/
@[reducible] def Dev.perst (d : Dev) : Bool := d.pwr.perst
/-- `d` with `perst` replaced. -/
@[reducible] def Dev.setPerst (d : Dev) (x : Bool) : Dev := d.setPwr { d.pwr with perst := x }

/-- `easyEpoch` of power, reset and boot (19, 20). -/
@[reducible] def Dev.easyEpoch (d : Dev) : Option Nat := d.pwr.easyEpoch
/-- `d` with `easyEpoch` replaced. -/
@[reducible] def Dev.setEasyEpoch (d : Dev) (x : Option Nat) : Dev := d.setPwr { d.pwr with easyEpoch := x }

/-- `wipeFrom` of power, reset and boot (19, 20). -/
@[reducible] def Dev.wipeFrom (d : Dev) : Nat := d.pwr.wipeFrom
/-- `d` with `wipeFrom` replaced. -/
@[reducible] def Dev.setWipeFrom (d : Dev) (x : Nat) : Dev := d.setPwr { d.pwr with wipeFrom := x }

/-- `gated` of power, reset and boot (19, 20). -/
@[reducible] def Dev.gated (d : Dev) : List Nat := d.pwr.gated
/-- `d` with `gated` replaced. -/
@[reducible] def Dev.setGated (d : Dev) (x : List Nat) : Dev := d.setPwr { d.pwr with gated := x }

/-- `gateShort` of power, reset and boot (19, 20). -/
@[reducible] def Dev.gateShort (d : Dev) : Bool := d.pwr.gateShort
/-- `d` with `gateShort` replaced. -/
@[reducible] def Dev.setGateShort (d : Dev) (x : Bool) : Dev := d.setPwr { d.pwr with gateShort := x }

/-- `bootAt` of power, reset and boot (19, 20). -/
@[reducible] def Dev.bootAt (d : Dev) : Nat := d.pwr.bootAt
/-- `d` with `bootAt` replaced. -/
@[reducible] def Dev.setBootAt (d : Dev) (x : Nat) : Dev := d.setPwr { d.pwr with bootAt := x }

/-- `setsOut` of power, reset and boot (19, 20). -/
@[reducible] def Dev.setsOut (d : Dev) : Nat := d.pwr.setsOut
/-- `d` with `setsOut` replaced. -/
@[reducible] def Dev.setSetsOut (d : Dev) (x : Nat) : Dev := d.setPwr { d.pwr with setsOut := x }

/-- `avsFuse` of power, reset and boot (19, 20). -/
@[reducible] def Dev.avsFuse (d : Dev) : Nat := d.pwr.avsFuse
/-- `d` with `avsFuse` replaced. -/
@[reducible] def Dev.setAvsFuse (d : Dev) (x : Nat) : Dev := d.setPwr { d.pwr with avsFuse := x }

/-- `vddCmp` of power, reset and boot (19, 20). -/
@[reducible] def Dev.vddCmp (d : Dev) : Nat := d.pwr.vddCmp
/-- `d` with `vddCmp` replaced. -/
@[reducible] def Dev.setVddCmp (d : Dev) (x : Nat) : Dev := d.setPwr { d.pwr with vddCmp := x }

end Sys2Proof.Machine
end

