-- ==== Sys2Proof/Machine/Ops.lean ====
section
/-! DEFINITION. The named operations every meaning is built from: registers, counters, free values, interrupts (13 R361),
fault reports (18 R487). -/
namespace Sys2Proof.Machine

/-! Registers (00 R4 to R8). -/

/-- The value register `r` holds. -/
def Dev.rd (d : Dev) (r : Reg) : Word := d.regs.lookD r.addr (BitVec.ofNat 64 r.rst)

/-- `d` with register `r` holding `v`. -/
def Dev.wr (d : Dev) (r : Reg) (v : Word) : Dev := d.setRegs (d.regs.put r.addr v)

/-- Field `f` of register `r`. -/
def Dev.fld (d : Dev) (r : Reg) (f : Fld) : Nat := f.get (d.rd r)

/-- `d` with field `f` of register `r` set to `x`. -/
def Dev.setF (d : Dev) (r : Reg) (f : Fld) (x : Nat) : Dev := d.wr r (f.set x (d.rd r))

/-- Whether field `f` of register `r` is not 0. -/
def Dev.flag (d : Dev) (r : Reg) (f : Fld) : Bool := d.fld r f != 0

/-- `d` with bit `i` of field `f` set. -/
def Dev.setBitF (d : Dev) (r : Reg) (f : Fld) (i : Nat) (b : Bool) : Dev := d.setF r f (setBit (d.fld r f) i b)

/-- `d` with field `f` raised by `n`, saturating at all ones. -/
def Dev.satAdd (d : Dev) (r : Reg) (f : Fld) (n : Nat) : Dev := d.setF r f (min (d.fld r f + n) (2 ^ f.w - 1))

/-- `d` with field `f` of register `r` cleared as a write of `v` to a W1C field clears it (R5). -/
def Dev.w1c (d : Dev) (r : Reg) (f : Fld) (v : Word) : Dev := d.setF r f (Nat.land (d.fld r f) (2 ^ f.w - 1 - f.get v))

/-! Counters: 48 bits, wrapping (04 R97, R98). -/

/-- The count at address `a`. -/
def Dev.cntAt (d : Dev) (a : Nat) : Nat := d.cnt.lookD a 0

/-- `d` with the counter at `a` raised by `n`. -/
def Dev.count (d : Dev) (a : Nat) (n : Nat := 1) : Dev := d.setCnt (d.cnt.put a ((d.cntAt a + n) % 2 ^ 48))

/-- `d` with `e` sent out. -/
def Dev.emit (d : Dev) (e : Emit) : Dev := d.setOut (e :: d.out)

/-- Network time in whole nanoseconds (02 R40). -/
def Dev.now (d : Dev) : Nat := d.ntu.acc / 2 ^ 32

/-- The time since cold reset in ns, by the NTU's 250 MHz ticks: what durations that are not compares against network time are measured by (log entry 9). -/
def Dev.refNs (d : Dev) : Nat := d.ntu.ticks * 4

/-- The stamp (2^-16 ns) of an event within the 4 ns after the last tick: `skew` x 2^-16 ns after `err` ns before the tick's time (02 R46, R58; log entry 146). -/
def Dev.stampAt (d : Dev) (err skew : Nat) : Nat := d.ntu.acc / 2 ^ 16 + skew - err * 2 ^ 16

/-- A free value: a number nothing constrains, and the device with the counter moved on (log entry 7). -/
def Dev.fresh (d : Dev) : Nat × Dev := (Config.free d.freeCtr, d.setFreeCtr (d.freeCtr + 1))

/-- A free Boolean. -/
def Dev.freshBool (d : Dev) : Bool × Dev := (Config.free d.freeCtr % 2 == 1, d.setFreeCtr (d.freeCtr + 1))

/-- `d` after `f` for every element of `l` in turn. -/
def Dev.each {α : Type} (d : Dev) (l : List α) (f : Dev → α → Dev) : Dev := l.foldl f d

/-- `f` of `d` when `c` holds. -/
def Dev.onlyIf (d : Dev) (c : Bool) (f : Dev → Dev) : Dev := if c then f d else d

/-! Host links (13). -/

/-- PF `n`'s link. -/
def Dev.pf (d : Dev) (n : Nat) : PfLink := d.link.lookD n PfLink.reset

/-- `d` with PF `n`'s link changed by `f`. -/
def Dev.updPf (d : Dev) (n : Nat) (f : PfLink → PfLink) : Dev := d.setLink (d.link.put n (f (d.pf n)))

/-- Whether PF `n`'s link is frozen (R369). -/
def Dev.frozen (d : Dev) (n : Nat) : Bool := d.flag (HIF_LINK_STATUS n) HIF_LINK_STATUS_FROZEN

/-- Whether PF `n`'s Bus Master Enable is 1 (R367). -/
def Dev.bme (d : Dev) (n : Nat) : Bool := d.flag (HIF_LINK_STATUS n) HIF_LINK_STATUS_BME

/-- Whether PF `n` exists (R343). -/
def Dev.pfPresent (d : Dev) (n : Nat) : Bool := d.flag (HIF_LINK_STATUS n) HIF_LINK_STATUS_PRESENT

/-- Whether requests may be issued on PF `n`'s link (R367, R370). -/
def Dev.canIssue (d : Dev) (n : Nat) : Bool := d.pfPresent n && d.bme n && !d.frozen n

/-- The address of HIF counter `c` of PF `n` (R376). -/
def hifCnt (n c : Nat) : Nat := 0x00200000 + n * 0x1000 + 0x100 + c * 8

/-! Functions and their requests (13 R356, R357; 14 R377 to R380). Function f below 4,096 is TF f; 4,096 + p is PF p. -/

/-- A field of a function's assignment. -/
def Dev.fnCtl (d : Dev) (f : Nat) (x : Fld) : Nat := d.fld (RGM_FUNC_CTL f) x

/-- The PF of function `f`. -/
def Dev.fnPf (d : Dev) (f : Nat) : Nat := if 4096 ≤ f then f - 4096 else d.fnCtl f RGM_FUNC_CTL_PF

/-- The state of function `f` (R379, R380): 0 ABSENT, 1 DISABLED, 2 ENABLED, 3 RESETTING, 4 ENABLE_PENDING. -/
def Dev.fnState (d : Dev) (f : Nat) : Nat :=
  if 4096 ≤ f then (if !d.pfPresent (f - 4096) then 0 else if d.pfReset.testBit (f - 4096) then 3 else 2)
  else d.fld (RGM_FUNC_STATUS f) RGM_FUNC_STATUS_STATE

/-- Whether a reset of function `f` is in progress. -/
def Dev.fnResetting (d : Dev) (f : Nat) : Bool := d.fnState f == 3 || d.fnState f == 4

/-- The PASID of requests for function `f` (R356). -/
def Dev.fnPasid (d : Dev) (f : Nat) : Option Nat := if 4096 ≤ f then none else some (d.fnCtl f RGM_FUNC_CTL_PASID)

/-- Whether requests for function `f` may be issued (R367, R370, R402). -/
def Dev.fnCan (d : Dev) (f : Nat) : Bool := d.canIssue (d.fnPf f) && !d.fnResetting f && d.fnState f != 0

/-- Whether the requests of function `f` wait for Bus Master Enable, and for nothing else (R367). -/
def Dev.fnHeld (d : Dev) (f : Nat) : Bool := d.pfPresent (d.fnPf f) && !d.bme (d.fnPf f) && !d.frozen (d.fnPf f) && !d.fnResetting f && d.fnState f != 0

/-- A host memory write for function `f`, with Relaxed Ordering `ro` where Device Control enables it (R356, R357). -/
def Dev.fnWrite (d : Dev) (f : Nat) (ro : Bool) (addr : Nat) (data : List Byte) : Dev :=
  let n := d.fnPf f
  d.emit (.hostWrite n (d.fnPasid f) (ro && (d.pf n).roEn) (d.pf n).idoEn addr data)

/-- The most tags a link uses at once (R366). -/
def Dev.tagLimit (d : Dev) (n : Nat) : Nat := if d.flag (HIF_LINK_STATUS n) HIF_LINK_STATUS_FLIT then 4096 else 768

/-- A free tag of PF `n`'s link, if there is one (R366). -/
def Dev.freeTag (d : Dev) (n : Nat) : Option Nat :=
  let p := d.pf n
  if p.reads.length + p.quar.length < d.tagLimit n then
    (List.range (d.tagLimit n)).find? fun t => (p.reads.look t).isNone && (p.quar.look t).isNone
  else none

/-- HIF_OUTSTANDING follows the tags in use. -/
def Dev.outstanding (d : Dev) (n : Nat) : Dev :=
  d.wr (HIF_OUTSTANDING n) (BitVec.ofNat 64 ((d.pf n).quar.length * 2 ^ 32 + (d.pf n).reads.length))

/-- A host memory read for function `f`, whose data `unit` awaits; without a free tag, or while requests may not be issued, nothing is issued (R356, R366, R367). -/
def Dev.fnRead (d : Dev) (f unit : Nat) (ro : Bool) (addr len : Nat) : Option Dev :=
  let n := d.fnPf f
  if d.fnCan f then
    (d.freeTag n).map fun t =>
      let d := d.updPf n fun p => { p with reads := p.reads.put t ⟨unit, f, len, [], d.now, d.fld (HIF_CTO n) HIF_CTO_US, false⟩ }
      (d.emit (.hostRead n t (d.fnPasid f) (ro && (d.pf n).roEn) (d.pf n).idoEn addr len)).outstanding n
  else none

/-- The outstanding reads of the unit named `u` have no unit any more. -/
def Dev.orphanReads (d : Dev) (u : Nat) : Dev :=
  d.setLink (d.link.mapVals fun _ p => { p with reads := p.reads.mapVals fun _ r => if r.unit = u then { r with unit := 2 ^ 50 } else r })

/-! Interrupts (13 R359 to R361). -/

/-- MSI-X table entry `v` of PF `n`: masked until written. -/
def PfLink.msixAt (p : PfLink) (v : Nat) : MsixEnt := p.msix.lookD v ⟨0, 0, true⟩

/-- Whether a message of vector `v` of PF `n` can be sent now (R361). -/
def Dev.msixCan (d : Dev) (n v : Nat) : Bool :=
  (d.pf n).msixEn && !(d.pf n).fnMask && !((d.pf n).msixAt v).masked && d.canIssue n

/-- A message of vector `v` of PF `n`: sent, or recorded in the pending bit array (R361). -/
def Dev.msix (d : Dev) (n v : Nat) : Dev :=
  if d.msixCan n v then d.emit (.msix n v (d.pf n).idoEn) else d.updPf n fun p => { p with pba := p.pba.put v () }

/-- The recorded messages of PF `n` whose every cause of waiting has ended are sent (R361). -/
def Dev.flushPba (d : Dev) (n : Nat) : Dev :=
  d.each ((d.pf n).pba.map Prod.fst) fun d v =>
    if d.msixCan n v then (d.updPf n fun p => { p with pba := p.pba.del v }).emit (.msix n v (d.pf n).idoEn) else d

/-! The interrupt message store (14 R400, R401). -/

/-- The addresses a ring manager counter stands at (14 R409). -/
def rgmCnt (c : Nat) : Nat := 0x00302000 + c * 8

/-- Message store entry `e`. -/
def Dev.msgAt (d : Dev) (e : Nat) : MsgEnt := d.msg.lookD e ⟨0, 0, true, false⟩

/-- A message of entry `e` of TF `f` is due: sent with the TF's PASID on its PF's link (13 R356, R357), or held as PENDING (R401). -/
def Dev.msgDue (d : Dev) (f e : Nat) : Dev :=
  let m := d.msgAt e
  if !m.masked && d.fnCan f then ((d.setMsg (d.msg.put e { m with pending := false })).emit (.tfMsg (d.fnPf f) f (d.fnCtl f RGM_FUNC_CTL_PASID) (d.pf (d.fnPf f)).idoEn m.addr m.data)).count (rgmCnt 12)
  else d.setMsg (d.msg.put e { m with pending := true })

/-- The functions whose FUNC registers have been written, lowest first; a function not listed has no rings and no messages. -/
def Dev.fns (d : Dev) : List Nat :=
  d.regs.filterMap fun kv =>
    if 0x00310000 ≤ kv.1 && kv.1 < 0x00310000 + 4100 * 0x20 && (kv.1 - 0x00310000) % 0x20 == 0 then some ((kv.1 - 0x00310000) / 0x20) else none

/-- The TF whose message range holds entry `e`. -/
def Dev.msgOwner (d : Dev) (e : Nat) : Option Nat :=
  d.fns.find? fun f => decide (f < 4096) && decide (d.fld (RGM_FUNC_MSG f) RGM_FUNC_MSG_MSG_BASE ≤ e) &&
    decide (e < d.fld (RGM_FUNC_MSG f) RGM_FUNC_MSG_MSG_BASE + d.fld (RGM_FUNC_MSG f) RGM_FUNC_MSG_MSG_COUNT)

/-- Held messages whose every cause of waiting has ended are sent (R401). -/
def Dev.flushMsg (d : Dev) : Dev :=
  d.each ((d.msg.filter fun em => em.2.pending).map Prod.fst) fun d e =>
    match d.msgOwner e with
    | some f => if (d.msgAt e).masked then d else d.msgDue f e
    | none => d

/-- Any of the fields `fs` of register `r` is not 0. -/
def Dev.anyF (d : Dev) (r : Reg) (fs : List Fld) : Bool := fs.any fun f => d.flag r f

/-- Whether the unit of interrupt source `i` has an interrupt-raising status bit at 1 (R360, R361). -/
def Dev.asserted (d : Dev) (i : Nat) : Bool :=
  match i with
  | 0 => d.anyF NTU_STATUS [NTU_STATUS_STEPPED, NTU_STATUS_PPS_IN_SEEN]
  | 1 => d.anyF IMG_STATUS [IMG_STATUS_SWITCHED]
  | 2 => d.anyF KEY_STATUS [KEY_STATUS_CORRUPT]
  | 3 => d.anyF MTR_STATUS [MTR_STATUS_CLOSED, MTR_STATUS_BUF_FULL]
  | 4 => d.anyF MBX_EVENT [MBX_EVENT_RX_READY, MBX_EVENT_TX_EMPTY]
  | 5 => d.anyF RAS_STATUS [RAS_STATUS_NEW, RAS_STATUS_OVERFLOW]
  | 6 => d.anyF PWR_STATUS [PWR_STATUS_CHANGED, PWR_STATUS_CAP_EXCEEDED] ||
      d.anyF PWR_RESET_STATUS [PWR_RESET_STATUS_WARM_DONE, PWR_RESET_STATUS_SLICE_DONE]
  | 7 => d.anyF HIF_EVENT [HIF_EVENT_FROZE, HIF_EVENT_QUIESCED, HIF_EVENT_LINK_UP]
  | 8 => d.anyF RGM_EVENT [RGM_EVENT_MEDIATE, RGM_EVENT_RESET_DONE, RGM_EVENT_RING_ERROR]
  | 9 => d.anyF DMA_EVENT [DMA_EVENT_DONE]
  | 10 => d.anyF MEM_EVENT [MEM_EVENT_PPR_DONE, MEM_EVENT_CXL_REFUSED, MEM_EVENT_SEALED_MISS, MEM_EVENT_ECC_UE]
  | 16 => Nat.land (d.fld (MAC_STAT_HALF_STATUS 0) MAC_STAT_HALF_STATUS_HALF) (d.fld (MAC_STAT_HALF_MASK 0) MAC_STAT_HALF_MASK_MASK) != 0
  | 17 => Nat.land (d.fld (MAC_STAT_HALF_STATUS 3) MAC_STAT_HALF_STATUS_HALF) (d.fld (MAC_STAT_HALF_MASK 3) MAC_STAT_HALF_MASK_MASK) != 0
  | i =>
    let s := (i - 32) / 8
    match (i - 32) % 8 with
    | 0 => d.anyF (PRS_STATUS s) [PRS_STATUS_ECC_ERR]
    | 1 => d.anyF (CLS_STATUS s) [CLS_STATUS_SKIM_DONE, CLS_STATUS_ECC_ERR]
    | 2 => d.anyF (TMG_STATUS s) [TMG_STATUS_OVF_ECC, TMG_STATUS_OVF_FULL]
    | 3 => d.anyF (CPH_STATUS s) [CPH_STATUS_FAULT]
    | 4 => d.anyF (CMP_STATUS s) [CMP_STATUS_ECC_ERR, CMP_STATUS_FAULT]
    | 5 => d.anyF (ENG_SPARE_STATUS s) [ENG_SPARE_STATUS_DONE] ||
        (List.range 32).any fun n => d.flag (ENG_STATUS s n) ENG_STATUS_FAULT
    | _ => false

/-- The interrupt sources that exist (R360). -/
def irqSources : List Nat :=
  List.range 11 ++ [16, 17] ++ (List.range 6).flatMap fun s => (List.range 6).map fun u => 32 + 8 * s + u

/-- Source `i` changes from deasserted to asserted: its message goes where HIF_INT_ROUTE directs (R360). -/
def Dev.irqSend (d : Dev) (i : Nat) : Dev :=
  let r := HIF_INT_ROUTE i
  match d.fld r HIF_INT_ROUTE_DEST with
  | 1 => d.msix (d.fld r HIF_INT_ROUTE_PF) (d.fld r HIF_INT_ROUTE_VECTOR)
  | 2 => d.emit (.ulyarIrq i)
  | _ => d

/-! Fault records (18 R487 to R489). -/

/-- Who reports a fault: slice, position, thread (0xFF for none). -/
structure Reporter where
  slice : Nat
  pos : Nat
  thread : Nat
  deriving DecidableEq, Repr

/-- A hub unit as reporter. -/
def hubUnit : Reporter := ⟨0xFF, 0xFF, 0xFF⟩

/-- A unit of slice `s` as reporter. -/
def sliceUnit (s : Nat) : Reporter := ⟨s, 0xFF, 0xFF⟩

/-- Whether the first reporter stands before the second in the order of R489: slices, then positions and threads, hub units last. -/
def Reporter.before (a b : Reporter) : Bool :=
  decide (a.slice < b.slice) || (a.slice == b.slice && (decide (a.pos < b.pos) || (a.pos == b.pos && decide (a.thread < b.thread))))

/-- The held record of fault source `id`, with its index. -/
def Dev.rasFind (d : Dev) (id : Nat) : Option (Nat × RasRec) := d.ras.find? fun r => r.2.id == id

/-- RAS_STATUS.RECORDS follows the records held. -/
def Dev.rasCount (d : Dev) : Dev := d.setF RAS_STATUS RAS_STATUS_RECORDS (min d.ras.length 0xFF)

/-- One report more in a held record, with the storm rule of R488. -/
def Dev.rasAgain (d : Dev) (k : Nat) (r : RasRec) : Dev :=
  let w := min (r.window + 1) 0xFFFF
  let th := max (d.fld RAS_STORM_CFG RAS_STORM_CFG_THRESHOLD) 1
  let storm := decide (th ≤ w) && !r.storm
  let d := d.setRas (d.ras.put k { r with count := min (r.count + 1) 0xFFFF, window := w, storm := r.storm || storm })
  if storm then d.emit (.pldmEvent r.id) else d

/-- A report of fault source `id` (R487 to R489). Reports stamped with one network time count as of one hub cycle (log entry 8). -/
def Dev.report (d : Dev) (id kind detail : Nat) (who : Reporter) (code : Nat) : Dev :=
  match d.rasFind id with
  | some (k, r) =>
    let r := if r.firstNs == d.now && who.before ⟨r.slice, r.pos, r.thread⟩ then
      { r with detail := detail, kind := kind, slice := who.slice, pos := who.pos, thread := who.thread, code := code } else r
    d.rasAgain k r
  | none =>
    let k := d.ras.firstFree 256
    if k = 256 then (d.satAdd RAS_LOST RAS_LOST_COUNT 1).setF RAS_STATUS RAS_STATUS_OVERFLOW 1
    else
      let r : RasRec := ⟨d.now, detail, id, 0, 0, kind, false, who.slice, who.pos, who.thread, code⟩
      let d := ((d.setRas (d.ras.put k r)).rasAgain k r).rasCount
      (d.setF RAS_STATUS RAS_STATUS_NEW 1).emit (.pldmEvent id)

/-- The life-cycle state (17 R473): 0 BLANK, 1 PROVISIONED, 2 DEPLOYED, 3 RETURNED, 4 RETIRED. -/
def Dev.life (d : Dev) : Nat := d.fld MBX_LIFECYCLE MBX_LIFECYCLE_STATE

/-! Accesses. -/

/-- The slice of a register address, if it lies in a slice's window (01 R37). -/
def sliceAt (a : Nat) : Option Nat := if 0x1000000 ≤ a && decide (a < 0x7000000) then some (a / 0x1000000 - 1) else none

/-- Whether slice `s` is powered and in service, by PWR_STATUS.SLICES (19 R490). -/
def Dev.sliceOn (d : Dev) (s : Nat) : Bool := (d.fld PWR_STATUS PWR_STATUS_SLICES).testBit s

/-- Whether a request of PF `n` with the TEE-originator bit `tee` carries the secure attribute: never on a link that is not in flit mode (13 R350, R538). -/
def Dev.secured (d : Dev) (n : Nat) (tee : Bool) : Bool := tee && d.flag (HIF_LINK_STATUS n) HIF_LINK_STATUS_FLIT

/-- Whether an access by `src` comes over a frozen link (13 R371). -/
def Dev.srcFrozen (d : Dev) : Src → Bool
  | .pf n _ => d.frozen n.val
  | .ulyar => false

/-- An inbound request of a frozen link is discarded and counted (13 R371). -/
def Dev.inboundDiscard (d : Dev) : Src → Dev
  | .pf n _ => d.count (hifCnt n.val 4)
  | .ulyar => d

/-- An unmapped access is recorded in the GLB registers (01 R38, R39). -/
def Dev.unmapped (d : Dev) (addr : Nat) (write : Bool) : Dev :=
  let d := d.satAdd GLB_UNMAPPED_COUNT GLB_UNMAPPED_COUNT_COUNT 1
  if d.flag GLB_UNMAPPED_ADDR GLB_UNMAPPED_ADDR_VALID then d
  else ((d.setF GLB_UNMAPPED_ADDR GLB_UNMAPPED_ADDR_VALID 1).setF GLB_UNMAPPED_ADDR GLB_UNMAPPED_ADDR_WRITE (b2n write)).setF
    GLB_UNMAPPED_ADDR GLB_UNMAPPED_ADDR_OFFSET addr

end Sys2Proof.Machine
end

