-- ==== Sys2Proof/Machine/DevMem.lean ====
section
/-! DEFINITION. Device DRAM: its capacity, the classes of its granules and who reaches them (15 R410, R411, R420 to R422, R439). -/
namespace Sys2Proof.Machine

/-- The address of MEM counter `c` (R439). -/
def memCnt (c : Nat) : Nat := 0x00504000 + c * 8

/-- The bytes of device DRAM (R411). -/
def Dev.capacity (d : Dev) : Nat := (setBits 3 (d.fld MEM_POP MEM_POP_SETS)).length * 4 * d.fld MEM_POP MEM_POP_CH_GIB * 2 ^ 30

/-- The granules there are. -/
def granules : Nat := 6144

/-- The class of granule `g`, and whether it is being zeroed, the undercoat wipe included (R420, R421; 17 R475). -/
def Dev.granClass (d : Dev) (g : Nat) : Nat := d.fld (MEM_GRANULE g) MEM_GRANULE_CLASS
def Dev.granPending (d : Dev) (g : Nat) : Bool := decide (d.wipeFrom ≤ g) || d.flag (MEM_GRANULE g) MEM_GRANULE_PENDING

/-- The granules that the `n` bytes at `a` touch. -/
def granulesOf (a n : Nat) : List Nat := if n = 0 then [] else (List.range ((a + n - 1) / 2 ^ 28 + 1 - a / 2 ^ 28)).map fun i => a / 2 ^ 28 + i

/-- Whether the `n` bytes at `a` are DRAM whose granules' class is one of `cls` and which is not being zeroed. -/
def Dev.dramIn (d : Dev) (cls : List Nat) (a n : Nat) : Bool :=
  decide (a + n ≤ d.capacity) && (granulesOf a n).all fun g => cls.contains (d.granClass g) && !d.granPending g

/-- Whether a hub unit of R422 reaches the `n` bytes at `a`. -/
def Dev.sealedAt (d : Dev) (a n : Nat) : Bool := d.dramIn [3] a n

/-- An access of such a unit outside SEALED granules is counted and reported (R422). -/
def Dev.sealedMiss (d : Dev) : Dev :=
  let (v, d) := d.fresh
  let (c, d) := d.fresh
  ((d.count (memCnt 25)).setF MEM_EVENT MEM_EVENT_SEALED_MISS 1).report 0x0C20 3 v hubUnit c

/-- `d` with the access of a hub unit to the `n` bytes at `a` checked: whether it takes place. -/
def Dev.sealedCheck (d : Dev) (a n : Nat) : Dev × Bool := if d.sealedAt a n then (d, true) else (d.sealedMiss, false)

/-- Whether any word of the `n` bytes at memory address `a` is uncorrectable. -/
def Dev.badIn (d : Dev) (a n : Nat) : Bool := n != 0 && d.poison.any fun p => decide (a / 8 ≤ p.1) && decide (p.1 ≤ (a + n - 1) / 8)

/-- Where set `t` begins, and its size (R411); a set that is not populated has none. -/
def Dev.setBytesOf (d : Dev) : Nat := 4 * d.fld MEM_POP MEM_POP_CH_GIB * 2 ^ 30
def Dev.setStart (d : Dev) (t : Nat) : Option Nat :=
  let m := d.fld MEM_POP MEM_POP_SETS
  if t < 3 && m.testBit t then some ((setBits t m).length * d.setBytesOf) else none

/-- The set that holds address `a`. -/
def Dev.setOf (d : Dev) (a : Nat) : Option Nat := [0, 1, 2].find? fun t => (d.setStart t).any fun b => decide (b ≤ a) && decide (a < b + d.setBytesOf)

/-- An access to the `n` bytes at `a`: their sets leave self-refresh (R417). -/
def Dev.touchDram (d : Dev) (a n : Nat) : Dev :=
  d.each ((if n = 0 then [] else [d.setOf a, d.setOf (a + n - 1)]).filterMap id) fun d t =>
    (d.setBitF MEM_PWR MEM_PWR_SR_STATE t false).setSetAt (d.setAt.put t d.refNs)

end Sys2Proof.Machine
end

