-- ==== Sys2Proof/Machine/Due.lean ====
section
/-! DEFINITION. Which compares against network time are due (02 R54, R55). -/
namespace Sys2Proof.Machine

/-- The place of a kind in the tie order of R55. -/
def DueKind.rank : DueKind → Nat
  | .gate => 0
  | .wheel => 1
  | .lease => 2
  | .wake => 3
  | .epochStop => 4

/-- The firing order of R55: ascending deadline, then kind; equal deadlines of one kind by ascending number, an order that the spec does not give (DESIGN CHOICE, log entry 151). -/
def Due.before (a b : Due) : Bool :=
  decide (a.t < b.t) || (a.t == b.t && (decide (a.kind.rank < b.kind.rank) ||
    (a.kind.rank == b.kind.rank && decide (a.id < b.id))))

/-- Insertion in firing order; a deadline already listed is not listed twice. -/
def Due.insert (x : Due) : List Due → List Due
  | [] => [x]
  | y :: t => if x = y then y :: t else if x.before y then x :: y :: t else y :: Due.insert x t

/-- The deadlines of `l` in firing order. -/
def Due.sort (l : List Due) : List Due := l.foldl (fun a x => Due.insert x a) []

/-- Whether the compare of kind `k` and number `id` is the next to fire. -/
def Dev.dueFirst (d : Dev) (k : DueKind) (id : Nat) : Bool :=
  match d.due with
  | [] => false
  | x :: _ => x.kind == k && x.id == id

/-- The compare that fires leaves the list; its source's following deadline, when already reached, enters it (R56). -/
def Dev.dueFired (d : Dev) (next : Option Due) : Dev :=
  let rest := d.due.tail
  d.setDue (match next with
    | some n => if n.t ≤ d.now then Due.insert n rest else rest
    | none => rest)

end Sys2Proof.Machine
end

