-- ==== Sys2Proof/Machine/RingView.lean ====
section
/-! DEFINITION. The ring manager's shared operations (14): rings and their owners, HEAD, publication, events, the write-back of a timed frame. -/
namespace Sys2Proof.Machine

/-- Ring `r`. -/
def Dev.ringAt (d : Dev) (r : Nat) : RingSt := d.ring.lookD r RingSt.reset

/-- `d` with ring `r` changed by `f`. -/
def Dev.updRing (d : Dev) (r : Nat) (f : RingSt → RingSt) : Dev := d.setRing (d.ring.put r (f (d.ringAt r)))

/-- The function that owns ring `r` (R377). -/
def Dev.ringOwner (d : Dev) (r : Nat) : Option Nat :=
  d.fns.find? fun f => d.fnState f != 0 && decide (d.fnCtl f RGM_FUNC_CTL_RING_BASE ≤ r) &&
    decide (r < d.fnCtl f RGM_FUNC_CTL_RING_BASE + d.fnCtl f RGM_FUNC_CTL_RING_COUNT)

/-- The local number of ring `r` of function `f`. -/
def Dev.ringLocal (d : Dev) (f r : Nat) : Nat := r - d.fnCtl f RGM_FUNC_CTL_RING_BASE

/-- Fields of a ring's configuration (R382). -/
def RingSt.kind (x : RingSt) : Nat := RGM_RING_CFG_KIND.get x.cfg
def RingSt.size (x : RingSt) : Nat := 2 ^ RGM_RING_CFG_SIZE_LOG2.get x.cfg
def RingSt.bufBytes (x : RingSt) : Nat := RGM_RING_CFG_BUF_KIB.get x.cfg * 1024
def RingSt.coherent (x : RingSt) : Bool := RGM_RING_CFG_COHERENT.get x.cfg == 1
def RingSt.roDefault (x : RingSt) : Bool := RGM_RING_CFG_RO_DEFAULT.get x.cfg == 1

/-- The address of index `i`'s slot (R386). -/
def RingSt.slot (x : RingSt) (i : Nat) : Nat := x.base + 32 * (i % x.size)

/-- `a - b` modulo 65,536 (R386). -/
def idxSub (a b : Nat) : Nat := (a % 65536 + 65536 - b % 65536) % 65536

/-- A write into a ring's slots: a coherent ring drops its own copy of the line first (R398). -/
def Dev.slotWrite (d : Dev) (f r i off : Nat) (ro : Bool) (data : List Byte) : Dev :=
  let a := (d.ringAt r).slot i
  (d.updRing r fun x => { x with held := x.held.filter fun h => h.addr != a / 64 * 64 }).fnWrite f ro (a + off) data

/-! What the traffic manager sees of a receive ring (10 R279). -/

/-- Whether ring `r` is FROZEN. -/
def Dev.ringFrozen (d : Dev) (r : Nat) : Bool := (d.ringAt r).state == 3

/-- Whether ring `r`, or the TF it must belong to (any PF for 0xFFFF), is disabled, resetting or absent: a number of 4,096 and more names no TF. -/
def Dev.ringDown (d : Dev) (r tf : Nat) : Bool :=
  match d.ringOwner r with
  | none => true
  | some f => d.fnState f != 2 || (d.ringAt r).state == 0 || (tf != 0xFFFF && (decide (4096 ≤ tf) || (tf != f && d.fnState tf != 2)))

/-- Whether a frame of the tenant function `tf` (a PF for 0xFFFF) may enter ring `r`: a ring of kind RX of that function (R390). -/
def Dev.ringFits (d : Dev) (r tf : Nat) : Bool :=
  (d.ringAt r).kind == 2 && (d.ringOwner r).any fun f => if tf = 0xFFFF then decide (4096 ≤ f) else f == tf

/-- The slots a delivery of `b` bytes fills in ring `x` (R390). -/
def RingSt.slotsFor (x : RingSt) (b : Nat) : Nat := max 1 ((b + x.bufBytes - 1) / max 1 x.bufBytes)

/-- The bytes of a delivery: an exception's own, or the frame's as it stands. -/
def Dev.delivLen (d : Dev) (q : Deliv) : Nat :=
  match q.frame with
  | some id => ((d.frames.look id).map fun f => f.data.length).getD 0
  | none => q.bytes.length

/-- The posted slots of ring `r` that are neither filled nor taken by a delivery that waits: of the entries `[HEAD, PROD)` (R386). -/
def Dev.ringFree (d : Dev) (r : Nat) : Nat :=
  let x := d.ringAt r
  idxSub x.prod x.head - (x.rxq.map fun q => x.slotsFor (d.delivLen q)).sum

/-- Whether ring `r` is enabled and running and has a posted descriptor not yet filled, or is running and one the frames of `tf` may not enter, which needs no descriptor for the drop (R390). -/
def Dev.ringCanTake (d : Dev) (r tf : Nat) : Bool := (d.ringAt r).state == 1 && (d.ringFree r != 0 || !d.ringFits r tf)

/-! Events and messages (R394 to R396). -/

/-- The publication block of ring `r` (R392, R395). -/
def Dev.pubBlock (d : Dev) (f r : Nat) : List Byte :=
  let x := d.ringAt r
  if x.kind = 3 then
    leBytes 2 x.prod ++ leBytes 1 x.state ++ leBytes 1 (b2n x.folded) ++ leBytes 2 x.gen ++ List.replicate 10 0 ++
      leBytes ((d.fnCtl f RGM_FUNC_CTL_RING_COUNT + 7) / 8) x.summary
  else leBytes 2 x.head ++ leBytes 1 x.state ++ leBytes 1 x.errReason ++ leBytes 2 x.errIndex ++ [0, 0]

/-- An event ring's message is due (R396): vector VECTOR of its function. -/
def Dev.evMessage (d : Dev) (f r : Nat) : Dev :=
  let v := RGM_RING_MOD_VECTOR.get (d.ringAt r).mod
  let d := d.updRing r fun x => { x with armed := false, evSince := 0, t0 := none }
  if 4096 ≤ f then d.msix (f - 4096) v
  else if v < d.fld (RGM_FUNC_MSG f) RGM_FUNC_MSG_MSG_COUNT then d.msgDue f (d.fld (RGM_FUNC_MSG f) RGM_FUNC_MSG_MSG_BASE + v)
  else d.count (rgmCnt 13)

/-- Whether an armed event ring's message is due (R396). -/
def RingSt.evDue (x : RingSt) (now : Nat) : Bool :=
  x.armed && match x.t0 with
    | some t => decide (max (RGM_RING_MOD_MOD_COUNT.get x.mod) 1 ≤ x.evSince) || decide (t + 256 * RGM_RING_MOD_MOD_TIME.get x.mod ≤ now)
    | none => false

/-- The message of event ring `r` is sent when it is due. -/
def Dev.evModerate (d : Dev) (f r : Nat) : Dev := if (d.ringAt r).evDue d.now then d.evMessage f r else d

/-- One event more counts toward the message. -/
def RingSt.evCounted (x : RingSt) (now : Nat) : RingSt := { x with evSince := x.evSince + 1, t0 := some (x.t0.getD now) }

/-- An event of local ring `l` is folded into the summary (R395). -/
def RingSt.fold (x : RingSt) (l : Nat) : RingSt :=
  { x with summary := setBit x.summary l true, folded := true, gen := if x.summary.testBit l then x.gen else (x.gen + 1) % 65536 }

/-- An event of kind `k` of ring `r` (R394): posted to its event ring, or folded when that ring is full, in ERROR or FROZEN (R395). -/
def Dev.postEvent (d : Dev) (f r k : Nat) : Dev :=
  let x := d.ringAt r
  let er := RGM_RING_CFG_EV_RING.get x.cfg
  let e := d.ringAt er
  let l := d.ringLocal f r
  if RGM_RING_CFG_EV_EN.get x.cfg = 0 || e.kind != 3 then d
  else if e.state = 1 && decide (idxSub e.prod e.head < e.size) then
    let bytes := leBytes 2 l ++ leBytes 1 k ++ [0] ++ leBytes 2 x.head ++ [0, 0] ++ leBytes 8 d.now ++ List.replicate 16 0
    let d := d.slotWrite f er e.prod 0 e.roDefault bytes
    let d := d.onlyIf (k == 1) fun d => d.updRing r fun x => { x with lastProgress := some e.prod }
    let d := (d.updRing er fun e => RingSt.evCounted { e with prod := (e.prod + 1) % 65536 } d.now).count (rgmCnt 6)
    (d.fnWrite f false e.pub (d.pubBlock f er)).evModerate f er
  else if e.state = 1 || e.state = 2 || e.state = 3 then
    let d := (d.updRing er fun e => e.fold l |>.evCounted d.now).count (rgmCnt 7)
    (d.onlyIf (e.state != 3) fun d => d.fnWrite f false e.pub (d.pubBlock f er)).evModerate f er
  else d

/-- Whether the last PROGRESS event of ring `r` has been consumed: CONS of its event ring has passed it (R394). -/
def Dev.progressFree (d : Dev) (r : Nat) : Bool :=
  match (d.ringAt r).lastProgress with
  | none => true
  | some i =>
    let e := d.ringAt (RGM_RING_CFG_EV_RING.get (d.ringAt r).cfg)
    !decide (idxSub i e.head < idxSub e.prod e.head)

/-- What waits to be published of ring `r` is issued: its block, then its events (R392, R394, 13 R358). -/
def Dev.publish (d : Dev) (r : Nat) : Dev :=
  match d.ringOwner r with
  | none => d
  | some f =>
    let x := d.ringAt r
    if !x.pubWait || !d.fnCan f then d else
    let d := (d.updRing r fun x => { x with pubWait := false, evWait := 0 }).fnWrite f false x.pub (d.pubBlock f r)
    let d := d.onlyIf (x.evWait.testBit 2) fun d => d.postEvent f r 2
    let d := d.onlyIf (x.evWait.testBit 3) fun d => d.postEvent f r 3
    if x.evWait.testBit 1 && d.progressFree r then d.postEvent f r 1 else d

/-- A publication of ring `r` waits, with the event of kind `k` (0 for none). -/
def Dev.pubWaits (d : Dev) (r k : Nat) : Dev :=
  d.updRing r fun x => { x with pubWait := true, evWait := if k = 0 then x.evWait else setBit x.evWait k true }

/-- HEAD moves past every leading chain that is done (R391). -/
def Dev.headMoves (d : Dev) (r : Nat) : Dev :=
  let x := d.ringAt r
  let ready := x.chains.takeWhile fun c => c.stage == 3
  if ready.isEmpty then d
  else (d.updRing r fun x => { x with chains := x.chains.drop ready.length, head := (x.head + (ready.map TxChain.count).sum) % 65536 }).pubWaits r 1

/-- Chain `id` of ring `r`, if the ring still has it. -/
def RingSt.chain? (x : RingSt) (id : Nat) : Option TxChain := x.chains.find? fun c => c.id == id

/-- The write-back of a timed chain: WB_STATUS (1 SENT, 2 DROPPED) and WB_STAMP in the slot of its last descriptor; the chain is done once it is issued (R388, R391, R393). While no request
may be issued it waits (13 R367). -/
def Dev.txWriteback (d : Dev) (r id status stamp : Nat) : Dev :=
  match (d.ringAt r).chain? id, d.ringOwner r with
  | some c, some f =>
    if d.fnCan f then
      let d := d.slotWrite f r (c.first + c.count - 1) 0x10 c.ro (leBytes 1 status ++ List.replicate 7 0 ++ leBytes 8 stamp)
      (d.updRing r fun x => { x with chains := x.chains.map fun y => if y.id = id then { y with stage := 3, wb := none } else y }).headMoves r
    else d.updRing r fun x => { x with chains := x.chains.map fun y => if y.id = id then { y with wb := some (status, stamp) } else y }
  | _, _ => d

/-- The write-backs of ring `r` that wait are issued, oldest first, where they may be. -/
def Dev.wbRetry (d : Dev) (r : Nat) : Dev :=
  d.each (d.ringAt r).chains fun d c => match c.wb with
    | some (status, stamp) => if c.stage = 2 then d.txWriteback r c.id status stamp else d
    | none => d

/-- A frame of chain `id` of ring `r` leaves the part: a timed chain's write-back is due, with `stamp` (0 when dropped) (R47, R393). -/
def Dev.chainLeaves (d : Dev) (r id status stamp : Nat) : Dev :=
  match (d.ringAt r).chain? id with
  | some c => if c.ts && c.stage == 2 then d.txWriteback r id status stamp else d
  | none => d

end Sys2Proof.Machine
end

