-- ==== Sys2Proof/Machine/Frames.lean ====
section
/-! DEFINITION. Frames: lengths, the metadata block, the epoch a frame takes, drops and the in-flight count (03 R66 to R68,
05 R113), and where a frame's bytes stand (04 R84). -/
namespace Sys2Proof.Machine

/-- Frame `id`. -/
def Dev.frame? (d : Dev) (id : Nat) : Option Frame := d.frames.look id

/-- `d` with frame `id` replaced. -/
def Dev.putFrame (d : Dev) (id : Nat) (f : Frame) : Dev := d.setFrames (d.frames.put id f)

/-- `d` with frame `id` changed by `g`, if it is there. -/
def Dev.updFrame (d : Dev) (id : Nat) (g : Frame → Frame) : Dev :=
  match d.frame? id with
  | some f => d.putFrame id (g f)
  | none => d

/-- A new frame enters; its number is `d.nextFrame`. -/
def Dev.newFrame (d : Dev) (f : Frame) : Dev := (d.putFrame d.nextFrame f).setNextFrame (d.nextFrame + 1)

/-- The numbers of an engine position, a thread, a receive channel and a dispatch group of slice `s` (08). -/
def posKey (s p : Nat) : Nat := s * 32 + p
def thrKey (s p t : Nat) : Nat := posKey s p * 8 + t
def chanKey (s p c : Nat) : Nat := posKey s p * 16 + c
def groupKey (s e g : Nat) : Nat := (s * 2 + e) * 256 + g

/-- Frame `id` leaves the N3200: by transmission, delivery or a drop (03 R68). It also leaves the engine stage's order (08 R224), its dispatch queue, and the thread that holds it. -/
def Dev.frameGone (d : Dev) (id : Nat) : Dev :=
  let d := match (d.frame? id).map fun f => (f.slice, f.stage) with
    | some (s, .held p t) => d.setThr (d.thr.upd (thrKey s p t) Thr.reset fun x => { x with frame := none })
    | some (_, .waitGroup _) => d.setDspq (d.dspq.mapVals fun _ l => l.filter (· != id))
    | _ => d
  (d.setFrames (d.frames.del id)).setOrder (d.order.mapVals fun _ l => l.filter (· != id))

/-- The timed frame's write-back, if it came from a ring that asked for one (14 R393): `status` 1 SENT with its stamp, or 2 DROPPED. -/
def Dev.frameStamped (d : Dev) (id status stamp : Nat) : Dev :=
  match d.frame? id with
  | some f => match f.origin with
    | .ring r c => d.chainLeaves r c status stamp
    | _ => d
  | none => d

/-- Frame `id` leaves otherwise than by transmission. -/
def Dev.frameOut (d : Dev) (id : Nat) : Dev := (d.frameStamped id 2 0).frameGone id

/-- A frame leaves by delivery: one that asked for an egress stamp gets an unstated status and stamp (log entry 11). -/
def Dev.frameDelivered (d : Dev) (id : Nat) : Dev :=
  let (a, d) := d.fresh
  let (b, d) := d.fresh
  (d.frameStamped id a b).frameGone id

/-- Frame `id` leaves by a drop counted at `ctr`. -/
def Dev.dropAt (d : Dev) (id ctr : Nat) : Dev := (d.frameOut id).count ctr

/-- The epoch slot `e`. -/
def Dev.slot? (d : Dev) (e : Nat) : Option EpochSlot := d.slots.look e

/-- The current epoch slot's number (03 R66). -/
def Dev.curSlot (d : Dev) : Nat := d.fld IMG_STATUS IMG_STATUS_CUR_SLOT

/-- Slice `s`'s bodies in epoch slot `e`. -/
def Dev.bodies (d : Dev) (e s : Nat) : SliceImg :=
  match d.slot? e with
  | some x => x.img.slices.getD s SliceImg.empty
  | none => SliceImg.empty

/-- The number of the epoch in slot `e`, 0 when there is none. -/
def Dev.epochNo (d : Dev) (e : Nat) : Nat := ((d.slot? e).map EpochSlot.epoch).getD 0

/-- Whether an old epoch is resident beside the current one (IMG_STATUS.DRAINING). -/
def Dev.draining (d : Dev) : Bool := d.flag IMG_STATUS IMG_STATUS_DRAINING

/-- The epoch slot that a frame stamped (or fetched) at `t` ns takes (03 R64): that of a load in WAIT_SWITCH whose switch time `t` has reached, the draining one for an earlier time, else
the current one. -/
def Dev.slotFor (d : Dev) (t : Nat) : Nat :=
  let c := d.curSlot
  let waits := d.fld IMG_STATUS IMG_STATUS_LOAD_STATE == 3 && !d.flag IMG_STATUS IMG_STATUS_NO_IMAGE
  if waits && ((d.slot? (1 - c)).any fun x => decide (x.since ≤ t)) then 1 - c
  else if d.draining && ((d.slot? c).any fun x => decide (t < x.since)) then 1 - c
  else c

/-- The in-flight count of the epoch in slot `e` (03 R68, R69): its frames, and, for the older epoch, its running threads that hold no frame. -/
def Dev.inflight (d : Dev) (e : Nat) : Nat :=
  (d.frames.filter fun kf => kf.2.slot == e).length +
  (if d.draining && e != d.curSlot then
    (d.thr.filter fun kt => kt.2.slot == e && kt.2.frame.isNone && kt.2.st != .stopped).length else 0)

/-- IMG_EPOCH and IMG_INFLIGHT as they read (03 R66, R68). -/
def Dev.imgEpochView (d : Dev) : Nat :=
  (if d.draining then d.epochNo (1 - d.curSlot) else 0) * 65536 + (if d.flag IMG_STATUS IMG_STATUS_NO_IMAGE then 0 else d.epochNo d.curSlot)
def Dev.imgInflightView (d : Dev) : Nat := (if d.draining then d.inflight (1 - d.curSlot) else 0) * 2 ^ 32 + d.inflight d.curSlot

/-- F (05 R107). -/
def Frame.len (f : Frame) : Nat := f.data.length

/-- The length that the traffic manager counts toward a network port: padded, FCS included (10 R265; 07 R195). -/
def Frame.netLen (f : Frame) : Nat := max f.len 60 + 4

/-- The length the traffic manager counts (10 R265). -/
def Frame.tmLen (f : Frame) (host : Bool) : Nat := if host then f.len else f.netLen

/-- The port number the metadata shows: 0xFFFF for a frame from no network port (05 R113). -/
def Frame.port (f : Frame) : Nat := match f.origin with
  | .net p => p
  | _ => 0xFFFF

/-- The stamp in whole nanoseconds. -/
def Frame.stampNs (f : Frame) : Nat := f.stamp / 2 ^ 16

/-- A stack entry's word (05 R114). -/
def StackEnt.word (e : StackEnt) : Nat :=
  e.hdr % 1024 * 2 ^ 22 + e.off % 1024 * 2 ^ 12 + e.len % 1024 * 4 + b2n e.tunnel * 2 + b2n e.conflict

/-- The 128-byte metadata block (05 R113). -/
def Frame.metaBlock (f : Frame) : List Byte :=
  let m := f.pmeta
  leBytes 1 m.pclass ++ leBytes 1 m.stack.length ++ leBytes 1 m.flags ++ leBytes 1 m.tunnels ++ leBytes 2 f.len ++
  leBytes 2 m.payloadOff ++ leBytes 2 m.trustedEnd ++ leBytes 1 m.conflictIdx ++ leBytes 1 m.root ++ leBytes 2 m.lastNode ++
  leBytes 2 m.claimedEnd ++ leBytes 1 f.pass ++ leBytes 1 f.slot ++ leBytes 2 f.port ++ leBytes 2 f.tf ++ leBytes 2 0 ++
  leBytes 8 f.stampNs ++ (m.stack.flatMap fun e => leBytes 4 e.word) ++ List.replicate (96 - 4 * m.stack.length) 0

/-- The 160-byte frame metadata: the block, then the user words (06 R130). -/
def Frame.meta160 (f : Frame) : List Byte := f.metaBlock ++ (f.user.flatMap fun u => leBytes 4 u)

/-- The order key of a frame (08 R224): its port and spreading hash, or its ring. -/
def Frame.key (f : Frame) : Nat :=
  match f.origin with
  | .net p => p * 2 ^ 32 + f.hash
  | .ring r _ => 2 ^ 40 + r
  | .mirror => 2 ^ 41

/-- How far a frame has come on the path to its queue: waiting for the parser, for the classifier, with an engine or the cipher block, on its way to a traffic manager, beyond (01 R25). -/
def Stage.rank : Stage → Nat
  | .receiving _ _ | .stored _ => 0
  | .parsed => 1
  | .cipher _ _ | .waitGroup _ | .held _ _ | .released _ _ => 2
  | .toQueue _ => 3
  | .queued _ _ _ | .wire _ | .toRing _ => 4

/-- Whether frame `id` must wait: an earlier frame of its slice and order key has come no further (01 R22, R27; log entry 143). -/
def Dev.behind (d : Dev) (id : Nat) (f : Frame) : Bool :=
  f.origin != .mirror && d.frames.any fun kf => decide (kf.1 < id) && kf.2.slice == f.slice && kf.2.key == f.key && decide (kf.2.stage.rank ≤ f.stage.rank)

/-- Whether a recirculated frame of slice `s` is ready for the parser (05 R101). -/
def Dev.recircReady (d : Dev) (s : Nat) : Bool :=
  d.frames.any fun kf => kf.2.slice == s && decide (2 ≤ kf.2.pass) && kf.2.stage.rank == 0 && !d.behind kf.1 kf.2

/-- The slice ring `r` is bound to by the image of epoch slot `e` (01 R27; log entry 10). -/
def Dev.ringSlice (d : Dev) (e r : Nat) : Nat := ((d.slot? e).map fun x => Config.ringSlice x.img.bytes r % 6).getD 0

/-- MAX_FRAME of port `p` (04 R83). -/
def Dev.maxFrame (d : Dev) (p : Nat) : Nat := d.fld (MAC_PORT_CTRL (p / 8 * 3) (p % 8)) MAC_PORT_CTRL_MAX_FRAME

/-- The physical facts in force for a frame that reaches slice `s` now (01 R29). -/
def Dev.facts (d : Dev) (s : Nat) : Facts := ⟨d.rd (PRS_EXC_CFG s), (List.range 16).map d.maxFrame⟩

/-- The packet buffer bytes that a frame holds in slice `s`, uncompressed, its reservation while it is being received (04 R84); a frame received
from the network keeps its FCS in the buffer (R83). -/
def Dev.heldBy (d : Dev) (s : Nat) (f : Frame) : Nat :=
  let n := match f.origin with
    | .net _ => f.len + 4
    | _ => f.len
  match f.stage with
  | .receiving r _ => if f.slice = s then r else 0
  | .queued tm _ ov => if tm = s ∧ ov = false then n else 0
  | .wire p => if d.fld (MAC_PORT_STATUS (p / 8 * 3) (p % 8)) MAC_PORT_STATUS_ACTING_SLICE = s then n else 0
  | _ => if f.slice = s then n else 0

/-- TMG_BUF_STATUS.HELD of slice `s`. -/
def Dev.held (d : Dev) (s : Nat) : Nat := (d.frames.map fun kf => d.heldBy s kf.2).sum

/-- TMG_BUF_STATUS.STORED of slice `s`: what header compression leaves of each frame there, which depends on its headers and never exceeds its uncompressed length (04 R84). -/
def Dev.stored (d : Dev) (s : Nat) : Nat := (d.frames.map fun kf => min (Config.storedLen kf.2.data) (d.heldBy s kf.2)).sum

/-- The packet buffer's size in bytes (01 R15). -/
def bufferBytes : Nat := 25165824

/-- The registers of port `p` stand in the window of its die's first slice (04: die-level registers). -/
def portCtrl (p : Nat) : Reg := MAC_PORT_CTRL (p / 8 * 3) (p % 8)
def portStatus (p : Nat) : Reg := MAC_PORT_STATUS (p / 8 * 3) (p % 8)
def portWake (p : Nat) : Reg := MAC_PORT_WAKE (p / 8 * 3) (p % 8)

/-- Port `p`'s state code (04 R95). -/
def Dev.portState (d : Dev) (p : Nat) : Nat := d.fld (portStatus p) MAC_PORT_STATUS_STATE

/-- The acting home slice of port `p` (04 R80). -/
def Dev.actingSlice (d : Dev) (p : Nat) : Nat := d.fld (portStatus p) MAC_PORT_STATUS_ACTING_SLICE

/-- What port `p` holds beside its registers. -/
def Dev.portSt (d : Dev) (p : Nat) : PortSt := d.port.lookD p PortSt.reset

/-- `d` with port `p` changed by `f`. -/
def Dev.updPort (d : Dev) (p : Nat) (f : PortSt → PortSt) : Dev := d.setPort (d.port.put p (f (d.portSt p)))

/-- The address of counter `c` of block `b` of port `p` (04 R97). -/
def macCnt (p b c : Nat) : Nat := 0x01000000 + p / 8 * 3 * 0x01000000 + 0x10000 + p % 8 * 0x400 + b * 0x100 + c * 8

/-- A MAC counter rises by `n`; when its bit 47 changes from 0 to 1, its half-range bit sets (04 R99). -/
def Dev.macCount (d : Dev) (p b c : Nat) (n : Nat := 1) : Dev :=
  let a := macCnt p b c
  let old := d.cntAt a
  let d := d.count a n
  if !old.testBit 47 && (d.cntAt a).testBit 47 then
    d.setBitF (MAC_STAT_HALF_STATUS (p / 8 * 3)) MAC_STAT_HALF_STATUS_HALF (4 * (p % 8) + b) true
  else d

/-- The parser, classifier, traffic manager, cipher and compression counters of a slice (05 R121, 06 R163, 10 R286, 11 R313, 12 R338). -/
def prsCnt (s c : Nat) : Nat := 0x01000000 + s * 0x01000000 + 0x110000 + c * 8
def prsReason (s r : Nat) : Nat := 0x01000000 + s * 0x01000000 + 0x110100 + r * 8
def clsCnt (s c : Nat) : Nat := 0x01000000 + s * 0x01000000 + 0x210000 + c * 8
def tmgCnt (s c : Nat) : Nat := 0x01000000 + s * 0x01000000 + 0x410000 + c * 8
def cphCnt (s c : Nat) : Nat := 0x01000000 + s * 0x01000000 + 0x610000 + c * 8
def cmpCnt (s c : Nat) : Nat := 0x01000000 + s * 0x01000000 + 0x710000 + c * 8

end Sys2Proof.Machine
end

