-- ==== Sys2Proof/Machine/EngView.lean ====
section
/-! DEFINITION. Engines as other units see them (07 R164 to R166, R205, R209 to R212; 08 R221 to R235): threads, entry, traps, waits and
their return, dispatch of frames, the stall detector. -/
namespace Sys2Proof.Machine

/-! Threads (07 R164, R165). -/

/-- Thread `k` (see `thrKey`). -/
def Dev.thrAt (d : Dev) (k : Nat) : Thr := d.thr.lookD k Thr.reset

/-- `d` with thread `k` changed by `f`. -/
def Dev.updThr (d : Dev) (k : Nat) (f : Thr → Thr) : Dev := d.setThr (d.thr.put k (f (d.thrAt k)))

/-- Register gn: g0 reads 0 (R165). -/
def Thr.rg (x : Thr) (n : Nat) : Word := if n = 0 then 0 else x.g.lookD n 0

/-- A write of register gn: g0 discards it (R165). -/
def Thr.setG (x : Thr) (n : Nat) (v : Word) : Thr := if n = 0 then x else { x with g := x.g.put n v }

/-- Predicate pn: p0 reads 1 (R165). -/
def Thr.pred (x : Thr) (n : Nat) : Bool := n == 0 || x.p.testBit n

/-- A write of predicate pn: p0 discards it (R165). -/
def Thr.setP (x : Thr) (n : Nat) (b : Bool) : Thr := if n = 0 then x else { x with p := setBit x.p n b }

/-- The parts of a thread's number: slice, position, thread. -/
def thrSlice (k : Nat) : Nat := k / 256
def thrPos (k : Nat) : Nat := k / 8 % 32
def thrNo (k : Nat) : Nat := k % 8

/-- The engine code of slice `s` in epoch slot `e`. -/
def Dev.code (d : Dev) (e s : Nat) : Option CodeBody := (d.bodies e s).code

/-- Whether position `p` runs body `b` (R172). -/
def CodeBody.runs (b : CodeBody) (p : Nat) : Bool := b.engineMask.testBit p

/-- The base of the code region of epoch slot `e` (R168). -/
def codeBase (e : Nat) : Nat := e * 0x10000

/-- The physical engine that holds position `p` of slice `s` (R172; 08 R243). -/
def Dev.physOf (d : Dev) (s p : Nat) : Nat := d.phys.lookD (posKey s p) (s * 32 + p)

/-- The cluster of position `p` of slice `s`. -/
def clusterOf (s p : Nat) : Nat := 2 * s + p / 16

/-- Whether position `p` of slice `s` is OFFLINE (08 R245). -/
def Dev.offline (d : Dev) (s p : Nat) : Bool := d.flag (ENG_STATUS s p) ENG_STATUS_OFFLINE

/-- Whether the position is frozen for a migration (08 R243). -/
def Dev.posFrozen (d : Dev) (s p : Nat) : Bool :=
  match d.mig.look (clusterOf s p) with
  | some m => m.pos == p && m.frozen
  | none => false

/-- The entry state of thread `t` in the code of epoch slot `e` (R166), in state `st`. MIGRATED holds on (08 R231). -/
def Thr.enter (b : CodeBody) (e t : Nat) (st : TState) (x : Thr) : Thr :=
  { Thr.reset with pc := codeBase e + b.entry.getD t 0, tvec := codeBase e + b.trapv.getD t 0xFFFFFFFF, st := st, slot := e, migrated := x.migrated }

/-- The threads of position `p` of slice `s` are started in the code of epoch slot `e`: the entry state, STOPPED, T0 released (08 R226). -/
def Dev.startPos (d : Dev) (b : CodeBody) (s p e : Nat) : Dev :=
  d.each (List.range 8) fun d t => d.updThr (thrKey s p t) (Thr.enter b e t (if t = 0 then .running else .stopped))

/-- HALT of a thread with no instruction in progress (08 R225, R241). -/
def Thr.halts (x : Thr) : Thr :=
  let x := { x with haltNext := false }
  if x.st = .running ∨ x.st = .waiting ∨ x.st = .trapped then { x with prev := x.st, st := .halted, stepOnce := false } else x

/-! Faults and traps (07 R209 to R212; 08 R233). -/

/-- An engine fault of position `p` of slice `s` (R233, R235), with CODE `code`. The record's DETAIL is left open. -/
def Dev.engineFault (d : Dev) (s p code : Nat) (stalled : Bool) : Dev :=
  let (v, d) := d.fresh
  let d := d.report (0x0800 + d.physOf s p) 3 v ⟨s, p, 0⟩ code
  (d.setF (ENG_STATUS s p) ENG_STATUS_FAULT 1).setF (ENG_STATUS s p) ENG_STATUS_STALLED (b2n stalled)

/-- A trap of thread `k` with `cause` (R209, R210): TRAP_PC is `ret`; a trap that no address caused leaves TRAP_ADDR free; `fault` is the fault source of R212. A trap of T0 that stops it
is an engine fault (08 R233). -/
def Dev.trap (d : Dev) (k cause ret : Nat) (addr fault : Option Nat) : Dev :=
  let (v, d) := d.fresh
  let x := d.thrAt k
  let a := addr.getD (v % 2 ^ 64)
  let y := { x with cause := cause, tpc := ret, taddr := a, tfault := (fault.map fun f => 0x10000 + f).getD 0 }
  let d := match fault with
    | some f => d.report f 2 a ⟨thrSlice k, thrPos k, thrNo k⟩ cause
    | none => d
  if !x.inHandler && x.tvec % 2 == 0 then d.updThr k fun _ => { y with inHandler := true, pc := x.tvec }
  else
    let d := d.updThr k fun _ => { y with st := .trapped, pc := ret }
    d.onlyIf (thrNo k == 0) fun d => d.engineFault (thrSlice k) (thrPos k) cause false

/-! Waits (07 R205; 08 R231). -/

/-- The channels of thread `k`'s engine that hold a visible message. -/
def Dev.chanReady (d : Dev) (k : Nat) : Nat := maskOf ((List.range 16).filter fun c => !((d.chan.lookD (chanKey (thrSlice k) (thrPos k) c) ⟨[], []⟩).vis.isEmpty))

/-- Whether position `p` of slice `s` holds code of both epochs. -/
def Dev.twoEpochs (d : Dev) (s p : Nat) : Bool :=
  d.draining && ((d.code 0 s).any fun b => b.runs p) && ((d.code 1 s).any fun b => b.runs p)

/-- The pending bits of EVENTS of thread `k` (08 R231). -/
def Dev.pendingEvents (d : Dev) (k : Nat) : Nat :=
  let x := d.thrAt k
  let trapped := thrNo k == 0 && (List.range 7).any fun i => (d.thrAt (k + i + 1)).st == .trapped
  let old := d.twoEpochs (thrSlice k) (thrPos k) && x.slot != d.curSlot
  Nat.land x.events (maskOf ([(0, trapped), (1, old), (2, x.migrated)].filterMap fun b => if b.2 then some b.1 else none))

/-- The stall detector of thread `k`'s engine. -/
def Dev.stallAt (d : Dev) (k : Nat) : StallSt := d.stall.lookD (k / 8) ⟨false, false⟩

/-- Why a waiting thread's wait returns now, the first reason of R205's table. -/
def Dev.waitReason (d : Dev) (k : Nat) : Option Nat :=
  let x := d.thrAt k
  match x.wait with
  | none => none
  | some w =>
    if thrNo k == 0 && (d.stallAt k).pending then some 5
    else if w.frame && x.frame.isSome then some 1
    else if w.chan && Nat.land x.chanMask (d.chanReady k) != 0 then some 2
    else if w.ticket && x.done != 0 then some 3
    else if w.ext && d.pendingEvents k != 0 then some 4
    else if x.fired then some 0
    else none

/-- Thread `k` crosses to the current epoch (03 R69): it enters its entry point, or stops where the epoch leaves its position out (08 R226). -/
def Dev.cross (d : Dev) (k : Nat) (st : TState) : Dev :=
  match d.code d.curSlot (thrSlice k) with
  | some b => if b.runs (thrPos k) then d.updThr k (Thr.enter b d.curSlot (thrNo k) st) else d.updThr k fun x => { x with st := .stopped }
  | none => d.updThr k fun x => { x with st := .stopped }

/-- Thread `k`'s wait returns with `reason` (R205); a thread of the older epoch with no frame and no ticket outstanding crosses (03 R69; 07 R166). -/
def Dev.waitReturns (d : Dev) (k reason : Nat) : Dev :=
  let d := d.updThr k fun x =>
    { (x.setG ((x.wait.map WaitArm.rd).getD 0) (BitVec.ofNat 64 reason)) with pc := x.pc + 4, st := .running, wait := none, armed := false, fired := false }
  let d := d.onlyIf (reason == 5) fun d => d.setStall (d.stall.put (k / 8) { d.stallAt k with pending := false })
  let x := d.thrAt k
  if d.draining && x.slot != d.curSlot && x.frame.isNone && x.busy == 0 then d.cross k .running else d

/-! The stall detector (08 R234, R235). -/

/-- A quiet wait (R234). -/
def Thr.quietWait (x : Thr) : Bool :=
  x.st == .waiting && !x.armed && !x.fired && (x.wait.any fun w => !w.frame && !(w.ext && x.events % 2 ^ 16 != 0))

/-- Whether T1 to T7 of a position are quiescent (R234). -/
def Dev.quiescent (d : Dev) (s p : Nat) : Bool :=
  ((List.range 7).all fun i =>
    let x := d.thrAt (thrKey s p (i + 1))
    x.st == .stopped || x.st == .trapped || x.quietWait) &&
  ((List.range 8).all fun t => (d.thrAt (thrKey s p t)).busy == 0) &&
  ((List.range 16).all fun c => d.chan.lookD (chanKey s p c) ⟨[], []⟩ == ⟨[], []⟩)

/-- Whether thread `k`'s deadline is armed and can fire: not while its position is frozen (07 R205; 08 R230, R243). -/
def Dev.wakeArmed (d : Dev) (k : Nat) : Bool :=
  let x := d.thrAt k
  x.armed && !x.fired && x.wait.isSome && !d.posFrozen (thrSlice k) (thrPos k)

/-- What the engines do of themselves after every command: the wait of a thread whose position is not frozen returns when its event holds (R205), a stall episode ends with its quiescence (R235),
and a deadline that is no longer armed is no longer due. -/
def Dev.settleEngines (d : Dev) : Dev :=
  let d := d.each ((d.thr.filter fun kx => kx.2.st == .waiting).map Prod.fst) fun d k =>
    if d.posFrozen (thrSlice k) (thrPos k) then d else
    match d.waitReason k with
    | some r => d.waitReturns k r
    | none => d
  let d := d.setStall (d.stall.mapVals fun k x => { x with told := x.told && d.quiescent (k / 32) (k % 32) })
  d.setDue (d.due.filter fun x => x.kind != .wake || d.wakeArmed x.id)

/-! Dispatch (08 R221 to R224). -/

/-- Dispatch group `g` of slice `s` under epoch slot `e`, if it has members. -/
def Dev.group? (d : Dev) (s e g : Nat) : Option Group :=
  match (d.code e s).bind fun b => b.groups[g]? with
  | some x => if x.members.all (· == 0) then none else some x
  | none => none

/-- Whether thread `t` of position `p` may take a frame of epoch slot `e` (R221, R243). -/
def Dev.takesFrame (d : Dev) (s e p t : Nat) : Bool :=
  let x := d.thrAt (thrKey s p t)
  x.st == .waiting && (x.wait.any WaitArm.frame) && x.frame.isNone && x.slot == e && !d.offline s p && !d.posFrozen s p

/-- The candidate that takes the next frame of the group (R221). The first scan begins at position 0 (log entry 20). -/
def Dev.candidate (d : Dev) (s e g : Nat) (x : Group) : Option (Nat × Nat) :=
  let last := d.dspLast.lookD (groupKey s e g) 31
  (List.range 32).findSome? fun i =>
    let p := (last + 1 + i) % 32
    ((List.range 8).find? fun t => (x.members.getD p 0).testBit t && d.takesFrame s e p t).map fun t => (p, t)

/-- Frame `id` is dispatched to thread `t` of position `p` (R221, R224). -/
def Dev.dispatchTo (d : Dev) (id s e g p t : Nat) : Dev :=
  let d := d.updFrame id fun f => { f with stage := .held p t, orderKey := some f.key }
  let d := (d.updThr (thrKey s p t) fun x => { x with frame := some id, win := 0 }).setDspLast (d.dspLast.put (groupKey s e g) p)
  (d.setOrder (d.order.put s (d.order.lookD s [] ++ [id]))).count (ENG_DSP_COUNT s g).addr

/-- Frame `id` of slice `s` and epoch slot `e` is steered to group `g` (R221, R222). -/
def Dev.steer (d : Dev) (id s e g : Nat) : Dev :=
  match d.group? s e g with
  | none => d.dropAt id (ENG_DSP_NO_GROUP s).addr
  | some x =>
    let q := d.dspq.lookD (groupKey s e g) []
    match d.candidate s e g x with
    | some (p, t) =>
      if q.isEmpty then d.dispatchTo id s e g p t
      else if max 1 x.depth ≤ q.length then d.dropAt id (ENG_DSP_FULL s g).addr
      else (d.setDspq (d.dspq.put (groupKey s e g) (q ++ [id]))).updFrame id fun f => { f with stage := .waitGroup g }
    | none =>
      if max 1 x.depth ≤ q.length then d.dropAt id (ENG_DSP_FULL s g).addr
      else (d.setDspq (d.dspq.put (groupKey s e g) (q ++ [id]))).updFrame id fun f => { f with stage := .waitGroup g }

/-- Whether no earlier frame of frame `id`'s order key is still in the engine stage of slice `s` (R224). -/
def Dev.orderFirst (d : Dev) (s id : Nat) (key : Option Nat) : Bool :=
  ((d.order.lookD s []).takeWhile (· != id)).all fun j => ((d.frame? j).bind Frame.orderKey) != key

/-- Frame `id` leaves the engine stage. -/
def Dev.orderLeave (d : Dev) (s id : Nat) : Dev :=
  (d.setOrder (d.order.put s ((d.order.lookD s []).filter (· != id)))).updFrame id fun f => { f with orderKey := none }

/-- Whether any thread of the slice's position `p` holds its frame; the held frame of thread `k` is dropped (R233, R245). -/
def Dev.dropHeld (d : Dev) (k : Nat) : Dev :=
  match (d.thrAt k).frame with
  | some id => (d.frameOut id).updThr k fun x => { x with frame := none }
  | none => d

end Sys2Proof.Machine
end

