-- ==== Sys2Proof/Machine/PwrState.lean ====
section
/-! DEFINITION. The effective pressure state (19 R490, R491, R493, R494), and what the power mechanisms do of themselves (R496, R497). -/
namespace Sys2Proof.Machine

/-- A field of PWR_STATUS, and its writing. -/
def Dev.ps (d : Dev) (f : Fld) : Nat := d.fld PWR_STATUS f
def Dev.setPs (d : Dev) (f : Fld) (x : Nat) : Dev := d.setF PWR_STATUS f x

/-- The slices that can be in service: those that passed their tests, on dies whose PLLs run (18 R478, R485). -/
def Dev.availSlices (d : Dev) : Nat := maskOf ((List.range 6).filter fun s => d.bistSlices.testBit s && !d.diesDown.testBit (s / 3))

/-- The slices in service in pressure state `st` (R490). -/
def Dev.slicesIn (d : Dev) (st : Nat) : Nat :=
  match st with
  | 0 => d.availSlices
  | 1 => Nat.land d.availSlices (d.fld PWR_HALF_SLICES PWR_HALF_SLICES_MASK)
  | _ => 0

/-- The state that the D-states imply (R491): the shallowest over the PFs present. -/
def Dev.implied (d : Dev) : Nat :=
  if d.perst then 3
  else (((List.range 4).filter d.pfPresent).map fun n => if (d.pf n).dstate = 3 then 2 else 0).foldl min 2

/-- The effective state (R491): the deepest allowed one that is no deeper than the deeper of TARGET and the implied state. -/
def Dev.effective (d : Dev) : Nat :=
  let want := max (d.fld PWR_CMD PWR_CMD_TARGET) d.implied
  ([3, 2, 1].find? fun s => decide (s ≤ want) && (d.rd PWR_ALLOW).toNat.testBit s).getD 0

/-- Slices `l` are to join: their banks are held, and DMA channel 63 with them (09 R258). -/
def Dev.holdBanks (d : Dev) (l : List Nat) : Dev :=
  if l.isEmpty then d else (d.setBankHeld (maskOf l)).setF (DMA_CH_STATUS 63) DMA_CH_STATUS_STATE 3

/-- The clearing of the banks has ended. -/
def Dev.banksDone (d : Dev) : Dev := if d.bankHeld = 0 then d else (d.setBankHeld 0).setF (DMA_CH_STATUS 63) DMA_CH_STATUS_STATE 0

/-- The effective state is computed, and acted on unless a transition runs (R491, R493, R494, R501). EASY is reached through PADDLE. -/
def Dev.pwrEval (d : Dev) : Dev :=
  let d := d.setPs PWR_STATUS_IMPLIED d.implied
  if d.flag PWR_STATUS PWR_STATUS_IN_TRANSITION then d
  else
    let eff := d.effective
    let dest := min eff 2
    let sl := d.slicesIn dest
    if dest = d.ps PWR_STATUS_STATE ∧ sl = d.ps PWR_STATUS_SLICES then
      (d.setPs PWR_STATUS_EASY_WAIT (b2n (eff == 3))).onlyIf (eff != 3) fun d => d.setEasyEpoch none
    else
      let d := ((d.setPs PWR_STATUS_EASY_WAIT 0).setEasyEpoch none).setPwrNext (dest, sl)
      (d.setPs PWR_STATUS_IN_TRANSITION 1).holdBanks ((setBits 6 sl).filter fun s => !d.sliceOn s)

/-- Whether an engine may be clock gated (19 R496, R497): allowed, and every thread quiescent. -/
def Dev.gateCan (d : Dev) (g : Nat) : Bool :=
  d.flag PWR_ENVELOPE PWR_ENVELOPE_CLK_GATE && decide (40 ≤ d.fld PWR_ENVELOPE PWR_ENVELOPE_LATENCY_NS) && (List.range 8).all fun t =>
    let x := d.thrAt (g * 8 + t)
    x.st == .stopped || x.st == .trapped || x.st == .halted || (x.st == .waiting && (d.waitReason (g * 8 + t)).isNone)

/-- The sets in self-refresh leave it when it is no longer allowed (19 R496). -/
def Dev.refreshExit (d : Dev) : Dev :=
  if d.fld MEM_PWR MEM_PWR_SR_STATE = 0 || (d.flag PWR_ENVELOPE PWR_ENVELOPE_DRAM_SR && decide (2000 ≤ d.fld PWR_ENVELOPE PWR_ENVELOPE_LATENCY_NS)) then d
  else d.setF MEM_PWR MEM_PWR_SR_STATE 0

/-- Whether every granule is FREE, none to become another class (15 R420, R421). -/
def Dev.allFree (d : Dev) : Bool := !(d.regs.any fun kv => decide (0x508000 ≤ kv.1) && decide (kv.1 < 0x508000 + 4 * 6144) && (MEM_GRANULE_CLASS.get kv.2 != 0 || MEM_GRANULE_PENDING.get kv.2 != 0))

/-- While EASY waits in PADDLE, the end of the metering epoch that was open when every granule came to be FREE is noted; a granule that is not restarts the wait (19 R494). -/
def Dev.easyWaits (d : Dev) : Dev :=
  if d.flag PWR_STATUS PWR_STATUS_EASY_WAIT then (if d.allFree then (if d.easyEpoch.isNone then d.setEasyEpoch (some d.mtrOpen.stop) else d) else d.setEasyEpoch none) else d

/-- The effective state follows the D-states of the PFs present (R491): a reset of a PF returns it to D0. -/
def Dev.pwrFollow (d : Dev) : Dev := if (d.pwrMode == .running || d.pwrMode == .warm) && d.implied != d.ps PWR_STATUS_IMPLIED then d.pwrEval else d

/-- What the power mechanisms do of themselves: an engine with a wake cause, or no longer allowed to be gated, is ungated (19 R497). -/
def Dev.settlePower (d : Dev) : Dev := (((d.setGated (d.gated.filter d.gateCan)).refreshExit).pwrFollow).easyWaits

end Sys2Proof.Machine
end

