-- ==== Sys2Proof/Machine/Answer.lean ====
section
/-! DEFINITION. How a meaning answers: what happens of itself after every command (07 R205; 08 R234; 13 R361), then the next state. -/
namespace Sys2Proof.Machine

/-- After a command: every wait that an event satisfies returns (07 R205), every source that came to be asserted sends its message, and every recorded message whose causes of waiting
have ended is sent (R361). -/
def Dev.settle (d : Dev) : Dev :=
  let d := d.settleEngines
  let on := irqSources.filter d.asserted
  let rising := on.filter fun i => !d.irq.testBit i
  let d := (d.each rising Dev.irqSend).setIrq (maskOf on)
  ((d.each [0, 1, 2, 3] Dev.flushPba).flushMsg).settlePower

/-- Whether the part runs: not in EASY, not held in reset or in a warm reset, not in the safe state, its clocks not stopped (18 R480; 19 R490, R499; 20 R509, R518). -/
def Dev.runs (d : Dev) : Bool := d.pwrMode == .running

/-- The answer of a meaning in any state of power: the device `d`, memory and queue unchanged, interrupts settled. -/
def finA (s : State) (d : Dev) : Host.Outcome State Fault Refusal := .next { s with toDev := d.settle }

/-- The answer of a meaning outside the always-on domain: nothing happens while the part does not run. -/
def fin (s : State) (d : Dev) : Host.Outcome State Fault Refusal := if s.runs then finA s d else .next s

/-- The answer of a meaning of a unit that a warm reset keeps: the host links, metering, the fault records (19 R499). -/
def finK (s : State) (d : Dev) : Host.Outcome State Fault Refusal := if s.runs || s.pwrMode == .warm then finA s d else .next s

/-- The answer of a meaning that also changes memory. -/
def finM (s : State) (d : Dev) (m : Memory) : Host.Outcome State Fault Refusal := if s.runs then .next { s with toDev := d.settle, mem := m } else .next s

/-- A register write by `src` at the address `a` of the register file: discarded on a frozen link (R371); unmapped in BAR0 during a warm reset (19 R499); else `d`. -/
def finW (s : State) (src : Src) (a : Nat) (d : Dev) : Host.Outcome State Fault Refusal :=
  if s.srcFrozen src then finA s (s.inboundDiscard src)
  else if s.pwrMode = .warm && decide (a < 2 ^ 28) then finA s (s.unmapped a true)
  else fin s d

/-- A register read by `src` of a register at `a`, `width` bits wide: all ones on a frozen link (R371), 0 during a warm reset (19 R499), else `d` with `v` returned. -/
def finR (s : State) (src : Src) (a width v : Nat) (d : Dev) : Host.Outcome State Fault Refusal :=
  if s.srcFrozen src then finA s ((s.inboundDiscard src).emit (.readData (2 ^ width - 1)))
  else if s.pwrMode = .warm && decide (a < 2 ^ 28) then finA s ((s.unmapped a false).emit (.readData 0))
  else fin s (d.emit (.readData v))

/-- What a register write by `src` at `a` that changes memory comes to (see `finW`), else `t`. -/
def finSM (s : State) (src : Src) (a : Nat) (t : State) : Host.Outcome State Fault Refusal :=
  if s.srcFrozen src || s.pwrMode = .warm then finW s src a s.toDev else if s.runs then finM t t.toDev t.mem else .next s

/-- A write to a register of slice `sl`: as unmapped while the slice is powered down (01 R38). -/
def finSW (s : State) (src : Src) (sl : Nat) (r : Reg) (d : Dev) : Host.Outcome State Fault Refusal :=
  finW s src r.addr (if s.sliceOn sl then d else s.toDev.unmapped r.addr true)

/-- A read of a register of slice `sl`: as unmapped, returning 0, while the slice is powered down (01 R38). -/
def finSR (s : State) (src : Src) (sl : Nat) (r : Reg) (width v : Nat) (d : Dev) : Host.Outcome State Fault Refusal :=
  if s.sliceOn sl then finR s src r.addr width v d else finR s src r.addr width 0 (s.toDev.unmapped r.addr false)

end Sys2Proof.Machine
end

