-- ==== Sys2Proof/Machine/Mailbox.lean ====
section
/-! DEFINITION. The mailbox channels (17 R456 to R464): FIFOs, events, requests and replies. -/
namespace Sys2Proof.Machine

/-- Channel `c`. -/
def Dev.mb (d : Dev) (c : Nat) : Mbx := d.mbx.lookD c ⟨[], [], [], false⟩

/-- RX_COUNT and TX_FREE of channel `c` follow its FIFOs. -/
def Dev.mbShow (d : Dev) (c : Nat) : Dev :=
  if 6 ≤ c then d else
  (d.setF (MBX_CH_STATUS c) MBX_CH_STATUS_RX_COUNT (d.mb c).rx.length).setF (MBX_CH_STATUS c) MBX_CH_STATUS_TX_FREE (32 - (d.mb c).tx.length)

/-- `d` with channel `c` changed by `f`. -/
def Dev.updMb (d : Dev) (c : Nat) (f : Mbx → Mbx) : Dev := (d.setMbx (d.mbx.put c (f (d.mb c)))).mbShow c

/-- An event of channel `c` (R458): its status bit `st`; with its enable `ie` 1 the bit `c` of `ev` in MBX_EVENT for channels 0 to 3, and the message MBX_CH_ROUTE names. -/
def Dev.mbEvent (d : Dev) (c : Nat) (st ie ev : Fld) : Dev :=
  if 6 ≤ c then d else
  let d := d.setF (MBX_CH_STATUS c) st 1
  if d.flag (MBX_CH_CTRL c) ie then
    let d := d.onlyIf (decide (c < 4)) fun d => d.setBitF MBX_EVENT ev c true
    let r := MBX_CH_ROUTE c
    d.onlyIf (d.flag r MBX_CH_ROUTE_EN) fun d => d.msix (if c < 4 then c else d.fld r MBX_CH_ROUTE_PF) (d.fld r MBX_CH_ROUTE_VECTOR)
  else d

/-- The replies of channel `c` that wait enter the reply FIFO while it has room for the whole (R457, R458); a channel of the BMC sends them. -/
def Dev.mbFlush (d : Dev) (c : Nat) : Dev :=
  d.each (d.mb c).out fun d r =>
    if 6 ≤ c then (d.updMb c fun m => { m with out := m.out.tail }).emit (.reply c (r.flatMap fun w => leBytes 4 w))
    else if (d.mb c).out.head? == some r && decide ((d.mb c).rx.length + r.length ≤ 32) then
      (d.updMb c fun m => { m with rx := m.rx ++ r, out := m.out.tail }).mbEvent c MBX_CH_STATUS_RX_READY MBX_CH_CTRL_IE_RX MBX_EVENT_RX_READY
    else d

/-- The request whose header is `hdr` is answered with STATUS and payload (R460, R463). -/
def Dev.mbReply (d : Dev) (c hdr status : Nat) (payload : List Nat) : Dev :=
  let w := hdr / 2 ^ 16 * 2 ^ 16 + status * 256 + payload.length
  (d.updMb c fun m => { m with out := m.out ++ [w :: payload], busy := false }).mbFlush c

/-- The request at the head of a channel, all of whose words are there, when Ulyar may take it: none is in progress, and no reply waits (R457, R460, R461). Its header and payload. -/
def Mbx.front (m : Mbx) : Option (Nat × List Nat) :=
  match m.tx with
  | h :: t => if h % 32 ≤ t.length ∧ m.busy = false ∧ m.out = [] then some (h, t.take (h % 32)) else none
  | [] => none

/-- Ulyar takes the request at the head of channel `c` (R458, R461). -/
def Dev.mbTake (d : Dev) (c : Nat) : Dev :=
  match (d.mb c).front with
  | some (h, _) =>
    let d := d.updMb c fun m => { m with tx := m.tx.drop (h % 32 + 1), busy := true }
    d.onlyIf (d.mb c).tx.isEmpty fun d => d.mbEvent c MBX_CH_STATUS_TX_EMPTY MBX_CH_CTRL_IE_TX MBX_EVENT_TX_EMPTY
  | none => d

/-- A request whose CMD no row of R461 gives, or with a reserved bit set (R463). -/
def badCommand (h : Nat) : Bool := h / 2 ^ 24 = 0 || decide (0x0A < h / 2 ^ 24) || h / 2 ^ 5 % 2 ^ 11 != 0

/-- The requests at the head of channel `c` that are BAD_COMMAND are answered (R463). -/
def Dev.mbRefuse (d : Dev) (c : Nat) : Nat → Dev
  | 0 => d
  | n + 1 =>
    match (d.mb c).front with
    | some (h, _) => if badCommand h then ((d.mbTake c).mbReply c h 1 []).mbRefuse c n else d
    | none => d

/-- The request `cmd` at the head of channel `c` is taken and served by `f`, on a channel that `allowed` permits with a life-cycle state that `state` permits, and `len` payload words, else answered with
NOT_PERMITTED, STATE or BAD_ARGUMENT (R461, R463). Nothing happens when another request or none is there. -/
def Dev.mbServe (d : Dev) (c cmd : Nat) (allowed state : Bool) (len : Nat) (f : Dev → Nat → List Nat → Dev) : Dev :=
  match (d.mb c).front with
  | some (h, p) =>
    if h / 2 ^ 24 != cmd || badCommand h then d
    else
      let d := d.mbTake c
      (if !allowed then d.mbReply c h 2 []
      else if !state then d.mbReply c h 4 []
      else if p.length != len then d.mbReply c h 3 []
      else f d h p).mbRefuse c 32
  | none => d

/-- A 64-bit quantity of two words, the low one first (R460). -/
def word64 (p : List Nat) (i : Nat) : Nat := p.getD i 0 + p.getD (i + 1) 0 * 2 ^ 32

/-- Where an address argument points (R460): a host address read through a PF's link, or a device address. -/
inductive Space where
  | host (pf : Nat)
  | device
  | bad
  deriving DecidableEq, Repr

/-- The SPACE word of a request on channel `c`: channels 0 to 3 name their own PF. -/
def spaceOf (c w : Nat) : Space :=
  if w % 256 = 1 ∧ w = 1 then .device
  else if w % 256 = 0 ∧ w < 1024 then (if c < 4 ∧ w / 256 ≠ c then .bad else .host (w / 256))
  else .bad

/-! Access to the windows (R456, R457, R459). -/

/-- What an access by `src` to channel `c`'s window meets: it reaches it, it is denied and counted, or it reads 0 and discards writes. -/
inductive Window where
  | open_ | denied | none
  deriving DecidableEq, Repr

/-- R456 and R459. -/
def Dev.window (d : Dev) (c : Nat) : Src → Window
  | .pf n tee => if c < 4 then (if n.val = c then .open_ else .none) else if d.secured n.val tee then .open_ else .denied
  | .ulyar => .none

/-- A write by `src` to channel `c`'s window, with effect `f`. -/
def Dev.mbWrite (d : Dev) (src : Src) (c : Nat) (f : Dev → Dev) : Dev :=
  match d.window c src with
  | .open_ => f d
  | .denied => d.satAdd MBX_NS_DENIED MBX_NS_DENIED_COUNT 1
  | .none => d

/-- A word is pushed into the request FIFO, or discarded (R457). -/
def Dev.mbPush (d : Dev) (c w : Nat) : Dev :=
  if 32 ≤ (d.mb c).tx.length then d.setF (MBX_CH_STATUS c) MBX_CH_STATUS_OVERRUN 1
  else (d.updMb c fun m => { m with tx := m.tx ++ [w] }).mbRefuse c 32

/-- MBX_TX_PUSH (R457). -/
def execMbxTxPush (src : Src) (ch : Fin 6) (v : Word) (s : State) : Host.Outcome State Fault Refusal :=
  finW s src (MBX_TX_DATA ch.val).addr (s.mbWrite src ch.val fun d => d.mbPush ch.val (v.toNat % 2 ^ 32))

/-- A read by `src` of MBX_RX_DATA of channel `c`: the value and what follows (R457). -/
def Dev.mbPop (d : Dev) (src : Src) (c : Nat) : Nat × Dev :=
  match d.window c src with
  | .open_ => match (d.mb c).rx with
    | w :: t => (w, ((d.updMb c fun m => { m with rx := t }).mbFlush c).mbRefuse c 32)
    | [] => (0, d.setF (MBX_CH_STATUS c) MBX_CH_STATUS_UNDERRUN 1)
  | .denied => (0, d.satAdd MBX_NS_DENIED MBX_NS_DENIED_COUNT 1)
  | .none => (0, d)

/-- MBX_RX_POP (R457). -/
def execMbxRxPop (src : Src) (ch : Fin 6) (s : State) : Host.Outcome State Fault Refusal :=
  finR s src (MBX_RX_DATA ch.val).addr 32 (s.mbPop src ch.val).1 (s.mbPop src ch.val).2

/-- The request of channel `c` in progress is abandoned, an image load past verification still switching with its reply discarded, and both FIFOs emptied (R464). -/
def Dev.mbAbandon (d : Dev) (c : Nat) : Dev :=
  let st := d.fld IMG_STATUS IMG_STATUS_LOAD_STATE
  let d := match d.load with
    | some l => if l.chan != c then d
      else if st = 1 then (d.setLoad none).setF IMG_STATUS IMG_STATUS_LOAD_STATE 0
      else d.setLoad (some { l with chan := 9 })
    | none => d
  (d.setSealWait (d.sealWait.filter fun w => w.chan != c)).updMb c fun _ => ⟨[], [], [], false⟩

/-- A write of MBX_CH_CTRL (R464). -/
def Dev.mbCtrl (d : Dev) (c : Nat) (v : Word) : Dev :=
  (d.wr (MBX_CH_CTRL c) (v &&& 3)).onlyIf (MBX_CH_CTRL_ABORT.get v == 1) fun d => d.mbAbandon c

/-- MBX_ABORT (R464). -/
def execMbxAbort (src : Src) (ch : Fin 6) (v : Word) (s : State) : Host.Outcome State Fault Refusal :=
  finW s src (MBX_CH_CTRL ch.val).addr (s.mbWrite src ch.val fun d => d.mbCtrl ch.val v)

end Sys2Proof.Machine
end

