-- ==== Sys2Proof/Machine/KeyStore.lean ====
section
/-! DEFINITION. The key store (11 R287 to R299, R312): commands, records, leases and use numbers. -/
namespace Sys2Proof.Machine

/-- A field of a slot's attributes (R288). -/
def KeySlot.attrF (x : KeySlot) (f : Fld) : Nat := f.get x.attr
def KeySlot.alg (x : KeySlot) : Nat := x.attrF KEY_INST_ATTR_ALG
def KeySlot.proto (x : KeySlot) : Nat := x.attrF KEY_INST_ATTR_PROTO
def KeySlot.dir (x : KeySlot) : Nat := x.attrF KEY_INST_ATTR_DIR
def KeySlot.esn (x : KeySlot) : Bool := x.attrF KEY_INST_ATTR_ESN == 1

/-- `d` with slot `k` changed by `f`, if it is not EMPTY. -/
def Dev.updKey (d : Dev) (k : Nat) (f : KeySlot → KeySlot) : Dev :=
  match d.keySlot.look k with
  | some x => d.setKeySlot (d.keySlot.put k (f x))
  | none => d

/-! Leases (R296 to R299). -/

/-- The uses of a range list. -/
def KeySlot.returned (x : KeySlot) : Nat := (x.ret.map fun r => r.2.2 - r.2.1).sum
def KeySlot.leased (x : KeySlot) : Nat := (x.leases.map fun l => l.2.stop - l.2.next).sum

/-- The instant at which a slot becomes SPENT (R297). -/
def KeySlot.spend (x : KeySlot) : KeySlot := if x.state = 1 ∧ x.next = x.limit ∧ x.ret = [] ∧ x.leases = [] then { x with state := 2 } else x

/-- The unused part of slice `s`'s lease goes to RET[s] (R299). -/
def KeySlot.giveBack (s : Nat) (x : KeySlot) : KeySlot :=
  match x.leases.look s with
  | some l => { x with leases := x.leases.del s, ret := x.ret.put s (l.next, l.stop) }
  | none => x

/-- Slice `s`'s lease is lost, its unused part stranded (R299). -/
def KeySlot.strand (s : Nat) (x : KeySlot) : KeySlot :=
  match x.leases.look s with
  | some l => ({ x with leases := x.leases.del s, stranded := x.stranded + (l.stop - l.next) } : KeySlot).spend
  | none => x

/-- Every lease and returned range is discarded into STRANDED (R293). -/
def KeySlot.discard (x : KeySlot) : KeySlot := { x with leases := [], ret := [], stranded := x.stranded + x.leased + x.returned }

/-- REVOKE puts the slot in REVOKED, its uses discarded; a record that failed before no longer matters: later operations end with KEY_REVOKED (R293). -/
def KeySlot.revoke (x : KeySlot) : KeySlot := { x.discard with state := 3, corrupt := false }

/-- ERASE discards the uses likewise; the slot becomes EMPTY when the command completes, and until then no operation uses it (R287, R293). -/
def KeySlot.erase (x : KeySlot) : KeySlot := { x.discard with erasing := true }

/-- The first source of R297 that holds a number, for slice `s`: the range, and the slot without it. -/
def KeySlot.source (s : Nat) (x : KeySlot) : Option (Nat × Nat × KeySlot) :=
  match x.ret.look s with
  | some r => some (r.1, r.2, { x with ret := x.ret.del s })
  | none => match x.ret with
    | (t, r) :: _ => some (r.1, r.2, { x with ret := x.ret.del t })
    | [] => if x.next < x.limit then
        let e := min (x.next + 65536) x.limit
        some (x.next, e, { x with next := e })
      else none

/-- The slots on which slice `s` holds a lease. -/
def Dev.leasesOf (d : Dev) (s : Nat) : List (Nat × Lease) := d.keySlot.filterMap fun kx => (kx.2.leases.look s).map fun l => (kx.1, l)

/-- Slots pinned in the key cache (R295). -/
def Dev.pinned (d : Dev) : List (Nat × KeySlot) := d.keySlot.filter fun kx => !kx.2.leases.isEmpty

/-- The key of the least value of `f`. -/
def leastBy {α : Type} (f : α → Nat) : List (Nat × α) → Option Nat
  | [] => none
  | (k, x) :: t => some ((t.foldl (fun (b : Nat × Nat) y => if f y.2 < b.2 then (y.1, f y.2) else b) (k, f x)).1)

/-- The leases of slot `k` are recalled and counted as returned by their slices (R299, R313). -/
def Dev.recallAll (d : Dev) (k : Nat) (f : KeySlot → KeySlot) : Dev :=
  match d.keySlot.look k with
  | some x => (d.each x.leases fun d sl => d.count (cphCnt sl.1 11)).updKey k f
  | none => d

/-- Slice `s` draws a lease on slot `k` (R295 to R299): its least recently used lease goes back when it holds 16,384, and a slot's leases are recalled when the cache's every entry is pinned. -/
def Dev.drawLease (d : Dev) (s k : Nat) : Dev :=
  match (d.keySlot.look k).bind (KeySlot.source s) with
  | none => d
  | some (a, b, x) =>
    let mine := d.leasesOf s
    let d := match (if 16384 ≤ mine.length then leastBy Lease.used mine else none) with
      | some j => (d.updKey j (KeySlot.giveBack s)).count (cphCnt s 11)
      | none => d
    let pins := d.pinned
    let d := match (if 65536 ≤ pins.length && x.leases.isEmpty then leastBy KeySlot.drawn pins else none) with
      | some j => d.recallAll j fun y => (y.leases.map Prod.fst).foldl (fun y t => y.giveBack t) y
      | none => d
    let n := d.keyOrder
    let ttl := max 1 (d.fld KEY_LEASE_CFG KEY_LEASE_CFG_TTL_MS) * 1000000
    ((d.setKeySlot (d.keySlot.put k { x with leases := x.leases.put s ⟨a, b, d.now + ttl, n⟩, drawn := n })).setKeyOrder (n + 1)).count (cphCnt s 9)

/-- Slice `s`'s lease on slot `k` expires (R299). -/
def Dev.expireLease (d : Dev) (s k : Nat) : Dev := (d.updKey k (KeySlot.giveBack s)).count (cphCnt s 10)

/-- A lease whose expiry network time has reached gives no number (R299). -/
def Dev.leaseTick (d : Dev) (s k : Nat) : Dev :=
  match (d.keySlot.look k).bind fun x => x.leases.look s with
  | some l => if l.expiry ≤ d.now then d.expireLease s k else d
  | none => d

/-- Slice `s` can get `n` uses of slot `x` (R290, R297). -/
def KeySlot.hasUses (s n : Nat) (x : KeySlot) : Bool :=
  decide (n ≤ ((x.leases.look s).map fun l => l.stop - l.next).getD 0 + x.returned + (x.limit - x.next))

/-- Slice `s` takes `n` uses of slot `k`, drawing as often as it needs (R298): the first one's number is that of the first range's next. At most `fuel` ranges. -/
def Dev.takeUses (s k : Nat) : Nat → Nat → Dev → Dev
  | 0, _, d => d
  | fuel + 1, n, d =>
    if n = 0 then d else
    match (d.keySlot.look k).bind fun x => x.leases.look s with
    | none => if ((d.keySlot.look k).bind (KeySlot.source s)).isSome then Dev.takeUses s k fuel n (d.drawLease s k) else d
    | some l =>
      let m := min n (l.stop - l.next)
      let d := d.updKey k fun x =>
        (if l.next + m = l.stop then { x with leases := x.leases.del s } else { x with leases := x.leases.put s ⟨l.next + m, l.stop, l.expiry, d.keyOrder⟩ } : KeySlot).spend
      Dev.takeUses s k fuel (n - m) (d.setKeyOrder (d.keyOrder + 1))

/-- The number of the next use of slot `k` by slice `s`. -/
def Dev.nextUse (d : Dev) (s k : Nat) : Option Nat :=
  (d.keySlot.look k).bind fun x => match x.leases.look s with
    | some l => some l.next
    | none => (x.source s).map fun r => r.1

/-! Records (R292). -/

/-- Where slot `k`'s record lies. -/
def Dev.recordAt (d : Dev) (k : Nat) : Nat := d.fld KEY_STORE_BASE KEY_STORE_BASE_ADDR + k * 128

/-- Slot `k`'s record `bs` is written to DRAM, where a granule that is not SEALED refuses it (R292, R422). -/
def State.writeRecord (s : State) (k : Nat) (bs : List Byte) : State :=
  let (d, ok) := s.sealedCheck (s.recordAt k) 128
  { s with toDev := d, mem := if ok then s.mem.writeN (s.recordAt k) bs else s.mem }

/-- Whether the key cache gives slot `x`: a pinned one always, another only while an entry is left for it; which of those it holds is the operand's (R295). A slot whose key the manager has
cleared is not there (R294). -/
def Dev.keyCached (d : Dev) (x : KeySlot) (miss : Bool) : Bool := !x.record.isEmpty && (!x.leases.isEmpty || (!miss && decide (d.pinned.length < 65536)))

/-- The record of an ACTIVE slot `k` is fetched when the key cache does not give it (R292, R295): one that is not as it was sealed, or that cannot be read, puts the slot in REVOKED. -/
def State.fetchSlot (s : State) (k : Nat) (miss : Bool) : State :=
  match s.keySlot.look k with
  | none => s
  | some x =>
    if x.state != 1 || x.erasing || s.keyCached x miss then s else
    let (d, ok) := s.sealedCheck (s.recordAt k) 128
    if ok && !d.badIn (s.recordAt k) 128 && s.mem.readN (s.recordAt k) 128 == x.record then { s with toDev := d }
    else
      let (v, d) := d.fresh
      let (c, d) := d.fresh
      { s with toDev := ((d.updKey k fun x => { x with state := 3, corrupt := true }).setF KEY_STATUS KEY_STATUS_CORRUPT 1).report 0x0A10 2 v hubUnit c }

/-! Commands (R289, R291, R293, R312; 17 R473). -/

/-- Whether `src` may command the key store (R291). -/
def Dev.keyCommander (d : Dev) : Src → Bool
  | .pf n tee => (d.fld KEY_CTRL KEY_CTRL_PF_MASK).testBit n.val && (!d.flag KEY_CTRL KEY_CTRL_SECURE_ONLY || d.secured n.val tee)
  | .ulyar => true

/-- A write to the key store by another source is discarded and counted (R291). -/
def Dev.keyDenied (d : Dev) : Dev := d.satAdd KEY_STATUS KEY_STATUS_DENIED 1

/-- The SALT that the instruction registers hold (R288). -/
def Dev.instSalt (d : Dev) : List Byte := leBytes 8 (d.rd (KEY_INST_SALT0)).toNat ++ leBytes 4 (d.fld KEY_INST_SALT1 KEY_INST_SALT1_SALT_HI)

/-- The slot that the instruction registers describe, ACTIVE. -/
def Dev.instSlot (d : Dev) : KeySlot :=
  ⟨d.rd KEY_INST_ATTR, (d.rd KEY_INST_LIMIT).toNat, (d.rd KEY_INST_PARAM).toNat, d.instSalt, d.fld KEY_INST_SALT1 KEY_INST_SALT1_SSCI,
    (List.range 8).flatMap fun n => leBytes 8 (d.rd (KEY_INST_KEY n)).toNat, 1, false, false, 0, [], [], 0, 0, []⟩

/-- Whether the attributes lie in the table of R288 and suit each other (R289). -/
def KeySlot.attrOk (x : KeySlot) : Bool :=
  let bind := x.attrF KEY_INST_ATTR_SLICE_BIND
  let owner := x.attrF KEY_INST_ATTR_OWNER_TF
  let zeroFrom (n : Nat) : Bool := (x.salt.drop n).all (· == 0)
  decide (1 ≤ x.alg) && decide (x.alg ≤ 4) && decide (x.proto ≤ 5) && (decide (3 ≤ x.alg) == (x.proto == 5)) &&
    bind != 6 && (decide (owner < 4096) || owner == 0xFFFF) && !(x.dir == 0 && decide (1 ≤ x.proto) && decide (x.proto ≤ 4) && bind == 7) &&
    (match x.proto with
      | 1 => decide (x.param < 2 ^ 32)
      | 2 | 3 => true
      | _ => x.param == 0) &&
    (match x.proto with
      | 0 | 1 => zeroFrom 4
      | 3 | 4 => true
      | _ => zeroFrom 0)

/-- Whether LIMIT suits the slot (R289). -/
def KeySlot.limitOk (x : KeySlot) : Bool := x.limit != 0 && !((x.proto == 2 || (x.proto == 1 && !x.esn)) && decide (2 ^ 32 ≤ x.limit))

/-- The key and salt registers after every command (R291). -/
def Dev.instCleared (d : Dev) : Dev := ((d.each (List.range 8) fun d n => d.wr (KEY_INST_KEY n) 0).wr KEY_INST_SALT0 0).wr KEY_INST_SALT1 0

/-- The bytes of a sealed record: nothing states them (R292). -/
def Dev.sealRecord (d : Dev) : List Byte × Dev :=
  let (v, d) := d.fresh
  (leBytes 128 v, d)

/-- Command `op` for slot `k`: its effect and its result. -/
def State.keyRun (s : State) (op k : Nat) : State × Nat :=
  match op, s.keySlot.look k with
  | 1, some _ => (s, 1)
  | 1, none =>
    let x := s.instSlot
    if !x.attrOk then (s, 3)
    else if !x.limitOk then (s, 4)
    else
      let (r, d) := s.sealRecord
      (({ s with toDev := d.setKeySlot (d.keySlot.put k { x with record := r }) } : State).writeRecord k r, 0)
  | 2, some _ =>
    let (r, d) := (s.recallAll k KeySlot.revoke).sealRecord
    (({ s with toDev := (d.updKey k fun x => { x with record := if x.record.isEmpty then [] else r }).setF KEY_CMD_STATUS KEY_CMD_STATUS_BUSY 1 } : State).writeRecord k r, 0)
  | 3, some _ => ({ s with toDev := (s.recallAll k KeySlot.erase).setF KEY_CMD_STATUS KEY_CMD_STATUS_BUSY 1 }, 0)
  | 2, none | 3, none => (s, 2)
  | _, _ => (s, 3)

/-- A write of KEY_CMD with GO by `src` (R291, R293, R312; 17 R473). The checks stand in this order: the commander, BUSY for INSTALL and ERASE, readiness, the command's own. -/
def State.keyCmd (s : State) (src : Src) (op k : Nat) : State :=
  if !s.keyCommander src then { s with toDev := s.keyDenied } else
  let (s, r) := if s.flag KEY_CMD_STATUS KEY_CMD_STATUS_BUSY && (op == 1 || op == 3) then (s, 6)
    else if !s.flag KEY_STATUS KEY_STATUS_READY || !(s.life == 1 || s.life == 2) then (s, 5)
    else s.keyRun op k
  { s with toDev := s.instCleared.setF KEY_CMD_STATUS KEY_CMD_STATUS_RESULT r }

/-- A key store command by `src`. -/
def keyCmdBy (s : State) (src : Src) (op k : Nat) : Host.Outcome State Fault Refusal :=
  finSM s src KEY_CMD.addr (s.keyCmd src op k)

/-- INSTALL (R289). -/
def execInstall (src : Src) (slot : Fin 1048576) (s : State) : Host.Outcome State Fault Refusal := keyCmdBy s src 1 slot.val

/-- REVOKE (R293). -/
def execRevoke (src : Src) (slot : Fin 1048576) (s : State) : Host.Outcome State Fault Refusal := keyCmdBy s src 2 slot.val

/-- ERASE (R293). -/
def execErase (src : Src) (slot : Fin 1048576) (s : State) : Host.Outcome State Fault Refusal := keyCmdBy s src 3 slot.val

/-- Slot `k` is erased: its record overwritten with zeros, the slot EMPTY (R293). -/
def State.keyErased (s : State) (k : Nat) : State :=
  let s := s.writeRecord k (List.replicate 128 0)
  { s with toDev := s.setKeySlot (s.keySlot.del k) }

/-- The recalls of the commands that run are done: every ERASE completes, BUSY clears (R293). -/
def State.recallDone (s : State) : State :=
  let s := ((s.keySlot.filter fun kx => kx.2.erasing).map Prod.fst).foldl State.keyErased s
  { s with toDev := s.setF KEY_CMD_STATUS KEY_CMD_STATUS_BUSY 0 }

/-- RECALL_DONE (R293): every slice has acknowledged the recall. -/
def execRecallDone (s : State) : Host.Outcome State Fault Refusal := finM s s.recallDone.toDev s.recallDone.mem

/-- Whether SLICE_BIND lets slice `s` draw (R288). -/
def KeySlot.binds (x : KeySlot) (s : Nat) : Bool := x.attrF KEY_INST_ATTR_SLICE_BIND == 7 || x.attrF KEY_INST_ATTR_SLICE_BIND == s

/-- The number of a lease among the deadlines (02 R55): by slot, then slice. -/
def leaseId (s k : Nat) : Nat := k * 8 + s

/-- LEASE_EXPIRY (R299; 02 R54, R55). -/
def execLeaseExpiry (slice : Fin 6) (slot : Fin 1048576) (s : State) : Host.Outcome State Fault Refusal :=
  fin s (if s.dueFirst .lease (leaseId slice.val slot.val) then (s.toDev.dueFired none).leaseTick slice.val slot.val else s.toDev)

/-- A debug access to a cipher block or the key store manager (R294): its keys are cleared and its leases stranded. -/
def Dev.keyClear (d : Dev) (u : Nat) : Dev :=
  if u < 6 then d.setKeySlot (d.keySlot.mapVals fun _ x => x.strand u)
  else (d.setKeySlot (d.keySlot.mapVals fun _ x =>
    { (List.range 6).foldl (fun x s => x.strand s) x with record := [] })).setF KEY_STATUS KEY_STATUS_READY 0

/-- KEY_DEBUG_CLEAR (R294): no debug access takes place in a life-cycle state that locks it (17 R473). -/
def execKeyDebugClear (unit : Fin 7) (s : State) : Host.Outcome State Fault Refusal :=
  fin s (if s.life == 2 || s.life == 4 then s.toDev else s.keyClear unit.val)

end Sys2Proof.Machine
end

