-- ==== Sys2Proof/Machine/Keys.lean ====
section
/-! DEFINITION. Bit fields of frames and the keys built of them (05 R105; 06 R129, R130), CRC32C (07 R198). -/
namespace Sys2Proof.Machine

/-- The `w` bits from bit `off` of `bs`, most significant first, bit 0 the most significant of byte 0; bits at or beyond `limit` read 0 (05 R105). -/
def bitField (bs : List Byte) (off w limit : Nat) : Nat :=
  (List.range w).foldl (fun a i =>
    let k := off + i
    2 * a + b2n (decide (k < limit) && (bs.getD (k / 8) 0).toNat.testBit (7 - k % 8))) 0

/-- The stack entry that a key field names (R129). -/
def Frame.occurrence (f : Frame) (hdr occ : Nat) : Option StackEnt :=
  let l := f.pmeta.stack.filter fun e => e.hdr == hdr
  if occ = 15 then l.getLast? else l[occ]?

/-- The value of a key field, none for a missing one (R130). -/
def Frame.fieldVal (f : Frame) (k : KeyField) : Option Nat :=
  match k.src with
  | 0 => (f.occurrence k.hdr k.occ).map fun e => bitField (f.data.drop e.off) k.off k.width (e.len * 8)
  | 1 => some (bitField f.meta160 k.off k.width 1280)
  | 2 => some (k.off % 2 ^ k.width)
  | _ => none

/-- Concatenated fields, as value and width, most significant first. -/
def joinBits (l : List (Nat × Nat)) : Nat × Nat := l.foldl (fun a x => (a.1 * 2 ^ x.2 + x.1 % 2 ^ x.2, a.2 + x.2)) (0, 0)

/-- Bits cut or filled with zeros at the end to `n` bytes (R129). -/
def toKey (v : Nat × Nat) (n : Nat) : List Byte :=
  beBytes n (if 8 * n ≤ v.2 then v.1 / 2 ^ (v.2 - 8 * n) else v.1 * 2 ^ (8 * n - v.2))

/-- The key of a step's fields, none when a field is missing. -/
def Frame.keyOf (f : Frame) (fields : List KeyField) (n : Nat) : Option (List Byte) :=
  (fields.mapM fun k => (f.fieldVal k).map fun v => (v, k.width)).map fun l => toKey (joinBits l) n

/-- One bit of the reflected CRC32C (07 R198). -/
def crcBit (c : Nat) : Nat := if c % 2 = 1 then Nat.xor (c / 2) 0x82F63B78 else c / 2

/-- One byte of CRC32C. -/
def crcByte (c : Nat) (b : Byte) : Nat :=
  crcBit (crcBit (crcBit (crcBit (crcBit (crcBit (crcBit (crcBit (Nat.xor c b.toNat))))))))

/-- CRC32C of `bs` from the value `c`, with no initial value and no final inversion of its own. -/
def crc32c (c : Nat) (bs : List Byte) : Nat := bs.foldl crcByte c

/-- CRC32C with initial value and final inversion 0xFFFF_FFFF. -/
def crc32cFull (bs : List Byte) : Nat := Nat.xor (crc32c 0xFFFFFFFF bs) 0xFFFFFFFF

end Sys2Proof.Machine
end

