-- ==== Sys2Proof/Machine/Tm.lean ====
section
/-! DEFINITION. The traffic manager (10): the tree, eligibility, deficit round robin, shapers, policers, admission. -/
namespace Sys2Proof.Machine

/-- The scheduler tree in force in slice `s`: the current epoch's (03 R70). -/
def Dev.sched (d : Dev) (s : Nat) : Option SchedBody := (d.bodies d.curSlot s).sched

/-- The number of node `i` of level `l` (0 port, 1 class, 2 tenant, 3 queue) of slice `s`. -/
def nodeKey (s l i : Nat) : Nat := (s * 4 + l) * 65536 + i

/-- The state of that node. -/
def Dev.nodeSt (d : Dev) (s l i : Nat) : NodeSt := d.node.lookD (nodeKey s l i) NodeSt.fresh

/-- `d` with that node changed by `f`. -/
def Dev.updNode (d : Dev) (s l i : Nat) (f : NodeSt → NodeSt) : Dev := d.setNode (d.node.put (nodeKey s l i) (f (d.nodeSt s l i)))

/-- The records of a level. -/
def SchedBody.level (b : SchedBody) : Nat → List NodeRec
  | 0 => b.ports
  | 1 => b.classes
  | 2 => b.tenants
  | _ => b.queues

/-- Record `i` of level `l`, if the body has it. -/
def SchedBody.rec? (b : SchedBody) (l i : Nat) : Option NodeRec := (b.level l)[i]?

/-- The children of node `i` of level `l`: their indices, ascending. -/
def SchedBody.kids (b : SchedBody) (l i : Nat) : List Nat :=
  let r := b.level (l + 1)
  (List.range r.length).filter fun k => (r[k]?.map NodeRec.parent) == some i

/-- The class and the port node above a queue, and its tenant. -/
def SchedBody.above (b : SchedBody) (q : Nat) : Option (Nat × Nat × Nat) :=
  match b.rec? 3 q with
  | none => none
  | some r =>
    match b.rec? 2 r.parent with
    | none => none
    | some t => (b.rec? 1 t.parent).map fun c => (c.parent, t.parent, r.parent)

/-- Queue `q` of slice `s`. -/
def Dev.queueSt (d : Dev) (s q : Nat) : QueueSt := d.queue.lookD (s * 65536 + q) ⟨[], [], 0, none⟩

/-- `d` with that queue changed by `f`. -/
def Dev.updQueue (d : Dev) (s q : Nat) (f : QueueSt → QueueSt) : Dev := d.setQueue (d.queue.put (s * 65536 + q) (f (d.queueSt s q)))

/-- The sum of the counted lengths of frames `ids`. -/
def Dev.lenSum (d : Dev) (host : Bool) (ids : List Nat) : Nat :=
  (ids.map fun i => match d.frame? i with | some f => f.tmLen host | none => 0).sum

/-- The port node a queue descends from, orphans of an earlier tree included (03 R70). -/
def Dev.queuePort (d : Dev) (s q : Nat) : Option Nat :=
  match (d.queueSt s q).orphan with
  | some (p, _) => some p
  | none => (d.sched s).bind fun b => (b.above q).map (·.1)

/-- The ring a queue under the host-delivery node delivers to. -/
def Dev.queueRing (d : Dev) (s q : Nat) : Nat :=
  match (d.queueSt s q).orphan with
  | some (_, r, _) => r
  | none => (((d.sched s).bind fun b => b.rec? 3 q).map NodeRec.ring).getD 0xFFFFFFFF

/-- The TF of the tenant node of a queue (0xFFFF: none), orphans of an earlier tree included. -/
def Dev.queueTf (d : Dev) (s q : Nat) : Nat :=
  match (d.queueSt s q).orphan with
  | some (_, _, t) => t
  | none => (((d.sched s).bind fun b => (b.above q).bind fun x => b.rec? 2 x.2.2).map NodeRec.tf).getD 0xFFFF

/-- TMG_OVF_USED of slice `s`: the bytes of the frames in its overflow region (10 R278). -/
def Dev.ovfUsed (d : Dev) (s : Nat) : Nat :=
  (d.queue.map fun kq => if kq.1 / 65536 = s then d.lenSum (d.queuePort s (kq.1 % 65536) == some 16) kq.2.ov else 0).sum

/-! Shapers (R269). Buckets count 10^-9 byte x 2^-32: a rate of R kb/s is 125 R x 10^-9 byte per ns. -/

/-- One byte in the bucket's units. -/
def byteUnits : Int := 1000000000 * 2 ^ 32

/-- What a bucket of rate `kbps` and size `burst` bytes, holding `tokens` at `last`, holds at `now` (2^-32 ns); both are latest times reached, so that after a step back it keeps its tokens
and gains nothing until network time passes the latest instant at which it was filled (R269). -/
def bucketAt (kbps burst : Nat) (tokens : Option Int) (last now : Nat) : Int :=
  let full := Int.ofNat burst * byteUnits
  match tokens with
  | none => full
  | some t => min full (t + Int.ofNat (125 * kbps * (now - last)))

/-- The bucket of a shaped node brought up to the present. -/
def NodeSt.filledTo (n : NodeSt) (r : NodeRec) (now : Nat) : NodeSt :=
  { n with tokens := some (bucketAt r.rate r.burst n.tokens n.filled now), filled := max n.filled now }

/-- The network time (ns) at which a bucket below 0, filled up to `now`, will hold 0 again: the eligible time E (R269). -/
def eligibleAt (kbps : Nat) (t : Int) (now : Nat) : Nat :=
  (now + ((-t).toNat + 125 * kbps - 1) / (125 * kbps)) / 2 ^ 32

/-- Whether node `key` of slice `s` waits on a wheel (R270). -/
def Dev.onWheel (d : Dev) (s key : Nat) : Bool := (d.wheels.lookD s []).any fun w => w.node == key

/-- An ineligible shaper is entered on the fine or the coarse wheel at E (R270). -/
def Dev.wheelIn (d : Dev) (s key e : Nat) : Dev :=
  d.setWheels (d.wheels.put s (d.wheels.lookD s [] ++ [⟨key, e, !decide (e - d.now < 4194304)⟩]))

/-! Port timing (R282), in units of 2^-32 ns / 125. -/

/-- The present in those units. -/
def Dev.nowTu (d : Dev) : Nat := d.ntu.acc * 125

/-- The byte time of port `p`: 0.04 ns at 200GbE and its halves (R282). -/
def Dev.byteTu (d : Dev) (p : Nat) : Nat := 5 * 2 ^ 32 / 2 ^ (d.fld (portStatus p) MAC_PORT_STATUS_SPEED - 1)

/-- The planned start of a frame that port `p` begins next: the later of now, the end of the previous occupancy plus 12 bytes of gap, and the
end of an LPI wake, which is a time by the ticks (R282; log entry 9). -/
def Dev.planned (d : Dev) (p : Nat) : Nat :=
  let st := d.portSt p
  let gap := if st.busyTo = 0 then 0 else st.busyTo + 12 * d.byteTu p
  max gap (d.nowTu + (st.wakeEnd.getD 0 - d.refNs) * 125 * 2 ^ 32)

/-! Gates (R280 to R284). -/

/-- The used entries of a list: start offset, duration to the next used entry or the end of the heat, and states (R281). -/
def GateList.spans (g : GateList) : List (Nat × Nat × Nat) :=
  let starts := (g.entries.foldl (fun (acc : Nat × List (Nat × Nat)) e => (acc.1 + e.2, acc.2 ++ [(acc.1, e.1)])) (0, [])).2
  let used := starts.filter fun x => decide (x.1 < g.cycle)
  (List.range used.length).map fun i =>
    let x := used.getD i (0, 0)
    (x.1, (match used[i + 1]? with | some y => y.1 | none => g.cycle) - x.1, x.2)

/-- The heat and the entry that govern at `t` ns at or after the base (R281). -/
def GateList.at (g : GateList) (t : Nat) : Nat × Nat :=
  let k := (t - g.base) / g.cycle
  let o := (t - g.base) % g.cycle
  (k, (g.spans.filter fun x => decide (x.1 ≤ o)).length - 1)

/-- The times (ns) and states of the entries of the heat containing `t` and the next one (R282). -/
def GateList.ahead (g : GateList) (t : Nat) : List (Nat × Nat) :=
  let k := if t < g.base then 0 else (t - g.base) / g.cycle
  [k, k + 1].flatMap fun h => g.spans.map fun x => (g.base + h * g.cycle + x.1, x.2.2)

/-- The states that govern at `t` ns: every gate open before the base (R281). -/
def GateList.statesAt (g : GateList) (t : Nat) : Nat :=
  if t < g.base then 0xFF else (g.spans.getD (g.at t).2 (0, 0, 0xFF)).2.2

/-- The lists that govern a port in turn, each with the time from which it does (03 R70). -/
def GateSt.lists (x : GateSt) : List (GateList × Nat) := (match x.cur with | some g => [(g, 0)] | none => []) ++ x.next

/-- The states that govern at `t` ns: every gate open before the first list (R281). -/
def GateSt.statesAt (x : GateSt) (t : Nat) : Nat :=
  match (x.lists.filter fun g => decide (g.2 ≤ t)).getLast? with
  | some g => g.1.statesAt t
  | none => 0xFF

/-- The times (ns) and states of the entries ahead of `t`: of each list those within the time that it governs (R282; 03 R70). -/
def GateSt.ahead (x : GateSt) (t : Nat) : List (Nat × Nat) :=
  (List.range x.lists.length).flatMap fun i =>
    match x.lists[i]? with
    | some (g, t0) => (g.ahead (max t t0)).filter fun y => decide (t < y.1) && decide (t0 ≤ y.1) && (x.lists[i + 1]?).all fun z => decide (y.1 < z.2)
    | none => []

/-- When gate `n` closes next for a start at `t` ns: `t` itself when it is closed, none when it does not close (R282). -/
def GateSt.close (x : GateSt) (n t : Nat) : Option Nat :=
  if (x.statesAt t).testBit n then ((x.ahead t).find? fun y => !y.2.testBit n).map Prod.fst else some t

/-- The longest time gate `n` stays open without a break, heat boundaries included; `none` when it never closes (R283). -/
def GateList.longestOpen (g : GateList) (n : Nat) : Option Nat :=
  if g.spans.all fun x => x.2.2.testBit n then none
  else some ((g.spans ++ g.spans).foldl (fun (a : Nat × Nat) x =>
    if x.2.2.testBit n then (a.1 + x.2.1, max a.2 (a.1 + x.2.1)) else (0, a.2)) (0, 0)).2

/-- Port `p`'s gate schedule. -/
def Dev.gateSt (d : Dev) (p : Nat) : GateSt := d.gate.lookD p ⟨none, [], 0, 0, []⟩

/-- The occupancy of a frame of counted length `l` on port `p` (R282). -/
def Dev.occupancy (d : Dev) (p l : Nat) : Nat := (l + 8) * d.byteTu p

/-- The latest planned start, in 2^-32 ns / 125, at which the gate of class record `r` of port `p` admits an occupancy `o` that could begin at `s` (R282): none when there is no limit. -/
def Dev.gateLimit (d : Dev) (p : Nat) (r : NodeRec) (s o : Nat) : Option Int :=
  if p = 16 || !r.gated then none else ((d.gateSt p).close r.gate (s / (125 * 2 ^ 32))).map fun t => Int.ofNat (t * 125 * 2 ^ 32) - Int.ofNat o

/-- Whether the gate of class record `r` admits a frame of counted length `l` on port `p` now (R282, R284). -/
def Dev.gateAdmits (d : Dev) (p : Nat) (r : NodeRec) (l : Nat) : Bool :=
  (d.gateLimit p r (d.planned p) (d.occupancy p l)).all fun t => decide (Int.ofNat (d.planned p) ≤ t)

/-- Whether a head frame can never fit its class's gate (R283). -/
def Dev.gateOversize (d : Dev) (p : Nat) (r : NodeRec) (l : Nat) : Bool :=
  p != 16 && r.gated && match ((d.gateSt p).longest.getD r.gate none) with
    | some t => decide (t * 125 * 2 ^ 32 < d.occupancy p l)
    | none => false

/-! Eligibility and head frames (R266). -/

/-- Whether port node `p` of slice `s` may send: the port is UP and its transmitter free of LPI; the host node always (R266). -/
def Dev.portNodeUp (d : Dev) (s p : Nat) : Bool := p == 16 || (d.portState p == 3 && d.actingSlice p == s)

/-- Whether the queue's ring or port lets its head frame go (R266, R279). -/
def Dev.queueTarget (d : Dev) (s q p : Nat) : Bool := if p = 16 then d.ringCanTake (d.queueRing s q) (d.queueTf s q) else d.portNodeUp s p

/-- Whether queue `q` is eligible (R266). -/
def Dev.queueElig (d : Dev) (s q p : Nat) : Bool :=
  !(d.queueSt s q).on.isEmpty && !d.onWheel s (nodeKey s 3 q) && d.queueTarget s q p

/-- The members of a weighted group in the order of R266: cur, then nxt. -/
def NodeSt.order (n : NodeSt) : List Nat := n.cur ++ n.nxt

/-- The child of node `i` of level `l` that R266 takes: the eligible strict child of lowest SLOT, else the head of cur or nxt. -/
def Dev.headChild (d : Dev) (b : SchedBody) (s l i : Nat) (elig : Nat → Bool) : Option Nat :=
  let kids := b.kids l i
  let strict := [0, 1, 2, 3].findSome? fun k =>
    kids.find? fun c => (b.rec? (l + 1) c).map NodeRec.slot == some k && elig c
  match strict with
  | some c => some c
  | none => (d.nodeSt s l i).order.head?

/-- Whether a tenant is eligible, and its head frame's queue. -/
def Dev.tenantElig (d : Dev) (b : SchedBody) (s t p : Nat) : Bool :=
  !d.onWheel s (nodeKey s 2 t) && (b.kids 2 t).any fun q => d.queueElig s q p

def Dev.tenantHead (d : Dev) (b : SchedBody) (s t p : Nat) : Option Nat := d.headChild b s 2 t fun q => d.queueElig s q p

/-- The queue whose head frame is the head frame of class `c`. -/
def Dev.classHead (d : Dev) (b : SchedBody) (s c p : Nat) : Option Nat :=
  (d.headChild b s 1 c fun t => d.tenantElig b s t p).bind fun t => d.tenantHead b s t p

/-- The counted length of queue `q`'s head frame. -/
def Dev.headLen (d : Dev) (s q p : Nat) : Nat :=
  match (d.queueSt s q).on with
  | [] => 0
  | id :: _ => match d.frame? id with | some f => f.tmLen (p == 16) | none => 0

/-- Whether a class is eligible: an eligible tenant, its shaper or credit, and its gate for its head frame (R266). -/
def Dev.classElig (d : Dev) (b : SchedBody) (s c p : Nat) : Bool :=
  !d.onWheel s (nodeKey s 1 c) && ((b.kids 1 c).any fun t => d.tenantElig b s t p) &&
    match b.rec? 1 c, d.classHead b s c p with
    | some r, some q => d.gateAdmits p r (d.headLen s q p)
    | _, _ => false

/-- Whether node `i` of level `l` under port node `p` is eligible. -/
def Dev.nodeElig (d : Dev) (b : SchedBody) (s l i p : Nat) : Bool :=
  match l with
  | 1 => d.classElig b s i p
  | 2 => d.tenantElig b s i p
  | _ => d.queueElig s i p

/-- Whether node `i` of level `l` holds no frame at all. -/
def Dev.nodeEmpty (d : Dev) (b : SchedBody) (s l i : Nat) : Bool :=
  match l with
  | 1 => (b.kids 1 i).all fun t => (b.kids 2 t).all fun q => (d.queueSt s q).on.isEmpty && (d.queueSt s q).ov.isEmpty
  | 2 => (b.kids 2 i).all fun q => (d.queueSt s q).on.isEmpty && (d.queueSt s q).ov.isEmpty
  | _ => (d.queueSt s i).on.isEmpty && (d.queueSt s i).ov.isEmpty

/-- The counted length of the head frame of node `i` of level `l`. -/
def Dev.nodeHeadLen (d : Dev) (b : SchedBody) (s l i p : Nat) : Nat :=
  match (match l with | 1 => d.classHead b s i p | 2 => d.tenantHead b s i p | _ => some i) with
  | some q => d.headLen s q p
  | none => 0

/-! Deficit round robin (R267). -/

/-- `x` inserted directly after the member in service, at the tail when there is none. -/
def insertAfter (l : List Nat) (x : Nat) : Option Nat → List Nat
  | none => l ++ [x]
  | some c => if l.contains c then l.flatMap fun y => if y = c then [y, x] else [y] else l ++ [x]

/-- Member `c` of the group of node `i` (level `l`) becomes eligible. -/
def Dev.joins (d : Dev) (s l i c : Nat) (r : NodeRec) : Dev :=
  let g := d.nodeSt s l i
  let m := d.nodeSt s (l + 1) c
  if m.wasEmpty then
    if r.privileged then
      (d.updNode s (l + 1) c fun m => { m with deficit := 0, elig := true, wasEmpty := false }).updNode s l i fun g =>
        { g with cur := insertAfter g.cur c g.serving }
    else
      (d.updNode s (l + 1) c fun m =>
        { m with deficit := min r.creditMax (m.deficit + r.quantum * (g.v - m.lastV)), elig := true, wasEmpty := false }).updNode s l i
        fun g => { g with nxt := g.nxt ++ [c] }
  else (d.updNode s (l + 1) c fun m => { m with elig := true }).updNode s l i fun g => { g with nxt := g.nxt ++ [c] }

/-- Member `c` leaves the lists of its group because it has become ineligible. -/
def Dev.leaves (d : Dev) (s l i c : Nat) (r : NodeRec) (isEmpty : Bool) : Dev :=
  let v := (d.nodeSt s l i).v
  let d := d.updNode s l i fun g => { g with
    cur := g.cur.filter (· != c), nxt := g.nxt.filter (· != c), serving := if g.serving = some c then none else g.serving }
  d.updNode s (l + 1) c fun m => if isEmpty then
    { m with elig := false, wasEmpty := true, lastV := v, deficit := if r.privileged then 0 else m.deficit }
  else { m with elig := false }

/-- The members of the group of node `i` (level `l`) whose eligibility has changed join or leave its rounds. -/
def Dev.refreshGroup (d : Dev) (b : SchedBody) (s l i p : Nat) : Dev :=
  d.each (b.kids l i) fun d c =>
    match b.rec? (l + 1) c with
    | none => d
    | some r =>
      let e := d.nodeElig b s (l + 1) c p
      let m := d.nodeSt s (l + 1) c
      if r.slot != 0xFF then
        if m.elig = e then d else d.updNode s (l + 1) c fun m => { m with elig := e }
      else if e && !m.elig then d.joins s l i c r
      else if !e && m.elig then d.leaves s l i c r (d.nodeEmpty b s (l + 1) c)
      else if !e && !m.wasEmpty && d.nodeEmpty b s (l + 1) c then d.updNode s (l + 1) c fun m => { m with wasEmpty := true }
      else d

/-- The network time (2^-32 ns) to which the credit of class `c` rises as things stand, 0 when it does not: while frames wait, the class is not transmitting, its port is UP and its gate
admits its head frame, or, where it has none, is open (04 R87, R273, R284). -/
def Dev.creditRise (d : Dev) (b : SchedBody) (s c p : Nat) (r : NodeRec) : Nat :=
  if d.nodeEmpty b s 1 c || !d.portNodeUp s p || (p != 16 && (d.portSt p).wireClass == some c) then 0
  else
    let o := ((d.classHead b s c p).map fun q => d.occupancy p (d.headLen s q p)).getD 0
    match d.gateLimit p r (d.planned p) o with
    | none => 2 ^ 128
    | some t => if Int.ofNat (d.planned p) ≤ t then t.toNat / 125 else 0

/-- CBS credit of the classes of port node `p` brought up to the present as it has risen since, and how it rises from now on (04 R87, R273, R284); it is 0 when nothing waits and it is
positive. -/
def Dev.creditSync (d : Dev) (b : SchedBody) (s p : Nat) : Dev :=
  d.each (b.kids 0 p) fun d c =>
    match b.rec? 1 c with
    | some r =>
      if r.cbs then
        let n := d.nodeSt s 1 c
        let cr := n.credit + Int.ofNat (25 * r.rate * (min d.ntu.peak n.riseTo - n.creditAt))
        let rise := d.creditRise b s c p r
        let empty := d.nodeEmpty b s 1 c
        d.updNode s 1 c fun n => { n with credit := if empty && decide (0 < cr) then 0 else cr, creditAt := d.ntu.peak, riseTo := rise }
      else d
    | none => d

/-- Every group under port node `p` of slice `s`, queues first, is brought up to the present eligibility. -/
def Dev.refreshPort (d : Dev) (b : SchedBody) (s p : Nat) : Dev :=
  let d := d.creditSync b s p
  let classes := b.kids 0 p
  let tenants := classes.flatMap (b.kids 1)
  let d := d.each tenants fun d t => d.refreshGroup b s 2 t p
  let d := d.each classes fun d c => d.refreshGroup b s 1 c p
  d.refreshGroup b s 0 p p

/-- The state of every port node of slice `s` brought up to the present. -/
def Dev.tmRefresh (d : Dev) (s : Nat) : Dev :=
  match d.sched s with
  | some b => d.each (List.range b.ports.length) fun d p => d.refreshPort b s p
  | none => d

/-- The choice of the weighted group of node `i` (level `l`): the member in service goes on while its deficit covers its head frame, else its visit ends and the next begins. -/
def Dev.groupChoice (d : Dev) (b : SchedBody) (s l i p : Nat) : Nat → Option Nat × Dev
  | 0 => (none, d)
  | fuel + 1 =>
    let g := d.nodeSt s l i
    match g.serving with
    | some c =>
      if d.nodeElig b s (l + 1) c p && decide (d.nodeHeadLen b s (l + 1) c p ≤ (d.nodeSt s (l + 1) c).deficit) then (some c, d)
      else
        let again := d.nodeElig b s (l + 1) c p
        Dev.groupChoice (d.updNode s l i fun g => { g with
          cur := g.cur.filter (· != c), nxt := if again then g.nxt ++ [c] else g.nxt, serving := none }) b s l i p fuel
    | none =>
      match g.cur with
      | c :: _ =>
        let q := ((b.rec? (l + 1) c).map NodeRec.quantum).getD 0
        Dev.groupChoice ((d.updNode s (l + 1) c fun m => { m with deficit := m.deficit + q }).updNode s l i fun g =>
          { g with serving := some c }) b s l i p fuel
      | [] =>
        if g.nxt.isEmpty then (none, d)
        else Dev.groupChoice (d.updNode s l i fun g => { g with v := g.v + 1, cur := g.nxt, nxt := [] }) b s l i p fuel

/-- The eligible strict child of lowest SLOT of node `i` (level `l`). -/
def Dev.strictChoice (d : Dev) (b : SchedBody) (s l i p : Nat) : Option Nat :=
  [0, 1, 2, 3].findSome? fun k => (b.kids l i).find? fun c =>
    (b.rec? (l + 1) c).map NodeRec.slot == some k && d.nodeElig b s (l + 1) c p

/-- The child node `i` (level `l`) chooses: strict children first, then the weighted group (R260, R267). -/
def Dev.nodeChoice (d : Dev) (b : SchedBody) (s l i p : Nat) : Option Nat × Dev :=
  match d.strictChoice b s l i p with
  | some c => (some c, d)
  | none => d.groupChoice b s l i p (600 * ((b.kids l i).length + 1))

/-- What a frame of `len` bytes takes of the credit of a class of idleSlope `slope` kb/s at port node `p` (04 R87). The host-delivery node has no port rate: there it is a free value (log entry 152). -/
def Dev.creditCost (d : Dev) (p slope len : Nat) : Int × Dev :=
  if p = 16 then (let (v, d) := d.fresh; (Int.ofNat v, d))
  else
    let rate := Int.ofNat (200000000 * 2 ^ (d.fld (portStatus p) MAC_PORT_STATUS_SPEED - 1))
    (Int.ofNat (8 * len * (1000000 * 25 * 2 ^ 32)) * (rate - Int.ofNat slope) / rate, d)

/-- A frame of counted length `len` is sent from node `i` (level `l`): a weighted member's deficit falls (its group serves it), its shaper bucket and CBS credit pay, and a
bucket or credit below 0 is entered on a wheel: a bucket at the time it would hold 0, a credit at the time that it would reach 0, rising once the frame is sent (R267, R269, R273; 04 R87). -/
def Dev.nodePays (d : Dev) (b : SchedBody) (s l i p len : Nat) : Dev :=
  match b.rec? l i with
  | none => d
  | some r =>
    let d := d.onlyIf (l != 0 && r.slot == 0xFF) fun d => d.updNode s l i fun m => { m with deficit := m.deficit - len }
    let key := nodeKey s l i
    if r.shaped then
      let n := (d.nodeSt s l i).filledTo r d.ntu.peak
      let t := n.tokens.getD 0 - Int.ofNat len * byteUnits
      let d := d.updNode s l i fun _ => { n with tokens := some t }
      if t < 0 then d.wheelIn s key (eligibleAt r.rate t n.filled) else d
    else if r.cbs then
      let (cost, d) := d.creditCost p r.rate len
      let c := (d.nodeSt s l i).credit - cost
      let d := d.updNode s l i fun n => { n with credit := c }
      let sent := if p = 16 then 0 else (d.planned p + d.occupancy p len) / 125 - d.ntu.acc
      if c < 0 then d.wheelIn s key ((d.ntu.peak + sent + ((-c).toNat + 25 * r.rate - 1) / (25 * r.rate)) / 2 ^ 32) else d
    else d

/-- A queue's frames at its head that can never fit their class's gate are dropped (R283). -/
def Dev.purgeOversize (d : Dev) (b : SchedBody) (s p : Nat) : Dev :=
  d.each (b.kids 0 p) fun d c =>
    match b.rec? 1 c with
    | none => d
    | some r => if !r.gated then d else
      d.each ((b.kids 1 c).flatMap (b.kids 2)) fun d q =>
        d.each (d.queueSt s q).on fun d id =>
          if (d.queueSt s q).on.head? == some id && d.gateOversize p r (d.headLen s q p) then
            ((d.updQueue s q fun x => { x with on := x.on.tail }).dropAt id (tmgCnt s 10))
          else d

/-- The frames of queue `q` of slice `s` are dropped, each counted at `ctr`. -/
def Dev.dropQueue (d : Dev) (s q ctr : Nat) : Dev :=
  let x := d.queueSt s q
  (d.each (x.on ++ x.ov) fun d id => d.dropAt id ctr).updQueue s q fun x => { x with on := [], ov := [] }

/-- The queues of slice `s` that hold frames. -/
def Dev.busyQueues (d : Dev) (s : Nat) : List Nat :=
  (d.queue.filter fun kq => kq.1 / 65536 == s && !(kq.2.on.isEmpty && kq.2.ov.isEmpty)).map fun kq => kq.1 % 65536

/-- Port `p` becomes absent or disabled: the frames queued for it are dropped (04 R78, R86; 01 R30). -/
def Dev.tmPortGone (d : Dev) (p : Nat) : Dev :=
  d.each (List.range 6) fun d s =>
    ((d.busyQueues s).filter fun q => d.queuePort s q == some p).foldl (fun d q => d.dropQueue s q (tmgCnt s 13)) d |>.tmRefresh s

/-- Port `p` leaves UP: the frame on its wire is lost (R285). -/
def Dev.tmPortLeftUp (d : Dev) (p : Nat) : Dev :=
  let d := match (d.portSt p).onWire with
    | some id => (d.dropAt id (tmgCnt (d.actingSlice p) 12)).updPort p fun x => { x with onWire := none, wireClass := none }
    | none => d
  d.tmRefresh (d.actingSlice p)

/-- Ring `r` goes FROZEN, or it or its TF becomes disabled or absent: the frames of the host queues that deliver to it are dropped, counted in counter `c` (R279). -/
def Dev.tmRingGone (d : Dev) (r c : Nat) : Dev :=
  d.each (List.range 6) fun d s =>
    ((d.busyQueues s).filter fun q => d.queuePort s q == some 16 && d.queueRing s q == r).foldl
      (fun d q => d.dropQueue s q (tmgCnt s c)) d |>.tmRefresh s

/-! Policing (R274, R275). -/

/-- The policer that index `i` names in slice `s` under epoch slot `e`. -/
def Dev.polKey (d : Dev) (s e i : Nat) : Nat := d.polMap.lookD ((s * 2 + e) * 65536 + i) ((s * 2 + e) * 65536 + i)

def Dev.polSt (d : Dev) (k : Nat) : PolSt := d.pol.lookD k ⟨none, 0, 0, 0⟩

/-- Whether a policer holds at least `len` bytes now. -/
def Dev.polHolds (d : Dev) (k : Nat) (r : PolRec) (len : Nat) : Bool :=
  decide (Int.ofNat len * byteUnits ≤ bucketAt r.cir r.cbs (d.polSt k).tokens (d.polSt k).filled d.ntu.peak)

/-- A conforming frame's payment at one policer. -/
def Dev.polPays (d : Dev) (k : Nat) (r : PolRec) (len : Nat) : Dev :=
  let p := d.polSt k
  let t := bucketAt r.cir r.cbs p.tokens p.filled d.ntu.peak - Int.ofNat len * byteUnits
  d.setPol (d.pol.put k { p with tokens := some t, filled := max p.filled d.ntu.peak, conform := (p.conform + 1) % 2 ^ 48 })

/-- Each index once, in order. -/
def dedup : List Nat → List Nat
  | [] => []
  | x :: t => x :: (dedup t).filter (· != x)

/-- The frame is judged by its POLICE actions: `none` when it is dropped, for a policer that holds less than L or an index beyond the body's (R275). -/
def Dev.police (d : Dev) (id : Nat) (f : Frame) (len : Nat) : Option Dev × Dev :=
  if f.origin = .mirror then (some d, d) else
  let named := dedup (f.police.take 4)
  let d := d.count (tmgCnt f.slice 4) (f.police.length - 4)
  let recs := match (d.bodies f.slot f.slice).sched with | some b => b.policers | none => []
  let ps := named.filterMap fun i => (recs[i]?).map fun r => (d.polKey f.slice f.slot i, r)
  let short := ps.filter fun kr => !d.polHolds kr.1 kr.2 len
  if short.isEmpty && ps.length == named.length then
    let d := d.each ps fun d kr => d.polPays kr.1 kr.2 len
    (some d, d)
  else
    let d := d.each short fun d kr => d.setPol (d.pol.upd kr.1 ⟨none, 0, 0, 0⟩ fun p => { p with dropped := (p.dropped + 1) % 2 ^ 48 })
    (none, d.dropAt id (tmgCnt f.slice 3))

/-! Admission (R277). -/

/-- Whether the traffic manager of slice `s` reaches its overflow region, an access to granules that are not SEALED being counted (15 R422). -/
def Dev.ovfReach (d : Dev) (s : Nat) : Dev × Bool :=
  d.sealedCheck (d.rd (TMG_OVF_BASE s)).toNat (d.fld (TMG_OVF_SIZE s) TMG_OVF_SIZE_MIB * 1048576)

/-- A frame lost to an uncorrectable error of the overflow region (R278). -/
def Dev.ovfEcc (d : Dev) (s id : Nat) : Dev :=
  let d := (d.dropAt id (tmgCnt s 8)).setF (TMG_STATUS s) TMG_STATUS_OVF_ECC 1
  let (a, d) := d.fresh
  let (b, d) := d.fresh
  d.report (0x0900 + s) 2 a (sliceUnit s) b

/-- Frame `id` is admitted to queue `q` of slice `s`, or dropped (R277). -/
def Dev.admitFrame (d : Dev) (id s q len : Nat) (host : Bool) (r : NodeRec) : Dev :=
  let x := d.queueSt s q
  if x.ov.isEmpty && decide (d.lenSum host x.on + len ≤ r.onchip * 1024) then
    (d.updQueue s q fun x => { x with on := x.on ++ [id] }).updFrame id fun f => { f with stage := .queued s q false }
  else
    let fits := r.dram != 0 && decide (d.lenSum host x.ov + len ≤ r.dram * 1048576)
    let room := decide (d.ovfUsed s + len ≤ d.fld (TMG_OVF_SIZE s) TMG_OVF_SIZE_MIB * 1048576)
    if fits && room then
      let (d, ok) := d.ovfReach s
      if !ok then d.ovfEcc s id else
      ((d.updQueue s q fun x => { x with ov := x.ov ++ [id] }).updFrame id fun f => { f with stage := .queued s q true }).count (tmgCnt s 6)
    else
      let d := d.onlyIf (fits && !room) fun d => d.setF (TMG_STATUS s) TMG_STATUS_OVF_FULL 1
      (d.dropAt id (tmgCnt s 5)).updQueue s q fun x => { x with tailDrops := (x.tailDrops + 1) % 2 ^ 48 }

/-- The frame reaches the queue its target names: the queue must exist and descend from the target's node; a target that is absent, disabled or frozen drops it (R261, R279, 01 R30). -/
def Dev.toQueue (d : Dev) (id : Nat) (f : Frame) (t : QTarget) (len : Nat) : Dev :=
  let s := if t.host then f.slice else d.actingSlice t.target
  if !t.host && decide (16 ≤ t.target) then d.dropAt id (tmgCnt f.slice 2)
  else if !t.host && decide (d.portState t.target ≤ 1) then d.dropAt id (tmgCnt s 13) else
  match d.sched s with
  | none => d.dropAt id (tmgCnt s 2)
  | some b =>
    match b.above t.queue, b.rec? 3 t.queue with
    | some (p, _, tn), some r =>
      let tf := ((b.rec? 2 tn).map NodeRec.tf).getD 0xFFFF
      if (t.host && (p != 16 || tf != t.target)) || (!t.host && p != t.target) then d.dropAt id (tmgCnt s 2)
      else if t.host && d.ringFrozen r.ring then d.dropAt id (tmgCnt s 11)
      else if t.host && d.ringDown r.ring tf then d.dropAt id (tmgCnt s 13)
      else (d.admitFrame id s t.queue len t.host r).tmRefresh s
    | _, _ => d.dropAt id (tmgCnt s 2)

/-- TM_ARRIVAL (R261, R275, R277): a frame sent to a queue is policed and admitted, in its order (01 R22). -/
def Dev.tmArrival (d : Dev) (id : Nat) : Dev :=
  match d.frame? id with
  | some f =>
    match f.stage with
    | .toQueue t =>
      if d.behind id f then d else
      let len := f.tmLen t.host
      let d := d.count (tmgCnt f.slice 0)
      match d.police id f len with
      | (some d, _) => d.toQueue id f t len
      | (none, d) => d
    | _ => d
  | none => d

/-- The orphan queue served at port node `p` below every strict child (03 R70): of several that may be served, the lowest numbered (log entry 144). -/
def Dev.orphanChoice (d : Dev) (s p : Nat) : Option Nat :=
  (d.busyQueues s).find? fun q =>
    match (d.queueSt s q).orphan with
    | some (p', _, _) => p' == p && !(d.queueSt s q).on.isEmpty && d.queueTarget s q p
    | none => false

/-- The queue that port node `p` chooses, and the path down to it: class and tenant, none for an orphan (R267). A port node whose bucket is below 0 is not eligible and chooses none of its
children; an orphan has its own terms (R269; 03 R70; log entry 144). -/
def Dev.pathChoice (d : Dev) (b : SchedBody) (s p : Nat) : Option (Nat × Option (Nat × Nat)) × Dev :=
  if d.onWheel s (nodeKey s 0 p) then ((d.orphanChoice s p).map fun q => (q, none), d) else
  let top := match d.strictChoice b s 0 p p with
    | some c => (some c, d)
    | none => match d.orphanChoice s p with
      | some _ => (none, d)
      | none => d.groupChoice b s 0 p p (600 * ((b.kids 0 p).length + 1))
  match top with
  | (some c, d) =>
    match d.nodeChoice b s 1 c p with
    | (some t, d) =>
      match d.nodeChoice b s 2 t p with
      | (some q, d) => (some (q, some (c, t)), d)
      | (none, d) => (none, d)
    | (none, d) => (none, d)
  | (none, d) => ((d.orphanChoice s p).map fun q => (q, none), d)

/-- A frame chosen for ring `ring` waits for its delivery (14 R390), under the TF of its queue's tenant node. -/
def Dev.ringQueues (d : Dev) (s q ring id : Nat) : Dev :=
  match d.frame? id with
  | some f => d.updRing ring fun x => { x with rxq := x.rxq ++ [⟨some id, d.queueTf s q, [], f.port, f.stampNs, f.hash, f.user.getD 0 0, f.user.getD 1 0, s, 0⟩] }
  | none => d

/-- The chosen frame, of class `c` where its queue has one, goes to the wire of port `p`, or to its ring (R267, R282): on the wire its start of frame follows eight bytes of preamble and SFD. -/
def Dev.sendFrom (d : Dev) (s p q : Nat) (c : Option Nat) (id len : Nat) : Dev :=
  let ring := d.queueRing s q
  let start := d.planned p
  let d := (d.updQueue s q fun x => { x with on := x.on.tail }).count (tmgCnt s 1)
  if p = 16 then (d.updFrame id fun f => { f with stage := .toRing ring }).ringQueues s q ring id
  else (d.updPort p fun x => { x with onWire := some id, wireClass := c, sfdAt := start + 8 * d.byteTu p, busyTo := start + d.occupancy p len, wakeEnd := none }).updFrame id
    fun f => { f with stage := .wire p }

/-- Whether the port's MAC can accept a frame: nothing on the wire (R267). -/
def Dev.macFree (d : Dev) (p : Nat) : Bool := p == 16 || ((d.portSt p).onWire).isNone

/-- A tree of port nodes alone: what serves the queues an earlier tree left where a slice has no tree (03 R60, R70). -/
def SchedBody.portsOnly : SchedBody := ⟨List.replicate 17 ⟨0, 0, false, false, false, false, 0, 0, 0, 0, 0, 0xFFFF, 0, 0, 0xFFFFFFFF⟩, [], [], [], []⟩

/-- SCHEDULER_CHOICE (R267): one choice of port node `p` of slice `s`. A port in transmit LPI is woken instead, and sends TW_NS later (04 R89). -/
def Dev.schedule (d : Dev) (s p : Nat) : Dev :=
  let b := (d.sched s).getD SchedBody.portsOnly
  let d := (d.purgeOversize b s p).refreshPort b s p
  if !(d.macFree p && d.portNodeUp s p) then d else
  match d.pathChoice b s p with
  | (none, d) => d
  | (some (q, path), d) =>
    if p != 16 && d.flag (portStatus p) MAC_PORT_STATUS_TX_LPI then
      let st := d.portSt p
      ((d.setF (portStatus p) MAC_PORT_STATUS_TX_LPI 0).macCount p 3 1 (d.refNs - st.txLpiAt)).updPort p fun x =>
        { x with wakeEnd := some (d.refNs + d.fld (portWake p) MAC_PORT_WAKE_TW_NS) }
    else if p != 16 && ((d.portSt p).wakeEnd.any fun t => decide (d.refNs < t)) then d
    else
      match (d.queueSt s q).on with
      | [] => d
      | id :: _ =>
        let len := d.headLen s q p
        let d := match path with
          | some (c, t) => (((d.nodePays b s 3 q p len).nodePays b s 2 t p len).nodePays b s 1 c p len).nodePays b s 0 p p len
          | none => d
        (d.sendFrom s p q (path.map Prod.fst) id len).refreshPort b s p

/-- TM_ARRIVAL. -/
def execTmArrival (frame : Nat) (s : State) : Host.Outcome State Fault Refusal := fin s (s.toDev.tmArrival frame)

/-- SCHEDULER_CHOICE. -/
def execSchedulerChoice (slice : Fin 6) (port : Fin 17) (s : State) : Host.Outcome State Fault Refusal :=
  fin s (s.toDev.schedule slice.val port.val)

/-! The wheels (R270, R271). -/

/-- The earliest fine slot (E ÷ 64) and the earliest coarse slot of slice `s`. -/
def Dev.wheelNext (d : Dev) (s : Nat) (coarse : Bool) : Option Nat :=
  (((d.wheels.lookD s []).filter fun w => w.coarse == coarse).map fun w => w.e / (if coarse then 4194304 else 64)).min?

/-- The deadline of slice `s`'s next fine (number s) or coarse (number s + 8) slot. -/
def Dev.wheelDue (d : Dev) (s : Nat) (coarse : Bool) : Option Due :=
  (d.wheelNext s coarse).map fun j => ⟨j * (if coarse then 4194304 else 64), .wheel, if coarse then s + 8 else s⟩

/-- A released entry's bucket is brought up to the release time; a class whose credit is still more than 64 ns of rate below 0 is entered again (R271, R273). -/
def Dev.wheelOut (d : Dev) (s : Nat) (w : WheelEnt) : Dev :=
  let l := w.node / 65536 % 4
  let i := w.node % 65536
  match (d.sched s).bind fun b => b.rec? l i with
  | none => d
  | some r =>
    if r.shaped then d.updNode s l i fun n => n.filledTo r d.ntu.peak
    else
      let c := (d.nodeSt s l i).credit
      if r.cbs && decide (c + Int.ofNat (25 * r.rate * 64 * 2 ^ 32) < 0) then
        d.wheelIn s w.node ((d.ntu.peak + ((-c).toNat + 25 * r.rate - 1) / (25 * r.rate)) / 2 ^ 32)
      else d

/-- How many of `n` more entries released by slice `s` in this tick are late: those beyond the first four of all that are (R271). -/
def Dev.lateOf (d : Dev) (s n : Nat) : Nat :=
  let old := match d.wheelRel.look s with | some (t, k) => if t = d.ntu.ticks then k else 0 | none => 0
  (old + n - 4) - (old - 4)

/-- The slice has released `n` more entries in this tick. -/
def Dev.released (d : Dev) (s n : Nat) : Dev :=
  let old := match d.wheelRel.look s with | some (t, k) => if t = d.ntu.ticks then k else 0 | none => 0
  d.setWheelRel (d.wheelRel.put s (d.ntu.ticks, old + n))

/-- WHEEL_SLOT_RELEASE (R271): the next due fine slot's entries become eligible; those beyond the first four of the tick are late. -/
def Dev.fineRelease (d : Dev) (s : Nat) : Dev :=
  match d.wheelNext s false with
  | none => d
  | some j =>
    if d.dueFirst .wheel s && decide (j * 64 ≤ d.now) then
      let ws := d.wheels.lookD s []
      let out := ws.filter fun w => !w.coarse && w.e / 64 == j
      let d := match d.sched s with
        | some b => d.each (List.range b.ports.length) fun d p => d.creditSync b s p
        | none => d
      let d := ((d.setWheels (d.wheels.put s (ws.filter fun w => w.coarse || w.e / 64 != j))).count (tmgCnt s 9) (d.lateOf s out.length)).released s out.length
      let d := (d.each out fun d w => d.wheelOut s w).tmRefresh s
      d.dueFired (d.wheelDue s false)
    else d

/-- COARSE_SLOT_RELEASE (R270): the next due coarse slot's entries take their fine slots. -/
def Dev.coarseRelease (d : Dev) (s : Nat) : Dev :=
  match d.wheelNext s true with
  | none => d
  | some j =>
    if d.dueFirst .wheel (s + 8) && decide (j * 4194304 ≤ d.now) then
      let ws := d.wheels.lookD s []
      let d := d.setWheels (d.wheels.put s (ws.map fun w => if w.coarse && w.e / 4194304 == j then { w with coarse := false } else w))
      let d := d.dueFired (d.wheelDue s true)
      match d.wheelDue s false with
      | some x => if x.t ≤ d.now then d.setDue (Due.insert x d.due) else d
      | none => d
    else d

/-- WHEEL_SLOT_RELEASE. -/
def execWheelSlotRelease (slice : Fin 6) (s : State) : Host.Outcome State Fault Refusal := fin s (s.toDev.fineRelease slice.val)

/-- COARSE_SLOT_RELEASE. -/
def execCoarseSlotRelease (slice : Fin 6) (s : State) : Host.Outcome State Fault Refusal := fin s (s.toDev.coarseRelease slice.val)

/-! Gate transitions (R281). -/

/-- TMG_GATE_STATUS of port `p` shows the schedule in the window of its acting home slice. -/
def Dev.gateShow (d : Dev) (p : Nat) : Dev :=
  let r := TMG_GATE_STATUS (d.actingSlice p) p
  match (d.gateSt p).cur with
  | none => d.wr r 0xFF
  | some g =>
    let x := d.gateSt p
    if d.now < g.base then d.wr r 0x1FF
    else d.wr r (BitVec.ofNat 64 (x.heat % 2 ^ 32 * 2 ^ 32 + x.entry * 65536 + 256 + (g.spans.getD x.entry (0, 0, 0xFF)).2.2))

/-- The start (ns) of the entry after the one that governs. -/
def GateSt.nextAt (x : GateSt) : Option Nat :=
  x.cur.map fun g =>
    match g.spans[x.entry + 1]? with
    | some y => g.base + x.heat * g.cycle + y.1
    | none => g.base + (x.heat + 1) * g.cycle

/-- The deadline of port `p`'s next transition. -/
def Dev.gateDue (d : Dev) (p : Nat) : Option Due := ((d.gateSt p).nextAt).map fun t => ⟨t, .gate, p⟩

/-- GATE_TRANSITION (R281, R55): the next entry governs. -/
def Dev.gateStep (d : Dev) (p : Nat) : Dev :=
  let x := d.gateSt p
  match x.cur, x.nextAt with
  | some g, some t =>
    if d.dueFirst .gate p && decide (t ≤ d.now) then
      let wrap := decide (g.spans.length ≤ x.entry + 1)
      let d := d.setGate (d.gate.put p { x with heat := if wrap then x.heat + 1 else x.heat, entry := if wrap then 0 else x.entry + 1 })
      ((d.gateShow p).dueFired (d.gateDue p)).tmRefresh (d.actingSlice p)
    else d
  | _, _ => d

/-- GATE_TRANSITION. -/
def execGateTransition (port : Fin 16) (s : State) : Host.Outcome State Fault Refusal := fin s (s.toDev.gateStep port.val)

/-- OVERFLOW_READBACK (R278): the oldest overflow frame of a queue comes back on chip, or is dropped for an uncorrectable error. An orphan queue, whose record is gone, has the largest
ON-CHIP limit a record may have (log entry 144). -/
def Dev.readback (d : Dev) (s q : Nat) (bad : Bool) : Dev :=
  let x := d.queueSt s q
  let host := d.queuePort s q == some 16
  let limit := (((d.sched s).bind fun b => b.rec? 3 q).map NodeRec.onchip).getD 24576 * 1024
  match x.ov with
  | [] => d
  | id :: rest =>
    if d.lenSum host x.on < limit then
      let (d, ok) := ((d.updQueue s q fun x => { x with ov := rest }).count (tmgCnt s 7)).ovfReach s
      if bad || !ok then (d.ovfEcc s id).tmRefresh s
      else ((d.updQueue s q fun x => { x with on := x.on ++ [id] }).updFrame id fun f => { f with stage := .queued s q false }).tmRefresh s
    else d

/-- OVERFLOW_READBACK. -/
def execOverflowReadback (slice : Fin 6) (queue : Fin 65536) (bad : Bool) (s : State) : Host.Outcome State Fault Refusal :=
  fin s (s.toDev.readback slice.val queue.val bad)

end Sys2Proof.Machine
end

