-- ==== Sys2Proof/Machine/Ports.lean ====
section
/-! DEFINITION. Ethernet ports and lanes (04): modes, states, sparing, low-power idle, the slice clock step. The registers of a die
stand in the window of its first slice, whichever window an access uses. -/
namespace Sys2Proof.Machine

/-- The die-level registers of die `h`. -/
def halfMode (h : Nat) : Reg := MAC_HALF_MODE (3 * h)
def laneStatus (h l : Nat) : Reg := MAC_LANE_STATUS (3 * h) l
def groupSpare (h g : Nat) : Reg := if g = 0 then MAC_GROUP_SPARE_A (3 * h) else MAC_GROUP_SPARE_B (3 * h)

/-- The mode in effect of group `g` of die `h`: 4 for one 1.6TbE port over both (R76). -/
def Dev.groupMode (d : Dev) (h g : Nat) : Nat :=
  if d.flag (halfMode h) MAC_HALF_MODE_FULL_1T6 then 4
  else d.fld (halfMode h) (if g = 0 then MAC_HALF_MODE_GROUP_A else MAC_HALF_MODE_GROUP_B)

/-- The port that carries logical position `p` in mode `m`, by j (R76). -/
def portAt (m p : Nat) : Option Nat :=
  match m with
  | 4 => some 0
  | 3 => some p
  | 2 => some (p / 2 * 2)
  | 1 => some (p / 4 * 4)
  | _ => none

/-- Whether the mode produces port `j` of die `h`. -/
def Dev.produced (d : Dev) (h j : Nat) : Bool := portAt (d.groupMode h (j / 4)) j == some j

/-- The logical positions of port `j` of die `h`. -/
def Dev.positions (d : Dev) (h j : Nat) : List Nat :=
  (List.range 8).filter fun p => portAt (d.groupMode h (p / 4)) p == some j

/-- The die-local lane that carries position `p` (R75): the group's spare once it has taken it over. -/
def Dev.laneOf (d : Dev) (h p : Nat) : Nat :=
  let spare := 5 * (p / 4) + 4
  if d.flag (groupSpare h (p / 4)) MAC_GROUP_SPARE_A_SPARE_USED && d.fld (laneStatus h spare) MAC_LANE_STATUS_LOGICAL == p then spare
  else 5 * (p / 4) + p % 4

/-- The position that lane `l` carries, if any. -/
def Dev.posOf (d : Dev) (h l : Nat) : Option Nat := (List.range 8).find? fun p => d.laneOf h p == l

/-- A lane's LANE_STATE. -/
def Dev.laneState (d : Dev) (h l : Nat) : Nat := d.fld (laneStatus h l) MAC_LANE_STATUS_LANE_STATE

/-- LANE_STATE and LOGICAL of every lane of die `h` as R75 gives them; a failed lane stays FAILED. -/
def Dev.refreshLanes (d : Dev) (h : Nat) : Dev :=
  d.each (List.range 10) fun d l =>
    if d.laneState h l = 2 then d
    else if d.groupMode h (l / 5) = 0 then d.setF (laneStatus h l) MAC_LANE_STATUS_LANE_STATE 3
    else match d.posOf h l with
      | some p => (d.setF (laneStatus h l) MAC_LANE_STATUS_LANE_STATE 0).setF (laneStatus h l) MAC_LANE_STATUS_LOGICAL p
      | none => d.setF (laneStatus h l) MAC_LANE_STATUS_LANE_STATE (if l % 5 = 4 then 1 else 3)

/-! Home slices (R79, R80). -/

/-- The home slice of port NP`p` (R79). -/
def homeSlice (p : Nat) : Nat := p / 8 * 3 + 3 * (p % 8) / 8

/-- The acting home slice, if a slice of the die is in service (R80). -/
def Dev.actingOf (d : Dev) (p : Nat) : Option Nat :=
  if d.sliceOn (homeSlice p) then some (homeSlice p)
  else [p / 8 * 3, p / 8 * 3 + 1, p / 8 * 3 + 2].find? d.sliceOn

/-! Port states (R95). -/

/-- Receive and transmit low-power idle of a port end; TX_LPI_NS and RX_LPI_NS rise by the whole duration then, by the ticks (R97; log entries 9 and 147). -/
def Dev.lpiEnds (d : Dev) (p : Nat) : Dev :=
  let st := d.portSt p
  let d := if d.flag (portStatus p) MAC_PORT_STATUS_TX_LPI then
    (d.setF (portStatus p) MAC_PORT_STATUS_TX_LPI 0).macCount p 3 1 (d.refNs - st.txLpiAt) else d
  let d := if d.flag (portStatus p) MAC_PORT_STATUS_RX_LPI then
    (d.setF (portStatus p) MAC_PORT_STATUS_RX_LPI 0).macCount p 3 3 (d.refNs - st.rxLpiAt) else d
  d.updPort p fun x => { x with wakeEnd := none }

/-- The frame that port `p` is receiving. -/
def Dev.receivingOf (d : Dev) (p : Nat) : Option (Nat × Frame) :=
  d.frames.find? fun kf => kf.2.origin == .net p && match kf.2.stage with | .receiving _ _ => true | _ => false

/-- A frame being received when its port leaves UP is a PCS-error frame (R83). -/
def Dev.breakReceiving (d : Dev) (p : Nat) : Dev :=
  match d.receivingOf p with
  | some (id, f) => match f.stage with
    | .receiving r _ => d.putFrame id { f with stage := .receiving r true }
    | _ => d
  | none => d

/-- Port `p` goes to state `st`: a port leaving UP loses its frame on the wire (R86, R285); one that becomes ABSENT or DISABLED loses its queued frames (R78, R86); each entry to DOWN or
SPARING counts in LINK_DOWN_EVENTS (R95). -/
def Dev.portTo (d : Dev) (p st : Nat) : Dev :=
  let old := d.portState p
  let d := d.setF (portStatus p) MAC_PORT_STATUS_STATE st
  let d := d.onlyIf (old == 3 && st != 3) fun d => ((d.lpiEnds p).breakReceiving p).tmPortLeftUp p
  let d := d.onlyIf ((st == 4 || st == 5) && old != st) fun d => d.macCount p 3 4
  let d := d.onlyIf (st != 5) fun d => d.updPort p fun x => { x with sparing := none }
  let d := d.onlyIf (st != 4) fun d => d.updPort p fun x => { x with noSlice := false }
  let d := d.onlyIf (st ≤ 1) fun d => d.tmPortGone p
  if st = 3 then (d.updPort p fun x => { x with idleSince := d.refNs }).tmRefresh (d.actingSlice p) else d

/-- Port `p` goes where an enabled port goes: TRAINING, or DOWN while no slice of its die is in service (R80). -/
def Dev.portTrain (d : Dev) (p : Nat) : Dev :=
  match d.actingOf p with
  | some _ => d.portTo p 2
  | none => (d.portTo p 4).updPort p fun x => { x with noSlice := true }

/-- Whether the current image spreads port `p` (01 R21): at FRAME_START too, whichever epoch the frame's stamp gives it (log entry 148). -/
def Dev.spreadOf (d : Dev) (p : Nat) : Option Spread :=
  (d.slot? d.curSlot).bind fun x => x.img.spread.find? fun r => r.port == p

/-- SPEED codes: mode 4 is 1.6TbE (4), 1 is 800GbE (3), 2 is 400GbE (2), 3 is 200GbE (1). -/
def speedCode (m : Nat) : Nat :=
  match m with
  | 4 => 4
  | 1 => 3
  | 2 => 2
  | 3 => 1
  | _ => 0

/-- SPEED, ACTING_SLICE and SPREAD of port `p` as the mode, the slices in service and the current image give them. -/
def Dev.portShow (d : Dev) (p : Nat) : Dev :=
  let h := p / 8
  if d.produced h (p % 8) then
    let d := d.setF (portStatus p) MAC_PORT_STATUS_SPEED (speedCode (d.groupMode h (p % 8 / 4)))
    let d := d.setF (portStatus p) MAC_PORT_STATUS_SPREAD (b2n (d.spreadOf p).isSome)
    d.setF (portStatus p) MAC_PORT_STATUS_ACTING_SLICE ((d.actingOf p).getD (homeSlice p))
  else ((d.setF (portStatus p) MAC_PORT_STATUS_SPEED 0).setF (portStatus p) MAC_PORT_STATUS_SPREAD 0).setF
    (portStatus p) MAC_PORT_STATUS_ACTING_SLICE 0

/-- The slices in service have changed: acting home slices, and the ports that a die without slices holds DOWN (R80); one whose lane was being spared is not held for that alone. -/
def Dev.portsFollowSlices (d : Dev) : Dev :=
  d.each (List.range 16) fun d p =>
    if d.portState p = 0 then d else
    let d := match d.actingOf p with
      | some a => (d.setF (portStatus p) MAC_PORT_STATUS_ACTING_SLICE a).tmRefresh a
      | none => d
    match d.actingOf p with
    | none =>
      let st := d.portState p
      if st = 2 || st = 3 then (d.portTo p 4).updPort p fun x => { x with noSlice := true } else if st = 5 then d.portTo p 4 else d
    | some _ => if (d.portSt p).noSlice then d.portTo p 2 else d

/-- The mode of die `h` is written; each affected group's ports leave their states at once (R78). -/
def Dev.halfModeWrite (d : Dev) (h : Nat) (v : Word) : Dev :=
  let old := [0, 1].map fun g => d.groupMode h g
  let oldPorts := (List.range 8).filter fun j => d.produced h j
  let d := d.wr (halfMode h) (BitVec.ofNat 64 (v.toNat % 32))
  let hit (j : Nat) : Bool := old.getD (j / 4) 0 != d.groupMode h (j / 4)
  let gone := oldPorts.filter fun j => hit j && !d.produced h j
  let d := d.each gone fun d j => d.portTo (8 * h + j) 0
  let here := (List.range 8).filter fun j => hit j && d.produced h j
  let d := d.each (List.range 8) fun d j => d.portShow (8 * h + j)
  let d := d.each here fun d j =>
    if d.flag (portCtrl (8 * h + j)) MAC_PORT_CTRL_ENABLE && d.life != 4 then d.portTrain (8 * h + j) else d.portTo (8 * h + j) 1
  d.refreshLanes h

/-- MAC_HALF_MODE_WRITE (R78). -/
def execMacHalfModeWrite (src : Src) (slice : Fin 6) (v : Word) (s : State) : Host.Outcome State Fault Refusal :=
  finSW s src slice.val (MAC_HALF_MODE slice.val) (s.toDev.halfModeWrite (slice.val / 3) v)

/-- LOOPBACK with 3 taken as 0. -/
def Dev.loopback (d : Dev) (p : Nat) : Nat := d.fld (portCtrl p) MAC_PORT_CTRL_LOOPBACK % 3

/-- Port `p` has left SPARING: one that is no longer enabled is DISABLED (R95). -/
def Dev.sparingLeft (d : Dev) (p : Nat) : Dev := if d.flag (portCtrl p) MAC_PORT_CTRL_ENABLE then d else d.portTo p 1

/-- A write of MAC_PORT_CTRL: MAX_FRAME is clamped; ENABLE and a change of loopback move the state, SPARING excepted, which only alignment and its timeout end (R95, R96; log entry 13); in
RETIRED ports stay disabled (17 R473). -/
def Dev.portCtrlWrite (d : Dev) (p : Nat) (v : Word) : Dev :=
  let loop := d.loopback p
  let mf := min (max (MAC_PORT_CTRL_MAX_FRAME.get v) 1518) 16384
  let d := d.wr (portCtrl p) (MAC_PORT_CTRL_MAX_FRAME.set mf (v &&& 0xFFFFFF0F))
  let st := d.portState p
  if st = 0 then d
  else if !d.flag (portCtrl p) MAC_PORT_CTRL_ENABLE then if st = 1 || st = 5 then d else d.portTo p 1
  else if st = 1 then if d.life = 4 then d else d.portTrain p
  else if loop != d.loopback p && (st == 3 || st == 4) && (d.actingOf p).isSome then d.portTo p 2
  else d

/-- Whether low-power idle is allowed on port `p` (R88). -/
def Dev.lpiAllowed (d : Dev) (p : Nat) : Bool :=
  d.flag (portCtrl p) MAC_PORT_CTRL_LPI_EN && d.flag PWR_ENVELOPE PWR_ENVELOPE_IDLE_STEP &&
    decide (d.fld (portWake p) MAC_PORT_WAKE_TW_NS ≤ d.fld PWR_ENVELOPE PWR_ENVELOPE_LATENCY_NS)

/-- Ports in low-power idle that the conditions of R88 no longer allow ask for their wake (19 R496). -/
def Dev.lpiRecheck (d : Dev) : Dev :=
  d.each (List.range 16) fun d p =>
    if d.flag (portStatus p) MAC_PORT_STATUS_TX_LPI && !d.lpiAllowed p then
      ((d.setF (portStatus p) MAC_PORT_STATUS_TX_LPI 0).macCount p 3 1 (d.refNs - (d.portSt p).txLpiAt)).updPort p fun x =>
        { x with wakeEnd := some (d.refNs + d.fld (portWake p) MAC_PORT_WAKE_TW_NS) }
    else d

/-- PORT_CTRL_WRITE (R95). -/
def execPortCtrlWrite (src : Src) (slice : Fin 6) (port : Fin 8) (v : Word) (s : State) : Host.Outcome State Fault Refusal :=
  finSW s src slice.val (MAC_PORT_CTRL slice.val port.val) (s.toDev.portCtrlWrite (slice.val / 3 * 8 + port.val) v).lpiRecheck

/-! Lane sparing (R91 to R94). -/

/-- Whether another port or position of group `g` of die `h` is being spared. -/
def Dev.sparingIn (d : Dev) (h g : Nat) : Bool :=
  (List.range 8).any fun j => match (d.portSt (8 * h + j)).sparing with
    | some (l, _) => l / 5 == g
    | none => false

/-- Sparing for lane `l`, which carries position `pos` of port `p`, begins if it can, else the port goes DOWN, held there by its lane (R92, R93). Only a port in TRAINING, UP or DOWN moves:
a port in SPARING leaves it only for UP or at 40 ms (R95). SPARE_EVENTS counts as sparing begins (R97; log entry 147). -/
def Dev.spareOrDown (d : Dev) (h l p : Nat) (mayspare : Bool) : Dev :=
  let g := l / 5
  let can := mayspare && d.flag (groupSpare h g) MAC_GROUP_SPARE_A_ROUTED && d.laneState h (5 * g + 4) == 1 && !d.sparingIn h g
  let st := d.portState p
  if st = 2 || st = 3 || st = 4 then
    if can && (d.actingOf p).isSome then ((d.portTo p 5).macCount p 3 5).updPort p fun x => { x with sparing := some (l, d.refNs) }
    else (d.portTo p 4).updPort p fun x => { x with noSlice := false }
  else d

/-- The port of lane `l` of die `h`, which has failed, is spared or goes DOWN (R91 to R93). -/
def Dev.laneSpare (d : Dev) (h l : Nat) (mayspare : Bool) : Dev :=
  match (d.posOf h l).bind fun q => portAt (d.groupMode h (q / 4)) q with
  | some j => d.spareOrDown h l (8 * h + j) mayspare
  | none => d

/-- Lane `l` of die `h` fails (R91): its fault source is reported, it reads FAILED, and its port is spared or goes DOWN. -/
def Dev.laneFail (d : Dev) (h l kind : Nat) (mayspare : Bool) : Dev :=
  if d.laneState h l = 2 then d else
  let (a, d) := d.fresh
  let (b, d) := d.fresh
  ((d.report (0x0100 + 10 * h + l) kind a hubUnit b).setF (laneStatus h l) MAC_LANE_STATUS_LANE_STATE 2).laneSpare h l mayspare

/-- A write of MAC_GROUP_SPARE_A or _B; SPARE_NOW fails the lane of LANE_SEL's position, and spares one that has failed before (R91; log entry 13). -/
def Dev.groupSpareWrite (d : Dev) (h g : Nat) (v : Word) : Dev :=
  let r := groupSpare h g
  let d := d.wr r ((v &&& 0xFFFF0063) ||| (d.rd r &&& 0x8))
  if MAC_GROUP_SPARE_A_SPARE_NOW.get v = 1 then
    let l := d.laneOf h (4 * g + MAC_GROUP_SPARE_A_LANE_SEL.get v)
    if d.laneState h l = 2 then d.laneSpare h l true else d.laneFail h l 3 true
  else d

/-- SPARE_NOW (R91). -/
def execSpareNow (src : Src) (slice : Fin 6) (groupB : Bool) (v : Word) (s : State) : Host.Outcome State Fault Refusal :=
  finSW s src slice.val (if groupB then MAC_GROUP_SPARE_B slice.val else MAC_GROUP_SPARE_A slice.val)
    (s.toDev.groupSpareWrite (slice.val / 3) (b2n groupB) v)

/-- Whether automatic triggers spare in the group of lane `l` (R91). -/
def Dev.autoSpare (d : Dev) (h l : Nat) : Bool := d.flag (groupSpare h (l / 5)) MAC_GROUP_SPARE_A_AUTO

/-- A lane's 1 s window ends (R91): its port counts the code words and symbols (R97). -/
def Dev.fecWindow (d : Dev) (h l symbols corrCw uncorrCw : Nat) : Dev :=
  let d := match (d.posOf h l).bind fun q => portAt (d.groupMode h (q / 4)) q with
    | some j => ((d.macCount (8 * h + j) 1 5 corrCw).macCount (8 * h + j) 1 6 uncorrCw).macCount (8 * h + j) 1 7 symbols
    | none => d
  let k := d.fld (groupSpare h (l / 5)) MAC_GROUP_SPARE_A_SER_LIMIT_K
  if k != 0 && decide (k * 1000 ≤ symbols) then d.laneFail h l 1 (d.autoSpare h l) else d

/-- FEC_WINDOW_END (R91). -/
def execFecWindowEnd (die : Fin 2) (lane : Fin 10) (symbols corrCw uncorrCw : Nat) (s : State) : Host.Outcome State Fault Refusal :=
  fin s (s.toDev.fecWindow die.val lane.val symbols corrCw uncorrCw)

/-- LANE_LOCK_LOSS (R91): more than 1 ms without lock. An idle spare fails as a lane in use does. -/
def execLaneLockLoss (die : Fin 2) (lane : Fin 10) (s : State) : Host.Outcome State Fault Refusal :=
  fin s ((s.toDev.setF (laneStatus die.val lane.val) MAC_LANE_STATUS_CDR_LOCK 0).onlyIf (decide (s.laneState die.val lane.val ≤ 1)) fun d =>
    d.laneFail die.val lane.val 3 (d.autoSpare die.val lane.val))

/-- Whether every lane of port `j` of die `h` is locked and not failed. -/
def Dev.lanesLocked (d : Dev) (h j : Nat) : Bool :=
  (d.positions h j).all fun p => d.flag (laneStatus h (d.laneOf h p)) MAC_LANE_STATUS_CDR_LOCK && d.laneState h (d.laneOf h p) != 2

/-- LANE_LOCK_REGAIN (R92, R95): a failed lane that still carries its position, and an idle spare, is usable again; its DOWN port trains once every lane is locked, or is from then on held by
the want of a slice alone (R80). -/
def Dev.laneRegain (d : Dev) (h l : Nat) : Dev :=
  let d := d.setF (laneStatus h l) MAC_LANE_STATUS_CDR_LOCK 1
  match d.posOf h l with
  | none => if l % 5 = 4 && d.laneState h l == 2 && !d.flag (groupSpare h (l / 5)) MAC_GROUP_SPARE_A_SPARE_USED then
      (d.setF (laneStatus h l) MAC_LANE_STATUS_LANE_STATE 3).refreshLanes h else d
  | some q =>
    let d := (d.onlyIf (d.laneState h l == 2) fun d => d.setF (laneStatus h l) MAC_LANE_STATUS_LANE_STATE 3).refreshLanes h
    match portAt (d.groupMode h (q / 4)) q with
    | some j =>
      let p := 8 * h + j
      if d.portState p == 4 && d.lanesLocked h j then
        if (d.actingOf p).isSome then d.portTo p 2 else d.updPort p fun x => { x with noSlice := true }
      else d
    | none => d

/-- LANE_LOCK_REGAIN. -/
def execLaneLockRegain (die : Fin 2) (lane : Fin 10) (s : State) : Host.Outcome State Fault Refusal :=
  fin s (s.toDev.laneRegain die.val lane.val)

/-- PCS alignment and FEC lock (R93, R95): a port in SPARING has its position moved to the spare. -/
def Dev.aligned (d : Dev) (p : Nat) : Dev :=
  let h := p / 8
  let d := match d.portState p, (d.portSt p).sparing with
    | 5, some (l, _) =>
      match d.posOf h l with
      | some q =>
        let sp := 5 * (l / 5) + 4
        ((((d.setF (laneStatus h sp) MAC_LANE_STATUS_LOGICAL q).setF (groupSpare h (l / 5)) MAC_GROUP_SPARE_A_SPARE_USED 1).setF
          (laneStatus h l) MAC_LANE_STATUS_LANE_STATE 2).setF (laneStatus h sp) MAC_LANE_STATUS_LANE_STATE 3).refreshLanes h
      | none => d
    | _, _ => d
  let usable := (d.positions h (p % 8)).all fun q => d.laneState h (d.laneOf h q) != 2
  if (d.portState p == 2 || d.portState p == 5) && (usable || d.loopback p == 1) then
    ((d.each (d.positions h (p % 8)) fun d q => d.setF (laneStatus h (d.laneOf h q)) MAC_LANE_STATUS_CDR_LOCK 1).portTo p 3).sparingLeft p
  else d

/-- PORT_ALIGNED (R95). -/
def execPortAligned (port : Fin 16) (s : State) : Host.Outcome State Fault Refusal := fin s (s.toDev.aligned port.val)

/-- ALIGNMENT_LOSS (R95). -/
def execAlignmentLoss (port : Fin 16) (s : State) : Host.Outcome State Fault Refusal :=
  fin s (if s.portState port.val = 3 then s.toDev.portTo port.val 4 else s.toDev)

/-- SPARING_TIMEOUT (R93): 40 ms after sparing began. -/
def Dev.sparingTimeout (d : Dev) (p : Nat) : Dev :=
  match (d.portSt p).sparing with
  | some (_, t) =>
    if d.portState p == 5 && decide (t + 40000000 ≤ d.refNs) then ((d.portTo p 4).setF (portStatus p) MAC_PORT_STATUS_SPARE_FAILED 1).sparingLeft p else d
  | none => d

/-- SPARING_TIMEOUT. -/
def execSparingTimeout (port : Fin 16) (s : State) : Host.Outcome State Fault Refusal := fin s (s.toDev.sparingTimeout port.val)

/-! Low-power idle and the clock step (R88 to R90). -/

/-- Whether a frame for port `p` is ready: an eligible class or an orphan queue with frames. -/
def Dev.portReady (d : Dev) (p : Nat) : Bool :=
  let a := d.actingSlice p
  (d.orphanChoice a p).isSome || match d.sched a with
  | some b => (b.kids 0 p).any fun c => d.classElig b a c p
  | none => false

/-- LPI_ENTRY (R89): the transmit side has been idle for LPI_IDLE_US and no frame is ready. -/
def Dev.lpiEntry (d : Dev) (p : Nat) : Dev :=
  let idle := max (d.fld (portCtrl p) MAC_PORT_CTRL_LPI_IDLE_US) 1 * 1000
  let st := d.portSt p
  if d.portState p == 3 && d.lpiAllowed p && !d.flag (portStatus p) MAC_PORT_STATUS_TX_LPI && st.onWire.isNone && st.wakeEnd.isNone &&
      decide (st.idleSince + idle ≤ d.refNs) && !d.portReady p then
    ((d.setF (portStatus p) MAC_PORT_STATUS_TX_LPI 1).macCount p 3 0).updPort p fun x => { x with txLpiAt := d.refNs }
  else d

/-- LPI_ENTRY. -/
def execLpiEntry (port : Fin 16) (s : State) : Host.Outcome State Fault Refusal := fin s (s.toDev.lpiEntry port.val)

/-- LPI_WAKE_END (R89): TW_NS after the wake request, by the ticks, transmission may start (log entry 9). -/
def execLpiWakeEnd (port : Fin 16) (s : State) : Host.Outcome State Fault Refusal :=
  fin s (if (s.portSt port.val).wakeEnd.any fun t => decide (t ≤ s.refNs) then
    s.toDev.updPort port.val fun x => { x with wakeEnd := none, idleSince := s.refNs } else s.toDev)

/-- RX_LPI_ENTRY (R90). -/
def execRxLpiEntry (port : Fin 16) (s : State) : Host.Outcome State Fault Refusal :=
  fin s (if s.portState port.val == 3 && !s.flag (portStatus port.val) MAC_PORT_STATUS_RX_LPI then
    ((s.toDev.setF (portStatus port.val) MAC_PORT_STATUS_RX_LPI 1).macCount port.val 3 2).updPort port.val fun x => { x with rxLpiAt := s.refNs }
    else s.toDev)

/-- RX_LPI_WAKE (R90). -/
def execRxLpiWake (port : Fin 16) (s : State) : Host.Outcome State Fault Refusal :=
  fin s (if s.flag (portStatus port.val) MAC_PORT_STATUS_RX_LPI then
    (s.toDev.setF (portStatus port.val) MAC_PORT_STATUS_RX_LPI 0).macCount port.val 3 3 (s.refNs - (s.portSt port.val).rxLpiAt)
    else s.toDev)

/-- Whether slice `sl` may clock its stepped units down (R90): every port there is whose acting home slice it is stands in LPI in both directions and it holds no frame. -/
def Dev.sliceIdle (d : Dev) (sl : Nat) : Bool :=
  ((List.range 16).all fun p => d.portState p == 0 || d.actingSlice p != sl ||
    (d.flag (portStatus p) MAC_PORT_STATUS_TX_LPI && d.flag (portStatus p) MAC_PORT_STATUS_RX_LPI)) &&
  (d.frames.all fun kf => d.heldBy sl kf.2 == 0) && (d.busyQueues sl).isEmpty

/-- SLICE_CLOCK_DOWN (R90). -/
def execSliceClockDown (slice : Fin 6) (s : State) : Host.Outcome State Fault Refusal :=
  fin s (if s.sliceIdle slice.val then s.toDev.setSlowClk (setBit s.slowClk slice.val true) else s.toDev)

/-- SLICE_CLOCK_UP (R90): a receive wake, a queued frame or a spread frame has ended the condition. -/
def execSliceClockUp (slice : Fin 6) (s : State) : Host.Outcome State Fault Refusal :=
  fin s (if s.sliceIdle slice.val then s.toDev else s.toDev.setSlowClk (setBit s.slowClk slice.val false))

end Sys2Proof.Machine
end

