-- ==== Sys2Proof/Machine/Rings.lean ====
section
/-! DEFINITION. Rings and doorbells (14 R381 to R399): commands, doorbells, fetching, capture, delivery, snoops. -/
namespace Sys2Proof.Machine

/-- The name of the read that fetches ring `r`'s descriptors, and of the read of buffer `k` of chain `id`. -/
def descUnit (r : Nat) : Nat := r
def dataUnit (id k : Nat) : Nat := 2 ^ 40 + id * 16 + k

/-- The drops `n` that a lost exception of slice `s` would have told go to the next one of that slice in the queue, or, where there is none, stay to be told (05 R117). -/
def dropsOn : List Deliv → Nat → Nat → List Deliv × Nat
  | [], _, n => ([], n)
  | q :: t, s, n => if q.frame.isNone && q.slice == s then ({ q with before := min (q.before + n) 0xFFFFFFFF } :: t, 0) else (q :: (dropsOn t s n).1, (dropsOn t s n).2)

/-- `n` drops of slice `s`'s host destination are still to be told (05 R117). -/
def Dev.dropsBack (d : Dev) (s n : Nat) : Dev := d.setDropBefore (d.dropBefore.put (s * 2) (min (d.dropBefore.lookD (s * 2) 0 + n) 0xFFFFFFFF))

/-- Ring `r`'s frames leave it: those queued for it (10 R279) and those chosen for it whose delivery has not begun, all counted in counter `c` (11 FROZEN_DROP, 13 DOWN_DROP). A host
exception that waits is undeliverable (05 R118), and what it would have said was dropped before it goes to its destination's next one (05 R117). -/
def Dev.ringDropFrames (d : Dev) (r c : Nat) : Dev :=
  let q := (d.ringAt r).rxq
  let d := d.updRing r fun x => { x with rxq := [] }
  let d := d.each q fun d x => match x.frame with
    | some id => d.dropAt id (tmgCnt x.slice c)
    | none => (d.count (prsCnt x.slice 8)).dropsBack x.slice x.before
  d.tmRingGone r c

/-- Ring `r` stops in ERROR (R397): reason and index latched, HEAD published, an ERROR event posted. -/
def Dev.ringError (d : Dev) (r reason index : Nat) : Dev :=
  let d := d.updRing r fun x => { x with state := 2, errReason := reason, errIndex := index % 65536, captured := [], fetching := none }
  let d := ((d.pubWaits r 2).publish r).count (rgmCnt 5)
  d.setF RGM_EVENT RGM_EVENT_RING_ERROR 1

/-- What a freeze makes of a chain (R391, R393; 13 R370): one in read ends with an error and, without TS, is done; one that is not done and whose write-back can no longer be issued is
fetched again at RESTART (4). -/
def TxChain.frozen (c : TxChain) : TxChain := if c.stage = 3 || (c.stage = 1 && !c.ts) then { c with stage := 3 } else { c with stage := 4, wb := none }

/-- What has arrived for ring `r`'s fetch and chains is forgotten. -/
def Dev.forgetArrived (d : Dev) (r : Nat) : Dev :=
  (d.setArrived (d.arrived.del (descUnit r))).each (d.ringAt r).chains fun d c =>
    d.each (List.range c.bufs.length) fun d k => d.setArrived (d.arrived.del (dataUnit c.id k))

/-- The requests of ring `x` that wait to be issued: its publication, the events with it, the write-backs of timed chains, the data reads of chains that have none issued. -/
def RingSt.waiting (x : RingSt) : Nat :=
  b2n x.pubWait + (setBits 4 x.evWait).length + x.capWait.length + (x.chains.filter fun c => c.wb.isSome).length + ((x.chains.filter fun c => c.stage == 0).map fun c => c.bufs.length).sum

/-- A freeze of PF `n`'s link stops ring `r` in FROZEN (13 R370): entries not done are fetched again at RESTART, held lines are dropped, what waits to be issued is discarded and counted. -/
def Dev.ringFreeze (d : Dev) (n r : Nat) : Dev :=
  let x := d.ringAt r
  let d := (d.forgetArrived r).count (rgmCnt 3) (x.chains.filter fun c => c.stage == 1).length
  let d := d.count (hifCnt n 5) x.waiting
  let d := d.updRing r fun x => { x with fetching := none, captured := [], held := [], capWait := [], chains := x.chains.map TxChain.frozen }
  let d := (d.headMoves r).updRing r fun x => { x with pubWait := false, evWait := 0, state := if x.state = 1 || x.state = 2 then 3 else x.state }
  if x.state = 1 || x.state = 2 then d.ringDropFrames r 11 else d

/-! Doorbells (R383 to R386). -/

/-- Whether CXL.cache requests for function `f` may be issued: on a link that carries CXL.cache (13 R367, R370, R538). -/
def Dev.canCache (d : Dev) (f : Nat) : Bool := d.fnCan f && d.flag (HIF_LINK_STATUS (d.fnPf f)) HIF_LINK_STATUS_CXL_CM

/-- The lines of `[PROD, PROD + 2 × PREFETCH_LINES)` not held are read and held with their mark (R398). -/
def Dev.prefetch (d : Dev) (f r : Nat) : Dev :=
  let x := d.ringAt r
  if !x.coherent || !d.canCache f then d else
  d.each (List.range (2 * RGM_RING_CFG_PREFETCH_LINES.get x.cfg)) fun d k =>
    let a := x.slot (x.prod + k) / 64 * 64
    if (d.ringAt r).held.any fun h => h.addr == a then d
    else (d.updRing r fun x => { x with held := x.held ++ [⟨a, true⟩] }).emit (.cacheRead (d.fnPf f) a)

/-- PROD passes the entries from `old` on: each is captured from its held line while its mark is set, else by a fresh read of the line, which waits while the link takes none (R399; 13 R367). -/
def Dev.capturePassed (d : Dev) (f r old n : Nat) : Dev :=
  let x := d.ringAt r
  d.each (List.range n) fun d k =>
    let a := x.slot (old + k) / 64 * 64
    if (d.ringAt r).held.any fun h => h.addr == a && h.marked then d.count (rgmCnt 8)
    else (d.onlyIf ((x.held.find? fun h => h.addr == a) != some ⟨a, true⟩ && (k == 0 || x.slot (old + k) % 64 == 0)) fun d =>
      if d.canCache f then d.emit (.cacheRead (d.fnPf f) a) else d.updRing r fun x => { x with capWait := x.capWait ++ [a] }).count (rgmCnt 9)

/-- The fresh reads that wait are issued. -/
def Dev.captureWaiting (d : Dev) (f r : Nat) : Dev :=
  if d.canCache f then (d.each (d.ringAt r).capWait fun d a => d.emit (.cacheRead (d.fnPf f) a)).updRing r fun x => { x with capWait := [] } else d

/-- A valid doorbell takes effect: PROD or CONS, and for an event ring the acknowledgement and the arming (R384, R395, R396). -/
def Dev.doorbellApply (d : Dev) (f r v : Nat) : Dev :=
  let x := d.ringAt r
  let i := v % 65536
  if x.kind = 3 then
    let d := d.updRing r fun x => { x with head := i }
    let d := d.onlyIf (v.testBit 33 && bitsOf v 16 16 == x.gen) fun d =>
      let d := d.updRing r fun x => { x with summary := 0, folded := false }
      (d.pubWaits r 0).publish r
    let d := d.onlyIf (v.testBit 32) fun d => d.updRing r fun x => { x with armed := true }
    d.evModerate f r
  else
    let old := x.prod
    let d := d.updRing r fun x => { x with prod := i }
    let d := d.onlyIf x.coherent fun d => d.capturePassed f r old (idxSub i old)
    d.prefetch f r

/-- Whether INDEX is valid for the ring (R386). -/
def RingSt.dbValid (x : RingSt) (i : Nat) : Bool :=
  if x.kind = 3 then decide (idxSub i x.head ≤ idxSub x.prod x.head)
  else decide (idxSub x.prod x.head ≤ idxSub i x.head) && decide (idxSub i x.head ≤ x.size)

/-- A doorbell write for local ring `l` of function `f` (R384 to R386). -/
def Dev.ringDoorbell (d : Dev) (f l width v : Nat) : Dev :=
  let r := d.fnCtl f RGM_FUNC_CTL_RING_BASE + l
  let x := d.ringAt r
  let bad := d.count (rgmCnt 10)
  if width != 32 && width != 64 then bad
  else if d.fnResetting f then (d.count (rgmCnt 11)).satAdd (RGM_FUNC_STATUS f) RGM_FUNC_STATUS_DOORBELL_DROPS 1
  else if d.fnCtl f RGM_FUNC_CTL_RING_COUNT ≤ l then bad
  else if x.state = 0 || x.state = 4 then bad
  else if v / 2 ^ (if x.kind = 3 then 34 else 16) != 0 then bad
  else if x.state = 1 then
    if x.dbValid (v % 65536) then d.doorbellApply f r v else d.ringError r (if x.kind = 3 then 6 else 1) (v % 65536)
  else if x.dbValid (v % 65536) then d.updRing r fun x => { x with pendDb := x.pendDb ++ [v] }
  else bad

/-- A write to TF `n`'s MEDIATE slot (R384): its bit in RGM_MED_PENDING. -/
def Dev.mediate (d : Dev) (n : Nat) : Dev :=
  (d.setBitF (RGM_MED_PENDING (n / 64)) RGM_MED_PENDING_PENDING (n % 64) true).setF RGM_EVENT RGM_EVENT_MEDIATE 1

/-- Whether TF `n`'s page is live in PF `p`'s BAR2 (13 R349). -/
def Dev.pageLive (d : Dev) (p n : Nat) : Bool := d.fnState n != 0 && d.fnPf n == p

/-- A write to a doorbell page (R383, R384; 13 R349). -/
def Dev.doorbell (d : Dev) (p : Nat) (page : DbPage) (off width v : Nat) : Dev :=
  let v := if width = 32 then v % 2 ^ 32 else v
  let slot (f l0 : Nat) : Dev :=
    if off % 8 = 0 && decide (off < 0x800) then d.ringDoorbell f (l0 + off / 8) width v else d.count (rgmCnt 10)
  match page with
  | .tf n =>
    if !d.pageLive p n.val then d.count (hifCnt p 7)
    else if off = 0x800 && (width == 32 || width == 64) then d.mediate n.val
    else slot n.val 0
  | .own k => slot (4096 + p) (256 * k.val)

/-- DOORBELL (R384). -/
def execDoorbell (pf : Fin 4) (page : DbPage) (off width : Nat) (v : Word) (s : State) : Host.Outcome State Fault Refusal :=
  finW s (.pf pf false) (2 ^ 33) (s.toDev.doorbell pf.val page off width v.toNat)

/-- MEDIATE (R384). -/
def execMediate (pf : Fin 4) (tf : Fin 4096) (width : Nat) (s : State) : Host.Outcome State Fault Refusal :=
  finW s (.pf pf false) (2 ^ 33) (s.toDev.doorbell pf.val (.tf tf) 0x800 width 0)

/-! Ring commands (R381, R382, R536). -/

/-- Whether `src` may write PF `p`'s window. -/
def srcMayPf (src : Src) (p : Nat) : Bool :=
  match src with
  | .ulyar => true
  | .pf n _ => n.val == p

/-- Whether PF `p`'s window acts on ring `r`: it belongs to PF `p` or to a TF assigned to it. -/
def Dev.windowOwns (d : Dev) (p r : Nat) : Bool :=
  match d.ringOwner r with
  | some f => d.fnPf f == p
  | none => false

/-- The ring PF `p`'s window selects. -/
def Dev.ringSel (d : Dev) (p : Nat) : Nat := d.fld (RGM_RING_SEL p) RGM_RING_SEL_RING

/-- A command of PF `p`'s window ends with RESULT `res`. -/
def Dev.ringResult (d : Dev) (p res : Nat) : Dev := d.wr (RGM_RING_CMD_STATUS p) (BitVec.ofNat 64 res)

/-- A command by `src` in PF `p`'s window: NOT_OWNED, BUSY while the function resets (R403), else what `f` does with the function and the ring. -/
def Dev.ringCmd (d : Dev) (src : Src) (p : Nat) (f : Dev → Nat → Nat → Dev) : Dev :=
  if !srcMayPf src p then d.count (rgmCnt 14) else
  let r := d.ringSel p
  match d.ringOwner r with
  | none => d.ringResult p 1
  | some fn => if d.fnPf fn != p then d.ringResult p 1 else if d.fnResetting fn then d.ringResult p 4 else f d fn r

/-- RING_WRITE_CFG (R382): the staged BASE, PUB, CFG and MOD go into a DISABLED ring. -/
def Dev.ringWriteCfg (d : Dev) (p _fn r : Nat) : Dev :=
  if (d.ringAt r).state != 0 then d.ringResult p 2
  else (d.updRing r fun x => { x with base := (d.rd (RGM_RING_BASE p)).toNat, pub := (d.rd (RGM_RING_PUB p)).toNat,
                                      cfg := d.rd (RGM_RING_CFG p), mod := d.rd (RGM_RING_MOD p) }).ringResult p 0

/-- RING_WRITE_CFG. -/
def execRingWriteCfg (src : Src) (pf : Fin 4) (s : State) : Host.Outcome State Fault Refusal :=
  finW s src (RGM_RING_CMD pf.val).addr (s.toDev.ringCmd src pf.val fun d fn r => d.ringWriteCfg pf.val fn r)

/-- The rings of function `f` that are not DISABLED. -/
def Dev.liveRings (d : Dev) (f : Nat) : List Nat :=
  (d.ring.filter fun kr => kr.2.state != 0 && d.ringOwner kr.1 == some f).map Prod.fst

/-- Whether ENABLE accepts the ring's configuration (R382). -/
def Dev.ringCfgOk (d : Dev) (f r : Nat) : Bool :=
  let x := d.ringAt r
  let k := x.kind
  let sz := RGM_RING_CFG_SIZE_LOG2.get x.cfg
  let buf := RGM_RING_CFG_BUF_KIB.get x.cfg
  let v := RGM_RING_MOD_VECTOR.get x.mod
  let er := RGM_RING_CFG_EV_RING.get x.cfg
  (1 ≤ k && k ≤ 4) && (6 ≤ sz && sz ≤ 15) && x.base != 0 && x.base % 64 == 0 && x.pub != 0 && x.pub % 64 == 0 &&
  !((k == 2 || k == 4) && !(1 ≤ buf && buf ≤ 16)) &&
  !(k == 4 && (decide (f < 4096) || (d.liveRings f).any fun y => (d.ringAt y).kind == 4)) &&
  !(x.coherent && !d.flag (HIF_LINK_STATUS (d.fnPf f)) HIF_LINK_STATUS_CXL_CM) &&
  !(RGM_RING_CFG_EV_EN.get x.cfg == 1 && (k == 3 || (d.ringAt er).kind != 3 || d.ringOwner er != some f)) &&
  !(k == 3 && decide (f < 4096) && (v == 0 || decide (d.fld (RGM_FUNC_MSG f) RGM_FUNC_MSG_MSG_COUNT ≤ v)))

/-- RING_ENABLE (R381, R382): HEAD := PROD := START. In RETIRED rings stay disabled (17 R473). -/
def Dev.ringEnable (d : Dev) (p start fn r : Nat) : Dev :=
  if (d.ringAt r).state != 0 || d.fnState fn != 2 || d.life = 4 then d.ringResult p 2
  else if !d.ringCfgOk fn r then d.ringResult p 3
  else (d.updRing r fun x => { RingSt.reset with
    base := x.base, pub := x.pub, cfg := x.cfg, mod := x.mod, state := 1, head := start, prod := start, nextFetch := start }).ringResult p 0

/-- RING_ENABLE. -/
def execRingEnable (src : Src) (pf : Fin 4) (start : Fin 65536) (s : State) : Host.Outcome State Fault Refusal :=
  finW s src (RGM_RING_CMD pf.val).addr (s.toDev.ringCmd src pf.val fun d fn r => d.ringEnable pf.val start.val fn r)

/-- RING_DISABLE (R381): the ring stops fetching; entries fetched with no request issued are not in progress; held lines are dropped (R399). -/
def Dev.ringDisable (d : Dev) (p _fn r : Nat) : Dev :=
  let st := (d.ringAt r).state
  if st = 0 || st = 4 then d.ringResult p 2
  else (d.updRing r fun x => { x with
    state := 4, captured := [], held := [], capWait := [], pendDb := [], chains := x.chains.filter fun c => c.stage != 0 }).ringResult p 0

/-- RING_DISABLE. -/
def execRingDisable (src : Src) (pf : Fin 4) (s : State) : Host.Outcome State Fault Refusal :=
  finW s src (RGM_RING_CMD pf.val).addr (s.toDev.ringCmd src pf.val fun d fn r => d.ringDisable pf.val fn r)

/-- RING_RESTART (R381, R385): ERR_REASON and ERR_INDEX are cleared, HEAD is published, fetching begins again from the first entry not in progress, the recorded doorbells are used
in their order: of an event ring each, with its ARM and SUMMARY_ACK, of another ring the last, which alone tells PROD. -/
def Dev.ringRestart (d : Dev) (p fn r : Nat) : Dev :=
  let x := d.ringAt r
  if !(x.state = 2 || (x.state = 3 && !d.frozen (d.fnPf fn))) then d.ringResult p 2
  else
    let again := x.chains.any fun c => c.stage == 4
    let d := d.updRing r fun x => { x with
      state := 1, errReason := 0, errIndex := 0, captured := [], fetching := none, pendDb := [], chains := x.chains.filter fun c => c.stage != 4,
      nextFetch := if again then x.head else (x.head + (x.chains.map TxChain.count).sum) % 65536 }
    let d := (d.pubWaits r 0).publish r
    (d.each (if x.kind = 3 then x.pendDb else x.pendDb.drop (x.pendDb.length - 1)) fun d v => d.doorbellApply fn r v).ringResult p 0

/-- RING_RESTART. -/
def execRingRestart (src : Src) (pf : Fin 4) (s : State) : Host.Outcome State Fault Refusal :=
  finW s src (RGM_RING_CMD pf.val).addr (s.toDev.ringCmd src pf.val fun d fn r => d.ringRestart pf.val fn r)

/-- RING_STOPPED (R381): a STOPPING ring with no fetched entry in progress becomes DISABLED and posts STOPPED; its frames are dropped (10 R279). -/
def Dev.ringStopped (d : Dev) (r : Nat) : Dev :=
  let x := d.ringAt r
  if x.state = 4 && x.fetching.isNone && (x.chains.all fun c => c.stage == 3 || c.stage == 4) then
    let d := d.updRing r fun x => { x with state := 0, chains := [] }
    ((d.pubWaits r 3).publish r).ringDropFrames r 13
  else d

/-- RING_STOPPED. -/
def execRingStopped (ring : Fin 131072) (s : State) : Host.Outcome State Fault Refusal := fin s (s.toDev.ringStopped ring.val)

/-! Fetching and capture (R391, R397, R399). -/

/-- DESCRIPTOR_FETCH (R391): the entries from the next one to PROD, up to the ring's end, are read. No ring is fetched before the first image (03 R65). -/
def Dev.ringFetch (d : Dev) (r : Nat) : Dev :=
  let x := d.ringAt r
  match d.ringOwner r with
  | none => d
  | some f =>
    let n := min (idxSub x.prod x.nextFetch) (x.size - x.nextFetch % x.size)
    if x.state != 1 || x.kind == 3 || x.fetching.isSome || n = 0 || d.flag IMG_STATUS IMG_STATUS_NO_IMAGE || !d.fnCan f then d
    else
      let go (d : Dev) : Dev := d.updRing r fun x => { x with fetching := some (x.nextFetch, n), nextFetch := (x.nextFetch + n) % 65536 }
      if x.coherent then (if d.canCache f then go (d.captureWaiting f r) else d)
      else match d.fnRead f (descUnit r) x.roDefault (x.slot x.nextFetch) (32 * n) with
        | some d => go d
        | none => d

/-- DESCRIPTOR_FETCH. -/
def execDescriptorFetch (ring : Fin 131072) (s : State) : Host.Outcome State Fault Refusal := fin s (s.toDev.ringFetch ring.val)

/-- Whether a TX descriptor's reserved fields are 0 (R388). -/
def txReservedOk (b : List Byte) : Bool := leAt b 0x0A 2 / 8 == 0 && leAt b 0x0C 4 == 0 && leAt b 0x11 7 == 0

/-- Whether a posted RX or EXC descriptor's reserved bytes are 0 (R389). -/
def rxReservedOk (b : List Byte) : Bool := (b.drop 8).all (· == 0)

/-- The first chain among captured entries (R388, R397): `none` while its last entry is not there; the reason of R397, or its descriptors and the entries after it. -/
def takeChain (acc : List (Nat × List Byte)) : List (Nat × List Byte) → Option (Nat ⊕ (List (Nat × List Byte) × List (Nat × List Byte)))
  | [] => none
  | e :: rest =>
    if !txReservedOk e.2 then some (.inl 2)
    else if leAt e.2 8 2 = 0 then some (.inl 3)
    else if 16 ≤ acc.length then some (.inl 4)
    else if leAt e.2 0x0A 2 % 2 = 1 then takeChain (acc ++ [e]) rest
    else
      let c := acc ++ [e]
      let total := (c.map fun x => leAt x.2 8 2).sum
      if total < 14 || 16384 < total then some (.inl 3) else some (.inr (c, rest))

/-- The data reads of ring `r`'s captured chains are issued in order, as far as tags and the link allow: behind one that must wait the others wait (R391; 01 R27; 13 R366, R367). -/
def Dev.issueData (d : Dev) (f r : Nat) : Dev :=
  ((d.ringAt r).chains.foldl (fun (a : Dev × Bool) c =>
    let d := a.1
    if c.stage != 0 || a.2 then a
    else
      let try? := (List.range c.bufs.length).foldl (fun (o : Option Dev) k => o.bind fun d =>
        let b := c.bufs.getD k (0, 0)
        d.fnRead f (dataUnit c.id k) c.ro b.1 b.2) (some d)
      match try? with
      | some d => (d.updRing r fun x => { x with chains := x.chains.map fun y => if y.id = c.id then { y with stage := 1, facts := d.facts (d.ringSlice (d.slotFor c.fetched) r) } else y }, false)
      | none => (d, true)) (d, false)).1

/-- A new chain takes its place in index order from HEAD; entries already done are not processed again (R381). -/
def insertChain (head : Nat) (c : TxChain) : List TxChain → List TxChain
  | [] => [c]
  | y :: t => if y.first = c.first then y :: t else if idxSub c.first head < idxSub y.first head then c :: y :: t else y :: insertChain head c t

/-- The captured TX entries become chains, one after another, until one is incomplete or malformed (R397). The time at which a chain forms is the one at which
its descriptors count as fetched (03 R64; log entry 141). -/
def Dev.formChains (d : Dev) (r : Nat) : Nat → Dev
  | 0 => d
  | fuel + 1 =>
    match takeChain [] (d.ringAt r).captured with
    | none => d
    | some (.inl reason) => d.ringError r reason (((d.ringAt r).captured.head?.map Prod.fst).getD 0)
    | some (.inr (c, rest)) =>
      let last := (c.getLast?.map Prod.snd).getD []
      let ch : TxChain := ⟨d.nextChain, (c.head?.map Prod.fst).getD 0, c.length, c.map fun e => (leAt e.2 0 8, leAt e.2 8 2),
        (leAt last 0x0A 2).testBit 1, (leAt last 0x0A 2).testBit 2, d.now, Facts.reset, 0, none⟩
      Dev.formChains ((d.setNextChain (d.nextChain + 1)).updRing r fun x => { x with captured := rest, chains := insertChain x.head ch x.chains }) r fuel

/-- DESCRIPTOR_ARRIVAL (R397, R399): the fetched entries are captured and checked. -/
def Dev.ringArrival (d : Dev) (r : Nat) (lines : List Byte) : Dev :=
  let x := d.ringAt r
  match x.fetching, d.ringOwner r with
  | some (i, n), some f =>
    match (if x.coherent then some (some lines) else d.arrived.look (descUnit r)) with
    | none => d
    | some data =>
      let d := (d.setArrived (d.arrived.del (descUnit r))).updRing r fun x => { x with fetching := none }
      if x.state != 1 then d
      else match data with
        | none => d.ringError r 5 ((x.captured.head?.map Prod.fst).getD i)
        | some b =>
          let es := (List.range n).map fun k => ((i + k) % 65536, bytesAt b (32 * k) 32)
          let d := d.count (rgmCnt 0) n
          if x.kind = 1 then ((d.updRing r fun x => { x with captured := x.captured ++ es }).formChains r (x.captured.length + n + 1)).issueData f r
          else match es.find? fun e => !rxReservedOk e.2 with
            | some e => d.ringError r 2 e.1
            | none => d.updRing r fun x => { x with captured := x.captured ++ es }
  | _, _ => d

/-- DESCRIPTOR_ARRIVAL. -/
def execDescriptorArrival (ring : Fin 131072) (lines : List Byte) (s : State) : Host.Outcome State Fault Refusal :=
  fin s (s.toDev.ringArrival ring.val lines)

/-- SNOOP (R399): the mark of every held line at `addr` of the link's rings is cleared. -/
def execSnoop (pf : Fin 4) (addr : Nat) (s : State) : Host.Outcome State Fault Refusal :=
  fin s (s.toDev.setRing (s.ring.mapVals fun r x =>
    if s.flag (HIF_LINK_STATUS pf.val) HIF_LINK_STATUS_CXL_CM && ((s.toDev.ringOwner r).map s.toDev.fnPf) == some pf.val then
      { x with held := x.held.map fun h => if h.addr = addr / 64 * 64 then { h with marked := false } else h } else x))

/-- The new frame of a chain (01 R26; 05 R113): its stamp the fetch time, its TF the ring's. -/
def hostFrame (d : Dev) (f r : Nat) (c : TxChain) (data : List Byte) : Frame :=
  let e := d.slotFor c.fetched
  let root := (((d.bodies e (d.ringSlice e r)).parse).map ParseBody.hostRoot).getD 0
  ⟨data, d.ringSlice e r, .ring r c.id, c.fetched * 2 ^ 16, e, 1, if f < 4096 then f else 0xFFFF, c.facts, 0, c.ts, List.replicate 8 0, ParseMeta.none, [], [], none, .stored root⟩

/-- TX_DATA_READ_DONE (R391, R393): the data of the oldest chain not yet read has arrived; its frame goes to the bound slice, or a read error drops it. Where its reads have not been issued,
they are asked for again. -/
def Dev.txDataDone (d : Dev) (r : Nat) : Dev :=
  match d.ringOwner r, (d.ringAt r).chains.find? fun c => decide (c.stage ≤ 1) with
  | some f, some c =>
    if c.stage = 0 then d.issueData f r else
    let parts := (List.range c.bufs.length).map fun k => d.arrived.look (dataUnit c.id k)
    if parts.any Option.isNone then d else
    let bad := parts.any fun p => p == some none
    let data := parts.flatMap fun p => (p.getD none).getD []
    let put (st : Nat) (d : Dev) : Dev :=
      (d.updRing r fun x => { x with chains := x.chains.map fun y => if y.id = c.id then { y with stage := st } else y })
    let clear (d : Dev) : Dev := d.each (List.range c.bufs.length) fun d k => d.setArrived (d.arrived.del (dataUnit c.id k))
    if bad then
      let d := (clear d).count (rgmCnt 3)
      if c.ts then (put 2 d).txWriteback r c.id 2 0 else (put 3 d).headMoves r
    else if !d.sliceOn (d.ringSlice (d.slotFor c.fetched) r) then d
    else
      let d := ((clear d).count (rgmCnt 1)).newFrame (hostFrame d f r c data)
      let d := if c.ts then put 2 d else (put 3 d).headMoves r
      d.issueData f r
  | _, _ => d

/-- TX_DATA_READ_DONE. -/
def execTxDataReadDone (ring : Fin 131072) (s : State) : Host.Outcome State Fault Refusal := fin s (s.toDev.txDataDone ring.val)

/-! Delivery (R389, R390). -/

/-- The write-back of slot `k` of a delivery of `n` slots (R389). -/
def rxSlotBytes (x : Deliv) (bytes k n buf total : Nat) : List Byte :=
  leBytes 2 (min buf (bytes - k * buf)) ++ leBytes 2 (b2n (k == 0) + 2 * b2n (k + 1 == n) + 4 * b2n x.frame.isNone) ++
    leBytes 2 (if k = 0 then total else 0) ++ leBytes 2 x.port ++ leBytes 8 x.stamp ++ leBytes 4 x.hash ++ leBytes 4 x.u0 ++ leBytes 4 x.u1 ++ [0, 0, 0, 0]

/-- What is delivered: an exception's own bytes with its DROPPED_BEFORE, or the frame as it stands. -/
def Dev.delivBytes (d : Dev) (x : Deliv) : List Byte :=
  match x.frame with
  | some id => ((d.frame? id).map Frame.data).getD []
  | none => setBytes x.bytes 0x18 (leBytes 4 x.before)

/-- RX_DELIVERY (R389 to R391): the oldest waiting delivery fills its slots, when enough are posted. -/
def Dev.rxDelivery (d : Dev) (r : Nat) : Dev :=
  let x := d.ringAt r
  match x.rxq with
  | [] => d
  | q :: rest =>
    let pop (d : Dev) : Dev := d.updRing r fun x => { x with rxq := rest }
    match d.ringOwner r with
    | none => match q.frame with
      | some id => ((pop d).dropAt id (rgmCnt 4))
      | none => (d.updRing r fun x => { x with rxq := (dropsOn rest q.slice q.before).1 }).count (prsCnt q.slice 8) |>.dropsBack q.slice (dropsOn rest q.slice q.before).2
    | some f =>
      let owned := q.frame.isNone || d.ringFits r q.tf
      if !owned then match q.frame with
        | some id => (pop d).dropAt id (rgmCnt 4)
        | none => pop d
      else
        let b := d.delivBytes q
        let n := x.slotsFor b.length
        if x.state != 1 || x.captured.length < n || !d.fnCan f then d
        else
          let slots := x.captured.take n
          let d := d.each (List.range n) fun d k =>
            let e := slots.getD k (0, [])
            (d.fnWrite f x.roDefault (leAt e.2 0 8) ((b.drop (k * x.bufBytes)).take x.bufBytes)).slotWrite f r e.1 0 x.roDefault
              (rxSlotBytes q b.length k n x.bufBytes b.length)
          let d := (pop d).updRing r fun x => { x with captured := x.captured.drop n, head := (x.head + n) % 65536 }
          let d := (d.pubWaits r 1).count (rgmCnt 2)
          match q.frame with
          | some id => d.frameDelivered id
          | none => d.count (prsCnt q.slice 6)

/-- RX_DELIVERY. -/
def execRxDelivery (ring : Fin 131072) (s : State) : Host.Outcome State Fault Refusal := fin s (s.toDev.rxDelivery ring.val)

/-- HEAD_PUBLISH (R392): write-backs that wait are issued first, so that HEAD may pass their entries. -/
def execHeadPublish (ring : Fin 131072) (s : State) : Host.Outcome State Fault Refusal := fin s ((s.toDev.wbRetry ring.val).publish ring.val)

/-- MODERATION_TIMEOUT (R396). -/
def execModerationTimeout (ring : Fin 131072) (s : State) : Host.Outcome State Fault Refusal :=
  fin s (match s.ringOwner ring.val with
    | some f => if s.fnCan f then s.toDev.evModerate f ring.val else s.toDev
    | none => s.toDev)

end Sys2Proof.Machine
end

