-- ==== Sys2Proof/Machine/Links.lean ====
section
/-! DEFINITION. Host links (13 R339 to R375): training, completions, timeouts and quarantine, bus master disable, freeze and release. -/
namespace Sys2Proof.Machine

/-- Fields of HIF_LINK_STATUS of PF `n`. -/
def Dev.ls (d : Dev) (n : Nat) (f : Fld) : Nat := d.fld (HIF_LINK_STATUS n) f
def Dev.setLs (d : Dev) (n : Nat) (f : Fld) (x : Nat) : Dev := d.setF (HIF_LINK_STATUS n) f x

/-- Whether the unit named `u` still awaits its read. -/
def Dev.unitWants (d : Dev) (u : Nat) : Bool :=
  if u < 2 ^ 40 then (d.ringAt u).fetching.isSome
  else if u < 2 * 2 ^ 40 then d.ring.any fun kr => kr.2.chains.any fun c => c.id == (u - 2 ^ 40) / 16 && c.stage == 1
  else if u < 3 * 2 ^ 40 then (d.skim.look (u - 2 * 2 ^ 40)).isSome
  else if u < 4 * 2 ^ 40 then (d.treeLoad.look (u - 3 * 2 ^ 40)).isSome
  else if u < 5 * 2 ^ 40 then (d.dmaCh.look ((u - 4 * 2 ^ 40) / 64)).any fun c => c.want.contains ((u - 4 * 2 ^ 40) % 64)
  else false

/-- The read that unit `u` awaits ends: with its data, or with an error (R363). -/
def Dev.readEnds (d : Dev) (u : Nat) (res : Option (List Byte)) : Dev :=
  if d.unitWants u then d.setArrived (d.arrived.put u res) else d

/-- The outstanding reads of PF `n` and QUIESCED after a read has ended (R367): it sets when no read from before the clearing of Bus Master Enable remains. -/
def Dev.readsChanged (d : Dev) (n : Nat) : Dev :=
  let d := d.outstanding n
  if d.ls n HIF_LINK_STATUS_QUIESCED == 0 && !((d.pf n).reads.any fun r => r.2.dropped) then
    (d.setLs n HIF_LINK_STATUS_QUIESCED 1).setBitF HIF_EVENT HIF_EVENT_QUIESCED n true
  else d

/-- Tag `t` of PF `n` is free again. -/
def Dev.freeRead (d : Dev) (n t : Nat) : Dev := (d.updPf n fun p => { p with reads := p.reads.del t }).readsChanged n

/-- Tag `t` of PF `n`, whose read lacks `missing` bytes, is quarantined until the check at `stop` (R364). -/
def Dev.quarantine (d : Dev) (n t missing stop : Nat) : Dev :=
  (d.updPf n fun p => { p with reads := p.reads.del t, quar := p.quar.put t ⟨missing, stop⟩ }).readsChanged n

/-- The first check at or after the present (R362). -/
def Dev.nextCheck (d : Dev) : Nat := (d.now + 999) / 1000 * 1000

/-- The rings of PF `n` and of the TFs assigned to it. -/
def Dev.ringsOfPf (d : Dev) (n : Nat) : List Nat :=
  (d.ring.filter fun kr => (d.ringOwner kr.1).any fun f => d.fnPf f == n).map Prod.fst

/-- The unit that reads a tree bank, and the unit that reads a shadow, of slice `s` (06 R135, R161). -/
def treeUnit (s : Nat) : Nat := 3 * 2 ^ 40 + s
def skimUnit (s : Nat) : Nat := 2 * 2 ^ 40 + s

/-- The fields of CLS_SKIM_CFG. -/
def Dev.skimF (d : Dev) (s : Nat) (f : Fld) : Nat := d.fld (CLS_SKIM_CFG s) f

/-- A skim pass of slice `s` ends in state `st` (2 DONE, 3 ABORTED, 4 FAULT) (06 R161, R162). -/
def Dev.skimEnds (d : Dev) (s st : Nat) : Dev :=
  ((((d.orphanReads (skimUnit s)).setSkim (d.skim.del s)).setArrived (d.arrived.del (skimUnit s))).setF (CLS_SKIM_STATUS s) CLS_SKIM_STATUS_STATE st).setF
    (CLS_STATUS s) CLS_STATUS_SKIM_DONE 1

/-- The skim passes over PF `n`'s port end in FAULT (06 R162). -/
def Dev.skimsFault (d : Dev) (n : Nat) : Dev :=
  d.each ((d.skim.map Prod.fst).filter fun s => d.skimF s CLS_SKIM_CFG_PF == n) fun d s => d.skimEnds s 4

/-! Records posted to rings in host memory (06 R157 to R159; 16 R451). -/

/-- The address of MTR counter `c` (16 R453). -/
def mtrCnt (c : Nat) : Nat := 0x00704000 + c * 8

/-- A ring of records: its base, configuration, consumer and producer registers, the bytes of a record, and the counter of those that are lost. -/
structure RecRing where
  base : Reg
  cfg : Reg
  cons : Reg
  prod : Reg
  size : Nat
  lost : Nat

/-- The ring that a record goes to: its slice's learn events (06 R157) or flow records (16 R451). -/
def RecPost.ring (x : RecPost) : RecRing :=
  let s := x.slice
  if x.flow then ⟨MTR_FR_BASE s, MTR_FR_CFG s, MTR_FR_CONS s, MTR_FR_PROD s, 32, mtrCnt (4 + s)⟩
  else ⟨CLS_LRN_RING_BASE s, CLS_LRN_RING_CFG s, CLS_LRN_CONS s, CLS_LRN_PROD s, 64, clsCnt s 18⟩

/-- The function a record is written for. -/
def Dev.recFn (d : Dev) (x : RecPost) : Nat := 4096 + bitsOf (d.rd x.ring.cfg).toNat 8 2

/-- The records that wait for the ring of `x`. -/
def Dev.recsFor (d : Dev) (x : RecPost) : Nat := (d.recWait.filter fun y => y.slice == x.slice && y.flow == x.flow).length

/-- A record is posted: written to its slot, then the producer index published, to host memory and to its register. It waits while Bus Master Enable is 0 (13 R367); where its ring is disabled or
full or its link may not issue, it is lost and counted (06 R159). -/
def Dev.postRecord (d : Dev) (x : RecPost) : Dev :=
  let g := x.ring
  let c := (d.rd g.cfg).toNat
  let n := 2 ^ (c % 16)
  let f := d.recFn x
  let p := (d.rd g.prod).toNat
  if !c.testBit 31 || n ≤ idxSub p (d.rd g.cons).toNat + d.recsFor x then d.count g.lost
  else if d.fnHeld f then d.setRecWait (d.recWait ++ [x])
  else if !d.fnCan f then d.count g.lost
  else
    let a := (d.rd g.base).toNat
    let q := (p + 1) % 65536
    ((d.fnWrite f false (a + g.size * (p % n)) x.data).fnWrite f false (a + g.size * n) (leBytes 8 q)).wr g.prod (BitVec.ofNat 64 q)

/-- The records that need wait no longer are posted, in order. -/
def Dev.recsIssue (d : Dev) : Dev :=
  (d.setRecWait (d.recWait.filter fun x => d.fnHeld (d.recFn x))).each (d.recWait.filter fun x => !d.fnHeld (d.recFn x)) Dev.postRecord

/-- The records that wait for PF `n` are lost (R370; 14 R402); `c` counts them as requests not transmitted. -/
def Dev.recsLost (d : Dev) (n : Nat) (c : Option Nat) : Dev :=
  let mine := d.recWait.filter fun x => d.recFn x == 4096 + n
  (d.setRecWait (d.recWait.filter fun x => d.recFn x != 4096 + n)).each mine fun d x =>
    let d := d.count x.ring.lost
    match c with
    | some i => d.count i
    | none => d

/-- An error is logged in PF `n`'s Advanced Error Reporting: bit `i` of its uncorrectable status, or, as an advisory one, its correctable status as well (R345, R363, R365, R369). -/
def Dev.aerLog (d : Dev) (n i : Nat) (advisory : Bool) (what : String) : Dev :=
  (d.updPf n fun p => { p with aerUncorr := setBit p.aerUncorr i true, aerCorr := if advisory then setBit p.aerCorr 13 true else p.aerCorr }).emit (.aer n what)

/-- A poisoned write from the host is discarded and reported in AER, wherever it goes; a frozen link discards it as it does every write (13 R369, R371). None comes from Ulyar. -/
def State.poisonedWrite (s : State) (src : Src) : Host.Outcome State Fault Refusal :=
  match src with
  | .pf n _ => if s.srcFrozen src then finA s (s.inboundDiscard src) else finK s (s.aerLog n.val 12 false "Poisoned TLP Received")
  | .ulyar => fin s s.toDev

/-- A trigger with cause `c` on PF `n`'s link (R369, R370, R373): a link already frozen only counts it; else outstanding reads end with an error and their tags are quarantined, and rings
stop in FROZEN, skim passes in FAULT (06 R162). -/
def Dev.freeze (d : Dev) (n c : Nat) : Dev :=
  if d.frozen n then d.satAdd (HIF_FREEZE_LOG n) HIF_FREEZE_LOG_TRIGGERS 1
  else
    let d := (((d.setLs n HIF_LINK_STATUS_FROZEN 1).setLs n HIF_LINK_STATUS_CAUSE c).count (hifCnt n 6)).setBitF HIF_EVENT HIF_EVENT_FROZE n true
    let d := if d.flag (HIF_FREEZE_LOG n) HIF_FREEZE_LOG_VALID then d
      else ((d.setF (HIF_FREEZE_LOG n) HIF_FREEZE_LOG_VALID 1).setF (HIF_FREEZE_LOG n) HIF_FREEZE_LOG_LAST_CAUSE c).wr
        (HIF_FREEZE_TIME n) (BitVec.ofNat 64 d.now)
    let d := d.each (d.pf n).reads fun d tr =>
      (d.onlyIf (!tr.2.dropped) fun d => d.readEnds tr.2.unit none).quarantine n tr.1 (tr.2.len - tr.2.got.length)
        (d.nextCheck + 2 * tr.2.cto * 1000)
    ((d.each (d.ringsOfPf n) fun d r => d.ringFreeze n r).skimsFault n).recsLost n (some (hifCnt n 5))

/-- LINK_ERROR (R369). -/
def execLinkError (pf : Fin 4) (s : State) : Host.Outcome State Fault Refusal :=
  finK s (if s.pfPresent pf.val then s.toDev.freeze pf.val 1 else s.toDev)

/-- VIRAL (R369): in CXL mode. -/
def execViral (pf : Fin 4) (s : State) : Host.Outcome State Fault Refusal :=
  finK s (if s.pfPresent pf.val && s.ls pf.val HIF_LINK_STATUS_MODE == 1 then s.toDev.freeze pf.val 6 else s.toDev)

/-- FREEZE_NOW (R369); the registers of an absent PF discard writes. -/
def execFreezeNow (src : Src) (pf : Fin 4) (s : State) : Host.Outcome State Fault Refusal :=
  finW s src (HIF_LINK_CTL pf.val).addr (if s.pfPresent pf.val then s.toDev.freeze pf.val 5 else s.toDev)

/-- A write of GO to HIF_RELEASE (R372): refused while the data link is down; a link that is not frozen has nothing to release. -/
def Dev.release (d : Dev) (n : Nat) : Dev :=
  if !d.pfPresent n then d
  else if d.ls n HIF_LINK_STATUS_LINK_UP = 0 then d.setF (HIF_FREEZE_LOG n) HIF_FREEZE_LOG_REFUSED 1
  else if !d.frozen n then d
  else (d.setLs n HIF_LINK_STATUS_FROZEN 0).setLs n HIF_LINK_STATUS_CAUSE 0

/-- HIF_RELEASE (R371, R372): over the frozen link itself only its own PF's register is written. -/
def execHifRelease (src : Src) (pf : Fin 4) (s : State) : Host.Outcome State Fault Refusal :=
  match src with
  | .pf n _ => if n = pf ∧ s.pwrMode ≠ .warm then finK s (s.toDev.release pf.val) else finW s src (HIF_RELEASE pf.val).addr (s.toDev.release pf.val)
  | .ulyar => finW s src (HIF_RELEASE pf.val).addr (s.toDev.release pf.val)

/-- Bus Master Enable of PF `n` becomes 0 (R367): each outstanding read ends with an error for its unit. -/
def Dev.bmeClear (d : Dev) (n : Nat) : Dev :=
  if !d.bme n then d
  else
    let reads := (d.pf n).reads
    let d := d.each reads fun d tr => d.onlyIf (!tr.2.dropped) fun d => d.readEnds tr.2.unit none
    let d := (d.updPf n fun p => { p with reads := p.reads.mapVals fun _ r => { r with dropped := true } }).setLs n HIF_LINK_STATUS_BME 0
    if reads.isEmpty then d else d.setLs n HIF_LINK_STATUS_QUIESCED 0

/-- BME_CLEAR (R367). -/
def execBmeClear (pf : Fin 4) (s : State) : Host.Outcome State Fault Refusal := finK s (s.toDev.bmeClear pf.val)

/-- Bus Master Enable of PF `n` becomes 1 (R368): what waits is issued. -/
def Dev.bmeSet (d : Dev) (n : Nat) : Dev := (d.setLs n HIF_LINK_STATUS_BME 1).recsIssue

/-- BME_SET (R368). -/
def execBmeSet (pf : Fin 4) (s : State) : Host.Outcome State Fault Refusal :=
  finK s (if s.pfPresent pf.val then s.toDev.bmeSet pf.val else s.toDev)

/-! Training (R340, R373, R538). -/

/-- Whether the rate code is one of the link's mode (R340). -/
def rateOk (cxl : Bool) (speed : Nat) : Bool := if cxl then decide (3 ≤ speed) && decide (speed ≤ 6) else decide (1 ≤ speed) && decide (speed ≤ 7)

/-- A link trains (R340, R538). -/
def Dev.linkUp (d : Dev) (n speed width : Nat) (flit : Bool) : Dev :=
  let cxl := d.ls n HIF_LINK_STATUS_MODE == 1
  let half := d.ls n HIF_LINK_STATUS_BIFURCATED == 1
  if !(d.pfPresent n && (d.runs || d.pwrMode == .warm) && rateOk cxl speed && [1, 2, 4, 8, 16].contains width && !(half && width == 16)) then d
  else
    let fm := if cxl then speed == 6 else decide (6 ≤ speed) || flit
    let d := ((d.setLs n HIF_LINK_STATUS_LINK_UP 1).setLs n HIF_LINK_STATUS_SPEED speed).setLs n HIF_LINK_STATUS_WIDTH width
    ((d.setLs n HIF_LINK_STATUS_FLIT (b2n fm)).setLs n HIF_LINK_STATUS_CXL_CM (b2n (cxl && decide (5 ≤ speed)))).setBitF HIF_EVENT HIF_EVENT_LINK_UP n true

/-- LINK_UP. -/
def execLinkUp (pf : Fin 4) (speed : Fin 8) (width : Fin 17) (flit : Bool) (s : State) : Host.Outcome State Fault Refusal :=
  finK s (s.toDev.linkUp pf.val speed.val width.val flit)

/-- The configuration space of PF `n` returns to its reset values (R373; 19 R499). -/
def Dev.cfgReset (d : Dev) (n : Nat) : Dev :=
  (d.bmeClear n).updPf n fun p => { PfLink.reset with ready := p.ready, reads := p.reads, quar := p.quar, msix := p.msix, pba := p.pba }

/-- The link is down: no rate, no width, no tag in use. -/
def Dev.linkLost (d : Dev) (n : Nat) : Dev :=
  let d := (((d.setLs n HIF_LINK_STATUS_LINK_UP 0).setLs n HIF_LINK_STATUS_SPEED 0).setLs n HIF_LINK_STATUS_WIDTH 0).setLs n HIF_LINK_STATUS_FLIT 0
  ((d.setLs n HIF_LINK_STATUS_CXL_CM 0).updPf n fun p => { p with reads := [], quar := [] }).readsChanged n

/-- LINK_DOWN (R369, R373). -/
def execLinkDown (pf : Fin 4) (s : State) : Host.Outcome State Fault Refusal :=
  finK s (if s.pfPresent pf.val && s.ls pf.val HIF_LINK_STATUS_LINK_UP == 1 then ((s.toDev.freeze pf.val 3).cfgReset pf.val).linkLost pf.val else s.toDev)

/-! Completions and timeouts (R362 to R367). -/

/-- A completion that matches an outstanding read. -/
def Dev.completes (d : Dev) (n t : Nat) (r : HostRd) (data : List Byte) (error poisoned : Bool) : Dev :=
  let d := d.onlyIf r.dropped fun d => d.count (hifCnt n 3)
  let tell (d : Dev) (x : Option (List Byte)) : Dev := if r.dropped then d else d.readEnds r.unit x
  if poisoned then (tell (d.freeRead n t) none).freeze n 2
  else if error then (tell (d.freeRead n t) none).count (hifCnt n 8)
  else
    let got := r.got ++ data
    if r.len ≤ got.length then tell (d.freeRead n t) (some (got.take r.len))
    else d.updPf n fun p => { p with reads := p.reads.put t { r with got := got } }

/-- COMPLETION_RECEIVED (R364 to R367). -/
def Dev.completion (d : Dev) (n t : Nat) (data : List Byte) (error poisoned : Bool) : Dev :=
  match (d.pf n).reads.look t, (d.pf n).quar.look t with
  | some r, _ => d.completes n t r data error poisoned
  | none, some q =>
    let d := d.count (hifCnt n 1)
    if q.missing ≤ data.length then (d.updPf n fun p => { p with quar := p.quar.del t }).readsChanged n
    else d.updPf n fun p => { p with quar := p.quar.put t { q with missing := q.missing - data.length } }
  | none, none => (d.count (hifCnt n 2)).aerLog n 16 true "Unexpected Completion"

/-- COMPLETION_RECEIVED. -/
def execCompletionReceived (pf : Fin 4) (tag : Nat) (data : List Byte) (error poisoned : Bool) (s : State) : Host.Outcome State Fault Refusal :=
  finK s (s.toDev.completion pf.val tag data error poisoned)

/-- The check of PF `n`'s reads at the check time `t` (R362, R363). -/
def Dev.ctoCheck (d : Dev) (n t : Nat) : Dev :=
  let d := (d.updPf n fun p => { p with quar := p.quar.filter fun q => !decide (q.2.stop ≤ t) }).readsChanged n
  let late := (d.pf n).reads.filter fun r => decide (r.2.issued + r.2.cto * 1000 ≤ t)
  let d := d.each late fun d tr =>
    (((d.onlyIf (!tr.2.dropped) fun d => d.readEnds tr.2.unit none).quarantine n tr.1 (tr.2.len - tr.2.got.length) (t + 2 * tr.2.cto * 1000)).count
      (hifCnt n 0)).aerLog n 14 false "Completion Timeout"
  if !late.isEmpty && d.flag (HIF_LINK_CTL n) HIF_LINK_CTL_CTO_FREEZE then d.freeze n 4 else d

/-- CTO_CHECK (R362): the check at the multiple of 1,000 ns last reached, on every link. -/
def execCtoCheck (s : State) : Host.Outcome State Fault Refusal :=
  finK s (s.toDev.each [0, 1, 2, 3] fun d n => d.ctoCheck n (d.now / 1000 * 1000))

end Sys2Proof.Machine
end

