-- ==== Sys2Proof/Machine/Meter.lean ====
section
/-! DEFINITION. Metering counts (16 R440 to R443, R450 to R452): where an event is counted, sketches, flow records. -/
namespace Sys2Proof.Machine

/-- `e` with counter `i` of TF `tf` raised by `n`. -/
def MtrEpoch.add (e : MtrEpoch) (tf i n : Nat) : MtrEpoch :=
  { e with cnt := e.cnt.upd tf TfCnt.zero fun x => { x with c := setNth x.c i (x.c.getD i 0 + n) } }

/-- `e` with LATE_FRAMES of TF `tf` raised by 1. -/
def MtrEpoch.addLate (e : MtrEpoch) (tf : Nat) : MtrEpoch := { e with cnt := e.cnt.upd tf TfCnt.zero fun x => { x with late := x.late + 1 } }

/-- An event counted by network time (R440): counter `i` of TF `tf` in the open epoch; nothing for no TF. -/
def Dev.meterAdd (d : Dev) (tf i n : Nat) : Dev := if 4096 ≤ tf then d else d.setMtrOpen (d.mtrOpen.add tf i n)

/-- The granules that are TENANT and not being zeroed, with their TFs (15 R420, R425). -/
def Dev.tenantGranules (d : Dev) : List (Nat × Nat) :=
  d.regs.filterMap fun kv =>
    let g := (kv.1 - 0x00508000) / 4
    if 0x00508000 ≤ kv.1 && decide (g < granules) && d.granClass g == 1 && !d.granPending g then some (g, d.fld (MEM_GRANULE g) MEM_GRANULE_TF) else none

/-- CXL_GRANULE_NS is brought up to network time `t` (ns): each TENANT granule counts 1 per ns (R440; 15 R425). -/
def Dev.cxlSync (d : Dev) (t : Nat) : Dev :=
  if Int.ofNat t ≤ d.mtrCxlAt then d
  else (d.each d.tenantGranules fun d gt => d.meterAdd gt.2 8 (Int.ofNat t - d.mtrCxlAt).toNat).setMtrCxlAt (Int.ofNat t)

/-- Where a frame stamped at `t` ns is counted (R440, R443; 02 R57): in the epoch in its grace, late in the open epoch, or in the open epoch. -/
inductive MtrPlace where
  | old
  | late
  | open_
  deriving DecidableEq, Repr

/-- The place of a frame stamped at `t` ns; after a backward step an earlier stamp counts in the open epoch (02 R57). -/
def Dev.mtrPlace (d : Dev) (t : Nat) : MtrPlace :=
  if d.mtrOpen.start ≤ t || d.mtrOpen.stepped then .open_
  else match d.mtrOld with
    | some o => if o.start ≤ t then .old else .late
    | none => .late

/-- The sketch key of a frame (R442); a field whose header is missing is left open, so free. -/
def Dev.sketchKey (d : Dev) (f : Frame) (b : MtrBody) : List Byte × Dev :=
  let r := b.fields.foldl (fun (a : List (Nat × Nat) × Dev) k =>
    match f.fieldVal k with
    | some v => (a.1 ++ [(v, k.width)], a.2)
    | none => let (v, d) := a.2.fresh; (a.1 ++ [(v, k.width)], d)) ([], d)
  (toKey (joinBits r.1) b.keyBytes, r.2)

/-- The column of sketch row `r` for a key. -/
def Dev.sketchCol (d : Dev) (r : Nat) (key : List Byte) : Nat :=
  Config.sketchHash (d.bootCount) r key % 65536

/-- The sketch of slice `s`. -/
def Dev.sketchAt (d : Dev) (s : Nat) : Sketch := d.sketch.lookD s ⟨[], 0, [], 0⟩

/-- The open bank of slice `s` adds `n` for `key` (R450). -/
def Dev.sketchAdd (d : Dev) (s : Nat) (key : List Byte) (n : Nat) : Dev :=
  let x := d.sketchAt s
  let cur := (List.range 4).foldl (fun (t : Tab Nat) r => t.upd (r * 65536 + d.sketchCol r key) 0 fun v => (v + n) % 2 ^ 64) x.cur
  d.setSketch (d.sketch.put s { x with cur := cur, curN := (x.curN + n) % 2 ^ 64 })

/-- The flow record of a frame (R451, R452). -/
def flowRecord (f : Frame) (seq dfn lg : Nat) (key : List Byte) : List Byte :=
  leBytes 4 seq ++ leBytes 2 f.tf ++ leBytes 2 f.port ++ leBytes 8 ((f.stamp + 2 ^ 17) / 2 ^ 18) ++ leBytes 4 (crc32cFull key) ++ leBytes 2 f.len ++
    leBytes 1 dfn ++ leBytes 1 f.slice ++ leBytes 4 (2 ^ lg) ++ [0, 0, 0, 0]

/-- Telemetry of a frame under definition `i` of body `b`, of metered length `len` (R450, R451). -/
def Dev.telemetry (d : Dev) (f : Frame) (b : MtrBody) (i : Nat) (x : MtrDef) (len : Nat) : Dev :=
  if b.keyBytes = 0 || !(x.sketch || x.sample) then d else
  let s := f.slice
  let (key, d) := d.sketchKey f b
  let d := d.onlyIf (x.sketch && d.flag (MTR_SK_CFG s) MTR_SK_CFG_EN) fun d => d.sketchAdd s key (if d.flag (MTR_SK_CFG s) MTR_SK_CFG_UNIT then len else 1)
  if x.sample then
    let k := s * 256 + i
    let c := d.flowCnt.lookD k 0
    let d := d.setFlowCnt (d.flowCnt.put k (c + 1))
    if c % 2 ^ x.sampleLog = 0 then
      let q := (d.flowSeq.lookD s 0 + 1) % 2 ^ 32
      (d.setFlowSeq (d.flowSeq.put s q)).postRecord ⟨s, true, flowRecord f q i x.sampleLog key⟩
    else d
  else d

/-- A frame is counted at its counting point (R441): against its TF, under the definition of its last METER action. -/
def Dev.meterFrame (d : Dev) (f : Frame) : Dev :=
  if 4096 ≤ f.tf then d else
  let pl := d.mtrPlace f.stampNs
  let b := match pl, d.mtrOld with
    | .old, some o => o.body
    | _, _ => d.mtrOpen.body
  let i := f.meters.getLastD 0
  let i := if b.defs.length ≤ i then 0 else i
  match b.defs[i]? with
  | none => d
  | some x =>
    let len := (Int.ofNat f.len + x.adj).toNat
    let tx := x.dir == 2 || (x.dir == 0 && (match f.origin with | .ring _ _ => true | _ => false))
    let put (e : MtrEpoch) : MtrEpoch := (e.add f.tf (b2n tx) len).add f.tf (2 + b2n tx) 1
    let d := if x.exempt then d else
      match pl, d.mtrOld with
      | .old, some o => d.setMtrOld (some (put o))
      | .late, _ => (d.setMtrOpen ((put d.mtrOpen).addLate f.tf)).count (mtrCnt 2)
      | _, _ => d.setMtrOpen (put d.mtrOpen)
    d.telemetry f b i x len

/-- TF `tf` is assigned, or its assignment withdrawn, in the open epoch (R445). -/
def Dev.mtrAssigned (d : Dev) (tf : Nat) : Dev :=
  d.setMtrOpen { d.mtrOpen with assigned := if d.mtrOpen.assigned.contains tf then d.mtrOpen.assigned else d.mtrOpen.assigned ++ [tf] }
def Dev.mtrWithdrawn (d : Dev) (tf : Nat) : Dev :=
  d.setMtrOpen { d.mtrOpen with withdrawn := if d.mtrOpen.withdrawn.contains tf then d.mtrOpen.withdrawn else d.mtrOpen.withdrawn ++ [tf] }

/-- The device before a step of network time by `adj` (2^-32 ns) at the coming tick: granule time is counted up to now, and the time stepped over, or stepped back, counts for none; a backward
step marks the open epoch (02 R56, R57). -/
def Dev.mtrStep (d : Dev) (adj : Int) : Dev :=
  let d := d.cxlSync d.now
  let d := d.setMtrCxlAt ((Int.ofNat d.ntu.acc + adj) / 2 ^ 32)
  if adj < 0 then d.setMtrOpen { d.mtrOpen with stepped := true } else d

/-- The metering epoch end as a compare (02 R54, R56). -/
def Dev.epochDue (d : Dev) : Due := ⟨d.mtrOpen.stop, .epochStop, 0⟩

end Sys2Proof.Machine
end

