-- ==== Sys2Proof/Machine/DueNow.lean ====
section
/-! DEFINITION. Every compare against network time that is due at a tick (02 R54, R55), and the gate schedules after a backward step (R56). -/
namespace Sys2Proof.Machine

/-- Every armed compare whose deadline network time has reached, in firing order (02 R54, R55). -/
def Dev.dueNow (d : Dev) : List Due :=
  let gates := (List.range 16).filterMap d.gateDue
  let wheels := (List.range 6).flatMap fun s => [d.wheelDue s false, d.wheelDue s true].filterMap id
  let leases := d.keySlot.flatMap fun kx => kx.2.leases.map fun sl => (⟨sl.2.expiry, .lease, leaseId sl.1 kx.1⟩ : Due)
  let wakes := (d.thr.filter fun kx => d.wakeArmed kx.1).map fun kx => (⟨kx.2.wakeAt, .wake, kx.1⟩ : Due)
  Due.sort ((gates ++ wheels ++ leases ++ wakes ++ [d.epochDue]).filter fun x => decide (x.t ≤ d.now))

/-- Port `p`'s schedule after a backward step: the heat and its entries recur from the entry containing the new time; before the list's base every gate is open, and the list waits for its
base again, unless one that waits takes effect by then (R56; 10 R281). -/
def Dev.gateBack (d : Dev) (p : Nat) : Dev :=
  let x := d.gateSt p
  match x.cur with
  | none => d
  | some g =>
    let y := if d.now < g.base then { x with cur := none, next := if x.next.any fun z => decide (z.2 ≤ g.base) then x.next else (g, g.base) :: x.next } else { x with heat := (g.at d.now).1, entry := (g.at d.now).2 }
    ((d.setGate (d.gate.put p y)).gateShow p).tmRefresh (d.actingSlice p)

/-- The schedules of all ports after a backward step. -/
def Dev.gatesBack (d : Dev) : Dev := d.each (List.range 16) Dev.gateBack

end Sys2Proof.Machine
end

