-- ==== Sys2Proof/Machine/Rx.lean ====
section
/-! DEFINITION. Frames at the network ports and the exception path (01 R21; 04 R82 to R85, R97; 05 R115 to R119). -/
namespace Sys2Proof.Machine

/-- The Toeplitz hash of `bits` (most significant first) with `key`, whose first 32 bits align with bit 0 (07 R199). -/
def toeplitz (key : List Bool) : List Bool → Nat
  | [] => 0
  | b :: bs => Nat.xor (if b then (key.take 32).foldl (fun a k => 2 * a + b2n k) 0 else 0) (toeplitz (key.drop 1) bs)

/-- The bits of a byte string, most significant first. -/
def msbBits (bs : List Byte) : List Bool := bs.flatMap fun b => (List.range 8).map fun i => b.toNat.testBit (7 - i)

/-- A key's bits, filled with zeros to cover `n` bits of input. -/
def keyBits (key : List Byte) (n : Nat) : List Bool := msbBits key ++ List.replicate (n + 32) false

/-- The spreading hash h of a frame's first bytes (01 R21): bits at or beyond byte 64 or the frame's end read 0. -/
def spreadHash (sp : Spread) (first : List Byte) : Nat :=
  let bits := msbBits (first.take 64)
  let sel := sp.fields.flatMap fun f => (List.range f.2).map fun i => bits.getD (f.1 + i) false
  toeplitz (keyBits sp.key sel.length) sel

/-- The frame check sequence of IEEE 802.3 over `bs`: the CRC of polynomial 0x04C11DB7 in its reflected form. -/
def fcsOf (bs : List Byte) : Nat :=
  Nat.xor 0xFFFFFFFF (bs.foldl (fun c b => (List.range 8).foldl (fun c _ => Nat.xor (c / 2) (if c % 2 = 1 then 0xEDB88320 else 0)) (Nat.xor c b.toNat)) 0xFFFFFFFF)

/-- The processing slice of a frame received on port `p`, and its spreading hash (01 R21; 04 R80). -/
def Dev.processing (d : Dev) (p : Nat) (first : List Byte) : Nat × Nat :=
  match d.spreadOf p with
  | none => (d.actingSlice p, 0)
  | some sp =>
    let on := [p / 8 * 3, p / 8 * 3 + 1, p / 8 * 3 + 2].filter d.sliceOn
    let h := spreadHash sp first
    (on.getD (h * on.length / 2 ^ 32) (d.actingSlice p), h)

/-- The epoch slot of a frame that has none: received before the first image (03 R65). -/
def noEpoch : Nat := 2

/-- FRAME_START (R82, R84, R85; 02 R46): runts are discarded, the slice is chosen, the buffer admits MAX_FRAME bytes or the frame is dropped whole. -/
def Dev.frameStart (d : Dev) (p stamp : Nat) (first : List Byte) : Dev :=
  if d.portState p != 3 || (d.receivingOf p).isSome then d
  else if d.loopback p = 2 then d.emit (.loopBack p first)
  else if first.length < 64 then d.macCount p 1 0
  else
    let fr (sl h e r : Nat) : Frame :=
      ⟨first, sl, .net p, stamp, e, 1, 0xFFFF, d.facts sl, h, false, List.replicate 8 0, ParseMeta.none, [], [], none, .receiving r false⟩
    if d.flag IMG_STATUS IMG_STATUS_NO_IMAGE then d.newFrame (fr (d.actingSlice p) 0 noEpoch 0)
    else
      let (sl, h) := d.processing p first
      if d.held sl + d.maxFrame p ≤ bufferBytes then d.newFrame (fr sl h (d.slotFor (stamp / 2 ^ 16)) (d.maxFrame p))
      else d.macCount p 1 4

/-- FRAME_START: data from the module, which near-end loopback keeps from the port's receive path (R96). -/
def execFrameStart (port : Fin 16) (skew : Fin 524289) (first : List Byte) (s : State) : Host.Outcome State Fault Refusal :=
  fin s (if s.loopback port.val = 1 then s.toDev else s.frameStart port.val (s.stampAt 2 skew.val) first)

/-- The size bin of a frame of `n` bytes, FCS included, within block 0 or 2 (R97). -/
def sizeBin (n : Nat) : Nat :=
  6 + ([64, 127, 255, 511, 1023, 1518, 2047, 4095, 9216].filter fun b => decide (b < n)).length

/-- A good frame of `n` bytes, FCS included, counts in block `b` (R97). -/
def Dev.countGood (d : Dev) (p b n : Nat) (data : List Byte) : Dev :=
  let da := data.take 6
  let d := ((d.macCount p b 0 n).macCount p b 1).macCount p b (sizeBin n)
  let d := if da.all (· == 0xFF) then d.macCount p b 4
    else if (da.headD 0).toNat % 2 = 1 then d.macCount p b 3 else d.macCount p b 2
  if beAt data 12 2 = 0x8808 then d.macCount p b 5 else d

/-- The root index of a frame received on port `p` under epoch slot `e` in slice `sl` (05 R100). -/
def Dev.portRoot (d : Dev) (e sl p : Nat) : Nat := (((d.bodies e sl).parse).map fun b => b.portRoot.getD p 0).getD 0

/-- FRAME_END (R83, R85): the checks in their order; a good frame waits for the parser, the unused reservation released. -/
def Dev.frameEnd (d : Dev) (p : Nat) (rest : List Byte) (symErr fcsOk : Bool) : Dev :=
  match d.receivingOf p with
  | none => if d.portState p == 3 && d.loopback p == 2 then d.emit (.loopBack p rest) else d
  | some (id, f) =>
    let whole := f.data ++ rest
    let n := whole.length
    let broken := match f.stage with
      | .receiving _ b => b
      | _ => false
    let bad (c : Nat) : Dev := (d.frameGone id).macCount p 1 c
    if f.facts.maxFrames.getD p 0 < n then bad 2
    else if symErr || broken then bad 3
    else if !fcsOk then bad 1
    else
      let d := d.countGood p 0 n whole
      if f.slot = noEpoch then (d.frameGone id).macCount p 1 8
      else d.putFrame id { f with data := whole.take (n - 4), stage := .stored (d.portRoot f.slot f.slice p) }

/-- FRAME_END. -/
def execFrameEnd (port : Fin 16) (rest : List Byte) (symErr fcsOk : Bool) (s : State) : Host.Outcome State Fault Refusal :=
  fin s (if s.loopback port.val = 1 then s.toDev else s.frameEnd port.val rest symErr fcsOk)

/-- The egress stamp (2^-16 ns) of the frame on the wire of port `p`: `skew` x 2^-16 ns after 2 ns before its start of frame (02 R47). -/
def Dev.sentStamp (d : Dev) (p skew : Nat) : Nat := (d.portSt p).sfdAt / (125 * 2 ^ 16) + skew - 2 * 2 ^ 16

/-- In near-end loopback the `bytes` that port `p` has sent return to its own receive path, with their FCS, stamped `stamp` (R96; log entry 149). -/
def Dev.loopIn (d : Dev) (p stamp : Nat) (bytes : List Byte) : Dev :=
  let whole := bytes ++ leBytes 4 (fcsOf bytes)
  (d.frameStart p stamp (whole.take 64)).frameEnd p (whole.drop 64) false true

/-- FRAME_TRANSMITTED (03 R68; 02 R47; 04 R97; 07 R195): the frame, padded to 60 bytes, leaves; its stamp is written back in ns. -/
def Dev.frameSent (d : Dev) (p stamp : Nat) : Dev :=
  match (d.portSt p).onWire with
  | none => d
  | some id =>
    let d := d.updPort p fun x => { x with onWire := none, wireClass := none, idleSince := d.refNs }
    match d.frame? id with
    | none => d
    | some f =>
      let bytes := f.data ++ List.replicate (60 - f.data.length) 0
      let d := d.countGood p 2 f.netLen bytes
      let d := d.onlyIf f.wantTs fun d => d.macCount p 2 16
      let d := (((d.frameStamped id 1 (stamp / 2 ^ 16)).frameGone id)).tmRefresh (d.actingSlice p)
      if d.loopback p = 1 then d.loopIn p stamp bytes else d.emit (.frameTx p bytes)

/-- FRAME_TRANSMITTED. -/
def execFrameTransmitted (port : Fin 16) (skew : Fin 262145) (s : State) : Host.Outcome State Fault Refusal :=
  fin s (s.toDev.frameSent port.val (s.sentStamp port.val skew.val))

/-! The exception path (05 R115 to R119). -/

/-- The rate and the burst of a limiter: destination 0 host, 1 firmware; 0 is taken as 1. -/
def Dev.excRate (d : Dev) (s t : Nat) : Nat :=
  max 1 (if t = 0 then d.fld (PRS_EXC_HOST_RATE s) PRS_EXC_HOST_RATE_RATE_FPS else d.fld (PRS_EXC_FW_RATE s) PRS_EXC_FW_RATE_RATE_FPS)
def Dev.excBurst (d : Dev) (s t : Nat) : Nat :=
  max 1 (if t = 0 then d.fld (PRS_EXC_HOST_BURST s) PRS_EXC_HOST_BURST_BURST else d.fld (PRS_EXC_FW_BURST s) PRS_EXC_FW_BURST_BURST)

/-- The units a limiter holds at this tick (R115). -/
def Dev.excUnits (d : Dev) (s t : Nat) : Nat :=
  let cap := d.excBurst s t * 1000000000
  match d.exc.look (s * 2 + t) with
  | none => cap
  | some b => min cap (b.units + d.excRate s t * 4 * (d.ntu.ticks - b.last))

/-- `d` with the limiter holding `u` units as of this tick. -/
def Dev.putExc (d : Dev) (s t u : Nat) : Dev := d.setExc (d.exc.put (s * 2 + t) ⟨u, d.ntu.ticks⟩)

/-- DROPPED_BEFORE of a destination. -/
def Dev.dropped (d : Dev) (s t : Nat) : Nat := d.dropBefore.lookD (s * 2 + t) 0

/-- The 32-byte header and the snapped bytes (R117). -/
def Dev.excBytes (d : Dev) (f : Frame) (source reason t : Nat) : List Byte :=
  let snap := min f.len (PRS_EXC_CFG_SNAP_LEN.get f.facts.exc)
  leBytes 1 source ++ leBytes 1 reason ++ leBytes 1 f.slice ++ leBytes 1 f.pass ++ leBytes 2 (d.epochNo f.slot) ++ leBytes 2 f.port ++
    leBytes 8 f.stampNs ++ leBytes 2 f.len ++ leBytes 2 snap ++ leBytes 2 f.tf ++ leBytes 1 f.pmeta.pclass ++ leBytes 1 f.pmeta.stack.length ++
    leBytes 4 (d.dropped f.slice t) ++ [0, 0, 0, 0] ++ f.data.take snap

/-- The EXC ring of PF `n`, not DISABLED, with its number: in another state than RUNNING its deliveries wait in it (14 R381, R382). -/
def Dev.excRing (d : Dev) (n : Nat) : Option Nat :=
  (d.ring.find? fun kr => kr.2.kind == 4 && kr.2.state != 0 && d.ringOwner kr.1 == some (4096 + n)).map Prod.fst

/-- A host exception that passed its limiter goes to the EXC ring of HOST_PF, or is undeliverable (R118): the ring is full when too few of its posted entries `[HEAD, PROD)` are unfilled (14
R386). The facts are those in force when the frame came (01 R29). -/
def Dev.excHost (d : Dev) (f : Frame) (bytes : List Byte) : Dev :=
  let s := f.slice
  let n := PRS_EXC_CFG_HOST_PF.get f.facts.exc
  let lost := d.count (prsCnt s 8)
  if PRS_EXC_CFG_HOST_EN.get f.facts.exc == 0 || d.fnState (4096 + n) != 2 || d.frozen n then lost
  else match d.excRing n with
    | none => lost
    | some r =>
      let x := d.ringAt r
      if d.ringFree r < x.slotsFor bytes.length then lost
      else (d.updRing r fun x => { x with rxq := x.rxq ++ [⟨none, 0xFFFF, bytes, f.port, f.stampNs, f.hash, f.user.getD 0 0, f.user.getD 1 0, s, d.dropped s 0⟩] }).setDropBefore
        (d.dropBefore.put (s * 2) 0)

/-- The bytes of a firmware queue's entry and of a slice's queue, and where entry `k` of slice `s` stands (R119). -/
def fwEntryBytes : Nat := 16448
def fwQueueBytes : Nat := 256 * fwEntryBytes
def Dev.fwEntry (d : Dev) (s k : Nat) : Nat := d.fwBase + s * fwQueueBytes + k * fwEntryBytes

/-- A firmware exception that passed its limiter joins its slice's queue, in its lowest free entry, or is dropped (R119). An entry outside SEALED granules takes no frame: it is lost, as by an
uncorrectable error there (15 R422; log entry 142). -/
def Dev.excFw (d : Dev) (f : Frame) (bytes : List Byte) : Dev :=
  let s := f.slice
  let q := d.fwq.lookD s []
  match (List.range 256).find? fun k => !(q.map Prod.fst).contains k with
  | none => d.count (prsCnt s 11)
  | some k =>
    if PRS_EXC_CFG_FW_EN.get f.facts.exc == 0 then d.count (prsCnt s 11)
    else match d.sealedCheck (d.fwEntry s k) fwEntryBytes with
      | (d, false) => d
      | (d, true) => ((d.setFwq (d.fwq.put s (q ++ [(k, bytes)]))).setDropBefore (d.dropBefore.put (s * 2 + 1) 0)).count (prsCnt s 9)

/-- Frame `id` is offered to the exception path by `source` (0 parser, 1 classifier, 2 engine) (R115 to R119). -/
def Dev.exception (d : Dev) (id : Nat) (f : Frame) (source reason : Nat) (fw : Bool) : Dev :=
  let s := f.slice
  let t := b2n fw
  let d := d.count (prsReason s reason)
  let u := d.excUnits s t
  if u < 1000000000 then
    ((d.putExc s t u).setDropBefore (d.dropBefore.put (s * 2 + t) (min (d.dropped s t + 1) 0xFFFFFFFF))).dropAt id (prsCnt s (if fw then 10 else 7))
  else
    let d := d.putExc s t (u - 1000000000)
    let bytes := d.excBytes f source reason t
    let d := d.frameDelivered id
    if fw then d.excFw f bytes else d.excHost f bytes

/-- FIRMWARE_QUEUE_READ (R119): Ulyar takes the oldest frame, its entry read as R422 has it. -/
def Dev.fwRead (d : Dev) (s : Nat) : Dev :=
  match d.fwq.lookD s [] with
  | [] => d
  | (k, x) :: t => match (d.setFwq (d.fwq.put s t)).sealedCheck (d.fwEntry s k) fwEntryBytes with
    | (d, true) => d.emit (.ulyarFrame x)
    | (d, false) => d

/-- FIRMWARE_QUEUE_READ. -/
def execFirmwareQueueRead (slice : Fin 6) (s : State) : Host.Outcome State Fault Refusal := fin s (s.toDev.fwRead slice.val)

end Sys2Proof.Machine
end

