-- ==== Sys2Proof/Machine/Parser.lean ====
section
/-! DEFINITION. The parser (05 R100 to R114, R120): the walk of a frame's headers, its class and metadata, its disposition. -/
namespace Sys2Proof.Machine

/-- A walk under way (R110). -/
structure Walk where
  pos : Nat
  bound : Nat
  depthLimit : Bool
  conflict : Bool
  rejected : Bool
  window : Bool
  conflictIdx : Nat
  claimedEnd : Nat
  lastNode : Option Nat
  stack : List StackEnt
  deriving DecidableEq, Repr

/-- A conflict is recorded: the first keeps its index and end (R110, R113). -/
def Walk.record (w : Walk) (e : Int) : Walk :=
  if w.conflict then w
  else { w with conflict := true, conflictIdx := w.stack.length, claimedEnd := min e.toNat 0xFFFF }

/-- The claimed end of a header at `pos` of length `len` (R108). -/
def PNode.claim (h : PNode) (v pos len : Nat) : Int :=
  Int.ofNat ((if h.claimMode = 1 then pos else pos + len) + v * 2 ^ h.claimShift) + h.claimAdd

/-- The next node for selector `sel` (R106). -/
def ParseBody.next (b : ParseBody) (h : PNode) (sel : Nat) : Nat :=
  match ((b.trans.drop h.transBase).take h.transCount).find? fun t => Nat.land sel t.mask == t.value with
  | some t => t.next
  | none => h.defaultNext

/-- Whether the read of node `n`, and the comparison with all of a node's transitions (R106), meets the bad entry. -/
def eccInNode (e : TreeEcc) (n : Nat) : Bool := !e.transition && e.index == n
def eccInTrans (e : TreeEcc) (h : PNode) : Bool := e.transition && decide (h.transBase ≤ e.index) && decide (e.index < h.transBase + h.transCount)

/-- The walk from node `n` (R110); none when it meets a bad entry (R120). -/
def ParseBody.walk (b : ParseBody) (data : List Byte) (bad : Option TreeEcc) : Nat → Nat → Walk → Option Walk
  | 0, _, w => some w
  | fuel + 1, n, w =>
    if n = 0xFFFF then some w else
    match b.nodes[n]? with
    | none => some { w with rejected := true }
    | some h =>
      if w.stack.length = b.maxDepth then some { w with depthLimit := true }
      else if bad.any fun e => eccInNode e n then none
      else
        let w := { w with lastNode := some n }
        let hd := data.drop w.pos
        let rdf (off width : Nat) : Nat := bitField hd off width (h.minLen * 8)
        if w.bound < w.pos + h.minLen then some (w.record (Int.ofNat (w.pos + h.minLen)))
        else
          let len := h.lenBase + rdf h.lenOff h.lenWidth * 2 ^ h.lenShift
          if 1023 < len || 1024 < w.pos + len then some { w with window := true, depthLimit := true }
          else if len < h.minLen || w.bound < w.pos + len then some (w.record (Int.ofNat (w.pos + len)))
          else
            let c := h.claim (rdf h.claimOff h.claimWidth) w.pos len
            let clash := h.claimMode != 0 && (decide (Int.ofNat w.bound < c) || decide (c < Int.ofNat (w.pos + len)))
            let w := if clash then w.record c else if h.claimMode != 0 then { w with bound := c.toNat } else w
            let w := { w with stack := w.stack ++ [⟨h.hdrId, w.pos, len, h.tunnel, clash⟩], pos := w.pos + len }
            if h.reject then some { w with rejected := true }
            else if bad.any fun e => eccInTrans e h then none
            else b.walk data bad fuel (b.next h (rdf h.selOff h.selWidth)) w

/-- The class of a walk (R111). -/
def Walk.cls (w : Walk) : Nat := if w.conflict then 2 else if w.depthLimit then 1 else if w.rejected then 3 else 0

/-- The metadata a walk leaves (R113); LAST_NODE is `last` for a walk that read no node. -/
def Walk.toMeta (w : Walk) (f root last : Nat) : ParseMeta where
  pclass := w.cls
  flags := b2n w.depthLimit + 2 * b2n w.conflict + 4 * b2n w.rejected + 8 * b2n w.window + 16 * b2n (decide (w.bound < f))
  tunnels := (w.stack.filter StackEnt.tunnel).length
  payloadOff := w.pos
  trustedEnd := w.bound
  conflictIdx := w.conflictIdx
  root := root
  lastNode := w.lastNode.getD last
  claimedEnd := w.claimedEnd
  stack := w.stack

/-- A walk's beginning: the bound is F (R107). -/
def Walk.start (f : Nat) : Walk := ⟨0, f, false, false, false, false, 0xFF, 0, none, []⟩

/-- A host frame of a class that is not PARSE_OK reaches its counting point on its first pass (16 R441). -/
def Dev.meterHostDisp (d : Dev) (f : Frame) : Dev :=
  match f.origin with
  | .ring _ _ => if f.pass = 1 then d.meterFrame f else d
  | _ => d

/-- The disposition of a frame whose class is not PARSE_OK (R112). -/
def Dev.dispose (d : Dev) (id : Nat) (f : Frame) (x : Disp) : Dev :=
  let d := d.meterHostDisp f
  match x.action with
  | 1 => d.exception id f 0 x.reason false
  | 2 => d.exception id f 0 x.reason true
  | 3 => d.steer id f.slice f.slot x.group
  | _ => d.frameOut id

/-- An uncorrectable error in a parse tree entry (R120): the frame is dropped, the first one logged. -/
def Dev.parserEcc (d : Dev) (id : Nat) (f : Frame) (e : TreeEcc) : Dev :=
  let s := f.slice
  let (v, d) := d.fresh
  let (c, d) := d.fresh
  let d := ((d.dropAt id (prsCnt s 5)).report (0x0300 + s) 2 v (sliceUnit s) c).setF (PRS_STATUS s) PRS_STATUS_ECC_ERR 1
  if d.flag (PRS_ECC_LOG s) PRS_ECC_LOG_VALID then d
  else (((d.setF (PRS_ECC_LOG s) PRS_ECC_LOG_VALID 1).setF (PRS_ECC_LOG s) PRS_ECC_LOG_KIND (b2n e.transition)).setF (PRS_ECC_LOG s) PRS_ECC_LOG_SLOT f.slot).setF
    (PRS_ECC_LOG s) PRS_ECC_LOG_INDEX e.index

/-- The walk of frame `id`, which waits with root index `root` (R100, R110 to R112, R120; 03 R60 for an empty tree). -/
def Dev.parserWalk (d : Dev) (id : Nat) (f : Frame) (root : Nat) (ecc : Option TreeEcc) : Dev :=
  let s := f.slice
  let d := (d.count (prsCnt s 0)).onlyIf (decide (2 ≤ f.pass)) fun d => d.count (prsCnt s 12)
  match (d.bodies f.slot s).parse with
  | none => ((d.meterHostDisp f).count (prsCnt s 4)).frameOut id
  | some b =>
    match b.walk f.data ecc (b.maxDepth + 1) (b.roots.getD root 0) (Walk.start f.len), ecc with
    | none, some e => d.parserEcc id f e
    | none, none => d
    | some w, _ =>
      let (v, d) := d.fresh
      let f := { f with pmeta := w.toMeta f.len root (v % 65536) }
      let c := w.cls
      let d := d.count (prsCnt s (1 + c))
      if c = 0 then d.putFrame id { f with stage := .parsed }
      else (d.putFrame id f).dispose id f (b.disp.getD (c - 1) ⟨0, 0, 0⟩)

/-- PARSER_WALK (R110): the walk of a frame that waits for the parser, in its order (01 R22), a recirculated one before a new one (R101). -/
def execParserWalk (frame : Nat) (ecc : Option TreeEcc) (s : State) : Host.Outcome State Fault Refusal :=
  match s.frame? frame with
  | some f =>
    match f.stage with
    | .stored root => fin s (if s.behind frame f || (f.pass = 1 && s.recircReady f.slice) then s.toDev else s.parserWalk frame f root ecc)
    | _ => fin s s.toDev
  | none => fin s s.toDev

end Sys2Proof.Machine
end

