-- ==== Sys2Proof/Machine/Tables.lean ====
section
/-! DEFINITION. The classifier's tables (06 R124 to R126, R134 to R139, R150 to R162, R537): records, lookups, update commands, learn events,
sweeps, skim passes. -/
namespace Sys2Proof.Machine

/-! Stored tables (R138; 03 R72). -/

/-- The place of TABLE_ID `id` of slice `s` under epoch slot `e` in the map. -/
def tblKey (s e id : Nat) : Nat := (s * 2 + e) * 64 + id

/-- The stored table that TABLE_ID `id` of slice `s` names under epoch slot `e`, with its number. -/
def Dev.table? (d : Dev) (s e id : Nat) : Option (Nat × Table) :=
  (d.tblMap.look (tblKey s e id)).bind fun n => (d.tbl.look n).map fun t => (n, t)

/-- The declaration of table `id` in the body of slice `s` and epoch slot `e`. -/
def Dev.declOf (d : Dev) (s e id : Nat) : Option TblDecl := ((d.bodies e s).cls).bind fun b => b.tables.find? fun t => t.id == id

/-- `d` with stored table `n` replaced. -/
def Dev.putTable (d : Dev) (n : Nat) (t : Table) : Dev := d.setTbl (d.tbl.put n t)

/-- The stored tables of slice `s`, each once. -/
def Dev.sliceTables (d : Dev) (s : Nat) : List Nat :=
  dedup ((d.tblMap.filter fun kn => kn.1 / 128 == s).map Prod.snd)

/-- CLS_LRN_COUNT of port `p` in slice `s` (R151): its learned entries across the slice's tables. -/
def Dev.learnedCount (d : Dev) (s p : Nat) : Nat :=
  ((d.sliceTables s).map fun n => ((d.tbl.look n).map fun t => (t.entries.filter fun e => e.2.learned && e.2.param % 65536 == p).length).getD 0).sum

/-! Records (R137, R537). -/

/-- A record's fields by kind. -/
def recEntry (kind kb : Nat) (r : List Byte) : Entry :=
  let flags (o : Nat) : Bool × Bool := ((r.getD o 0).toNat.testBit 1, (r.getD o 0).toNat.testBit 2)
  match kind with
  | 1 => ⟨bytesAt r 0 kb, [], 0, 0, 0, 0, leAt r 0x14 2, leAt r 0x18 8, (flags 0x16).1, (flags 0x16).2, false⟩
  | 2 => ⟨bytesAt r 0 kb, [], 0, 0, 0, 0, leAt r 0x30 2, leAt r 0x38 8, (flags 0x32).1, (flags 0x32).2, false⟩
  | 5 => ⟨bytesAt r 0 kb, bytesAt r 0x18 kb, 0, 0, leAt r 0x30 3, leAt r 0x34 4, leAt r 0x38 2, leAt r 0x3A 6, false, false, false⟩
  | _ =>
    let n := kb - 2
    let len := leAt r 2 1
    let a := beAt r 4 n
    let keep := 2 ^ (8 * n - min len (8 * n))
    ⟨beBytes n (a / keep * keep), [], leAt r 0 2, len, 0, 0, leAt r 0x14 2, leAt r 0x18 8, false, false, false⟩

/-- `x` filled with zeros to `n` bytes. -/
def padTo (n : Nat) (x : List Byte) : List Byte := bytesAt x 0 n

/-- The record of an entry, VALID set where the kind has it (R137). -/
def Entry.toRec (kind : Nat) (e : Entry) : List Byte :=
  let fl := leBytes 1 (1 + 2 * b2n e.learned + 4 * b2n e.hit)
  match kind with
  | 1 => padTo 64 (padTo 20 e.key ++ leBytes 2 e.list ++ fl ++ [0] ++ leBytes 8 e.param)
  | 2 => padTo 48 e.key ++ leBytes 2 e.list ++ fl ++ [0, 0, 0, 0, 0] ++ leBytes 8 e.param
  | 5 => padTo 24 e.key ++ padTo 24 e.mask ++ leBytes 3 e.prio ++ [1] ++ leBytes 4 e.ruleId ++ leBytes 2 e.list ++ leBytes 6 e.param
  | _ => padTo 64 (leBytes 2 e.dom ++ leBytes 1 e.len ++ [0] ++ padTo 16 e.key ++ leBytes 2 e.list ++ [0, 0] ++ leBytes 8 e.param)

/-- Whether every byte of `r` at an offset of `l` is 0. -/
def zeroAt (r : List Byte) (l : List Nat) : Bool := l.all fun o => r.getD o 0 == 0

/-- The offsets `[a, b)`. -/
def offs (a b : Nat) : List Nat := (List.range (b - a)).map (· + a)

/-- Whether a record is well formed (R537); `prefixes` for the commands that check LEN and the unused ADDR bytes of a prefix. -/
def recOk (kind kb : Nat) (prefixes : Bool) (r : List Byte) : Bool :=
  match kind with
  | 1 => zeroAt r (0x17 :: offs 0x20 64 ++ offs kb 20) && (r.getD 0x16 0).toNat < 8
  | 2 => zeroAt r (offs 0x33 0x38 ++ offs kb 48) && (r.getD 0x32 0).toNat < 8
  | 5 => zeroAt r (offs kb 24 ++ offs (0x18 + kb) 0x30) && (r.getD 0x33 0).toNat < 2
  | k => zeroAt r (3 :: 0x16 :: 0x17 :: offs 0x20 64) &&
      (!prefixes || (if k = 3 then leAt r 2 1 ≤ 32 && zeroAt r (offs 8 0x14) else leAt r 2 1 ≤ 128))

/-- The key a LOOKUP record gives (R139, R137). -/
def recKey (kind kb : Nat) (r : List Byte) : List Byte :=
  if kind = 3 || kind = 4 then beBytes 2 (leAt r 0 2) ++ bytesAt r 4 (kb - 2) else bytesAt r 0 kb

/-- Whether two entries have one key: of a rule its VALUE, MASK, PRIORITY and RULE_ID, all that MODIFY does not change (log entry 15). -/
def Entry.sameKey (a b : Entry) : Bool :=
  a.key == b.key && a.mask == b.mask && a.dom == b.dom && a.len == b.len && a.prio == b.prio && a.ruleId == b.ruleId

/-! Lookups (R134 to R136). -/

/-- The number a key's bytes spell at `w` bits from bit `off`. -/
def keyField (key : List Byte) (off w : Nat) : Nat := bitField key off w (8 * key.length)

/-- The leaf of a tree that a key reaches: its first rule and its number of rules. -/
def treeLeaf (nodes : List TreeNode) (key : List Byte) : Nat → Nat → Option (Nat × Nat)
  | 0, _ => none
  | fuel + 1, n =>
    match nodes[n]? with
    | none => none
    | some x => if x.leaf then some (x.base, x.bits) else treeLeaf nodes key fuel (x.base + keyField key x.off x.bits)

/-- Whether a rule's VALUE equals the key on every bit of its MASK. -/
def Entry.ruleHits (e : Entry) (key : List Byte) : Bool :=
  Nat.land (Nat.xor (beNat e.key) (beNat key)) (beNat e.mask) == 0

/-- The better of two hits. -/
def bestOf (better : Entry → Entry → Bool) (a : Option (Nat × Entry)) (x : Nat × Entry) : Option (Nat × Entry) :=
  match a with
  | none => some x
  | some y => if better x.2 y.2 then some x else some y

/-- The entry that a lookup of `key` hits, with its index (R134, R135). -/
def Table.hit? (t : Table) (key : List Byte) : Option (Nat × Entry) :=
  match t.decl.kind with
  | 1 | 2 => t.entries.find? fun e => e.2.key == key
  | 5 =>
    let live := match t.tree with
      | none => t.entries
      | some b =>
        let (base, n) := (treeLeaf b.nodes key 13 0).getD (0, 0)
        t.entries.filter fun e => (decide (base ≤ e.1) && decide (e.1 < base + n) && !b.added.contains e.1) || b.added.contains e.1
    (live.filter fun e => e.2.ruleHits key).foldl
      (bestOf fun a b => decide (b.prio < a.prio) || (a.prio == b.prio && decide (a.ruleId < b.ruleId))) none
  | _ =>
    let dom := beAt key 0 2
    let a := beNat (key.drop 2)
    let n := 8 * (t.decl.keyBytes - 2)
    (t.entries.filter fun e => e.2.dom == dom && beNat e.2.key / 2 ^ (n - e.2.len) == a / 2 ^ (n - e.2.len)).foldl
      (bestOf fun a b => decide (b.len < a.len)) none

/-- The entry with an uncorrectable error that a lookup of `key` meets (R156, 07 R197): the one it hits, or the one at index `named`, which it read. -/
def Table.badMet (t : Table) (key : List Byte) (named : Option Nat) : Option (Nat × Entry) :=
  match (t.hit? key).filter fun x => x.2.bad with
  | some x => some x
  | none => named.bind fun i => (t.entries.look i).map fun e => (i, e)

/-! Changes of a table (R126, R139). -/

/-- The first index from `i` on, cyclically below `cap`, that holds no entry. -/
def freeIndexFrom (es : Tab Entry) (cap : Nat) : Nat → Nat → Nat
  | 0, i => i % cap
  | fuel + 1, i => if (es.look (i % cap)).isNone then i % cap else freeIndexFrom es cap fuel (i + 1)

/-- Where an insert of `e` goes: its index, or FULL (3) or COLLIDE (4) (R126, R139). The index R139 does not give is drawn from the free value `v`. -/
def Table.place (t : Table) (e : Entry) (v : Nat) : Nat ⊕ Nat :=
  let cap := t.decl.capacity
  let n := t.entries.length
  let anyFree := freeIndexFrom t.entries cap n v
  if cap ≤ n then .inr 3
  else if t.decl.kind ≤ 2 then
    match ([0, 1, 2, 3].map fun w => Config.hashPos e.key cap w % cap).find? fun i => (t.entries.look i).isNone with
    | some i => .inl i
    | none => if 10 * n < 9 * cap then .inl anyFree else .inr 4
  else .inl anyFree

/-- `t` with index `i` holding `e`. -/
def Table.set (t : Table) (i : Nat) (e : Entry) : Table :=
  { t with entries := t.entries.put i e, tree := t.tree.map fun b => if (t.entries.look i).isSome then b else { b with added := i :: b.added } }

/-- `t` with index `i` empty. -/
def Table.remove (t : Table) (i : Nat) : Table :=
  { t with entries := t.entries.del i, tree := t.tree.map fun b => { b with added := b.added.filter (· != i) } }

/-- The entry with the key of `e`. -/
def Table.find (t : Table) (e : Entry) : Option (Nat × Entry) := t.entries.find? fun x => x.2.sameKey e

/-- An installed entry `e` is inserted (R139): the table and index, or the result code 1 EXISTS, 3 FULL, 4 COLLIDE. -/
def Table.install (t : Table) (e : Entry) (v : Nat) : (Table × Nat) ⊕ Nat :=
  let e := { e with learned := false, hit := false, bad := false }
  match t.find e with
  | some (i, x) => if x.learned then .inl (t.set i e, i) else .inr 1
  | none => match t.place e v with
    | .inl i => .inl (t.set i e, i)
    | .inr c => .inr c

/-! Update commands (R138, R139). -/

/-- The update record of slice `s`. -/
def Dev.updRec (d : Dev) (s : Nat) : List Byte := (List.range 8).flatMap fun n => leBytes 8 (d.rd (CLS_UPD_DATA s n)).toNat

/-- The update record of slice `s` becomes `r`. -/
def Dev.setUpdRec (d : Dev) (s : Nat) (r : List Byte) : Dev :=
  d.each (List.range 8) fun d n => d.wr (CLS_UPD_DATA s n) (BitVec.ofNat 64 (leAt r (8 * n) 8))

/-- RESULT of the last update command of slice `s`. -/
def Dev.updResult (d : Dev) (s res : Nat) : Dev := d.setF (CLS_UPD_STATUS s) CLS_UPD_STATUS_RESULT res

/-- INDEX of slice `s`. -/
def Dev.updIndex (d : Dev) (s i : Nat) : Dev := d.setF (CLS_UPD_STATUS s) CLS_UPD_STATUS_INDEX i

/-- The fields of a write of CLS_UPD_CTRL, with OP `op`. -/
def Dev.updFields (d : Dev) (s : Nat) (v : Word) (op : Nat) : Dev :=
  d.wr (CLS_UPD_CTRL s) (CLS_UPD_CTRL_OP.set op (v &&& 0x00FFF000))

/-- A skim pass notes an index the update path wrote (R161). -/
def Dev.skimTouched (d : Dev) (s n i : Nat) : Dev :=
  match d.skim.look s with
  | some k => if k.tab = n then d.setSkim (d.skim.put s { k with written := i :: k.written }) else d
  | none => d

/-- An update command of slice `s` on the table it names: discarded while one runs; NO_TABLE (5) where the slot holds no epoch or no such table (R138). -/
def Dev.updCmd (d : Dev) (s : Nat) (v : Word) (op : Nat) (f : Dev → Nat → Table → Dev) : Dev :=
  let busy := d.flag (CLS_UPD_STATUS s) CLS_UPD_STATUS_BUSY
  let d := d.updFields s v op
  if busy then d else
  match d.table? s (CLS_UPD_CTRL_SLOT.get v) (CLS_UPD_CTRL_TABLE.get v) with
  | none => d.updResult s 5
  | some (n, t) => f d n t

/-- An update command that takes a record (R537): BAD_RECORD (6) when it is not well formed. -/
def Dev.updRecCmd (d : Dev) (s : Nat) (v : Word) (op : Nat) (prefixes : Bool) (f : Dev → Nat → Table → List Byte → Dev) : Dev :=
  d.updCmd s v op fun d n t =>
    let r := d.updRec s
    if recOk t.decl.kind t.decl.keyBytes prefixes r then f d n t r else d.updResult s 6

/-- INSERT (R139). -/
def Dev.updInsert (d : Dev) (s : Nat) (v : Word) : Dev :=
  d.updRecCmd s v 1 true fun d n t r =>
    let (x, d) := d.fresh
    match t.install (recEntry t.decl.kind t.decl.keyBytes r) x with
    | .inl (t, i) => (((d.putTable n t).updIndex s i).updResult s 0).skimTouched s n i
    | .inr c => d.updResult s c

/-- MODIFY (R139): ACTION_LIST and PARAM of an existing entry; the rewritten entry is free of error (R156). -/
def Dev.updModify (d : Dev) (s : Nat) (v : Word) : Dev :=
  d.updRecCmd s v 2 true fun d n t r =>
    let e := recEntry t.decl.kind t.decl.keyBytes r
    match t.find e with
    | some (i, x) => ((d.putTable n { t with entries := t.entries.put i { x with list := e.list, param := e.param, bad := false } }).updResult s 0).skimTouched s n i
    | none => d.updResult s 2

/-- DELETE (R139). -/
def Dev.updDelete (d : Dev) (s : Nat) (v : Word) : Dev :=
  d.updRecCmd s v 3 true fun d n t r =>
    match t.find (recEntry t.decl.kind t.decl.keyBytes r) with
    | some (i, _) => ((d.putTable n (t.remove i)).updResult s 0).skimTouched s n i
    | none => d.updResult s 2

/-- READ (R139). -/
def Dev.updRead (d : Dev) (s : Nat) (v : Word) : Dev :=
  d.updCmd s v 4 fun d _ t =>
    let i := d.fld (CLS_UPD_STATUS s) CLS_UPD_STATUS_INDEX
    if t.decl.capacity ≤ i then d.updResult s 2
    else (d.setUpdRec s (((t.entries.look i).map fun e => e.toRec t.decl.kind).getD [])).updResult s 0

/-- LOOKUP (R139): MISS (9) without a hit. -/
def Dev.updLookup (d : Dev) (s : Nat) (v : Word) : Dev :=
  d.updRecCmd s v 5 false fun d _ t r =>
    match t.hit? (recKey t.decl.kind t.decl.keyBytes r) with
    | some (i, e) => ((d.setUpdRec s (e.toRec t.decl.kind)).updIndex s i).updResult s 0
    | none => d.updResult s 9

/-- FLUSH_LEARNED (R139). -/
def Dev.updFlush (d : Dev) (s : Nat) (v : Word) : Dev :=
  d.updCmd s v 7 fun d n t =>
    let goes (e : Entry) : Bool := e.learned && (CLS_UPD_CTRL_PORT_FILTER.get v == 0 || e.param % 65536 == CLS_UPD_CTRL_PORT.get v)
    let ids := (t.entries.filter fun e => goes e.2).map Prod.fst
    (d.putTable n (ids.foldl Table.remove t) |>.each ids fun d i => d.skimTouched s n i).updResult s 0

/-- INSERT. -/
def execInsert (src : Src) (slice : Fin 6) (v : Word) (s : State) : Host.Outcome State Fault Refusal :=
  finSW s src slice.val (CLS_UPD_CTRL slice.val) (s.toDev.updInsert slice.val v)

/-- MODIFY. -/
def execModify (src : Src) (slice : Fin 6) (v : Word) (s : State) : Host.Outcome State Fault Refusal :=
  finSW s src slice.val (CLS_UPD_CTRL slice.val) (s.toDev.updModify slice.val v)

/-- DELETE. -/
def execDelete (src : Src) (slice : Fin 6) (v : Word) (s : State) : Host.Outcome State Fault Refusal :=
  finSW s src slice.val (CLS_UPD_CTRL slice.val) (s.toDev.updDelete slice.val v)

/-- READ. -/
def execRead (src : Src) (slice : Fin 6) (v : Word) (s : State) : Host.Outcome State Fault Refusal :=
  finSW s src slice.val (CLS_UPD_CTRL slice.val) (s.toDev.updRead slice.val v)

/-- UPD_LOOKUP. -/
def execUpdLookup (src : Src) (slice : Fin 6) (v : Word) (s : State) : Host.Outcome State Fault Refusal :=
  finSW s src slice.val (CLS_UPD_CTRL slice.val) (s.toDev.updLookup slice.val v)

/-- FLUSH_LEARNED. -/
def execFlushLearned (src : Src) (slice : Fin 6) (v : Word) (s : State) : Host.Outcome State Fault Refusal :=
  finSW s src slice.val (CLS_UPD_CTRL slice.val) (s.toDev.updFlush slice.val v)

/-- A write of CLS_UPD_CTRL with GO and an OP that names no command (BAD_RECORD). -/
def Dev.updOther (d : Dev) (s : Nat) (v : Word) : Dev :=
  let busy := d.flag (CLS_UPD_STATUS s) CLS_UPD_STATUS_BUSY
  let d := d.updFields s v (CLS_UPD_CTRL_OP.get v)
  if busy then d else d.updResult s 6

/-! Tree loads (R135, R136). -/

/-- TREE_LOAD (R139): the read of the bank's header is issued. A result the spec does not give (a table that is no RULE table, a port that issues no reads) is free. -/
def Dev.updTree (d : Dev) (s : Nat) (v : Word) : Dev :=
  d.updCmd s v 6 fun d n t =>
    let a := (d.rd (CLS_UPD_TREE_ADDR s)).toNat
    let open_ (d : Dev) : Dev := let (x, d) := d.fresh; d.updResult s x
    if t.decl.kind != 5 then open_ d
    else match d.fnRead (4096 + a / 2 ^ 62) (treeUnit s) false (a % 2 ^ 62) 16 with
      | some d => (d.setTreeLoad (d.treeLoad.put s (n, CLS_UPD_CTRL_SLOT.get v))).setF (CLS_UPD_STATUS s) CLS_UPD_STATUS_BUSY 1
      | none => open_ d

/-- TREE_LOAD. -/
def execTreeLoad (src : Src) (slice : Fin 6) (v : Word) (s : State) : Host.Outcome State Fault Refusal :=
  finSW s src slice.val (CLS_UPD_CTRL slice.val) (s.toDev.updTree slice.val v)

/-- The nodes of a bank's bytes (R136). -/
def treeNodes (bs : List Byte) : Nat → List TreeNode
  | 0 => []
  | n + 1 => ⟨leAt bs 0 1 == 1, if leAt bs 0 1 = 1 then leAt bs 8 1 else leAt bs 1 1, leAt bs 2 2, leAt bs 4 4⟩ :: treeNodes (bs.drop 16) n

/-- Whether every node from `n` on, at most `lvl` levels deep, keeps the limits of R136. -/
def treeDeep (nodes : List TreeNode) (rules : Nat) : Nat → Nat → Bool
  | lvl, n =>
    match nodes[n]? with
    | none => false
    | some x =>
      if x.leaf then decide (x.bits ≤ 16) && decide (x.base + x.bits ≤ rules)
      else decide (1 ≤ x.bits) && decide (x.bits ≤ 8) &&
        match lvl with
        | 0 => false
        | l + 1 => (List.range (2 ^ x.bits)).all fun i => treeDeep nodes rules l (x.base + i)

/-- The rules of a bank, those that are VALID, from index `i`. -/
def treeRules (kb : Nat) (bs : List Byte) : Nat → Nat → Tab Entry
  | _, 0 => []
  | i, n + 1 =>
    let rest := treeRules kb (bs.drop 64) (i + 1) n
    if leAt bs 0x33 1 % 2 = 1 then (i, recEntry 5 kb bs) :: rest else rest

/-- The table with the bank of bytes `bs` active, none when the bank breaks a limit (R136). -/
def Table.withBank (t : Table) (bs : List Byte) : Option Table :=
  let rules := leAt bs 4 4
  let nn := leAt bs 8 4
  let lv := leAt bs 12 1
  let nodes := treeNodes (bs.drop 16) nn
  let kindsOk := (List.range nn).all fun i => decide (leAt bs (16 + 16 * i) 1 ≤ 1)
  if leAt bs 0 4 = 0x45455254 && lv ≤ 12 && bs.length = 16 + 16 * nn + 64 * rules && rules ≤ t.decl.capacity && kindsOk && treeDeep nodes rules lv 0 then
    some { t with entries := treeRules t.decl.keyBytes (bs.drop (16 + 16 * nn)) 0 rules, tree := some ⟨nodes, []⟩ }
  else none

/-- A tree load of slice `s` is over: no read, no data of it remains, and the update path is free. -/
def Dev.treeStops (d : Dev) (s : Nat) : Dev :=
  (((d.orphanReads (treeUnit s)).setTreeLoad (d.treeLoad.del s)).setArrived (d.arrived.del (treeUnit s))).setF (CLS_UPD_STATUS s) CLS_UPD_STATUS_BUSY 0

/-- The tree loads that name epoch slot `o` end with DRAINED (8) when it is freed (R138). -/
def Dev.treesDrained (d : Dev) (o : Nat) : Dev :=
  d.each (d.treeLoad.filter fun x => x.2.2 == o) fun d x => (d.treeStops x.1).updResult x.1 8

/-- TREE_LOAD_DONE (R135, R136, R138): the bank becomes active, or BAD_TREE (7); a read that ended with an error leaves the result open. -/
def Dev.treeDone (d : Dev) (s : Nat) (rest : List Byte) : Dev :=
  match d.treeLoad.look s, d.arrived.look (treeUnit s) with
  | some (n, _), some r =>
    let d := d.treeStops s
    match d.tbl.look n, r with
    | none, _ => d.updResult s 8
    | some t, some head =>
      match t.withBank (head ++ rest) with
      | some t => (d.putTable n t).updResult s 0
      | none => d.updResult s 7
    | some _, none => let (x, d) := d.fresh; d.updResult s x
  | _, _ => d

/-- TREE_LOAD_DONE. -/
def execTreeLoadDone (slice : Fin 6) (rest : List Byte) (s : State) : Host.Outcome State Fault Refusal := fin s (s.toDev.treeDone slice.val rest)

/-! Learn events and sweeps (R155 to R159). -/

/-- A learn event (R157 to R159): `flags` OVERRIDDEN and ECC; the slice's SEQ rises whether it is posted or not. -/
def Dev.learnEvent (d : Dev) (s kind id slot flags idx param : Nat) (key : List Byte) : Dev :=
  let q := (d.lrnSeq.lookD s 0 + 1) % 2 ^ 32
  let bytes := leBytes 4 q ++ leBytes 1 kind ++ leBytes 1 id ++ leBytes 1 s ++ leBytes 1 (flags + 4 * slot) ++ leBytes 8 d.now ++ leBytes 4 idx ++
    leBytes 1 key.length ++ [0, 0, 0] ++ leBytes 8 param ++ padTo 20 key ++ List.replicate 12 0
  (d.setLrnSeq (d.lrnSeq.put s q)).postRecord ⟨s, false, bytes⟩

/-- A learned entry is removed by a sweep or an error, with its AGED event (R155, R156). -/
def Dev.ageOut (d : Dev) (s n id slot flags i : Nat) (e : Entry) : Dev :=
  let d := match d.tbl.look n with
    | some t => d.putTable n (t.remove i)
    | none => d
  (d.count (clsCnt s 13)).learnEvent s 3 id slot flags i e.param e.key

/-- The sweeps that a table swept up to `last` owes at `now`: the multiples of `period` in (last, now] (R155). -/
def sweepsOwed (period last now : Nat) : Nat := now / period - last / period

/-- One sweep of stored table `n` (R155): it loses its learned entries with HIT 0, and the rest lose HIT. -/
def Dev.sweepOnce (d : Dev) (s slot id n : Nat) : Dev :=
  match d.tbl.look n with
  | some t =>
    (d.putTable n { t with entries := t.entries.mapVals fun _ e => if e.learned then { e with hit := false } else e }).each
      (t.entries.filter fun e => e.2.learned && !e.2.hit) fun d ie => d.ageOut s n id slot 0 ie.1 ie.2
  | none => d

/-- Stored table `n` is swept up to the present. -/
def Dev.sweptNow (d : Dev) (n : Nat) : Dev := d.setTbl (d.tbl.mapVals fun k t => if k = n then { t with sweptAt := d.now } else t)

/-- AGE_SWEEP (R155): table `id` of slice `s` is swept for each multiple of half AGE_S that network time has reached since it was last swept; two sweeps leave what any more would. A table
shared by both slots is swept under the current epoch's declaration. -/
def Dev.ageSweep (d : Dev) (s slot id : Nat) : Dev :=
  match d.table? s slot id, d.declOf s slot id with
  | some (n, t), some x =>
    let shared := slot != d.curSlot && d.tblMap.look (tblKey s d.curSlot id) == some n
    let period := x.ageS * 500000000
    let m := sweepsOwed period t.sweptAt d.now
    if x.flags % 2 = 0 || x.ageS = 0 || shared || m = 0 then d
    else ((d.sweepOnce s slot id n).onlyIf (decide (2 ≤ m)) fun d => d.sweepOnce s slot id n).sweptNow n
  | _, _ => d

/-- AGE_SWEEP. -/
def execAgeSweep (slice : Fin 6) (slot : Fin 2) (table : Fin 64) (s : State) : Host.Outcome State Fault Refusal :=
  fin s (s.toDev.ageSweep slice.val slot.val table.val)

/-! Skim passes (R161, R162). -/

/-- The bytes of a shadow entry: EM 32, FLOW 64. -/
def shadowSize (kind : Nat) : Nat := if kind = 1 then 32 else 64

/-- The entries of the chunk at `i`: 64, or what is left of the range. -/
def Dev.skimLen (d : Dev) (s i : Nat) : Nat := min 64 (d.skimF s CLS_SKIM_CFG_END - i)

/-- The next chunk of the pass is fetched, or the pass ends (R161, R162). While no tag is free the pass waits. -/
def Dev.skimFetch (d : Dev) (s : Nat) : Dev :=
  match d.skim.look s with
  | none => d
  | some k =>
    match d.tbl.look k.tab with
    | none => d.skimEnds s 4
    | some t =>
      let f := 4096 + d.skimF s CLS_SKIM_CFG_PF
      let size := shadowSize t.decl.kind
      if d.skimF s CLS_SKIM_CFG_END ≤ k.next then d.skimEnds s 2
      else if d.fnHeld f then d
      else if !d.fnCan f then d.skimEnds s 4
      else match d.fnRead f (skimUnit s) false ((d.rd (CLS_SKIM_SHADOW s)).toNat + k.next * size) (d.skimLen s k.next * size) with
        | some d => d.setSkim (d.skim.put s { k with written := [] })
        | none => d

/-- The read/write fields of a write of CLS_SKIM_CTRL. -/
def Dev.skimFields (d : Dev) (s : Nat) (v : Word) : Dev := d.wr (CLS_SKIM_CTRL s) (v &&& 0x3FFFFFFF)

/-- SKIM_GO (R161): discarded while a pass runs; a table that is not EM or FLOW ends the pass in FAULT. -/
def Dev.skimGo (d : Dev) (s : Nat) (v : Word) : Dev :=
  let d := d.skimFields s v
  if (d.skim.look s).isSome then d else
  let d := d.wr (CLS_SKIM_STATUS s) 1
  match d.table? s (d.skimF s CLS_SKIM_CFG_SLOT) (d.skimF s CLS_SKIM_CFG_TABLE) with
  | some (n, t) =>
    if t.decl.kind ≤ 2 then (d.setSkim (d.skim.put s ⟨n, d.skimF s CLS_SKIM_CFG_START, [], 0, 0⟩)).skimFetch s else d.skimEnds s 4
  | none => d.skimEnds s 4

/-- SKIM_GO. -/
def execSkimGo (src : Src) (slice : Fin 6) (v : Word) (s : State) : Host.Outcome State Fault Refusal :=
  finSW s src slice.val (CLS_SKIM_CTRL slice.val) (s.toDev.skimGo slice.val v)

/-- SKIM_ABORT (R161). -/
def execSkimAbort (src : Src) (slice : Fin 6) (v : Word) (s : State) : Host.Outcome State Fault Refusal :=
  finSW s src slice.val (CLS_SKIM_CTRL slice.val)
    (let d := s.toDev.skimFields slice.val v
     if (d.skim.look slice.val).isSome then d.skimEnds slice.val 3 else d)

/-- `r` with HIT of its flags byte at `o` cleared. -/
def noHit (o : Nat) (r : List Byte) : List Byte := setBytes r o [(r.getD o 0) &&& 0xFB]

/-- What the comparison of an index finds (R161): 1 MISSING, 2 EXTRA, 3 MISMATCH, none. -/
def skimDiff (kind : Nat) (hw : Option Entry) (shadow : List Byte) : Option Nat :=
  let o := if kind = 1 then 0x16 else 0x32
  let valid := (shadow.getD o 0).toNat % 2 == 1
  match hw with
  | none => if valid then some 1 else none
  | some e =>
    if !valid then some 2
    else if noHit o ((e.toRec kind).take (shadowSize kind)) == noHit o shadow then none else some 3

/-- One index of a chunk is compared. -/
def Dev.skimOne (d : Dev) (s id : Nat) (t : Table) (i : Nat) (shadow : List Byte) : Dev :=
  match d.skim.look s with
  | none => d
  | some k =>
    let hw := t.entries.look i
    if k.written.contains i then d.satAdd (CLS_SKIM_STATUS s) CLS_SKIM_STATUS_SKIPPED_BUSY 1
    else if hw.any Entry.learned then d
    else match skimDiff t.decl.kind hw shadow with
      | none => d
      | some kind =>
        let d := d.satAdd (CLS_SKIM_STATUS s) CLS_SKIM_STATUS_DIFFS 1
        if d.fld (CLS_SKIM_CTRL s) CLS_SKIM_CTRL_DIFF_MAX ≤ k.wrote then d
        else (d.fnWrite (4096 + d.skimF s CLS_SKIM_CFG_PF) false ((d.rd (CLS_SKIM_DIFF s)).toNat + 16 * k.wrote)
          (leBytes 4 i ++ leBytes 1 kind ++ leBytes 1 id ++ [0, 0] ++ leBytes 8 d.now)).setSkim (d.skim.put s { k with wrote := k.wrote + 1 })

/-- SKIM_CHUNK (R161, R162): a fetched chunk is compared, once RATE_K lets it be, and the next one fetched; a read that ended with an error ends the pass in FAULT. -/
def Dev.skimChunk (d : Dev) (s : Nat) : Dev :=
  let rate := d.fld (CLS_SKIM_CTRL s) CLS_SKIM_CTRL_RATE_K
  match d.skim.look s with
  | none => d
  | some k =>
    match d.arrived.look (skimUnit s) with
    | none => if (d.pf (d.skimF s CLS_SKIM_CFG_PF)).reads.any fun r => r.2.unit == skimUnit s then d else d.skimFetch s
    | some r =>
      match r, d.tbl.look k.tab with
      | some data, some t =>
        if rate = 0 || d.refNs < k.rest || d.fnHeld (4096 + d.skimF s CLS_SKIM_CFG_PF) then d else
        let size := shadowSize t.decl.kind
        let n := d.skimLen s k.next
        let d := (d.setArrived (d.arrived.del (skimUnit s))).each (List.range n) fun d i =>
          d.skimOne s (d.skimF s CLS_SKIM_CFG_TABLE) t (k.next + i) (bytesAt data (i * size) size)
        match d.skim.look s with
        | some k => (d.setSkim (d.skim.put s { k with next := k.next + n, rest := d.refNs + n * 1000 / rate })).skimFetch s
        | none => d
      | _, _ => (d.setArrived (d.arrived.del (skimUnit s))).skimEnds s 4

/-- SKIM_CHUNK. -/
def execSkimChunk (slice : Fin 6) (s : State) : Host.Outcome State Fault Refusal := fin s (s.toDev.skimChunk slice.val)

end Sys2Proof.Machine
end

