-- ==== Sys2Proof/Machine/Classify.lean ====
section
/-! DEFINITION. Programs, learning and actions (06 R127 to R133, R140 to R156): what the classifier does with a frame, and how an action list acts, for the classifier
and for an engine's release alike. -/
namespace Sys2Proof.Machine

/-! Action words (R140, R141, R143). -/

/-- An action with its arguments resolved (R140). -/
structure Act where
  op : Nat
  a : Nat
  b : Nat
  c : Nat
  param : Nat
  deriving DecidableEq, Repr

/-- A word with PARAM put into its arguments (R140). -/
def ActWord.act (w : ActWord) (param : Nat) : Act :=
  ⟨w.op % 64, w.a, if w.op.testBit 6 then bitsOf param 32 16 else w.b, if w.op.testBit 7 then param % 2 ^ 32 else w.c, param⟩

/-- Whether the action is terminal (R141). -/
def Act.terminal (x : Act) : Bool := decide (0x10 ≤ x.op) && decide (x.op ≤ 0x14)

/-- Whether the operation exists and its arguments lie in R141's ranges, with no bit set that R141 gives no meaning (R141, R143). -/
def Act.ok (x : Act) : Bool :=
  match x.op with
  | 0x01 => !x.a.testBit 5
  | 0x02 => decide (x.c < 64)
  | 0x03 | 0x04 | 0x08 | 0x09 | 0x11 | 0x13 => true
  | 0x05 => decide (x.a ≤ 7)
  | 0x06 => decide (x.b ≤ 4095)
  | 0x07 => decide (x.a ≤ 63)
  | 0x0A => decide (x.a ≤ 1)
  | 0x10 => decide (x.a ≤ 1)
  | 0x12 => decide (x.a ≤ 15)
  | 0x14 => decide (x.a ≤ 1) && decide (x.b ≤ 63)
  | _ => false

/-- The actions of a list up to its first terminal action, which governs (R142); none when one of them is bad (R141, R143). -/
def takeList (param : Nat) : List ActWord → Option (List Act × Option Act)
  | [] => some ([], none)
  | w :: t =>
    let x := w.act param
    if w.op = 0 then takeList param t
    else if !x.ok then none
    else if x.terminal then some ([], some x)
    else (takeList param t).map fun r => (x :: r.1, r.2)

/-! Errors in entries (R156). -/

/-- A lookup of frame's slice `s` under slot `e` in table `id` reached the entry `x` at index `i` of stored table `n`, which has an uncorrectable error: a learned entry goes, an installed one stays. -/
def Dev.entryEcc (d : Dev) (s e id n i : Nat) (x : Entry) : Dev :=
  let (v, d) := d.fresh
  let (c, d) := d.fresh
  let d := d.onlyIf x.learned fun d => d.ageOut s n id e 2 i x
  let d := ((d.count (clsCnt s 9)).setF (CLS_STATUS s) CLS_STATUS_ECC_ERR 1).report (0x0400 + s) 2 v (sliceUnit s) c
  if d.flag (CLS_ECC_LOG s) CLS_ECC_LOG_VALID then d
  else (d.wr (CLS_ECC_LOG s) (BitVec.ofNat 64 (2 ^ 31 + b2n x.learned * 2 ^ 30 + e * 2 ^ 29 + i % 2 ^ 26))).setF (CLS_ECC_TABLE s) CLS_ECC_TABLE_TABLE id

/-- The entry a command names meets an uncorrectable error from now on (R156). -/
def Dev.markBad (d : Dev) (s e : Nat) : Option EntryRef → Dev
  | none => d
  | some r =>
    match d.table? s e r.table with
    | some (n, t) => match t.entries.look r.index with
      | some x => d.putTable n { t with entries := t.entries.put r.index { x with bad := true } }
      | none => d
    | none => d

/-- The index of the entry that a command names as met with an error, when it lies in table `id`. -/
def indexIn (id : Nat) : Option EntryRef → Option Nat
  | some r => if r.table = id then some r.index else none
  | none => none

/-! Learning (R150 to R154). -/

/-- The learn limits of port `p` under the body of slice `s` and slot `e` (R152). -/
def Dev.learnLim (d : Dev) (s e p : Nat) : LearnLim := (((d.bodies e s).cls).bind fun b => b.limits[p]?).getD ⟨0, 0, 0, 0⟩

/-- The units the learn bucket of port `p` of slice `s` holds at this tick (R152, as 05 R115). -/
def Dev.learnUnits (d : Dev) (s p : Nat) (l : LearnLim) : Nat :=
  let cap := l.burst * 1000000000
  match d.lrnTok.look (s * 16 + p) with
  | none => cap
  | some b => min cap (b.units + l.rate * 4 * (d.ntu.ticks - b.last))

/-- One learn is taken from the bucket. -/
def Dev.learnPays (d : Dev) (s p : Nat) (l : LearnLim) : Dev :=
  d.setLrnTok (d.lrnTok.put (s * 16 + p) ⟨d.learnUnits s p l - 1000000000, d.ntu.ticks⟩)

/-- A refused learn: its counter; with EXCESS 0 the frame is dropped (R153), said by the Boolean. -/
def Dev.learnRefused (d : Dev) (id s : Nat) (l : LearnLim) (c : Nat) : Dev × Bool :=
  let d := d.count (clsCnt s c)
  if l.excess = 0 then (d.dropAt id (clsCnt s 19), true) else (d, false)

/-- PARAM of a learned entry of frame `f` (R150). -/
def Frame.learnParam (f : Frame) : Nat := f.port + f.tf * 65536

/-- A LEARN step's miss (R151, R153): the attempt. -/
def Dev.learnNew (d : Dev) (id : Nat) (f : Frame) (x : TblDecl) (n : Nat) (t : Table) (key : List Byte) (ovr : Bool) : Dev × Bool :=
  let s := f.slice
  let l := d.learnLim s f.slot f.port
  if l.maxEntries ≤ d.learnedCount s f.port then d.learnRefused id s l 14
  else if d.learnUnits s f.port l < 1000000000 then d.learnRefused id s l 15
  else
    let (v, d) := d.fresh
    let e : Entry := ⟨key, [], 0, 0, 0, 0, x.learnList, f.learnParam, true, true, false⟩
    match t.place e v with
    | .inr _ => d.learnRefused id s l 16
    | .inl i => ((((d.putTable n (t.set i e)).learnPays s f.port l).count (clsCnt s 11)).learnEvent s 1 x.id f.slot (b2n ovr) i f.learnParam key, false)

/-- A LEARN step's hit on entry `e` at index `i` (R150): a static hit, a refresh, or a move. -/
def Dev.learnHit (d : Dev) (id : Nat) (f : Frame) (x : TblDecl) (n : Nat) (t : Table) (i : Nat) (e : Entry) (merged ovr : Bool) : Dev × Bool :=
  let s := f.slice
  if !e.learned then (d.count (clsCnt s 17), false)
  else if e.param % 65536 = f.port || merged then (d.putTable n (t.set i { e with hit := true }), false)
  else
    let l := d.learnLim s f.slot f.port
    if d.learnUnits s f.port l < 1000000000 then d.learnRefused id s l 15
    else ((((d.putTable n (t.set i { e with hit := true, param := f.learnParam })).learnPays s f.port l).count (clsCnt s 12)).learnEvent
      s 2 x.id f.slot (b2n ovr) i f.learnParam e.key, false)

/-- The recent learn attempts of slice `s`, those that began within 8 pipeline cycles of `cycle` (R154). -/
def Dev.recentLearns (d : Dev) (s cycle : Nat) : List (Nat × Nat × List Byte) :=
  (d.lrnRecent.lookD s []).filter fun r => decide (cycle ≤ r.1 + 8) && decide (r.1 ≤ cycle + 8)

/-! Programs (R127 to R133). -/

/-- How a program goes on after a step: the frame is gone, or the actions taken so far, whether the step hit, and a terminal action. -/
structure StepOut where
  dev : Dev
  gone : Bool
  hit : Bool
  acts : List Act
  terminal : Option Act

/-- A list is appended (R132); a bad action drops the frame (R141, R143). -/
def Dev.takeActs (d : Dev) (id : Nat) (f : Frame) (b : ClsBody) (list param : Nat) (hit : Bool) : StepOut :=
  match (b.lists[list]?).map fun l => takeList param l with
  | some (some (acts, term)) => ⟨d, false, hit, acts, term⟩
  | _ => ⟨d.dropAt id (clsCnt f.slice 7), true, hit, [], none⟩

/-- A step that looks its key up and appends a list (R131, R132, R156). -/
def Dev.lookStep (d : Dev) (id : Nat) (f : Frame) (b : ClsBody) (c : ClsFacts) (st : ClsStep) (key : Option (List Byte)) : StepOut :=
  let miss : StepOut := if st.missList = 0xFFFF then ⟨d, false, false, [], none⟩ else d.takeActs id f b st.missList 0 false
  match key, d.table? f.slice f.slot st.table with
  | some k, some (n, t) =>
    match t.badMet k (indexIn st.table c.ecc), t.hit? k with
    | some (i, e), _ => ⟨(d.entryEcc f.slice f.slot st.table n i e).frameOut id, true, true, [], none⟩
    | none, some (_, e) => d.takeActs id f b e.list e.param true
    | none, none => miss
  | _, _ => miss

/-- A LEARN step (R150 to R154): it acts on frames from network ports, on a learnable table, and appends nothing. -/
def Dev.learnStep (d : Dev) (id : Nat) (f : Frame) (c : ClsFacts) (st : ClsStep) (key : Option (List Byte)) : StepOut :=
  let s := f.slice
  let nothing : StepOut := ⟨d, false, false, [], none⟩
  match f.origin, key, d.declOf s f.slot st.table, d.table? s f.slot st.table with
  | .net _, some k, some x, some (n, t) =>
    if x.flags % 2 = 0 then nothing else
    let recent := d.recentLearns s c.cycle
    let merged := recent.any fun r => r.2.1 == n && r.2.2 == k
    match t.badMet k (indexIn st.table c.ecc), t.hit? k with
    | some (i, e), _ => ⟨(d.entryEcc s f.slot st.table n i e).frameOut id, true, true, [], none⟩
    | none, some (i, e) => let (d, gone) := d.learnHit id f x n t i e merged c.overridden; ⟨d, gone, true, [], none⟩
    | none, none =>
      if merged then ⟨d, false, true, [], none⟩ else
      let (d, gone) := (d.setLrnRecent (d.lrnRecent.put s ((c.cycle, n, k) :: recent))).learnNew id f x n t k c.overridden
      ⟨d, gone, false, [], none⟩
  | _, _, _, _ => nothing

/-- Whether a frame was received from a network port. -/
def Frame.fromNet (f : Frame) : Bool := match f.origin with | .net _ => true | _ => false

/-- A program's steps (R127, R132); a LEARN step does nothing for a frame from elsewhere (R150): none when the frame is gone, else the pending actions and the terminal action. -/
def Dev.runSteps (d : Dev) (id : Nat) (f : Frame) (b : ClsBody) (c : ClsFacts) : List ClsStep → List Act → Dev × Option (List Act × Option Act)
  | [], acts => (d, some (acts, none))
  | st :: rest, acts =>
    let kb := ((b.tables.find? fun t => t.id == st.table).map TblDecl.keyBytes).getD 0
    let key := f.keyOf st.fields kb
    if (key.isNone && st.skipAbsent) || (st.learn && !f.fromNet) then d.runSteps id f b c rest acts
    else
      let r := if st.learn then d.learnStep id f c st key else d.lookStep id f b c st key
      let acts := acts ++ r.acts
      if r.gone then (r.dev, none)
      else if r.terminal.isSome then (r.dev, some (acts, r.terminal))
      else if (r.hit && st.stopHit) || (!r.hit && st.stopMiss) then (r.dev, some (acts, none))
      else r.dev.runSteps id f b c rest acts

/-! Edits of the frame (R142 to R145). -/

/-- A byte of a frame being edited: where it stood when the frame was parsed, or the push it belongs to and its place there. -/
structure Cell where
  org : Option Nat
  push : Nat
  at_ : Nat
  byte : Byte
  deriving DecidableEq, Repr

/-- The frame's bytes as cells. -/
def cellsOf (data : List Byte) : List Cell := data.zipIdx.map fun x => ⟨some x.2, 0, 0, x.1⟩

/-- The bytes of cells. -/
def cellBytes (cs : List Cell) : List Byte := cs.map Cell.byte

/-- The bytes that stood at `[off, off + xs.length)` become `xs`. -/
def editOrg (cs : List Cell) (off : Nat) (xs : List Byte) : List Cell :=
  cs.map fun c => match c.org with
    | some o => if off ≤ o && o < off + xs.length then { c with byte := xs.getD (o - off) 0 } else c
    | none => c

/-- The bytes that stood at `[off, off + n)`. -/
def orgBytes (cs : List Cell) (off n : Nat) : List Byte :=
  cellBytes (cs.filter fun c => c.org.any fun o => decide (off ≤ o) && decide (o < off + n))

/-- The bytes that stood at `[off, off + n)` are removed. -/
def popOrg (cs : List Cell) (off n : Nat) : List Cell :=
  cs.filter fun c => !(c.org.any fun o => decide (off ≤ o) && decide (o < off + n))

/-- `new` is put before the first byte that stood at or beyond `off`. -/
def pushAt (new : List Cell) (off : Nat) : List Cell → List Cell
  | [] => new
  | c :: t => if c.org.any fun o => decide (off ≤ o) then new ++ c :: t else c :: pushAt new off t

/-- Edits under way: the cells, the stack indices removed and edited, the templates pushed, and the reason of the first DEC that met 0 or 1 (R144). -/
structure Edit where
  cells : List Cell
  gone : List Nat
  edited : List Nat
  pushed : List Template
  decReason : Option Nat
  deriving DecidableEq, Repr

/-- `v`'s low `w` bits at bit `off` of `bs`, most significant first (R145). -/
def setBitField (bs : List Byte) (off w v : Nat) : List Byte :=
  let n := 8 * bs.length
  let lo := 2 ^ (n - off - w)
  let x := beNat bs
  beBytes bs.length (x - x / lo % 2 ^ w * lo + v % 2 ^ w * lo)

/-- A template's header with its patch (R145). -/
def Template.header (t : Template) (patch : Nat) : List Byte := setBitField (bytesAt t.bytes 0 t.len) t.patchOff t.patchWidth patch

/-- The bytes a REWRITE writes (R141). -/
def Act.rewriteBytes (x : Act) : List Byte :=
  match x.a / 64 % 4 with
  | 0 => beBytes 1 x.c
  | 1 => beBytes 2 x.c
  | 2 => beBytes 4 x.c
  | _ => beBytes 6 (x.param % 2 ^ 48)

/-- One edit (R141, R143, R144); none for a bad action. `limit` bounds F after a PUSH, until a DEC has replaced the terminal action. -/
def Edit.apply (w : Edit) (m : ParseMeta) (ts : List Template) (limit : Nat) (x : Act) : Option Edit :=
  let i := if x.op = 1 then x.a % 32 else x.a
  let hdr := if w.gone.contains i then none else m.stack[i]?
  match x.op with
  | 0x01 => hdr.bind fun h =>
    let bs := x.rewriteBytes
    if h.len < x.b + bs.length then none else some { w with cells := editOrg w.cells (h.off + x.b) bs, edited := i :: w.edited }
  | 0x02 => hdr.bind fun h =>
    if h.len < x.b + 1 then none else
    let v := beNat (orgBytes w.cells (h.off + x.b) 1)
    if v ≤ 1 then some { w with decReason := some (w.decReason.getD x.c) }
    else some { w with cells := editOrg w.cells (h.off + x.b) (beBytes 1 (v - 1)), edited := i :: w.edited }
  | 0x03 =>
    if m.stack.length < x.a || w.gone.contains x.a then none else
    (ts[x.b]?).bind fun t =>
      if (if w.decReason.isSome then 16384 else limit) < w.cells.length + t.len then none else
      let off := ((m.stack[x.a]?).map StackEnt.off).getD m.payloadOff
      let k := w.pushed.length + 1
      some { w with cells := pushAt ((t.header x.c).zipIdx.map fun b => ⟨none, k, b.2, b.1⟩) off w.cells, pushed := w.pushed ++ [t] }
  | 0x04 => hdr.map fun h => { w with cells := popOrg w.cells h.off h.len, gone := i :: w.gone, edited := w.edited.filter (· != i) }
  | _ => some w

/-- Every edit in pending order. -/
def Edit.applyAll (m : ParseMeta) (ts : List Template) (limit : Nat) : List Act → Edit → Option Edit
  | [], w => some w
  | x :: t, w => (w.apply m ts limit x).bind (Edit.applyAll m ts limit t)

/-- The bytes of push `k` become `bs`, from its byte `off` on. -/
def editPush (cs : List Cell) (k off : Nat) (bs : List Byte) : List Cell :=
  cs.map fun c => if c.org.isNone && c.push = k && off ≤ c.at_ && c.at_ < off + bs.length then { c with byte := bs.getD (c.at_ - off) 0 } else c

/-- The length fields of the pushed headers (R145): from the header's start to the frame's end, after all edits. -/
def Edit.lenFix (w : Edit) : Edit :=
  { w with cells := w.pushed.zipIdx.foldl (fun cs tk =>
      if tk.1.lenfixOff = 0xFFFF then cs else
      let start := (cs.findIdx? fun c => c.org.isNone && c.push == tk.2 + 1).getD 0
      editPush cs (tk.2 + 1) tk.1.lenfixOff (beBytes 2 (unsignedOf 16 (Int.ofNat (cs.length - start) + tk.1.lenfixAdd)))) w.cells }

/-- Ones'-complement sum of a byte string's 16-bit words. -/
def onesSum : List Byte → Nat
  | [] => 0
  | [a] => a.toNat * 256
  | a :: b :: t => a.toNat * 256 + b.toNat + onesSum t

/-- A sum folded to 16 bits with end-around carry. -/
def fold16 : Nat → Nat → Nat
  | 0, x => x % 65536
  | n + 1, x => if x < 65536 then x else fold16 n (x / 65536 + x % 65536)

/-- The IPv4 header checksum of a header whose checksum field counts as 0. -/
def ipv4Sum (h : List Byte) : Nat := 0xFFFF - fold16 8 (onesSum (setBytes h 10 [0, 0]))

/-- Step 3 of R142: the checksums of the edited headers of HDR_ID `hid` and of the pushed headers whose template is an IPv4 header. -/
def Edit.checksums (w : Edit) (m : ParseMeta) (hid : Nat) : Edit :=
  let own := (dedup w.edited).filterMap fun i => (m.stack[i]?).bind fun h => if h.hdr = hid && hid != 0 && 12 ≤ h.len then some h else none
  let cs := own.foldl (fun cs h => editOrg cs (h.off + 10) (beBytes 2 (ipv4Sum (orgBytes cs h.off h.len)))) w.cells
  { w with cells := w.pushed.zipIdx.foldl (fun cs tk =>
      if !tk.1.ipv4 then cs else
      editPush cs (tk.2 + 1) 10 (beBytes 2 (ipv4Sum (cellBytes (cs.filter fun c => c.org.isNone && c.push == tk.2 + 1))))) cs }

/-! The pending actions take effect (R142). -/

/-- Step 1 of R142 for one action: user words, TF, definitions, policers. -/
def stepOne (f : Frame) (x : Act) : Frame :=
  match x.op with
  | 0x05 => { f with user := setNth f.user x.a (x.c % 2 ^ 32) }
  | 0x06 => if f.tf = 0xFFFF then { f with tf := x.b } else f
  | 0x08 => { f with police := f.police ++ [x.c] }
  | 0x09 => { f with meters := f.meters ++ [x.b] }
  | _ => f

/-- The SET_TF actions of a pass that are ignored (R146). -/
def ignoredTf (f : Frame) (acts : List Act) : Nat :=
  let n := (acts.filter fun x => x.op == 6).length
  if f.tf = 0xFFFF then n - 1 else n

/-- The largest F a PUSH may leave, under the pending terminal action (R143). -/
def Frame.pushLimit (f : Frame) (term : Option Act) : Nat :=
  match term with
  | some x => if x.op = 0x10 && x.a = 0 && x.b < 16 then min 16384 (f.facts.maxFrames.getD x.b 0 - 4) else 16384
  | none => 16384

/-- A mirror copy of frame `f` by session `m` (R148). -/
def mirrorOf (f : Frame) (m : MirrorSes) : Frame :=
  let n := if m.trunc = 0 then f.len else min m.trunc f.len
  { f with data := f.data.take n, origin := .mirror, wantTs := false, police := [], meters := [], orderKey := none, stage := .toQueue ⟨m.kind == 1, m.target, m.queue⟩ }

/-- What a terminal action asks for; none for a DROP or for no terminal action. -/
def Act.next (x : Act) : Option Terminal :=
  match x.op with
  | 0x10 => some (.queue ⟨x.a == 1, x.b, x.c⟩)
  | 0x11 => some (.steer x.b)
  | 0x12 => some (.recirc x.a)
  | 0x14 => some (.exception (x.a == 1) x.b)
  | _ => some .drop

/-- How a frame goes on after its actions: a CIPHER action, then what its terminal action asks for. -/
structure Onward where
  cipher : Option CiphAct
  next : Terminal
  deriving DecidableEq, Repr

/-- Where the header of stack index `i` now begins and the header that ends there (11 R306): one pushed just before it, or the stack entry before it. -/
def Edit.ciphPlace (w : Edit) (m : ParseMeta) (i : Nat) : Option Nat × Option (Nat × Nat) :=
  let first (h : StackEnt) : Option Nat := w.cells.findIdx? fun c => c.org.any fun o => decide (h.off ≤ o) && decide (o < h.off + h.len)
  match (if w.gone.contains i then none else m.stack[i]?).bind first with
  | none => (none, none)
  | some n =>
    if n = 0 then (some n, none) else
    match w.cells[n - 1]? with
    | some c =>
      if c.org.isNone then
        let b := w.cells.findIdx fun x => x.org.isNone && x.push == c.push
        (some n, some (b, n - b))
      else if i = 0 ∨ w.gone.contains (i - 1) then (some n, none)
      else match m.stack[i - 1]? with
        | some h => (some n, (first h).bind fun b => if c.org.any fun o => o + 1 == h.off + h.len then some (b, n - b) else none)
        | none => (some n, none)
    | none => (some n, none)

/-- Whether a profile keeps R301: OPCODE 1 to 4, its direction, no other bit. -/
def profileOk (x : Act) : Bool :=
  decide (x.b < 0x1000) && bitsOf x.b 5 3 == 0 && (let o := bitsOf x.b 8 4; decide (1 ≤ o) && decide (o ≤ 4) && (o % 2 == 0) == (x.a == 1))

/-- The pending actions take effect in the order of R142 (`firstPass` for a host frame at its counting point, R441). None when the frame is gone, else how it goes on. -/
def Dev.applyActs (d : Dev) (id : Nat) (f : Frame) (b : ClsBody) (acts : List Act) (term : Option Act) (firstPass : Bool) : Dev × Option Onward :=
  let s := f.slice
  let d := d.count (clsCnt s 6) (ignoredTf f acts)
  let g := acts.foldl stepOne f
  let d := if (f.tf == 0xFFFF && g.tf != 0xFFFF) || firstPass then d.meterFrame g else d
  let start : Edit := ⟨cellsOf g.data, [], [], [], none⟩
  match Edit.applyAll g.pmeta b.templates (g.pushLimit term) acts start with
  | none => ((d.putFrame id g).dropAt id (clsCnt s 7), none)
  | some w =>
    let w := w.lenFix.checksums g.pmeta b.ipv4Hdr
    let g := { g with data := cellBytes w.cells }
    let d := d.putFrame id g
    let d := d.each (acts.filter fun x => x.op == 7) fun d x =>
      match b.mirrors[x.a]? with
      | some m => (d.newFrame (mirrorOf g m)).count (clsCnt s 5)
      | none => d
    let ciph := acts.filter fun x => x.op == 0x0A
    let next := match w.decReason with
      | some r => some (Terminal.exception false r)
      | none => term.bind Act.next
    match next with
    | none => (d.dropAt id (clsCnt s 1), none)
    | some t =>
      match ciph with
      | [] => (d, some ⟨none, t⟩)
      | x :: more =>
        if !more.isEmpty || !profileOk x then ((d.count (cphCnt s 0)).dropAt id (cphCnt s 7), none)
        else
          let pl := w.ciphPlace g.pmeta (x.b % 32)
          (d, some ⟨some ⟨x.b, x.c, pl.1, pl.2, 1, 0⟩, t⟩)

/-- Whether the target of a QUEUE is absent or disabled (R149; 01 R30). -/
def Dev.targetDown (d : Dev) (t : QTarget) : Bool :=
  if t.host then decide (t.target < 4096) && d.fnState t.target != 2 else decide (t.target < 16) && decide (d.portState t.target ≤ 1)

/-- The terminal action of frame `id` is taken (R141, R142, R147, R149); `source` names the unit for the exception path (05 R117). -/
def Dev.takeTerminal (d : Dev) (id : Nat) (f : Frame) (source : Nat) (t : Terminal) : Dev :=
  let s := f.slice
  match t with
  | .queue q => if d.targetDown q then d.dropAt id (clsCnt s 8) else d.putFrame id { f with stage := .toQueue q }
  | .steer g => d.steer id s f.slot g
  | .recirc r => if 4 ≤ f.pass then (d.count (clsCnt s 3)).dropAt id (clsCnt s 4)
      else (d.putFrame id { f with pass := f.pass + 1, stage := .stored r }).count (clsCnt s 3)
  | .drop => d.dropAt id (clsCnt s 2)
  | .exception fw reason => d.exception id f source reason fw

/-- Frame `id` goes on: to the cipher block, or its terminal action is taken. -/
def Dev.goOn (d : Dev) (id source : Nat) (o : Onward) : Dev :=
  match d.frame? id with
  | none => d
  | some f =>
    match o.cipher with
    | some c => (d.putFrame id { f with stage := .cipher { c with source := source, entered := d.nextOp } o.next }).setNextOp (d.nextOp + 1)
    | none => d.takeTerminal id f source o.next

/-- The program of a frame (R127): its steps, from the body. -/
def ClsBody.program (b : ClsBody) (root : Nat) : List ClsStep :=
  match b.programs[root]? with
  | some (base, n) => (b.steps.drop base).take n
  | none => []

/-- CLASSIFY (R127, R142). An empty classification body gives NO_VERDICT (03 R60). -/
def Dev.classify (d : Dev) (id : Nat) (f : Frame) (c : ClsFacts) : Dev :=
  let s := f.slice
  let d := ((d.count (clsCnt s 0)).count (clsCnt s 10) c.flowMiss).markBad s f.slot c.ecc
  let host := match f.origin with | .ring _ _ => f.pass == 1 | _ => false
  match (d.bodies f.slot s).cls with
  | none => (d.onlyIf host fun d => d.meterFrame f).dropAt id (clsCnt s 1)
  | some b =>
    match d.runSteps id f b c (b.program f.pmeta.root) [] with
    | (d, none) => d
    | (d, some (acts, term)) =>
      match d.applyActs id f b acts term host with
      | (d, none) => d
      | (d, some o) => d.goOn id 1 o

/-- CLASSIFY, in the frame's order (01 R22). -/
def execClassify (frame : Nat) (c : ClsFacts) (s : State) : Host.Outcome State Fault Refusal :=
  match s.frame? frame with
  | some f =>
    match f.stage with
    | .parsed => fin s (if s.behind frame f then s.toDev else s.classify frame f c)
    | _ => fin s s.toDev
  | none => fin s s.toDev

end Sys2Proof.Machine
end

