-- ==== Sys2Proof/Machine/Operands.lean ====
section
/-! DEFINITION. Operands of the Cloig instructions (07 R168 to R171, R176 to R178, R187): immediates, the engine address map, reads and writes
of engine memory, of the header deck and of the metadata window. -/
namespace Sys2Proof.Machine

/-- The number of a thread (07 R164). -/
def thKey (t : ThId) : Nat := thrKey t.slice.val t.pos.val t.thread.val

/-- The low `w` bits of `n`, sign-extended (R177). -/
def sext (w n : Nat) : Word := BitVec.ofInt 64 (signedOf w n)

/-- The bytes SZ names: 1, 2, 4 or 8 (R177). -/
def szBytes (sz : Fin 4) : Nat := 2 ^ sz.val

/-- CNT registers: 0 means 8 (R177). -/
def cntOf (c : Fin 8) : Nat := if c.val = 0 then 8 else c.val

/-- `bs` as a number, in network byte order when `be` (R171, R186). -/
def ordNat (be : Bool) (bs : List Byte) : Nat := if be then beNat bs else leNat bs

/-- The low `n` bytes of `v`, in network byte order when `be` (R171, R186). -/
def ordBytes (be : Bool) (n v : Nat) : List Byte := if be then beBytes n v else leBytes n v

/-! Trap causes (R211). -/

def causeIllegal : Nat := 0x01
def causePrivileged : Nat := 0x02
def causeAlign : Nat := 0x03
def causeAccess : Nat := 0x04
def causeBank : Nat := 0x05
def causePcRange : Nat := 0x06
def causeNoFrame : Nat := 0x07
def causeFrameBound : Nat := 0x08
def causeTable : Nat := 0x09
def causeChannel : Nat := 0x0A
def causeNoDeadline : Nat := 0x0B
def causeNotStopped : Nat := 0x0C
def causeEccData : Nat := 0x10
def causeEccFetch : Nat := 0x11
def causeKeySpent : Nat := 0x12
def causeCipherFault : Nat := 0x13
def causeBreak : Nat := 0x1F

/-! The memories (R168; 09 R246, R247): addresses in `State.mem`. -/

/-- Engine-local memory of physical engine `n`, its code regions first. -/
def localAt (n off : Nat) : Nat := 2 ^ 48 + n * 2 ^ 18 + off

/-- The quad memory of position `p` of slice `s`. -/
def quadOf (s p : Nat) : Nat := 8 * s + p / 4
def quadAt (q off : Nat) : Nat := 2 * 2 ^ 48 + q * 2 ^ 20 + off

/-- Bank `b` of cluster `k`: its device address (09 R247). -/
def bankAt (k b off : Nat) : Nat := 0xFF0000000000 + k * 0x400000 + b * 0x40000 + off

/-- What an engine address reaches (R168). -/
inductive Spot where
  /-- A memory cell of `State.mem`, and the bank of the slice it lies in. -/
  | mem (a : Nat) (bank : Option Nat)
  | deck (off : Nat)
  | window (off : Nat)
  deriving DecidableEq, Repr

/-- The row of R168 that holds all of `n` bytes at engine address `a`, the code regions left out (R170). -/
def Dev.spot? (d : Dev) (s p a n : Nat) : Option Spot :=
  let inRow (lo hi : Nat) : Bool := decide (lo ≤ a) && decide (a + n ≤ hi)
  if inRow 0x20000 0x40000 then some (.mem (localAt (d.physOf s p) a) none)
  else if inRow 0x100000 0x200000 then some (.mem (quadAt (quadOf s p) (a - 0x100000)) none)
  else if inRow 0x400000 0x800000 then
    some (.mem (bankAt (clusterOf s p) 0 (a - 0x400000)) (some (p / 16 * 16 + (a - 0x400000) / 0x40000)))
  else if inRow 0x1000000 0x1000100 then some (.deck (a - 0x1000000))
  else if inRow 0x1000100 0x10001A0 then some (.window (a - 0x1000100))
  else none

/-- What an access meets before it takes place: a trap with its cause and fault source, a wait for a bank (09 R253 step 4), or its place. -/
inductive Reach where
  | trap (cause : Nat) (fault : Option Nat)
  | held (bank : Nat)
  | at_ (x : Spot)
  deriving DecidableEq, Repr

/-- The banks of a slice that `n` bytes at offset `o` of a cluster's bank window touch. -/
def banksOf (p o n : Nat) : List Nat := (List.range ((o + n - 1) / 0x40000 + 1 - o / 0x40000)).map fun i => p / 16 * 16 + o / 0x40000 + i

/-- The thread holds an access on bank `i`. -/
def Thr.waitsOn (x : Thr) (i : Nat) : Bool := x.heldAcc && x.heldBank == i

/-- The places taken among the accesses held on bank `i` by the other threads of thread `k`'s position. -/
def Dev.heldPlaces (d : Dev) (k i : Nat) : List Nat :=
  (((List.range 8).map fun t => k / 8 * 8 + t).filter fun q => q != k && (d.thrAt q).waitsOn i).map fun q => (d.thrAt q).heldSeq

/-- Whether an access held on bank `i` before thread `k`'s own goes first (09 R253 step 5). -/
def Dev.behindHeld (d : Dev) (k i : Nat) : Bool :=
  let x := d.thrAt k
  (d.heldPlaces k i).any fun q => !(x.heldSeq != 0 && x.heldBank == i) || decide (q < x.heldSeq)

/-- Thread `k`'s access is held on bank `i`, behind those held there before it (09 R253 step 4). -/
def Dev.holds (d : Dev) (k i : Nat) : Dev :=
  let n := (d.heldPlaces k i).foldl max 0 + 1
  d.updThr k fun x => { x with heldAcc := true, heldBank := i, heldSeq := if x.heldSeq != 0 && x.heldBank == i then x.heldSeq else n }

/-- What bank `i` of slice `s` stops thread `k` of position `p` with (09 R252, R253): nothing when the position owns it and no held access goes first, a wait while a handover to the
position drains, else a trap. -/
def Dev.bankStops (d : Dev) (k s p i : Nat) : Option Reach :=
  let r := ENG_BANK_STATUS s i
  let drains := d.flag r ENG_BANK_STATUS_DRAINING
  if !drains && d.fld r ENG_BANK_STATUS_KIND == 1 && d.fld r ENG_BANK_STATUS_ID == p then (if d.behindHeld k i then some (.held i) else none)
  else if drains && d.fld r ENG_BANK_STATUS_PEND_KIND == 1 && d.fld r ENG_BANK_STATUS_PEND_ID == p then some (.held i)
  else some (.trap causeBank none)

/-- The fault source of the word at memory address `a` (R212). -/
def memSource (a : Nat) : Nat :=
  if 2 * 2 ^ 48 ≤ a then 0x0600 + (a - 2 * 2 ^ 48) / 2 ^ 20
  else if 2 ^ 48 ≤ a then 0x0500 + (a - 2 ^ 48) / 2 ^ 18
  else 0x0700 + (a - 0xFF0000000000) / 0x40000

/-- The fault source of the first poisoned word among those that hold `n` bytes at memory address `a`: that of the engine it came from, or its own (R212; 08 R243; 09 R248). -/
def Dev.poisonIn (d : Dev) (a n : Nat) : Option Nat :=
  (List.range ((a + n - 1) / 8 + 1 - a / 8)).findSome? fun i => (d.poison.look (a / 8 + i)).map fun f => if f = 0 then memSource ((a / 8 + i) * 8) else f

/-- An access of `n` bytes at engine address `a` by thread `k` (R168 to R170, R187): `store` and `atomic` for its kind, `aligned` when it must be aligned to its size, `deckEnd` when a store
must lie below F. The checks stand in this order: address, alignment, ownership, frame, F, errors (log entry 16). A load, an atomic or a narrow store that meets a poisoned word traps (09 R248). -/
def Dev.reach (d : Dev) (k a n : Nat) (store atomic aligned : Bool) : Reach :=
  let s := thrSlice k
  let p := thrPos k
  let x := d.thrAt k
  match (if n = 0 then none else d.spot? s p a n) with
  | none => .trap causeAccess none
  | some (.mem m bank) =>
    if aligned && a % n != 0 then .trap causeAlign none else
    match (if bank.isSome then banksOf p (a - 0x400000) n else []).findSome? (d.bankStops k s p) with
    | some r => r
    | none =>
      if store && !atomic && n == 8 then .at_ (.mem m bank)
      else match d.poisonIn m n with
        | some f => .trap causeEccData (some f)
        | none => .at_ (.mem m bank)
  | some (.deck o) =>
    if atomic then .trap causeAccess none
    else match x.frame.bind d.frame? with
      | none => .trap causeNoFrame none
      | some f => if store && decide (f.len < x.win + o + n) then .trap causeFrameBound none else .at_ (.deck o)
  | some (.window o) =>
    if atomic || (store && decide (o < 0x80)) then .trap causeAccess none
    else if aligned && a % n != 0 then .trap causeAlign none
    else if (x.frame.bind d.frame?).isNone then .trap causeNoFrame none
    else .at_ (.window o)

/-- The held frame is locked by a FRAME-flagged ticket (R202). -/
def Thr.locked (x : Thr) : Bool := Nat.land x.busy x.frameTk != 0

/-- The bytes thread `k` reads at a place (R187); of a locked frame, as it stood at submission (R202). -/
def State.bytesOf (s : State) (k : Nat) (x : Spot) (n : Nat) : List Byte :=
  let t := s.thrAt k
  let f := t.frame.bind s.frame?
  match x with
  | .mem a _ => s.mem.readN a n
  | .deck o => bytesAt (if t.locked then t.shot else (f.map Frame.data).getD []) (t.win + o) n
  | .window o => bytesAt ((f.map Frame.meta160).getD []) o n

/-- `s` with its device changed by `f`. -/
def State.onDev (s : State) (f : Dev → Dev) : State := { s with toDev := f s.toDev }

/-- The user words with the bytes from `o` replaced (R187). -/
def setUser (u : List Nat) (o : Nat) (bs : List Byte) : List Nat :=
  let all := setBytes (u.flatMap fun w => leBytes 4 w) o bs
  (List.range 8).map fun i => leAt all (4 * i) 4

/-- The bytes at a place become `bs`; a 64-bit store clears the word's poison (09 R248). -/
def State.putBytes (s : State) (k : Nat) (x : Spot) (bs : List Byte) : State :=
  match x with
  | .mem a _ =>
    { s with mem := s.mem.writeN a bs, toDev := if bs.length = 8 then s.toDev.setPoison (s.poison.del (a / 8)) else s.toDev }
  | .deck o => s.onDev fun d => match (d.thrAt k).frame with
    | some id => d.updFrame id fun f => { f with data := setBytes f.data ((d.thrAt k).win + o) bs }
    | none => d
  | .window o => s.onDev fun d => match (d.thrAt k).frame with
    | some id => d.updFrame id fun f => { f with user := setUser f.user (o - 0x80) bs }
    | none => d

end Sys2Proof.Machine
end

