-- ==== Sys2Proof/Machine/Flags.lean ====
section
/-! DEFINITION. What the Cloig instructions compute (07 R167, R180 to R184, R188): no instruction sets a flag; comparisons write predicates.
Conditions, predicate logic, the integer operations, the atomic operations. -/
namespace Sys2Proof.Machine

/-- The conditions of R183. -/
def condHolds (cc : Nat) (a b : Word) : Bool :=
  match cc with
  | 0 => a == b
  | 1 => a != b
  | 2 => a.slt b
  | 3 => !a.slt b
  | 4 => a.ult b
  | 5 => !a.ult b
  | 6 => (a &&& b) != 0
  | _ => (a &&& b) == 0

/-- The predicate operations of R184. -/
def plogOp (fn : Nat) (a b : Bool) : Bool :=
  match fn with
  | 0 => a && b
  | 1 => a || b
  | 2 => a != b
  | 3 => a && !b
  | 4 => !a
  | 5 => true
  | 6 => false
  | _ => a || !b

/-- Leading zero bits of the low `n` bits. -/
def clzFrom (v : Word) : Nat → Nat
  | 0 => 0
  | n + 1 => if v.getLsbD n then 0 else clzFrom v n + 1

/-- Trailing zero bits, of the bits from 64 - `n` on. -/
def ctzFrom (v : Word) : Nat → Nat
  | 0 => 0
  | n + 1 => if v.getLsbD (63 - n) then 0 else ctzFrom v n + 1

/-- Set bits. -/
def popCount (v : Word) : Nat := ((List.range 64).filter fun i => v.getLsbD i).length

/-- The low `n` bytes reversed. -/
def bswap (n : Nat) (v : Word) : Word := BitVec.ofNat 64 (beNat (leBytes n v.toNat))

/-- The sum of the four 16-bit parts of a number. -/
def parts16 (x : Nat) : Nat := x % 2 ^ 16 + x / 2 ^ 16 % 2 ^ 16 + x / 2 ^ 32 % 2 ^ 16 + x / 2 ^ 48 % 2 ^ 16

/-- CSFOLD (R180): the sum with its carry out, folded to 16 bits with end-around carry. -/
def csfold (a b : Word) : Word :=
  let t := a.toNat + b.toNat
  let s := (t + t / 2 ^ 64) % 2 ^ 64
  BitVec.ofNat 64 (parts16 (parts16 (parts16 s)))

/-- The one-operand operations of R180: RB must be g0. -/
def aluUnary (fn : Nat) : Bool := decide (0x13 ≤ fn) && decide (fn ≤ 0x1B)

/-- RD by FN (R180); none for an FN that is not defined. -/
def aluOp (fn : Nat) (a b : Word) : Option Word :=
  let sh := b.toNat % 64
  let lo (v : Word) : Nat := v.toNat % 2 ^ 32
  match fn with
  | 0x00 => some (a + b)
  | 0x01 => some (a - b)
  | 0x02 => some (a &&& b)
  | 0x03 => some (a ||| b)
  | 0x04 => some (a ^^^ b)
  | 0x05 => some (a &&& ~~~b)
  | 0x06 => some (a <<< sh)
  | 0x07 => some (a >>> sh)
  | 0x08 => some (a.sshiftRight sh)
  | 0x09 => some (a.rotateLeft sh)
  | 0x0A => some (a.rotateRight sh)
  | 0x0B => some (a * b)
  | 0x0C => some (BitVec.ofNat 64 (a.toNat * b.toNat / 2 ^ 64))
  | 0x0D => some (if a.slt b then a else b)
  | 0x0E => some (if a.slt b then b else a)
  | 0x0F => some (if a.ult b then a else b)
  | 0x10 => some (if a.ult b then b else a)
  | 0x11 => some (BitVec.ofNat 64 ((lo a + lo b) % 2 ^ 32))
  | 0x12 => some (BitVec.ofNat 64 ((lo a + 2 ^ 32 - lo b) % 2 ^ 32))
  | 0x13 => some (BitVec.ofNat 64 (clzFrom a 64))
  | 0x14 => some (BitVec.ofNat 64 (ctzFrom a 64))
  | 0x15 => some (BitVec.ofNat 64 (popCount a))
  | 0x16 => some (bswap 8 a)
  | 0x17 => some (bswap 4 a)
  | 0x18 => some (bswap 2 a)
  | 0x19 => some (sext 8 a.toNat)
  | 0x1A => some (sext 16 a.toNat)
  | 0x1B => some (sext 32 a.toNat)
  | 0x1C => some (csfold a b)
  | _ => none

/-- The value an atomic operation writes (R188), on `w` bits; CAS compares with the expected value `e`. -/
def atomOp (fn w old opd e : Nat) : Nat :=
  let a := signedOf w old
  let b := signedOf w opd
  match fn with
  | 0 => opd
  | 1 => (old + opd) % 2 ^ w
  | 2 => Nat.land old opd
  | 3 => Nat.lor old opd
  | 4 => Nat.xor old opd
  | 5 => if a < b then old else opd
  | 6 => if a < b then opd else old
  | 7 => min old opd
  | 8 => max old opd
  | _ => if old = e then opd else old

/-- BFX (R182): bits above bit 63 read 0. -/
def bitExtract (v : Word) (at_ wm1 : Nat) : Word := BitVec.ofNat 64 (v.toNat / 2 ^ at_ % 2 ^ (wm1 + 1))

/-- BFI (R182): bits above bit 63 are discarded. -/
def bitInsert (rd v : Word) (at_ wm1 : Nat) : Word :=
  let m : Word := BitVec.ofNat 64 ((2 ^ (wm1 + 1) - 1) * 2 ^ at_)
  (rd &&& ~~~m) ||| ((v <<< at_) &&& m)

end Sys2Proof.Machine
end

