-- ==== Sys2Proof/Machine/Issue.lean ====
section
/-! DEFINITION. The issue of one instruction (07 R168, R173, R176, R190; 08 R214, R241): whether the thread may issue, its counts, the fetch's checks, the
predicate, and the meaning's effect. The word itself is the command's operand (log entry 17). -/
namespace Sys2Proof.Machine

/-- The weight of thread `k` in compatibility mode (08 R217, R218). -/
def Dev.weight (d : Dev) (k : Nat) : Nat := (d.rd (ENG_SWEEP (thrSlice k) (thrPos k))).toNat / 16 ^ thrNo k % 16

/-- Whether the issue rule in force lets thread `k` issue at all (08 R214, R216 to R218): in native mode an owner of a slot or a sweep thread, in compatibility mode one of weight above 0. -/
def Dev.hasTurn (d : Dev) (k : Nat) : Bool :=
  let s := thrSlice k
  let p := thrPos k
  let owns (i : Nat) : Bool := (d.rd (ENG_STROKE s p)).toNat / 16 ^ i % 16 == 8 + thrNo k
  d.weight k != 0 || (!d.flag (ENG_STATUS s p) ENG_STATUS_MODE && (List.range 16).any owns)

/-- Whether thread `k` may issue (08 R214, R216, R217, R241, R243, R245; 09 R255): it has a turn; RUNNING, or HALTED with a step granted, or STOPPING with an access held; its position in
service and not frozen. -/
def Dev.canIssueThr (d : Dev) (k : Nat) : Bool :=
  let x := d.thrAt k
  d.hasTurn k && (x.st == .running || (x.st == .halted && x.stepOnce) || (x.st == .stopping && x.heldAcc)) && !d.offline (thrSlice k) (thrPos k) &&
    (x.heldAcc || !d.posFrozen (thrSlice k) (thrPos k))

/-- The round of compatibility mode at an issue of thread `k` (08 R217): where its credit is 0 every thread's credit becomes its weight; then it pays one and is the last. -/
def Dev.roundTakes (d : Dev) (k : Nat) : Dev :=
  if !d.flag (ENG_STATUS (thrSlice k) (thrPos k)) ENG_STATUS_MODE then d
  else
    let r := d.round.lookD (k / 8) WrrSt.fresh
    let c := if r.credit.getD (thrNo k) 0 = 0 then (List.range 8).map fun t => d.weight (k / 8 * 8 + t) else r.credit
    d.setRound (d.round.put (k / 8) ⟨setNth c (thrNo k) (c.getD (thrNo k) 0 - 1), thrNo k⟩)

/-- The slot's use is counted (07 R207; 08 ENG_CNT; 16 R440), unless it was when its access was held, and an earlier SEND has written its last word. -/
def Dev.issueCounts (d : Dev) (k : Nat) : Dev :=
  let x := d.thrAt k
  if x.heldAcc then d.updThr k fun x => { x with heldAcc := false } else
  let d := ((d.roundTakes k).updThr k fun x => { x with cycles := (x.cycles + 1) % 2 ^ 64, sending := none, heldSeq := 0 }).count (ENG_CNT (thrSlice k) (thrPos k) (thrNo k)).addr
  match x.frame.bind d.frame? with
  | some f => d.meterAdd f.tf 7 1
  | none => d

/-- The trap of a fetch: ACCESS outside the code region of the thread's epoch (R168); PC_RANGE at an entry or trap vector offset of the thread that is no multiple of 4 or not below CODE_LEN
(R173); ALIGN at any other address that is no multiple of 4 (R170). -/
def Dev.fetchTrap (d : Dev) (k : Nat) : Option Nat :=
  let x := d.thrAt k
  let base := codeBase x.slot
  let off := x.pc - base
  let named (b : CodeBody) : Bool :=
    (b.entry[thrNo k]? == some off || b.trapv[thrNo k]? == some off) && (off % 4 != 0 || decide (b.code.length ≤ off))
  if x.pc < base ∨ base + 0x10000 ≤ x.pc then some causeAccess
  else if (d.code x.slot (thrSlice k)).any named then some causePcRange
  else if x.pc % 4 != 0 then some causeAlign
  else none

/-- After an instruction of a thread that was as `was`: a HALTED thread let issue once is HALTED again when its instruction has completed, a SEND's words included, in the state it came
to (08 R241); a STOPPING one is STOPPED (R225); one whose halt waited for the access is HALTED; while its access is held the thread is as it was. -/
def Dev.issueEnds (d : Dev) (k : Nat) (was : Thr) : Dev :=
  match was.st with
  | .halted => d.updThr k fun x =>
    if x.heldAcc then { x with st := .halted } else if x.st = .halted then { x with stepOnce := false, sending := none }
    else { x with prev := x.st, st := .halted, stepOnce := false, sending := none }
  | .stopping => d.updThr k fun x => if x.heldAcc then { x with st := .stopping } else { x with st := .stopped }
  | _ => if was.haltNext && !(d.thrAt k).heldAcc then d.updThr k Thr.halts else d

/-- The command that stands for the instruction word at thread `th`'s PC (R168, R176): the one its sender sends (log entry 17). -/
def State.atPc (s : State) (th : ThId) : Instr :=
  cloigDecode th (BitVec.ofNat 32 (s.mem.readLE (localAt (s.physOf th.slice.val th.pos.val) (s.thrAt (thKey th)).pc) 4))

/-- What an instruction does to the state; none when its thread is not ready. -/
abbrev Meaning := Nat → State → Option State

/-- One instruction of a thread issues with predicate `pred`, `pn` (R176); `always` for opcode 0x00. Nothing happens while the thread may not issue or is not ready. -/
def issue (th : ThId) (pred : Fin 8) (pn always : Bool) (s : State) (m : Meaning) : Host.Outcome State Fault Refusal :=
  let k := thKey th
  let sl := th.slice.val
  if !s.canIssueThr k then fin s s.toDev else
  let was := s.thrAt k
  let pc := (s.thrAt k).pc
  let s1 := s.onDev fun d => (d.updThr k fun x => { x with st := .running }).issueCounts k
  let phys := s.physOf sl th.pos.val
  let done (t : State) : Host.Outcome State Fault Refusal := finM s (t.toDev.issueEnds k was) t.mem
  match s.fetchTrap k with
  | some c => done (s1.onDev fun d => d.trap k c pc (some pc) none)
  | none => match s.poisonIn (localAt phys pc) 4 with
    | some f => done (s1.onDev fun d => d.trap k causeEccFetch pc (some pc) (some f))
    | none =>
      if (s.thrAt k).pred pred.val != pn || always then
        match m k s1 with
        | some t => done t
        | none => fin s s.toDev
      else done (s1.onDev fun d => d.updThr k fun x => { x with pc := x.pc + 4 })

/-! What meanings are built of. -/

/-- Thread `k` traps at its instruction. -/
def trapAt (cause : Nat) (addr fault : Option Nat) : Meaning := fun k s => some (s.onDev fun d => d.trap k cause (d.thrAt k).pc addr fault)

/-- The trap ILLEGAL. -/
def illegal : Meaning := trapAt causeIllegal none none

/-- `m`, or ILLEGAL where `ok` fails (R178). -/
def legal (ok : Bool) (m : Meaning) : Meaning := if ok then m else illegal

/-- Thread `k` changes by `f` and goes on at the next instruction. -/
def advance (f : Thr → Thr) : Meaning := fun k s => some (s.onDev fun d => d.updThr k fun x => { f x with pc := x.pc + 4 })

/-- RD := `f` of the thread; the next instruction follows. -/
def setsRd (rd : Fin 32) (f : Thr → Word) : Meaning := advance fun x => x.setG rd.val (f x)

/-- The device changes by `f`, and thread `k` goes on at the next instruction. -/
def effect (f : Nat → Dev → Dev) : Meaning := fun k s => some (s.onDev fun d => (f k d).updThr k fun x => { x with pc := x.pc + 4 })

/-- `m` on the held frame: NO_FRAME without one, not ready while it is locked (R192, R193, R202). -/
def withFrame (m : Nat → Frame → Meaning) : Meaning := fun k s =>
  match (s.thrAt k).frame with
  | some id => match s.frame? id with
    | some f => if (s.thrAt k).locked then none else m id f k s
    | none => trapAt causeNoFrame none none k s
  | none => trapAt causeNoFrame none none k s

/-- An access of `n` bytes at engine address `a` (R168 to R170): its traps, its wait for a bank's handover, or `m` at its place. -/
def access (a n : Nat) (store atomic aligned : Bool) (m : Spot → Meaning) : Meaning := fun k s =>
  match s.reach k a n store atomic aligned with
  | .trap c f => trapAt c (some a) f k s
  | .held i => some (s.onDev fun d => d.holds k i)
  | .at_ x => m x k s

end Sys2Proof.Machine
end

