-- ==== Sys2Proof/Machine/CloigMem.lean ====
section
/-! DEFINITION. Loads, stores, atomics, hashes, and the frame instructions (07 R186 to R195, R198, R199). -/
namespace Sys2Proof.Machine

/-- The engine address RA + OFF9 (R186). -/
def memAddr (x : FmtM) (t : Thr) : Nat := (t.rg x.ra.val + sext 9 x.off.val).toNat

/-- A load (R186): `ext` extends what was read. -/
def loads (x : FmtM) (ext : Nat → Word) : Meaning := fun k s =>
  let n := szBytes x.sz
  access (memAddr x (s.thrAt k)) n false false true (fun p k s => advance (fun t => t.setG x.rd.val (ext (ordNat x.be (s.bytesOf k p n)))) k s) k s

/-- LD (R186). -/
def execLd (th : ThId) (x : FmtM) (s : State) : Host.Outcome State Fault Refusal :=
  issue th x.pred x.pn false s (loads x (BitVec.ofNat 64))

/-- LDS (R186). -/
def execLds (th : ThId) (x : FmtM) (s : State) : Host.Outcome State Fault Refusal :=
  issue th x.pred x.pn false s (loads x (sext (8 * szBytes x.sz)))

/-- Whether a store to `x` need not wait: one to the deck waits while the frame is locked (R202). -/
def deckFree (t : Thr) : Option Spot → Bool
  | some (.deck _) => !t.locked
  | _ => true

/-- ST (R186, R187). -/
def execSt (th : ThId) (x : FmtM) (s : State) : Host.Outcome State Fault Refusal :=
  issue th x.pred x.pn false s fun k s =>
    let n := szBytes x.sz
    let a := memAddr x (s.thrAt k)
    if deckFree (s.thrAt k) (s.spot? (thrSlice k) (thrPos k) a n) then
      access a n true false true (fun p k s => advance id k (s.putBytes k p (ordBytes x.be n ((s.thrAt k).rg x.rd.val).toNat))) k s
    else none

/-- ATOM (R188). -/
def execAtom (th : ThId) (x : FmtA) (s : State) : Host.Outcome State Fault Refusal :=
  issue th x.pred x.pn false s (legal (x.rsv.val == 0 && decide (x.fn.val ≤ 9)) fun k s =>
    let t := s.thrAt k
    let n := if x.w then 8 else 4
    access (t.rg x.ra.val).toNat n true true true (fun p k s =>
      let old := leNat (s.bytesOf k p n)
      let lo (r : Fin 32) : Nat := (t.rg r.val).toNat % 2 ^ (8 * n)
      advance (fun t => t.setG x.rd.val (BitVec.ofNat 64 old)) k (s.putBytes k p (leBytes n (atomOp x.fn.val (8 * n) old (lo x.rb) (lo x.rd))))) k s)

/-! Hashes (R198, R199). -/

/-- The `n` bytes at the address in register `ra`, read byte by byte; none are read for `n` = 0. -/
def readsBytes (a n : Nat) (m : List Byte → Meaning) : Meaning := fun k s =>
  if n = 0 then m [] k s else access a n false false false (fun p k s => m (s.bytesOf k p n) k s) k s

/-- CRC (R198): RB from 0 to 16,384, FN 0. -/
def execCrc (th : ThId) (x : FmtR) (s : State) : Host.Outcome State Fault Refusal :=
  issue th x.pred x.pn false s fun k s =>
    let t := s.thrAt k
    let n := (t.rg x.rb.val).toNat
    legal (x.fn.val == 0 && decide (n ≤ 16384))
      (readsBytes (t.rg x.ra.val).toNat n fun bs => setsRd x.rd fun t => BitVec.ofNat 64 (crc32c ((t.rg x.rd.val).toNat % 2 ^ 32) bs)) k s

/-- TOEP (R199): FN from 1 to 64. -/
def execToep (th : ThId) (x : FmtR) (s : State) : Host.Outcome State Fault Refusal :=
  issue th x.pred x.pn false s fun k s =>
    let t := s.thrAt k
    let n := x.fn.val
    legal (decide (1 ≤ n) && decide (n ≤ 64))
      (readsBytes (t.rg x.ra.val).toNat n fun bs => readsBytes (t.rg x.rb.val).toNat (n + 4) fun key =>
        setsRd x.rd fun _ => BitVec.ofNat 64 (toeplitz (msbBits key) (msbBits bs))) k s

/-! The held frame (R191 to R195). -/

/-- A change of the held frame, refused with FRAME_BOUND (R192). -/
def frameOp (x : FmtN) (bad : Nat → Nat → Nat → Bool) (f : Nat → Nat → Frame → Frame) (win : Option Unit) : Meaning := fun k s =>
  let a := ((s.thrAt k).rg x.ra.val).toNat
  let b := ((s.thrAt k).rg x.rb.val).toNat
  withFrame (fun id fr =>
    if bad a b fr.len then trapAt causeFrameBound none none
    else effect fun k d => (d.updFrame id (f a b)).onlyIf win.isSome fun d => d.updThr k fun t => { t with win := a }) k s

/-- FRAME_WINDOW (R192). -/
def execFrameWindow (th : ThId) (x : FmtN) (s : State) : Host.Outcome State Fault Refusal :=
  issue th x.pred x.pn false s (frameOp x (fun a _ n => decide (n ≤ a)) (fun _ _ f => f) (some ()))

/-- FRAME_INSERT (R192). -/
def execFrameInsert (th : ThId) (x : FmtN) (s : State) : Host.Outcome State Fault Refusal :=
  issue th x.pred x.pn false s (frameOp x (fun a b n => decide (n < a) || b == 0 || decide (256 < b) || decide (16384 < n + b))
    (fun a b f => { f with data := f.data.take a ++ List.replicate b 0 ++ f.data.drop a }) none)

/-- FRAME_REMOVE (R192). -/
def execFrameRemove (th : ThId) (x : FmtN) (s : State) : Host.Outcome State Fault Refusal :=
  issue th x.pred x.pn false s (frameOp x (fun a b n => b == 0 || decide (256 < b) || decide (n < a + b) || decide (n < b + 14))
    (fun a b f => { f with data := f.data.take a ++ f.data.drop (a + b) }) none)

/-- FRAME_TRIM (R192). -/
def execFrameTrim (th : ThId) (x : FmtN) (s : State) : Host.Outcome State Fault Refusal :=
  issue th x.pred x.pn false s (frameOp x (fun a _ n => decide (n < a) || decide (a < 14)) (fun a _ f => { f with data := f.data.take a }) none)

/-- The held frame is released to what follows it (R193; 08 R224): a drop leaves at once, the rest in its order. -/
def Dev.releaseTo (d : Dev) (k id : Nat) (o : Onward) : Dev :=
  let d := d.updThr k fun x => { x with frame := none }
  match o.cipher, o.next with
  | none, .drop => match d.frame? id with
    | some f => d.takeTerminal id f 2 .drop
    | none => d
  | c, n => d.updFrame id fun f => { f with stage := .released c n }

/-- The held frame is released through action list `list` with PARAM `param` (R193). -/
def Dev.releaseList (d : Dev) (k id : Nat) (f : Frame) (list param : Nat) : Dev :=
  let bad (d : Dev) : Dev := d.dropAt id (clsCnt f.slice 7)
  let acts := ((d.bodies f.slot f.slice).cls).bind fun b => ((b.lists[list]?).bind fun l => takeList param l).map fun r => (b, r)
  match acts with
  | none => (bad d).updThr k fun x => { x with frame := none }
  | some (b, acts, term) =>
    match d.applyActs id f b acts term false with
    | (d, none) => d.updThr k fun x => { x with frame := none }
    | (d, some o) => d.releaseTo k id o

/-- RELEASE_LIST (R193). -/
def execReleaseList (th : ThId) (x : FmtN) (s : State) : Host.Outcome State Fault Refusal :=
  issue th x.pred x.pn false s (withFrame fun id f => effect fun k d =>
    d.releaseList k id f (((d.thrAt k).rg x.ra.val).toNat % 65536) ((d.thrAt k).rg x.rb.val).toNat)

/-- RELEASE_DROP (R193). -/
def execReleaseDrop (th : ThId) (x : FmtN) (s : State) : Host.Outcome State Fault Refusal :=
  issue th x.pred x.pn false s (withFrame fun id _ => effect fun k d => (d.frameOut id).updThr k fun t => { t with frame := none })

/-- RELEASE_EXC_HOST (R193). -/
def execReleaseExcHost (th : ThId) (x : FmtN) (s : State) : Host.Outcome State Fault Refusal :=
  issue th x.pred x.pn false s (withFrame fun id _ => effect fun k d =>
    d.releaseTo k id ⟨none, .exception false (((d.thrAt k).rg x.rb.val).toNat % 64)⟩)

/-- RELEASE_EXC_FW (R193). -/
def execReleaseExcFw (th : ThId) (x : FmtN) (s : State) : Host.Outcome State Fault Refusal :=
  issue th x.pred x.pn false s (withFrame fun id _ => effect fun k d =>
    d.releaseTo k id ⟨none, .exception true (((d.thrAt k).rg x.rb.val).toNat % 64)⟩)

end Sys2Proof.Machine
end

