-- ==== Sys2Proof/Machine/OpEnd.lean ====
section
/-! DEFINITION. The offload commands held (07 R200, R201; 12 R315; 15 R427): which unit takes one, the end of one. -/
namespace Sys2Proof.Machine

/-- The words of memory that are written whole lose their poison (09 R248; 15 R412). -/
def Dev.cleanWords (d : Dev) (a n : Nat) : Dev := d.setPoison (d.poison.filter fun p => !(decide (a ≤ p.1 * 8) && decide (p.1 * 8 + 8 ≤ a + n)))

/-- Memory with the bytes from `a` replaced by `bs`. -/
def State.store (s : State) (a : Nat) (bs : List Byte) : State := { s with toDev := (s.toDev.cleanWords a bs.length).touchDram a bs.length, mem := s.mem.writeN a bs }

/-- Offload command `n` ends with `code` and `result` (R201): RESULT, STATUS, then the ticket moves from BUSY to DONE; the end of a command whose ticket is lost leaves nothing. -/
def State.opEnds (s : State) (n : Nat) (o : OpRec) (code result : Nat) : State :=
  let s := s.onDev fun d => d.setOps (d.ops.del n)
  if 8 ≤ o.ticket then s else
  let s := match s.spot? o.slice o.pos o.addr 16 with
    | some (.mem m _) => (s.store (m + 8) (leBytes 8 result)).store m (leBytes 4 (2 ^ 31 + code % 65536))
    | _ => s
  s.onDev fun d => d.updThr (thrKey o.slice o.pos o.thread) fun x => { x with busy := setBit x.busy o.ticket false, done := setBit x.done o.ticket true }

/-- The unit of the compression block an OPCODE belongs to (12 R315): 0 compressor, 1 decompressor, 2 stream unit; an OPCODE not listed is taken by none. -/
def cmpUnit (code : Nat) : Nat := if code = 1 then 0 else if code = 2 then 1 else if code = 3 ∨ code = 4 then 2 else 3

/-- The channel a DMA descriptor names (15 R428). -/
def dmaChanOf (desc : List Byte) : Nat := leAt desc 0x10 1

/-- The DMA commands of channel `c`, oldest first (15 R427). -/
def Dev.dmaQueue (d : Dev) (c : Nat) : List (Nat × OpRec) := d.ops.filter fun o => o.2.unit == 2 && dmaChanOf o.2.desc == c

/-- Whether channel `c` is bound to slice `s` and not held by the N3200 (15 R426). -/
def Dev.dmaBound (d : Dev) (c s : Nat) : Bool :=
  decide (c < 64) && d.fld (DMA_CH_CFG c) DMA_CH_CFG_BIND_KIND == 1 && d.fld (DMA_CH_CFG c) DMA_CH_CFG_BIND_ID == s && d.fld (DMA_CH_STATUS c) DMA_CH_STATUS_STATE != 3

/-- Whether the queue a descriptor of slice `s` enters is full (12 R315; 15 R427). -/
def Dev.opQueueFull (d : Dev) (s unit : Nat) (desc : List Byte) : Bool :=
  if unit = 1 then
    let u := cmpUnit (leAt desc 4 2)
    u != 3 && decide (256 ≤ (d.ops.filter fun o => o.2.unit == 1 && o.2.slice == s && cmpUnit (leAt o.2.desc 4 2) == u).length)
  else if unit = 2 then d.dmaBound (dmaChanOf desc) s && decide (64 ≤ (d.dmaQueue (dmaChanOf desc)).length)
  else false

/-- A DMA command whose channel does not exist or is not its slice's ends at once (15 R426, R429). -/
def State.dmaRefused (s : State) (n : Nat) : State :=
  match s.ops.look n with
  | some o =>
    if o.unit != 2 || s.dmaBound (dmaChanOf o.desc) o.slice then s
    else s.opEnds n o (if 64 ≤ dmaChanOf o.desc then 0x01 else 0x07) 0
  | none => s

end Sys2Proof.Machine
end

