-- ==== Sys2Proof/Machine/CloigSys.lean ====
section
/-! DEFINITION. Lookups, offload commands, channels, waits, special registers, the cox instructions and traps (07 R196, R197, R200 to R211;
08 R227 to R230, R236, R241). -/
namespace Sys2Proof.Machine

/-! Lookups (R196, R197). -/

/-- The epoch slot of thread `x`: that of its held frame, else of its code (R196, R207). -/
def Dev.thrSlot (d : Dev) (x : Thr) : Nat := ((x.frame.bind d.frame?).map Frame.slot).getD x.slot

/-- The registers' bytes, RA first, each from its most significant byte down. -/
def Thr.regBytes (x : Thr) (ra n : Nat) : List Byte := (List.range n).flatMap fun i => beBytes 8 (x.rg (ra + i)).toNat

/-- The status word of a hit (R196). -/
def lookStatus (i : Nat) (e : Entry) : Nat := 2 ^ 63 + b2n e.learned * 2 ^ 62 + i % 2 ^ 26 * 2 ^ 32 + e.list

/-- The lookup's result in RD and RD + 1 (R196). -/
def lookResult (rd : Nat) (r : Option (Nat × Entry)) (x : Thr) : Thr :=
  match r with
  | some (i, e) => (x.setG rd (BitVec.ofNat 64 e.param)).setG (rd + 1) (BitVec.ofNat 64 (lookStatus i e))
  | none => (x.setG rd 0).setG (rd + 1) 0xFFFF

/-- LOOKUP (R196, R197): `flowMiss` of its reads missed the flow cache (06 R133). -/
def execLookup (th : ThId) (x : FmtX) (flowMiss : Nat) (ecc : Option EntryRef) (s : State) : Host.Outcome State Fault Refusal :=
  issue th x.pred x.pn false s fun k s =>
    let t := s.thrAt k
    let sl := thrSlice k
    let e := s.thrSlot t
    let n := cntOf x.cnt
    legal (x.rsv.val == 0 && x.rd.val != 0 && x.rd.val != 31 && decide (x.ra.val + n ≤ 32)) (fun k s =>
      match s.table? sl e x.table.val with
      | none => trapAt causeTable none none k s
      | some (_, tab) => legal (decide (tab.decl.keyBytes ≤ n * 8)) (fun k s =>
          let s := s.onDev fun d => (d.count (clsCnt sl 10) flowMiss).markBad sl e ecc
          match s.table? sl e x.table.val with
          | none => trapAt causeTable none none k s
          | some (ti, tab) =>
            let key := (t.regBytes x.ra.val n).take tab.decl.keyBytes
            match tab.badMet key (indexIn x.table.val ecc) with
            | some (i, en) => some (s.onDev fun d => ((d.entryEcc sl e x.table.val ti i en).trap k causeEccData (d.thrAt k).pc none none).updThr k fun y =>
                { y with tfault := 0x10000 + 0x0400 + sl })
            | none => advance (lookResult x.rd.val (tab.hit? key)) k s) k s) k s

/-! Offload commands (R200 to R202). -/

/-- The tickets of a thread that are free (R200). -/
def Thr.freeTickets (x : Thr) : List Nat := (List.range 8).filter fun i => !x.busy.testBit i && !x.done.testBit i

/-- A command descriptor is submitted to `unit` (0 cipher, 1 compression, 2 DMA): the ticket is a free one, the spec does not say which (log entry 21). -/
def Dev.submit (d : Dev) (k unit rd addr : Nat) (desc : List Byte) : Dev :=
  let (v, d) := d.fresh
  let x := d.thrAt k
  let l := x.freeTickets
  let i := l.getD (v % l.length) 0
  let usesFrame := (leAt desc 6 2).testBit 0
  let fr := if usesFrame then x.frame else none
  let op : OpRec := ⟨unit, thrSlice k, thrPos k, thrNo k, i, addr, fr, desc⟩
  let d := (d.setOps (d.ops.put d.nextOp op)).setNextOp (d.nextOp + 1)
  let shot := if x.locked then x.shot else ((x.frame.bind d.frame?).map Frame.data).getD []
  d.updThr k fun x => { (x.setG rd (BitVec.ofNat 64 i)) with busy := setBit x.busy i true, frameTk := setBit x.frameTk i usesFrame, shot := if usesFrame then shot else x.shot }

/-- The length of a descriptor in bytes: its header and its body. -/
def descBytes : Nat := 64

/-- CIPH, CMPR and DMAC (R200): the descriptor in engine-local data or quad memory, 64-byte aligned; not ready while no ticket is free or the queue it enters is full (12 R315; 15 R427). -/
def offload (unit : Nat) (x : FmtO) : Meaning := fun k s =>
  let a := ((s.thrAt k).rg x.ra.val).toNat
  let within (lo hi : Nat) : Bool := decide (lo ≤ a) && decide (a + descBytes ≤ hi)
  legal (x.rsv.val == 0) (if !within 0x20000 0x40000 && !within 0x100000 0x200000 then trapAt causeAccess (some a) none
    else access a descBytes false false true fun p k s =>
      let desc := s.bytesOf k p descBytes
      if (s.thrAt k).freeTickets.isEmpty || s.opQueueFull (thrSlice k) unit desc then none
      else (effect (fun k d => d.submit k unit x.rd.val a desc) k s).map fun t => t.dmaRefused s.nextOp) k s

/-- CIPH (R200). -/
def execCiph (th : ThId) (x : FmtO) (s : State) : Host.Outcome State Fault Refusal := issue th x.pred x.pn false s (offload 0 x)

/-- CMPR (R200). -/
def execCmpr (th : ThId) (x : FmtO) (s : State) : Host.Outcome State Fault Refusal := issue th x.pred x.pn false s (offload 1 x)

/-- DMAC (R200). -/
def execDmac (th : ThId) (x : FmtO) (s : State) : Host.Outcome State Fault Refusal := issue th x.pred x.pn false s (offload 2 x)

/-! Channels (R203, R204; 08 R236 to R240). -/

/-- Receive channel `c` of position `p` of slice `s`. -/
def Dev.chanAt (d : Dev) (s p c : Nat) : Chan := d.chan.lookD (chanKey s p c) ⟨[], []⟩

/-- SEND (R203; 08 R236, R237, R240). -/
def execSend (th : ThId) (x : FmtS) (s : State) : Host.Outcome State Fault Refusal :=
  issue th x.pred x.pn false s fun k s =>
    let t := s.thrAt k
    let sl := thrSlice k
    let dst := (t.rg x.rd.val).toNat
    let p := dst % 32
    let c := dst / 256 % 16
    let n := cntOf x.cnt
    legal (x.rsv.val == 0 && decide (x.ra.val + n ≤ 32)) (fun k s =>
      if dst != p + 256 * c || !((s.code t.slot sl).any fun b => b.runs p) || s.offline sl p then trapAt causeChannel none none k s
      else
        let ch := s.chanAt sl p c
        if 4 ≤ ch.vis.length + ch.res.length then advance (fun t => t.setP x.pd.val false) k s
        else
          let m : Msg := ⟨thrPos k, thrNo k, (List.range n).map fun i => t.rg (x.ra.val + i)⟩
          let go : Option Sending := if n = 1 then none else some ⟨p, c, t.pc, t.p⟩
          effect (fun k d => (d.setChan (d.chan.put (chanKey sl p c) { ch with res := ch.res ++ [m] })).updThr k fun t =>
            { (t.setP x.pd.val true) with sending := go }) k s) k s

/-- The header word of a received message (R204). -/
def Msg.header (m : Msg) : Word := BitVec.ofNat 64 (m.pos + m.thread * 32 + m.words.length * 256)

/-- RECV (R204): RD from g1 to g23. -/
def execRecv (th : ThId) (x : FmtV) (s : State) : Host.Outcome State Fault Refusal :=
  issue th x.pred x.pn false s (legal (x.rsv.val == 0 && decide (1 ≤ x.rd.val) && decide (x.rd.val ≤ 23)) fun k s =>
    let ch := s.chanAt (thrSlice k) (thrPos k) x.ch.val
    match ch.vis with
    | [] => advance (fun t => t.setP x.pd.val false) k s
    | m :: rest =>
      effect (fun k d => (d.setChan (d.chan.put (chanKey (thrSlice k) (thrPos k) x.ch.val) { ch with vis := rest })).updThr k fun t =>
        ((List.range m.words.length).foldl (fun t i => t.setG (x.rd.val + 1 + i) (m.words.getD i 0)) ((t.setG x.rd.val m.header).setP x.pd.val true))) k s)

/-! Waits (R205, R206). -/

/-- NODL_OK of the code that thread `k` runs (R172, R206). -/
def Dev.nodlOk (d : Dev) (k : Nat) : Bool := (d.code (d.thrAt k).slot (thrSlice k)).any CodeBody.nodlOk

/-- WAIT (R205, R206): the wait that need not wait returns at once. -/
def execWait (th : ThId) (x : FmtT) (s : State) : Host.Outcome State Fault Refusal :=
  issue th x.pred x.pn false s fun k s =>
    let t := s.thrAt k
    legal (x.rsv.val == 0 && !(x.frame && t.frame.isSome) && !(x.nodl && x.ra.val != 0)) (fun k s =>
      if x.nodl && !s.nodlOk k then trapAt causeNoDeadline none none k s
      else some (s.onDev fun d =>
        let at_ := (t.rg x.ra.val).toNat
        let d := d.updThr k fun t =>
          { t with st := .waiting, wait := some ⟨x.rd.val, x.frame, x.chan, x.ticket, x.ext, x.nodl⟩, wakeAt := at_, armed := !x.nodl, fired := !x.nodl && decide (at_ ≤ d.now) }
        match d.waitReason k with
        | some r => d.waitReturns k r
        | none => d)) k s

/-! Special registers (R207). -/

/-- The value of special register `n` of thread `k`, none for a number not listed. -/
def Dev.spr (d : Dev) (k n : Nat) : Option Nat :=
  let x := d.thrAt k
  let f := x.frame.bind d.frame?
  match n with
  | 0x00 => some (thrSlice k * 2 ^ 24 + thrPos k * 2 ^ 16 + d.physOf (thrSlice k) (thrPos k) * 2 ^ 8 + thrNo k)
  | 0x01 => some d.now
  | 0x02 => some x.wakeAt
  | 0x03 => some (codeBase x.slot)
  | 0x04 => some (d.thrSlot x * 2 ^ 16 + d.epochNo (d.thrSlot x))
  | 0x05 => some (match f with
    | some f => 2 ^ 63 + b2n x.locked * 2 ^ 62 + x.win * 2 ^ 16 + f.len
    | none => 0)
  | 0x06 => some (x.busy + x.done * 256)
  | 0x07 => some x.chanMask
  | 0x08 => some (d.chanReady k)
  | 0x09 => some (x.events + d.pendingEvents k * 2 ^ 16)
  | 0x0A => some x.cause
  | 0x0B => some x.tpc
  | 0x0C => some x.taddr
  | 0x0D => some x.tfault
  | 0x0E => some x.tvec
  | 0x0F => some (b2n x.inHandler + b2n (d.nodlOk k) * 2 + b2n (thrNo k == 0) * 4)
  | 0x10 => some (x.p % 256)
  | 0x11 => some x.cycles
  | _ => none

/-- SPR with DIR 0 (R207). -/
def execSprRead (th : ThId) (x : FmtY) (s : State) : Host.Outcome State Fault Refusal :=
  issue th x.pred x.pn false s fun k s =>
    match s.spr k x.spr.val with
    | some v => legal (x.rsv.val == 0) (setsRd x.rd fun _ => BitVec.ofNat 64 v) k s
    | none => illegal k s

/-- A write of special register `n` with `v`, none for one that is not writable (R207; 08 R231). -/
def Thr.sprWrite (x : Thr) (n v : Nat) : Option Thr :=
  match n with
  | 0x02 => some { x with wakeAt := v }
  | 0x06 => some { x with done := Nat.land x.done (255 - v / 256 % 256) }
  | 0x07 => some { x with chanMask := v % 2 ^ 16 }
  | 0x09 => some { x with events := v % 2 ^ 16, migrated := false }
  | 0x0B => some { x with tpc := v }
  | 0x0E => some { x with tvec := v }
  | 0x10 => some { x with p := v % 256 / 2 * 2 + 1 }
  | _ => none

/-- SPR with DIR 1 (R207). -/
def execSprWrite (th : ThId) (x : FmtY) (s : State) : Host.Outcome State Fault Refusal :=
  issue th x.pred x.pn false s fun k s =>
    match (s.thrAt k).sprWrite x.spr.val ((s.thrAt k).rg x.ra.val).toNat with
    | some t => legal (x.rsv.val == 0 && x.rd.val == 0) (advance fun _ => t) k s
    | none => illegal k s

/-! Cox instructions (R208; 08 R227 to R229, R233). -/

/-- A cox instruction on its target thread `q` (R208); `still` for those that need the target stopped or trapped. -/
def cox (x : FmtN) (still : Bool) (m : Nat → Meaning) : Meaning := fun k s =>
  let n := ((s.thrAt k).rg x.ra.val).toNat % 8
  let q := k / 8 * 8 + n
  if thrNo k != 0 then trapAt causePrivileged none none k s
  else legal (n != 0) (fun k s =>
    if still && (s.thrAt q).st != .stopped && (s.thrAt q).st != .trapped then trapAt causeNotStopped none none k s else m q k s) k s

/-- The register of the target that RA[12:8] names. -/
def coxReg (x : FmtN) (t : Thr) : Nat := (t.rg x.ra.val).toNat / 256 % 32

/-- COX TSETG (R208). -/
def execTsetg (th : ThId) (x : FmtN) (s : State) : Host.Outcome State Fault Refusal :=
  issue th x.pred x.pn false s (cox x true fun q k s =>
    let t := s.thrAt k
    effect (fun _ d => d.updThr q fun y => y.setG (coxReg x t) (t.rg x.rb.val)) k s)

/-- COX TGETG (R208). -/
def execTgetg (th : ThId) (x : FmtN) (s : State) : Host.Outcome State Fault Refusal :=
  issue th x.pred x.pn false s (cox x true fun q k s =>
    setsRd x.rd (fun t => (s.thrAt q).rg (coxReg x t)) k s)

/-- COX TSETPC (R208): an address outside the current epoch's code region traps in the cox. -/
def execTsetpc (th : ThId) (x : FmtN) (s : State) : Host.Outcome State Fault Refusal :=
  issue th x.pred x.pn false s (cox x true fun q k s =>
    let a := ((s.thrAt k).rg x.rb.val).toNat
    if a < codeBase s.curSlot || codeBase s.curSlot + 0x10000 ≤ a then trapAt causePcRange (some a) none k s
    else effect (fun _ d => d.updThr q fun y => { y with pc := a }) k s)

/-- Whether the engine of thread `k` shows an engine fault, under which no thread is started or stopped but by the debugger (08 R233). -/
def Dev.engFaulty (d : Dev) (k : Nat) : Bool := d.flag (ENG_STATUS (thrSlice k) (thrPos k)) ENG_STATUS_FAULT

/-- TRELEASE's effect on its target (08 R227). -/
def Thr.released (x : Thr) : Thr := if x.st = .stopped ∨ x.st = .trapped then { x with st := .running } else x

/-- COX TRELEASE (R208; 08 R227). -/
def execTrelease (th : ThId) (x : FmtN) (s : State) : Host.Outcome State Fault Refusal :=
  issue th x.pred x.pn false s (cox x false fun q => effect fun k d => d.onlyIf (!d.engFaulty k) fun d => d.updThr q Thr.released)

/-- TSTOP's effect on its target (08 R228; 09 R255): with a SEND between words or an access held it is STOPPING. -/
def Thr.stops (x : Thr) : Thr :=
  match x.st with
  | .running => if x.sending.isSome || x.heldAcc then { x with st := .stopping, haltNext := false } else { x with st := .stopped }
  | .waiting => { x with st := .stopped, wait := none, armed := false, fired := false }
  | .trapped => { x with st := .stopped }
  | _ => x

/-- COX TSTOP (R208; 08 R228). -/
def execTstop (th : ThId) (x : FmtN) (s : State) : Host.Outcome State Fault Refusal :=
  issue th x.pred x.pn false s (cox x false fun q => effect fun k d => d.onlyIf (!d.engFaulty k) fun d => d.updThr q Thr.stops)

/-- The codes of the states (08 R225). -/
def TState.code : TState → Nat
  | .stopped => 0
  | .running => 1
  | .waiting => 2
  | .trapped => 3
  | .halted => 4
  | .stopping => 5

/-- TSTATE's word (08 R229). -/
def Thr.stateWord (x : Thr) : Nat :=
  x.pc / 4 % 2 ^ 16 * 2 ^ 48 + x.busy % 256 * 2 ^ 40 + x.tfault / 2 ^ 16 % 2 * 2 ^ 32 + x.tfault % 2 ^ 16 * 2 ^ 16 + x.cause % 256 * 2 ^ 8 +
  x.slot % 2 * 2 ^ 5 + b2n x.inHandler * 2 ^ 4 + b2n x.frame.isSome * 2 ^ 3 + x.st.code

/-- COX TSTATE (R208; 08 R229). -/
def execTstate (th : ThId) (x : FmtN) (s : State) : Host.Outcome State Fault Refusal :=
  issue th x.pred x.pn false s (cox x false fun q k s => setsRd x.rd (fun _ => BitVec.ofNat 64 (s.thrAt q).stateWord) k s)

/-! Traps (R209 to R211). -/

/-- TRAP (R209, R211): cause 0x80 + IMM7, TRAP_PC the instruction after it. -/
def execTrap (th : ThId) (x : FmtK) (s : State) : Host.Outcome State Fault Refusal :=
  issue th x.pred x.pn false s (legal (x.rsv.val == 0) fun k s =>
    some (s.onDev fun d => d.trap k (0x80 + x.imm.val) ((d.thrAt k).pc + 4) none none))

/-- RETT (R210). -/
def execRett (th : ThId) (x : FmtK) (s : State) : Host.Outcome State Fault Refusal :=
  issue th x.pred x.pn false s fun k s =>
    legal (x.rsv.val == 0 && (s.thrAt k).inHandler) (fun k s =>
      some (s.onDev fun d => d.updThr k fun t => { t with pc := t.tpc, inHandler := false })) k s

/-- BRK (R211; 08 R241): halts the thread whose DBG_EN bit is 1, and else traps BREAK. -/
def execBrk (th : ThId) (x : FmtK) (s : State) : Host.Outcome State Fault Refusal :=
  issue th x.pred x.pn false s (legal (x.rsv.val == 0) fun k s =>
    some (s.onDev fun d =>
      if (d.fld (ENG_CTRL (thrSlice k) (thrPos k)) ENG_CTRL_DBG_EN).testBit (thrNo k) then
        d.updThr k fun t => { t with st := .halted, prev := .running, pc := t.pc + 4 }
      else d.trap k causeBreak ((d.thrAt k).pc + 4) none none))

end Sys2Proof.Machine
end

