-- ==== Sys2Proof/Machine/Threads.lean ====
section
/-! DEFINITION. Threads from outside (08 R222 to R241; 19 R499): order release, dispatch from queues, wakes, messages becoming visible, the stall
detector, the debugger, restart and reset of an engine. -/
namespace Sys2Proof.Machine

/-- ORDER_RELEASE (R224): a released frame leaves the engine stage once every earlier frame of its key has, and goes on. -/
def execOrderRelease (frame : Nat) (s : State) : Host.Outcome State Fault Refusal :=
  fin s (match s.frame? frame with
    | some f => match f.stage with
      | .released c n => if s.orderFirst f.slice frame f.orderKey then (s.toDev.orderLeave f.slice frame).goOn frame 2 ⟨c, n⟩ else s.toDev
      | _ => s.toDev
    | none => s.toDev)

/-- DISPATCH_FROM_QUEUE (R222, R223): the head of the group's queue goes to the candidate that appeared. -/
def execDispatchFromQueue (slice : Fin 6) (slot : Fin 2) (group : Fin 256) (s : State) : Host.Outcome State Fault Refusal :=
  let k := groupKey slice.val slot.val group.val
  fin s (match s.dspq.lookD k [], s.group? slice.val slot.val group.val with
    | id :: rest, some x => match s.candidate slice.val slot.val group.val x with
      | some (p, t) => (s.setDspq (s.dspq.put k rest)).dispatchTo id slice.val slot.val group.val p t
      | none => s.toDev
    | _, _ => s.toDev)

/-- THREAD_WAKE (R230; 02 R54, R55): the deadline that is next in firing order fires. -/
def execThreadWake (th : ThId) (s : State) : Host.Outcome State Fault Refusal :=
  let k := thKey th
  fin s (if s.dueFirst .wake k then (s.toDev.dueFired none).updThr k fun x => { x with fired := x.wait.isSome } else s.toDev)

/-! Messages (R236 to R240). -/

/-- The first element of `l` that `p` holds of, and the rest without it. -/
def takeFirst {α : Type} (p : α → Bool) : List α → Option (α × List α)
  | [] => none
  | x :: t => if p x then some (x, t) else (takeFirst p t).map fun r => (r.1, x :: r.2)

/-- The last word of thread `k`'s SEND is written: it goes on, or is STOPPED where a stop waited for it (R228, R237). -/
def Thr.sent (x : Thr) : Thr := { x with sending := none, st := if x.st = .stopping then .stopped else x.st }

/-- MESSAGE_VISIBLE (R237, R239): the oldest message that `th` is staging to the channel becomes visible; the one whose words a halt holds back does not. -/
def execMessageVisible (th : ThId) (dst : Fin 32) (ch : Fin 16) (s : State) : Host.Outcome State Fault Refusal :=
  let k := thKey th
  let sl := th.slice.val
  let c := s.chanAt sl dst.val ch.val
  let mine (m : Msg) : Bool := m.pos == th.pos.val && m.thread == th.thread.val
  let last := (c.res.filter mine).length == 1 && (s.thrAt k).sending.any fun x => x.pos == dst.val && x.chan == ch.val
  fin s (match takeFirst mine c.res with
    | some (m, rest) =>
      if last && (s.thrAt k).st == .halted then s.toDev
      else (s.setChan (s.chan.put (chanKey sl dst.val ch.val) ⟨c.vis ++ [m], rest⟩)).onlyIf last fun d => d.updThr k Thr.sent
    | none => s.toDev)

/-- The message thread `k` has begun to write and not ended is discarded and its slot freed (R239). -/
def Dev.unstage (d : Dev) (k : Nat) : Dev :=
  match (d.thrAt k).sending with
  | some x =>
    let c := d.chanAt (thrSlice k) x.pos x.chan
    let mine (m : Msg) : Bool := m.pos == thrPos k && m.thread == thrNo k
    match takeFirst mine c.res.reverse with
    | some (_, rest) => d.setChan (d.chan.put (chanKey (thrSlice k) x.pos x.chan) ⟨c.vis, rest.reverse⟩)
    | none => d
  | none => d

/-- Thread numbers of position `p` of slice `s`. -/
def thrsOf (s p : Nat) : List Nat := (List.range 8).map (thrKey s p)

/-- The channel contents of a position are discarded, and what is still being staged to it; its senders are not told (R240). -/
def Dev.dropChans (d : Dev) (s p : Nat) : Dev :=
  let d := d.each (List.range 16) fun d c => d.setChan (d.chan.del (chanKey s p c))
  d.each ((List.range 32).flatMap (thrsOf s)) fun d k =>
    if (d.thrAt k).sending.any fun x => x.pos == p then d.updThr k Thr.sent else d

/-! The stall detector (R234, R235). -/

/-- STALL_DETECTED (R235): once for each episode. -/
def execStallDetected (slice : Fin 6) (pos : Fin 32) (s : State) : Host.Outcome State Fault Refusal :=
  let k := thrKey slice.val pos.val 0
  let st := s.stallAt k
  fin s (if st.told || !s.quiescent slice.val pos.val then s.toDev
    else
      let d := s.setStall (s.stall.put (k / 8) { st with told := true })
      if (s.thrAt k).quietWait then
        let (c, d) := d.fresh
        d.engineFault slice.val pos.val c true
      else if (List.range 7).any fun i => (s.thrAt (k + i + 1)).st == .waiting then d.setStall (d.stall.put (k / 8) ⟨true, true⟩)
      else s.toDev)

/-! The debugger (R239, R241). -/

/-- A debugger request to a thread comes by a write of ENG_DBG_CTRL. -/
def finDbg (s : State) (src : Src) (th : ThId) (f : Dev → Nat → Dev) : Host.Outcome State Fault Refusal :=
  finSW s src th.slice.val (ENG_DBG_CTRL th.slice.val th.pos.val) (f s.toDev (thKey th))

/-- HALT of one thread (R225, R241): an access held by a bank's handover completes first. -/
def Dev.dbgHalt (d : Dev) (k : Nat) : Dev := d.updThr k fun x => if x.st = .running && x.heldAcc then { x with haltNext := true } else x.halts

/-- STEP of one thread (R241). -/
def Dev.dbgStep (d : Dev) (k : Nat) : Dev := d.updThr k fun x => if x.st = .halted then { x with stepOnce := true } else x

/-- KILL of one thread (R225, R233, R239): a SEND between words is undone. -/
def Dev.dbgKill (d : Dev) (k : Nat) : Dev :=
  let x := d.thrAt k
  if x.st = .halted ∨ x.st = .trapped then
    let y := match x.sending with
      | some z => { x with pc := z.pc, p := z.p }
      | none => x
    let d := (d.unstage k).updThr k fun _ => { y with st := .stopped, sending := none, wait := none, armed := false, fired := false, stepOnce := false, heldAcc := false, heldSeq := 0, haltNext := false }
    if thrNo k = 0 then
      let (c, d) := d.fresh
      d.engineFault (thrSlice k) (thrPos k) c false
    else d
  else d

/-- RESUME of one thread (R225). -/
def Dev.dbgResume (d : Dev) (k : Nat) : Dev := d.updThr k fun x => if x.st = .halted then { x with st := x.prev, stepOnce := false } else { x with haltNext := false }

/-- HALT (R241). -/
def execHalt (src : Src) (th : ThId) (s : State) : Host.Outcome State Fault Refusal := finDbg s src th Dev.dbgHalt

/-- STEP_THREAD (R241). -/
def execStepThread (src : Src) (th : ThId) (s : State) : Host.Outcome State Fault Refusal := finDbg s src th Dev.dbgStep

/-- KILL (R239). -/
def execKill (src : Src) (th : ThId) (s : State) : Host.Outcome State Fault Refusal := finDbg s src th Dev.dbgKill

/-- RESUME (R225). -/
def execResume (src : Src) (th : ThId) (s : State) : Host.Outcome State Fault Refusal := finDbg s src th Dev.dbgResume

/-- A whole write of ENG_DBG_CTRL: for each thread its halt, then its step, its kill, its resume. -/
def Dev.dbgCtrl (d : Dev) (s p : Nat) (v : Word) : Dev :=
  d.each (List.range 8) fun d t =>
    let k := thrKey s p t
    let b (f : Fld) : Bool := (f.get v).testBit t
    (((d.onlyIf (b ENG_DBG_CTRL_HALT) fun d => d.dbgHalt k).onlyIf (b ENG_DBG_CTRL_STEP) fun d => d.dbgStep k).onlyIf
      (b ENG_DBG_CTRL_KILL) fun d => d.dbgKill k).onlyIf (b ENG_DBG_CTRL_RESUME) fun d => d.dbgResume k

/-- The register of a thread that ENG_TDBG_SEL.ITEM selects. -/
def Thr.item (x : Thr) (i : Nat) : Nat :=
  if i < 32 then (x.rg i).toNat
  else match i with
    | 32 => x.pc
    | 33 => x.p % 256
    | 34 => x.wakeAt
    | 35 => x.busy + x.done * 256
    | 36 => x.tpc
    | _ => 2 ^ 64 - 1

/-- A debugger write of the item. -/
def Thr.setItem (x : Thr) (i v : Nat) : Thr :=
  if i < 32 then x.setG i (BitVec.ofNat 64 v)
  else match i with
    | 32 => { x with pc := v }
    | 33 => (x.sprWrite 0x10 v).getD x
    | 34 => { x with wakeAt := v }
    | 35 => (x.sprWrite 0x06 v).getD x
    | 36 => { x with tpc := v }
    | _ => x

/-- The thread that ENG_TDBG_SEL selects, and whether it is HALTED or STOPPED (R241). -/
def Dev.tdbgThr (d : Dev) (s p : Nat) : Nat := thrKey s p (d.fld (ENG_TDBG_SEL s p) ENG_TDBG_SEL_THREAD)
def Dev.tdbgOpen (d : Dev) (s p : Nat) : Bool :=
  let x := (d.thrAt (d.tdbgThr s p)).st
  x == .halted || x == .stopped

/-- The value ENG_TDBG_DATA reads. -/
def Dev.tdbgRead (d : Dev) (s p : Nat) : Nat :=
  if d.tdbgOpen s p then (d.thrAt (d.tdbgThr s p)).item (d.fld (ENG_TDBG_SEL s p) ENG_TDBG_SEL_ITEM) else 2 ^ 64 - 1

/-- A write of ENG_TDBG_DATA. -/
def Dev.tdbgWrite (d : Dev) (s p : Nat) (v : Word) : Dev :=
  d.onlyIf (d.tdbgOpen s p) fun d => d.updThr (d.tdbgThr s p) fun x => x.setItem (d.fld (ENG_TDBG_SEL s p) ENG_TDBG_SEL_ITEM) v.toNat

/-- TDBG_DATA_ACCESS (R241): `write` with `v`, or a read. -/
def execTdbgDataAccess (src : Src) (slice : Fin 6) (pos : Fin 32) (write : Bool) (v : Word) (s : State) : Host.Outcome State Fault Refusal :=
  let r := ENG_TDBG_DATA slice.val pos.val
  if write then finSW s src slice.val r (s.tdbgWrite slice.val pos.val v)
  else finSR s src slice.val r 64 (s.tdbgRead slice.val pos.val) s.toDev

/-! Restart and reset (R233; 19 R499). -/

/-- The completions of thread `k`'s tickets are discarded: its offload commands have no ticket any more. -/
def Dev.dropTickets (d : Dev) (k : Nat) : Dev :=
  d.setOps (d.ops.mapVals fun _ o => if thrKey o.slice o.pos o.thread = k then { o with ticket := 8 } else o)

/-- T0 of position `p` restarts at the ENTRY of its epoch, its held frame dropped (R233). -/
def Dev.coxRestart (d : Dev) (s p : Nat) : Dev :=
  let k := thrKey s p 0
  let e := (d.thrAt k).slot
  let d := ((d.dropHeld k).unstage k).dropTickets k
  (match d.code e s with
    | some b => d.updThr k (Thr.enter b e 0 .running)
    | none => d).setF (ENG_STATUS s p) ENG_STATUS_FAULT 0

/-- COX_RESTART (R233). -/
def execCoxRestart (src : Src) (slice : Fin 6) (pos : Fin 32) (s : State) : Host.Outcome State Fault Refusal :=
  finSW s src slice.val (ENG_CTRL slice.val pos.val) (s.coxRestart slice.val pos.val)

/-- The threads of position `p` lose their frames, their staged messages and their tickets' completions, and the position its channels (R499). -/
def Dev.clearPos (d : Dev) (s p : Nat) : Dev :=
  let d := d.each (thrsOf s p) fun d k => ((d.dropHeld k).unstage k).dropTickets k
  (d.dropChans s p).setStall (d.stall.del (posKey s p))

/-- The position starts in the current epoch's code, or is STOPPED where that leaves it out (R226). -/
def Dev.restartPos (d : Dev) (s p : Nat) : Dev :=
  match d.code d.curSlot s with
  | some b => if b.runs p then d.startPos b s p d.curSlot else d.each (thrsOf s p) fun d k => d.updThr k fun _ => Thr.reset
  | none => d.each (thrsOf s p) fun d k => d.updThr k fun _ => Thr.reset

/-- An engine reset of position `p` (R499). -/
def Dev.engineReset (d : Dev) (s p : Nat) : Dev := ((d.clearPos s p).restartPos s p).setF (ENG_STATUS s p) ENG_STATUS_FAULT 0

/-- ENGINE_RESET (19 R499). -/
def execEngineReset (src : Src) (slice : Fin 6) (pos : Fin 32) (s : State) : Host.Outcome State Fault Refusal :=
  finSW s src slice.val (ENG_CTRL slice.val pos.val) (s.engineReset slice.val pos.val)

/-- A whole write of ENG_CTRL: DBG_EN, then the restart of T0, then the reset. -/
def Dev.engCtrl (d : Dev) (s p : Nat) (v : Word) : Dev :=
  ((d.setF (ENG_CTRL s p) ENG_CTRL_DBG_EN (ENG_CTRL_DBG_EN.get v)).onlyIf (ENG_CTRL_COX_RESTART.get v == 1) fun d => d.coxRestart s p).onlyIf
    (ENG_CTRL_RESET.get v == 1) fun d => d.engineReset s p

end Sys2Proof.Machine
end

