-- ==== Sys2Proof/Machine/Migrate.lean ====
section
/-! DEFINITION. Engine sparing (08 R242 to R245) and the cluster banks' owners (09 R247 to R256). -/
namespace Sys2Proof.Machine

/-! Spares (R242, R243). -/

/-- The slice of cluster `c`, and the fields of ENG_SPARE_STATUS of its spare. -/
def spareState (c : Nat) : Fld := if c % 2 = 0 then ENG_SPARE_STATUS_STATE_A else ENG_SPARE_STATUS_STATE_B
def sparePos (c : Nat) : Fld := if c % 2 = 0 then ENG_SPARE_STATUS_POSITION_A else ENG_SPARE_STATUS_POSITION_B

/-- The state of cluster `c`'s spare: 0 IDLE, 1 TESTING, 2 COPYING, 3 IN_USE, 4 FAILED. -/
def Dev.spare (d : Dev) (c : Nat) : Nat := d.fld (ENG_SPARE_STATUS (c / 2)) (spareState c)

/-- `d` with the spare of cluster `c` in state `st`. -/
def Dev.setSpare (d : Dev) (c st : Nat) : Dev := d.setF (ENG_SPARE_STATUS (c / 2)) (spareState c) st

/-- A migration of cluster `c` was refused or abandoned. -/
def Dev.spareAborted (d : Dev) (c : Nat) : Dev := d.setF (ENG_SPARE_STATUS (c / 2)) ENG_SPARE_STATUS_ABORTED 1

/-- A migration of position `p` of slice `s` starts, or cannot (R242). -/
def Dev.migStart (d : Dev) (s p : Nat) : Dev :=
  let c := clusterOf s p
  if d.spare c = 0 then
    ((d.setSpare c 1).setF (ENG_SPARE_STATUS s) (sparePos c) p).setMig (d.mig.put c ⟨p, d.refNs, false⟩)
  else d.spareAborted c

/-- An automatic trigger for position `p` of slice `s` (R242), as a report of `kind`: without AUTO it starts nothing, and sets ABORTED where the spare is not IDLE. -/
def Dev.migAuto (d : Dev) (s p kind : Nat) : Dev :=
  let (v, d) := d.fresh
  let (c, d) := d.fresh
  let d := d.report (0x0800 + d.physOf s p) kind v ⟨s, p, 0xFF⟩ c
  if d.flag (ENG_SPARE_CFG s) ENG_SPARE_CFG_AUTO || d.spare (clusterOf s p) != 0 then d.migStart s p else d

/-- A whole write of ENG_SPARE_CFG (R242). -/
def Dev.spareCfg (d : Dev) (s : Nat) (v : Word) : Dev :=
  (d.wr (ENG_SPARE_CFG s) (v &&& 0x1F01)).onlyIf (ENG_SPARE_CFG_GO.get v == 1) fun d => d.migStart s (ENG_SPARE_CFG_POSITION.get v)

/-- MIGRATION_GO (R242). -/
def execMigrationGo (slice : Fin 6) (pos : Fin 32) (why : MigWhy) (s : State) : Host.Outcome State Fault Refusal :=
  match why with
  | .go src v => finSW s src slice.val (ENG_SPARE_CFG slice.val) (s.spareCfg slice.val v)
  | .aging => fin s (s.migAuto slice.val pos.val 4)
  | .sram => fin s (s.migAuto slice.val pos.val 2)

/-- SPARE_TEST_DONE (R243): a failed test ends the migration, a passed one begins the freeze. -/
def execSpareTestDone (cluster : Fin 12) (ok : Bool) (s : State) : Host.Outcome State Fault Refusal :=
  let c := cluster.val
  fin s (match s.mig.look c with
    | some m =>
      if s.spare c != 1 || m.frozen then s.toDev
      else if ok then s.setMig (s.mig.put c { m with frozen := true })
      else ((s.setMig (s.mig.del c)).setSpare c 4).spareAborted c
    | none => s.toDev)

/-- Whether no thread of the position has an instruction in progress. -/
def Dev.posIdle (d : Dev) (s p : Nat) : Bool := (thrsOf s p).all fun k => (d.thrAt k).sending.isNone && !(d.thrAt k).heldAcc

/-- MIGRATION_FROZEN (R243): nothing of the position is in progress any more. -/
def execMigrationFrozen (cluster : Fin 12) (s : State) : Host.Outcome State Fault Refusal :=
  let c := cluster.val
  fin s (match s.mig.look c with
    | some m => if m.frozen && s.spare c == 1 && s.posIdle (c / 2) m.pos then s.setSpare c 2 else s.toDev
    | none => s.toDev)

/-- `m` with the `n` bytes from `a` copied to `b`. -/
def Memory.copy (m : Memory) (a b n : Nat) : Memory :=
  (m.filter fun c => decide (a ≤ c.1) && decide (c.1 < a + n)).foldl (fun m c => m.write (c.1 - a + b) c.2) (m.zero b n)

/-- The poisoned words of the `n` bytes from `a` are poisoned from `b` too, with the fault source `f` where they have no other (R243). -/
def copyPoison (t : Tab Nat) (a b n f : Nat) : Tab Nat :=
  (t.filter fun c => decide (a / 8 ≤ c.1) && decide (c.1 < (a + n) / 8)).foldl (fun t c => t.put (c.1 - a / 8 + b / 8) (if c.2 = 0 then f else c.2))
    (t.filter fun c => decide (c.1 < b / 8) || decide ((b + n) / 8 ≤ c.1))

/-- The migration of cluster `c` is abandoned (R243): the position resumes on its own engine. -/
def Dev.migAbandon (d : Dev) (c : Nat) : Dev := ((d.setMig (d.mig.del c)).setSpare c 0).spareAborted c

/-- MIGRATION_SWITCH (R243, R244): the spare has the copy and takes the position, unless 200 µs have passed. -/
def execMigrationSwitch (cluster : Fin 12) (s : State) : Host.Outcome State Fault Refusal :=
  let c := cluster.val
  let sl := c / 2
  match s.mig.look c with
  | some m =>
    if s.spare c != 2 then fin s s.toDev
    else if m.start + 200000 < s.refNs then fin s (s.migAbandon c)
    else
      let old := s.physOf sl m.pos
      let new := 192 + c
      let d := s.setPoison (copyPoison s.poison (localAt old 0) (localAt new 0) 0x40000 (0x0500 + old))
      let d := ((d.setPhys (d.phys.put (posKey sl m.pos) new)).setMig (d.mig.del c)).setSpare c 3
      let d := ((d.setF (ENG_STATUS sl m.pos) ENG_STATUS_PHYS new).setF (ENG_STATUS sl m.pos) ENG_STATUS_MIGRATED 1).setF (ENG_SPARE_STATUS sl) ENG_SPARE_STATUS_DONE 1
      finM s (d.each (thrsOf sl m.pos) fun d k => d.updThr k fun x => { x with migrated := true }) (s.mem.copy (localAt old 0) (localAt new 0) 0x40000)
  | none => fin s s.toDev

/-- MIGRATION_TIMEOUT (R243): not switched by 200 µs. -/
def execMigrationTimeout (cluster : Fin 12) (s : State) : Host.Outcome State Fault Refusal :=
  let c := cluster.val
  fin s (match s.mig.look c with
    | some m => if m.start + 200000 ≤ s.refNs then s.migAbandon c else s.toDev
    | none => s.toDev)

/-! Positions out of service (R245). -/

/-- The frames queued for a group all of whose members are threads of position `p` (R245). -/
def Dev.queuedOnlyFor (d : Dev) (s p : Nat) : List Nat :=
  [0, 1].flatMap fun e => (List.range 256).flatMap fun g =>
    match d.group? s e g with
    | some x => if (List.range 32).all fun q => q == p || x.members.getD q 0 == 0 then d.dspq.lookD (groupKey s e g) [] else []
    | none => []

/-- Bank `i` of slice `s` has no owner. -/
def Dev.bankNone (d : Dev) (s i : Nat) : Dev := (d.setF (ENG_BANK_STATUS s i) ENG_BANK_STATUS_KIND 0).setF (ENG_BANK_STATUS s i) ENG_BANK_STATUS_ID 0

/-- POSITION_OFFLINE (R245): a migration in progress of the position ends with it. -/
def Dev.offlinePos (d : Dev) (s p : Nat) : Dev :=
  let d := (d.clearPos s p).each (d.queuedOnlyFor s p) Dev.frameOut
  let d := d.each (thrsOf s p) fun d k => d.updThr k fun x => { x with st := .stopped, wait := none, armed := false, fired := false, heldAcc := false, heldSeq := 0, haltNext := false }
  let d := (List.range 32).foldl (fun d i =>
    let r := ENG_BANK_STATUS s i
    if d.fld r ENG_BANK_STATUS_KIND == 1 && d.fld r ENG_BANK_STATUS_ID == p then d.bankNone s i else d) d
  let d := d.setF (ENG_STATUS s p) ENG_STATUS_OFFLINE 1
  let c := clusterOf s p
  if (d.mig.look c).any fun m => m.pos == p then d.migAbandon c else d

/-- POSITION_OFFLINE (R245). -/
def execPositionOffline (slice : Fin 6) (pos : Fin 32) (s : State) : Host.Outcome State Fault Refusal := fin s (s.offlinePos slice.val pos.val)

/-! Banks (09 R250 to R256). -/

/-- Whether R250 allows the owner (KIND, ID) of bank `i` of slice `s`; no bank is handed over while the banks of the slice are being cleared, and channel 63 is held then (R257, R258). -/
def Dev.ownerOk (d : Dev) (s i kind id : Nat) : Bool :=
  !d.bankHeld.testBit s && match kind with
    | 0 => id == 0
    | 1 => decide (id < 32) && id / 16 == i / 16 && !d.offline s id
    | 2 => !(id == 63 && d.bankHeld != 0)
    | _ => id == 0

/-- A write of ENG_BANK_HANDOVER (R253, R254). -/
def Dev.bankHandover (d : Dev) (s i : Nat) (v : Word) : Dev :=
  let r := ENG_BANK_STATUS s i
  let kind := ENG_BANK_HANDOVER_KIND.get v
  let id := ENG_BANK_HANDOVER_ID.get v
  if d.flag r ENG_BANK_STATUS_DRAINING || !d.ownerOk s i kind id then
    (d.satAdd r ENG_BANK_STATUS_DISCARDED_WRITES 1).setF r ENG_BANK_STATUS_REFUSED 1
  else ((d.setF r ENG_BANK_STATUS_DRAINING 1).setF r ENG_BANK_STATUS_PEND_KIND kind).setF r ENG_BANK_STATUS_PEND_ID id

/-- BANK_HANDOVER (R253, R254). -/
def execBankHandover (src : Src) (slice : Fin 6) (bank : Fin 32) (v : Word) (s : State) : Host.Outcome State Fault Refusal :=
  finSW s src slice.val (ENG_BANK_HANDOVER slice.val bank.val) (s.bankHandover slice.val bank.val v)

/-- The end of a drain (R253 step 5, R255): a named position that went OFFLINE leaves the bank unowned with REFUSED set. -/
def Dev.handoverDone (d : Dev) (s i : Nat) : Dev :=
  let r := ENG_BANK_STATUS s i
  if !d.flag r ENG_BANK_STATUS_DRAINING then d else
  let kind := d.fld r ENG_BANK_STATUS_PEND_KIND
  let id := d.fld r ENG_BANK_STATUS_PEND_ID
  let d := ((d.setF r ENG_BANK_STATUS_DRAINING 0).setF r ENG_BANK_STATUS_PEND_KIND 0).setF r ENG_BANK_STATUS_PEND_ID 0
  if kind == 1 && d.offline s id then (d.bankNone s i).setF r ENG_BANK_STATUS_REFUSED 1
  else (d.setF r ENG_BANK_STATUS_KIND kind).setF r ENG_BANK_STATUS_ID id

/-- How the exception path's or a DMA channel's access reaches bank `i` of slice `s` as owner (`kind`, `id`) (R252, R253): it is the owner, it is held, or it is refused. -/
inductive BankAsk where
  | owner | held | refused
  deriving DecidableEq, Repr

/-- What bank `i` of slice `s` answers (`kind`, `id`). -/
def Dev.bankAsk (d : Dev) (s i kind id : Nat) : BankAsk :=
  let r := ENG_BANK_STATUS s i
  let drains := d.flag r ENG_BANK_STATUS_DRAINING
  if !drains && d.fld r ENG_BANK_STATUS_KIND == kind && d.fld r ENG_BANK_STATUS_ID == id then .owner
  else if drains && d.fld r ENG_BANK_STATUS_PEND_KIND == kind && d.fld r ENG_BANK_STATUS_PEND_ID == id then .held
  else .refused

/-- The exception path's access `x` to a bank it owns (R256): one word. A poisoned word reads as nothing states (log entry 22); a write clears the poison (R248). -/
def State.excAccess (s : State) (x : ExcAcc) : State :=
  let a := bankAt (2 * x.slice + x.bank / 16) (x.bank % 16) (x.word * 8)
  match x.write with
  | some v => { s with mem := s.mem.writeLE a 8 v.toNat, toDev := s.setPoison (s.poison.del (a / 8)) }
  | none =>
    if (s.poison.look (a / 8)).isSome then s.onDev fun d => let (y, d) := d.fresh; d.emit (.readData (y % 2 ^ 64))
    else s.onDev fun d => d.emit (.readData (s.mem.readLE a 8))

/-- The refusal of the exception path's access `x` (R252, R256): counted, all ones on a read. -/
def Dev.excRefused (d : Dev) (x : ExcAcc) : Dev :=
  let d := d.count (ENG_BANK_DENIED x.slice (x.bank / 16)).addr
  if x.write.isSome then d else d.emit (.readData (2 ^ 64 - 1))

/-- EXC_BANK_ACCESS (R253, R256): by Ulyar through the exception path; held while the bank drains to it. -/
def execExcBankAccess (slice : Fin 6) (bank : Fin 32) (word : Fin 32768) (write : Bool) (v : Word) (s : State) : Host.Outcome State Fault Refusal :=
  let x : ExcAcc := ⟨slice.val, bank.val, word.val, if write then some v else none⟩
  match s.bankAsk slice.val bank.val 3 0 with
  | .owner => let t := s.excAccess x; finM s t.toDev t.mem
  | .held => fin s (s.setExcHeld (s.excHeld ++ [x]))
  | .refused => fin s (s.excRefused x)

/-- The accesses of the exception path that bank `i` of slice `s` held, and those of other banks. -/
def Dev.excOn (d : Dev) (s i : Nat) : List ExcAcc := d.excHeld.filter fun x => x.slice == s && x.bank == i
def Dev.excOff (d : Dev) (s i : Nat) : Dev := d.setExcHeld (d.excHeld.filter fun x => !(x.slice == s && x.bank == i))

/-- HANDOVER_DONE (R253): the accesses that the exception path had held there proceed in order. -/
def execHandoverDone (slice : Fin 6) (bank : Fin 32) (s : State) : Host.Outcome State Fault Refusal :=
  let d := s.handoverDone slice.val bank.val
  if s.flag (ENG_BANK_STATUS slice.val bank.val) ENG_BANK_STATUS_DRAINING then
    let t := (s.excOn slice.val bank.val).foldl State.excAccess { s with toDev := d.excOff slice.val bank.val }
    finM s t.toDev t.mem
  else fin s d

end Sys2Proof.Machine
end

