-- ==== Sys2Proof/Machine/Offload.lean ====
section
/-! DEFINITION. What the offload units share (07 R200 to R202; 15 R410, R420): the memory they reach, and the end of a command. -/
namespace Sys2Proof.Machine

/-- Where a buffer lies: in memory at an address, held by a bank's handover (09 R253), or out of reach. -/
inductive Place where
  | at_ (a : Nat)
  | held
  | bad
  deriving DecidableEq, Repr

/-- How the banks `l` of slice `s` answer an asker (09 R252). -/
def Dev.banksAsk (d : Dev) (s : Nat) (l : List Nat) (kind id : Nat) : BankAsk :=
  let r := l.map fun i => d.bankAsk s i kind id
  if r.contains .refused then .refused else if r.contains .held then .held else .owner

/-- `n` bytes at engine address `a` as position `p` of slice `s` reaches them: engine-local data, quad memory or its own banks. -/
def Dev.enginePlace (d : Dev) (s p a n : Nat) : Place :=
  match d.spot? s p a n with
  | some (.mem m none) => .at_ m
  | some (.mem m (some _)) => match d.banksAsk s (banksOf p (a - 0x400000) n) 1 p with
    | .owner => .at_ m
    | .held => .held
    | .refused => .bad
  | _ => .bad

/-- A buffer of a cipher or compression descriptor (11 R303): an engine address, or with bit 63 set a device address, where engines reach TENANT and ENGINE granules (15 R420). -/
def Dev.bufPlace (d : Dev) (s p x n : Nat) : Place :=
  if n = 0 then .at_ 0
  else if x < 2 ^ 63 then d.enginePlace s p x n
  else if d.dramIn [1, 2] (x % 2 ^ 48) n then .at_ (x % 2 ^ 48) else .bad

/-- A buffer read by device address is an access to its DRAM (15 R417). -/
def State.touchBuf (s : State) (x n : Nat) : State := if x < 2 ^ 63 then s else s.onDev fun d => d.touchDram (x % 2 ^ 48) n

/-- A trap that an offload unit raises (R202): a thread that runs or waits takes it at its next instruction; one that a debugger has halted takes it as it stands; a stopped or trapped
thread takes none. `addr` is the address that caused it, where one did. -/
def Dev.opTrap (d : Dev) (k cause : Nat) (addr fault : Option Nat) : Dev :=
  let x := d.thrAt k
  let mark (d : Dev) : Dev := match fault with
    | some f => d.updThr k fun x => { x with tfault := 0x10000 + f }
    | none => d
  let take (d : Dev) : Dev := mark ((d.updThr k fun x => { x with st := .running, wait := none, armed := false, fired := false }).trap k cause x.pc addr none)
  match x.st with
  | .running | .waiting => take d
  | .halted => if x.prev = .trapped then d else (take d).updThr k fun y => { y with prev := y.st, st := .halted }
  | _ => d

end Sys2Proof.Machine
end

