-- ==== Sys2Proof/Machine/Dram.lean ====
section
/-! DEFINITION. Device DRAM (15 R410 to R425): granules, address-map orders, refresh, scrub and repair, CXL.mem. -/
namespace Sys2Proof.Machine

/-! Granules (R420, R421; 17 R462). -/

/-- Whether `src` may write MEM_GRANULE of a granule of class `old` to `new` (R421). -/
def Dev.granWriter (d : Dev) (src : Src) (old new : Nat) : Bool :=
  match src with
  | .ulyar => true
  | .pf n _ => (d.fld RGM_MEDIATOR RGM_MEDIATOR_PF_MASK).testBit n.val && old != 3 && new != 3

/-- Granule `g` is to take class `c` and TF `tf`: PENDING sets until it has been zeroed (R421). A TENANT granule has counted up to now (R425). -/
def Dev.granChange (d : Dev) (g c tf : Nat) : Dev :=
  let r := MEM_GRANULE g
  if d.granPending g || (d.granClass g == c && d.fld r MEM_GRANULE_TF == tf) then d
  else ((d.cxlSync d.now).setF r MEM_GRANULE_PENDING 1).setGranNext (d.granNext.put g (c, tf))

/-- A write of MEM_GRANULE (R421). -/
def Dev.granWrite (d : Dev) (src : Src) (g : Nat) (v : Word) : Dev :=
  let c := MEM_GRANULE_CLASS.get v
  if d.granWriter src (d.granClass g) c then d.granChange g c (MEM_GRANULE_TF.get v) else d

/-- GRANULE_WRITE (R421). -/
def execGranuleWrite (src : Src) (g : Fin 6144) (v : Word) (s : State) : Host.Outcome State Fault Refusal := finW s src (MEM_GRANULE g.val).addr (s.toDev.granWrite src g.val v)

/-- The SEAL requests whose granules have all been zeroed are answered OK (17 R462). -/
def Dev.sealReplies (d : Dev) : Dev :=
  d.each d.sealWait fun d w =>
    if (List.range w.count).any fun i => d.granPending (w.first + i) then d
    else ((d.setSealWait (d.sealWait.filter (· != w))).mbReply w.chan w.hdr 0 []).mbRefuse w.chan 32

/-- Granule `g` is all zero, and takes what it is to take (R421). -/
def State.granZeroed (s : State) (g : Nat) : State :=
  if !s.flag (MEM_GRANULE g) MEM_GRANULE_PENDING then s else
  let d := s.cxlSync s.now
  let (c, tf) := d.granNext.lookD g (d.granClass g, d.fld (MEM_GRANULE g) MEM_GRANULE_TF)
  let d := (((d.setF (MEM_GRANULE g) MEM_GRANULE_CLASS c).setF (MEM_GRANULE g) MEM_GRANULE_TF tf).setF (MEM_GRANULE g) MEM_GRANULE_PENDING 0).setGranNext (d.granNext.del g)
  { s with toDev := (d.cleanWords (g * 2 ^ 28) (2 ^ 28)).sealReplies, mem := s.mem.zero (g * 2 ^ 28) (2 ^ 28) }

/-- GRANULE_ZEROED (R421). -/
def execGranuleZeroed (g : Fin 6144) (s : State) : Host.Outcome State Fault Refusal :=
  let t := s.granZeroed g.val
  finM t t.toDev t.mem

/-! Orders (R414, R415). -/

/-- The order field of set `t`. -/
def orderFld (t : Nat) : Fld := ⟨2 * t, 2⟩

/-- Whether every granule of set `t` is FREE. -/
def Dev.setFree (d : Dev) (t : Nat) : Bool :=
  match d.setStart t with
  | some b => (granulesOf b d.setBytesOf).all fun g => d.granClass g == 0 && !d.granPending g
  | none => true

/-- Every word of set `t` has valid check bits (R415). -/
def Dev.cleanSet (d : Dev) (t : Nat) : Dev :=
  match d.setStart t with
  | some b => d.cleanWords b d.setBytesOf
  | none => d

/-- A write of MEM_MAP (R415): MAP_REFUSED is cleared by writing 1, and an order that changes needs its set FREE. The contents that a change leaves undefined lie in FREE granules, which nothing
reads before they are zeroed. -/
def Dev.mapWrite (d : Dev) (v : Word) : Dev :=
  (d.w1c MEM_MAP MEM_MAP_MAP_REFUSED v).each [0, 1, 2] fun d t =>
    let f := orderFld t
    if f.get v = d.fld MEM_MAP f then d
    else if d.setFree t then (d.setF MEM_MAP f (f.get v)).cleanSet t else d.setF MEM_MAP MEM_MAP_MAP_REFUSED 1

/-- MEM_MAP_WRITE (R415). -/
def execMemMapWrite (src : Src) (v : Word) (s : State) : Host.Outcome State Fault Refusal := finW s src MEM_MAP.addr (s.toDev.mapWrite v)

/-- Where a device address lies (R414): channel, rank, bank and row. -/
def Dev.dramSpot (d : Dev) (a : Nat) : Option (Nat × Nat × Nat × Nat) :=
  (d.setOf a).map fun t =>
    let o := a - (d.setStart t).getD 0
    let n := o / 1024
    let col := d.fld MEM_GEOM MEM_GEOM_COL_BITS
    let rank := d.fld MEM_GEOM MEM_GEOM_RANK_BITS
    let rowB := d.fld MEM_GEOM MEM_GEOM_ROW_BITS
    let ch := 4 * t + o / 256 % 4
    match d.fld MEM_MAP (orderFld t) with
    | 1 => (ch, bitsOf n (col + rowB + 5) rank, bitsOf n (col + rowB) 5, bitsOf n col rowB)
    | 2 => (ch, bitsOf n (5 + col) rank, bitsOf n 0 5, bitsOf n (5 + col + rank) rowB)
    | m =>
      let row := bitsOf n (col + 5 + rank) rowB
      let bank := bitsOf n col 5
      (ch, bitsOf n (col + 5) rank, if m = 3 then Nat.xor bank (row % 32) else bank, row)

/-- The model's own number of a row. -/
def rowNo (x : Nat × Nat × Nat × Nat) : Nat := ((x.1 * 4 + x.2.1) * 32 + x.2.2.1) * 2 ^ 32 + x.2.2.2

/-! Refresh, self-refresh, scrub, repair (R412, R413, R416 to R418). -/

/-- DRAM_REFRESH (R416): from a rank's refresh on, its interval is the one REFRESH_2X asks for. -/
def execDramRefresh (channel : Fin 12) (rank : Fin 4) (s : State) : Host.Outcome State Fault Refusal :=
  fin s (s.setFastRanks (setBit s.fastRanks (4 * channel.val + rank.val) (s.flag MEM_REFRESH MEM_REFRESH_REFRESH_2X)))

/-- Whether set `t` may enter self-refresh (R417; 19 R496). -/
def Dev.selfRefreshOk (d : Dev) (t : Nat) : Bool :=
  (d.setStart t).isSome && d.flag MEM_PWR MEM_PWR_SR_EN && d.flag PWR_ENVELOPE PWR_ENVELOPE_DRAM_SR && decide (2000 ≤ d.fld PWR_ENVELOPE PWR_ENVELOPE_LATENCY_NS) &&
    !d.flag MEM_REFRESH MEM_REFRESH_REFRESH_2X && decide (d.setAt.lookD t 0 + d.fld MEM_PWR MEM_PWR_SR_IDLE_US * 1000 ≤ d.refNs)

/-- SELF_REFRESH_ENTRY (R417). -/
def execSelfRefreshEntry (set : Fin 3) (s : State) : Host.Outcome State Fault Refusal :=
  fin s (if s.selfRefreshOk set.val then s.setBitF MEM_PWR MEM_PWR_SR_STATE set.val true else s.toDev)

/-- The first DRAM error since the log was cleared (MEM_ECC_LOG). -/
def Dev.eccLog (d : Dev) (a ch : Nat) (ue : Bool) : Dev :=
  if d.flag MEM_ECC_LOG MEM_ECC_LOG_VALID then d
  else (((d.setF MEM_ECC_LOG MEM_ECC_LOG_VALID 1).setF MEM_ECC_LOG MEM_ECC_LOG_UNCORRECTABLE (b2n ue)).setF MEM_ECC_LOG MEM_ECC_LOG_CHANNEL ch).setF MEM_ECC_LOG MEM_ECC_LOG_ADDR a

/-- The words of the 64-byte burst at `a` are poisoned, with the fault source `f`. -/
def Dev.poisonBurst (d : Dev) (a f : Nat) : Dev := d.setPoison ((List.range 8).foldl (fun t i => t.put (a / 64 * 8 + i) f) d.poison)

/-- What a read of the burst at `a` finds (R412). -/
def Dev.dramFound (d : Dev) (a : Nat) (e : EccFound) : Dev :=
  match d.dramSpot a with
  | none => d
  | some x =>
    let ch := x.1
    match e with
    | .clean => d
    | .corrected => ((d.count (memCnt ch)).eccLog (a / 64 * 64) ch false).setRowErr (d.rowErr.upd (rowNo x) 0 (· + 1))
    | .uncorrectable =>
      let (v, d) := d.fresh
      let (c, d) := d.fresh
      let d := ((d.poisonBurst a (0x0C00 + ch)).count (memCnt (12 + ch))).eccLog (a / 64 * 64) ch true
      ((d.setRowBad (d.rowBad.put (rowNo x) ())).setF MEM_EVENT MEM_EVENT_ECC_UE 1).report (0x0C00 + ch) 2 v hubUnit c

/-- PATROL_SCRUB (R413): a set in self-refresh is not woken. -/
def execPatrolScrub (addr : Nat) (found : EccFound) (s : State) : Host.Outcome State Fault Refusal :=
  fin s (match s.setOf addr with
    | some t => if (s.fld MEM_PWR MEM_PWR_SR_STATE).testBit t then s.toDev else s.dramFound addr found
    | none => s.toDev)

/-- Whether the row `r` is to be repaired (R418). -/
def Dev.rowDue (d : Dev) (r : Nat) : Bool :=
  d.flag MEM_PPR MEM_PPR_AUTO && (decide (max 1 (d.fld MEM_PPR MEM_PPR_CE_LIMIT) ≤ d.rowErr.lookD r 0) || (d.rowBad.look r).isSome)

/-- DRAM_ROW_REPAIR (R418): soft repair; a bank group without a repair left is reported instead. -/
def execDramRowRepair (addr : Nat) (left : Bool) (s : State) : Host.Outcome State Fault Refusal :=
  fin s (match s.dramSpot addr with
    | none => s.toDev
    | some x =>
      let r := rowNo x
      if !s.rowDue r then s.toDev
      else if left then
        let d := ((s.setRowErr (s.rowErr.del r)).setRowBad (s.rowBad.del r)).satAdd (MEM_PPR_STATUS x.1) MEM_PPR_STATUS_SOFT_ACTIVE 1
        (d.count (memCnt 26)).setF MEM_EVENT MEM_EVENT_PPR_DONE 1
      else
        let (v, d) := s.fresh
        let (c, d) := d.fresh
        d.report (0x0C00 + x.1) 3 v hubUnit c)

/-! CXL.mem (R423, R424). -/

/-- Decoder `i` of PF `n`. -/
def Dev.hdmAt (d : Dev) (n i : Nat) : Hdm := d.hdm.lookD (n * 8 + i) ⟨0, 0, 0, false, false⟩

/-- Whether two ranges overlap. -/
def overlap (a n b m : Nat) : Bool := decide (a < b + m) && decide (b < a + n)

/-- HDM_COMMIT (R423). -/
def Dev.hdmCommit (d : Dev) (n i : Nat) (base size dpa ways : Nat) : Dev :=
  let others := d.hdm.filter fun x => x.1 != n * 8 + i && x.2.committed
  let bad := ways != 1 || base % 2 ^ 28 != 0 || size % 2 ^ 28 != 0 || decide (d.capacity < dpa + size) || others.any fun x => overlap dpa size x.2.dpa x.2.size
  d.setHdm (d.hdm.put (n * 8 + i) ⟨base, size, dpa, !bad, bad⟩)

/-- HDM_COMMIT: a link in CXL mode has the decoders, which any of its rates reaches over CXL.io. -/
def execHdmCommit (pf : Fin 4) (dec : Fin 8) (base size dpa ways : Nat) (s : State) : Host.Outcome State Fault Refusal :=
  fin s (if s.flag (HIF_LINK_STATUS pf.val) HIF_LINK_STATUS_MODE && s.flag (HIF_LINK_STATUS pf.val) HIF_LINK_STATUS_LINK_UP then
      (if s.frozen pf.val then s.inboundDiscard (.pf pf false) else s.hdmCommit pf.val dec.val base size dpa ways)
    else s.toDev)

/-- The DPA a host address of PF `n` reaches through a committed decoder. -/
def Dev.hdmDpa (d : Dev) (n hpa : Nat) : Option Nat :=
  ((List.range 8).find? fun i => let x := d.hdmAt n i; x.committed && decide (x.base ≤ hpa) && decide (hpa < x.base + x.size)).map fun i =>
    (d.hdmAt n i).dpa + (hpa - (d.hdmAt n i).base)

/-- Whether a CXL.mem access to `n` bytes at `a` is served: TENANT granules not being zeroed, and not in PADDLE or EASY (R424; 19 R490). -/
def Dev.cxlServed (d : Dev) (a n : Nat) : Bool := d.dramIn [1] a n && decide (d.fld PWR_STATUS PWR_STATUS_STATE ≤ 1)

/-- CXL_MEM_ACCESS (R412, R424): a refused read returns all ones, a refused write is discarded, and so is a poisoned one (13 R369). A link that does not carry CXL.mem takes none
(13 R538). -/
def execCxlMemAccess (pf : Fin 4) (hpa len : Nat) (data : CxlReq) (s : State) : Host.Outcome State Fault Refusal :=
  let n := pf.val
  let (size, bad) := match data with
    | .read => (len, false)
    | .write bs poisoned => (bs.length, poisoned)
  let ones (d : Dev) : Dev := if data = .read then d.emit (.cxlData n (List.replicate len 0xFF) false) else d
  if !s.flag (HIF_LINK_STATUS n) HIF_LINK_STATUS_CXL_CM then fin s s.toDev
  else if s.frozen n then fin s (ones (s.inboundDiscard (.pf pf false)))
  else if bad then s.poisonedWrite (.pf pf false)
  else match s.hdmDpa n hpa with
    | none => fin s (ones s.toDev)
    | some a =>
      if !s.cxlServed a size then fin s (ones ((s.count (memCnt 24)).setF MEM_EVENT MEM_EVENT_CXL_REFUSED 1))
      else match data with
        | .write bs _ => let t := s.store a bs; finM t t.toDev t.mem
        | .read => fin s ((s.touchDram a len).emit (.cxlData n (s.mem.readN a len) (s.badIn a len)))

end Sys2Proof.Machine
end

