-- ==== Sys2Proof/Machine/ImageBody.lean ====
section
/-! DEFINITION. The segment bodies of a program image (03 R60, R534; 05 R102 to R112; 06 R123 to R152; 07 R172; 08 R219; 10 R262 to R264,
R274, R280; 16 R442): each is read from its bytes, with the checks of R534, and its length. -/
namespace Sys2Proof.Machine

/-- `n` raised to a multiple of 64. -/
def up64 (n : Nat) : Nat := (n + 63) / 64 * 64

/-- Byte `o` of `bs`. -/
def byteAt (bs : List Byte) (o : Nat) : Nat := (bs.getD o 0).toNat

/-- `lo ≤ v ≤ hi`. -/
def within (lo hi v : Nat) : Bool := decide (lo ≤ v) && decide (v ≤ hi)

/-- The `n` records of `size` bytes from `off`. -/
def recordsAt (bs : List Byte) (off size n : Nat) : List (List Byte) := (List.range n).map fun i => bytesAt bs (off + size * i) size

/-- The magic and the slice of a body (R534). -/
def headOk (bs : List Byte) (magic s : Nat) : Bool := leAt bs 0 4 == magic && byteAt bs 4 == s

/-! Parse trees (05 R102 to R104, R112). -/

def nodeOf (b : List Byte) : PNode where
  hdrId := leAt b 0 2
  reject := bitOf (byteAt b 2) 0
  tunnel := bitOf (byteAt b 2) 1
  minLen := leAt b 4 2
  lenBase := leAt b 6 2
  lenOff := leAt b 8 2
  lenWidth := byteAt b 0xA
  lenShift := byteAt b 0xB
  selOff := leAt b 0xC 2
  selWidth := byteAt b 0xE
  claimOff := leAt b 0x10 2
  claimWidth := byteAt b 0x12
  claimMode := byteAt b 0x13 % 4
  claimShift := byteAt b 0x13 / 4 % 8
  claimAdd := signedOf 16 (leAt b 0x14 2)
  defaultNext := leAt b 0x16 2
  transBase := leAt b 0x18 4
  transCount := byteAt b 0x1C

/-- The ranges of R103, and the node's transitions below the body's `n` (R534). -/
def nodeOk (n : Nat) (b : List Byte) : Bool :=
  let x := nodeOf b
  within 1 1023 x.hdrId && decide (byteAt b 2 < 4) && within 1 1023 x.minLen && decide (x.lenWidth ≤ 16) && decide (x.lenShift ≤ 7) &&
  decide (x.selWidth ≤ 32) && decide (x.claimWidth ≤ 16) && decide (byteAt b 0x13 < 32) && x.claimMode != 3 && decide (x.transCount ≤ 64) &&
  decide (x.transBase + x.transCount ≤ n) && zeroAt b [3, 0xF, 0x1D, 0x1E, 0x1F]

/-- A parse tree body of slice `s`, and its length. -/
def parseOf (s : Nat) (b : List Byte) : Option (ParseBody × Nat) :=
  let nn := leAt b 6 2
  let nt := leAt b 8 4
  let tr := 0x50 + 32 * nn
  let len := tr + 16 * nt
  let nodes := recordsAt b 0x50 32 nn
  let trans := recordsAt b tr 16 nt
  let disp := recordsAt b 0x40 4 3
  let ok := headOk b 0x45535250 s && within 1 24 (byteAt b 5) && within 1 4096 nn && decide (nt ≤ 65536) && decide (byteAt b 0xC < 16) &&
    zeroAt b ([0xD, 0xE, 0xF] ++ offs 0x4C 0x50) && decide (len ≤ b.length) && ((List.range 8).all fun i => decide (byteAt b (0x10 + s / 3 * 8 + i) < 16)) &&
    (disp.all fun x => decide (byteAt x 1 < 64)) && nodes.all (nodeOk nt) && trans.all fun x => zeroAt x (offs 0xA 0x10)
  if ok then some (⟨byteAt b 5, byteAt b 0xC, (List.range 16).map fun i => byteAt b (0x10 + i), (List.range 16).map fun i => leAt b (0x20 + 2 * i) 2,
    disp.map fun x => ⟨byteAt x 0, byteAt x 1, leAt x 2 2⟩, nodes.map nodeOf, trans.map fun x => ⟨leAt x 0 4, leAt x 4 4, leAt x 8 2⟩⟩, len) else none

/-! Classification (06 R123 to R152). -/

def keyFieldOf (b : List Byte) : KeyField :=
  let w := leAt b 0 2
  ⟨w / 2 ^ 14, w / 2 ^ 10 % 16, w % 2 ^ 10, leAt b 2 2, byteAt b 4⟩

/-- The ranges of R129. -/
def keyFieldOk (b : List Byte) : Bool :=
  let k := keyFieldOf b
  decide (k.src ≤ 2) && within 1 (if k.src = 2 then 16 else 128) k.width && zeroAt b [5]

def declOfRec (b : List Byte) : TblDecl := ⟨byteAt b 0, byteAt b 1, byteAt b 2, byteAt b 3, leAt b 4 4, leAt b 8 8, leAt b 0x10 4, leAt b 0x14 2, leAt b 0x18 4⟩

/-- The ranges of R124, and a LEARN_LIST below `lists` (R534). -/
def declOk (lists : Nat) (b : List Byte) : Bool :=
  let t := declOfRec b
  decide (t.id < 64) && within 1 5 t.kind && (match t.kind with
    | 1 => within 1 20 t.keyBytes
    | 2 => within 1 48 t.keyBytes
    | 3 => t.keyBytes == 6
    | 4 => t.keyBytes == 18
    | _ => within 1 24 t.keyBytes) &&
  decide (t.flags ≤ if t.kind = 1 then 1 else 0) && decide (t.learnList < lists) && zeroAt b ([0x16, 0x17] ++ offs 0x1C 0x20)

/-- Key fields, `n` of the eight. -/
def keyFieldsAt (b : List Byte) (off n : Nat) : List (List Byte) := recordsAt b off 6 n

def stepOf (b : List Byte) : ClsStep :=
  let fl := byteAt b 1
  ⟨byteAt b 0, bitOf fl 0, bitOf fl 1, bitOf fl 2, byteAt b 2 == 1, leAt b 4 2, (keyFieldsAt b 0x10 (byteAt b 3)).map keyFieldOf⟩

/-- The ranges of R128; the table is one of `ids`, the miss list below `lists` (R534). -/
def stepOk (ids : List Nat) (lists : Nat) (b : List Byte) : Bool :=
  ids.contains (byteAt b 0) && decide (byteAt b 1 < 8) && decide (byteAt b 2 ≤ 1) && within 1 8 (byteAt b 3) && zeroAt b (offs 6 0x10) &&
  (leAt b 4 2 == 0xFFFF || decide (leAt b 4 2 < lists)) && (keyFieldsAt b 0x10 (byteAt b 3)).all keyFieldOk

def templateOf (b : List Byte) : Template :=
  ⟨b.take 64, byteAt b 64, bitOf (byteAt b 65) 0, leAt b 66 2, byteAt b 68, leAt b 70 2, signedOf 16 (leAt b 72 2)⟩

/-- The ranges and limits of R145. -/
def templateOk (b : List Byte) : Bool :=
  let t := templateOf b
  within 1 64 t.len && decide (byteAt b 65 < 2) && decide (t.patchWidth ≤ 32) && decide (t.patchOff + t.patchWidth ≤ 8 * t.len) &&
  (t.lenfixOff == 0xFFFF || decide (t.lenfixOff + 2 ≤ t.len))

/-- The tables of a body and their initial entries are installed in order in fresh tables, placed by the free value `v`; none when one cannot be (R534). -/
def fillTable (t : TblDecl) (init : List InitEnt) (v : Nat) : Option Table :=
  (init.filter fun x => x.table == t.id).foldlM (fun (tab : Table) x =>
    match tab.install (recEntry t.kind t.keyBytes x.record) v with
    | .inl r => some r.1
    | .inr _ => none) ⟨t, [], none, 0⟩

/-- A classification body of slice `s`, and its length. -/
def clsOf (s : Nat) (b : List Byte) : Option (ClsBody × Nat) :=
  let nt := byteAt b 5
  let nl := leAt b 6 2
  let ns := leAt b 8 2
  let nh := leAt b 0xA 2
  let ni := leAt b 0x350 4
  let oSteps := up64 (0x400 + 32 * nt)
  let oLists := up64 (oSteps + 64 * ns)
  let oTpl := up64 (oLists + 64 * nl)
  let oInit := up64 (oTpl + 128 * nh)
  let len := oInit + 72 * ni
  let tabs := recordsAt b 0x400 32 nt
  let decls := tabs.map declOfRec
  let ids := decls.map TblDecl.id
  let steps := recordsAt b oSteps 64 ns
  let progs := recordsAt b 0x10 4 16
  let lims := recordsAt b 0x50 16 16
  let mirs := recordsAt b 0x150 8 64
  let tpls := recordsAt b oTpl 128 nh
  let inits := recordsAt b oInit 72 ni
  let initOk (x : List Byte) : Bool := zeroAt x (offs 1 8) && match decls.find? fun t => t.id == byteAt x 0 with
    | some t => recOk t.kind t.keyBytes true (x.drop 8)
    | none => false
  let ok := headOk b 0x45534C43 s && within 1 64 nt && decide (1 ≤ nl) && decide (ns ≤ 256) && decide (nh ≤ 255) &&
    zeroAt b ([0xE, 0xF] ++ offs 0x354 0x400) && decide (len ≤ b.length) && tabs.all (declOk nl) && decide (dedup ids = ids) &&
    (steps.all (stepOk ids nl)) && (progs.all fun x => decide (byteAt x 2 ≤ 16) && byteAt x 3 == 0 && decide (leAt x 0 2 + byteAt x 2 ≤ ns)) &&
    (lims.all fun x => decide (byteAt x 10 ≤ 1) && zeroAt x (offs 11 16)) && (mirs.all fun x => decide (byteAt x 0 ≤ 1)) && tpls.all templateOk && inits.all initOk
  if ok then some ({
    ipv4Hdr := leAt b 0xC 2
    programs := progs.map fun x => (leAt x 0 2, byteAt x 2)
    limits := lims.map fun x => ⟨leAt x 0 4, leAt x 4 4, leAt x 8 2, byteAt x 10⟩
    mirrors := mirs.map fun x => ⟨byteAt x 0, leAt x 2 2, leAt x 4 2, leAt x 6 2⟩
    tables := decls
    steps := steps.map stepOf
    lists := (recordsAt b oLists 64 nl).map fun l => (recordsAt l 0 8 8).map fun w => ⟨byteAt w 0, byteAt w 1, leAt w 2 2, leAt w 4 4⟩
    templates := tpls.map templateOf
    init := inits.map fun x => ⟨byteAt x 0, x.drop 8⟩ }, len) else none

/-! Engine code (07 R172, R173; 08 R219). -/

def posCfgOf (b : List Byte) : PosCfg :=
  ⟨(List.range 16).map (byteAt b), (List.range 8).map fun t => byteAt b (0x10 + t) % 16, (List.range 8).map fun t => byteAt b (0x18 + t) % 16⟩

def groupOf (b : List Byte) : Group := ⟨(List.range 32).map (byteAt b), max 1 (leAt b 0x20 2)⟩

/-- An engine code body of slice `s`, and its length. -/
def codeOf (s : Nat) (b : List Byte) : Option (CodeBody × Nat) :=
  let nc := leAt b 0xC 4
  let nd := leAt b 0x10 4
  let nq := leAt b 0x14 4
  let nt := leAt b 0x18 4
  let oData := up64 (0x80 + nc)
  let oQuad := up64 (oData + nd)
  let oCfg := up64 (oQuad + nq)
  let len := oCfg + nt
  let ng := leAt b (oCfg + 0x800) 2
  let recs := recordsAt b (oCfg + 0x810) 48 ng
  let ok := headOk b 0x474F4C43 s && decide (byteAt b 5 < 4) && within 4 65536 nc && nc % 4 == 0 && decide (nd ≤ 131072) && decide (nq ≤ 1048576) &&
    zeroAt b ([6, 7] ++ offs 0x1C 0x20 ++ offs 0x60 0x80) && decide (len ≤ b.length) && decide (ng ≤ 256) && nt == 0x810 + 48 * ng &&
    (recs.all fun g => decide (leAt g 0x20 2 ≤ 4096)) && decide ((recs.map fun g => leAt g 0x20 2).sum ≤ 16384)
  if ok then some ({
    nodlOk := bitOf (byteAt b 5) 0
    compat := bitOf (byteAt b 5) 1
    engineMask := leAt b 8 4
    code := bytesAt b 0x80 nc
    data := bytesAt b oData nd
    quad := bytesAt b oQuad nq
    entry := (List.range 8).map fun i => leAt b (0x20 + 4 * i) 4
    trapv := (List.range 8).map fun i => leAt b (0x40 + 4 * i) 4
    pos := (recordsAt b oCfg 64 32).map posCfgOf
    groups := recs.map groupOf }, len) else none

/-! Scheduler trees (10 R262 to R264, R274). -/

/-- A node record of level `l`. -/
def nodeRecOf (l : Nat) (b : List Byte) : NodeRec :=
  let fl := byteAt b 5
  { parent := leAt b 0 2
    slot := byteAt b 4
    shaped := bitOf fl 0
    cbs := bitOf fl 1
    privileged := bitOf fl 2
    gated := bitOf fl 3
    quantum := leAt b 8 4
    creditMax := leAt b 0xC 4
    rate := leAt b 0x10 4
    burst := leAt b 0x14 4
    gate := if l = 1 then byteAt b 0x18 else 0
    tf := if l = 2 then leAt b 0x18 2 else 0xFFFF
    onchip := if l = 3 then leAt b 0x18 2 else 0
    dram := if l = 3 then leAt b 0x1A 2 else 0
    ring := if l = 3 then leAt b 0x1C 4 else 0xFFFFFFFF }

/-- The ranges of R263 and R264 for one record of level `l`. -/
def nodeRecOk (l : Nat) (b : List Byte) : Bool :=
  let r := nodeRecOf l b
  let fl := byteAt b 5
  zeroAt b [2, 3, 6, 7] && (if l = 0 then r.parent == 0 && r.slot == 0 else decide (r.slot ≤ 3) || r.slot == 0xFF) &&
  Nat.land fl ([0x1, 0xB, 0x1, 0x5].getD l 0) == fl && !(r.shaped && r.cbs) &&
  (if l != 0 && r.slot == 0xFF then within 64 1048576 r.quantum && within r.quantum 16777216 r.creditMax else r.quantum == 0 && r.creditMax == 0) &&
  (!(r.shaped || r.cbs) || within 8 1600000000 r.rate) && (!r.shaped || within 64 16777216 r.burst) &&
  match l with
  | 0 => zeroAt b (offs 0x18 0x20)
  | 1 => decide (r.gate < 8) && zeroAt b (offs 0x19 0x20)
  | 2 => zeroAt b (offs 0x1A 0x20)
  | _ => within 16 24576 r.onchip

/-- The children of one level under parents numbered below `n` (R264): known parents, no two of a strict slot, at most 1,024 weighted. -/
def kidsOk (n : Nat) (rs : List NodeRec) : Bool :=
  let strict := (rs.filter fun r => r.slot != 0xFF).map fun r => r.parent * 4 + r.slot
  let weighted := (rs.filter fun r => r.slot == 0xFF).map NodeRec.parent
  (rs.all fun r => decide (r.parent < n)) && decide (dedup strict = strict) &&
  (dedup weighted).all fun p => decide ((weighted.filter (· == p)).length ≤ 1024)

/-- The port node above a class, a tenant and a queue record. -/
def SchedBody.portOf (b : SchedBody) (l : Nat) (r : NodeRec) : Nat :=
  match l with
  | 1 => r.parent
  | 2 => ((b.rec? 1 r.parent).map NodeRec.parent).getD 17
  | _ => (((b.rec? 2 r.parent).bind fun t => b.rec? 1 t.parent).map NodeRec.parent).getD 17

/-- What R264 asks of the whole tree. -/
def SchedBody.consistent (b : SchedBody) : Bool :=
  kidsOk 17 b.classes && kidsOk b.classes.length b.tenants && kidsOk b.tenants.length b.queues && decide ((b.queues.filter NodeRec.privileged).length ≤ 64) &&
  (b.tenants.all fun t => b.portOf 2 t == 16 || t.tf == 0xFFFF) &&
  b.queues.all fun q => if b.portOf 3 q = 16 then decide (q.ring < 131072) else q.ring == 0xFFFFFFFF

/-- A scheduler tree body of slice `s`, and its length. -/
def schedOf (s : Nat) (b : List Byte) : Option (SchedBody × Nat) :=
  let nc := leAt b 6 2
  let nt := leAt b 8 4
  let nq := leAt b 0xC 4
  let np := leAt b 0x10 4
  let oCls := up64 (0x20 + 32 * 17)
  let oTen := up64 (oCls + 32 * nc)
  let oQ := up64 (oTen + 32 * nt)
  let oP := up64 (oQ + 32 * nq)
  let len := oP + 16 * np
  let recs := [recordsAt b 0x20 32 17, recordsAt b oCls 32 nc, recordsAt b oTen 32 nt, recordsAt b oQ 32 nq]
  let pols := recordsAt b oP 16 np
  let lvl (l : Nat) : List NodeRec := (recs.getD l []).map (nodeRecOf l)
  let body : SchedBody := ⟨lvl 0, lvl 1, lvl 2, lvl 3, pols.map fun x => ⟨leAt x 0 4, leAt x 4 4⟩⟩
  let ok := headOk b 0x4D475354 s && zeroAt b (5 :: offs 0x14 0x20) && decide (nc ≤ 1024) && decide (nt ≤ 16384) && within 1 65536 nq && decide (np ≤ 65536) &&
    decide (len ≤ b.length) && ((List.range 4).all fun l => (recs.getD l []).all (nodeRecOk l)) && body.consistent &&
    pols.all fun x => within 8 1600000000 (leAt x 0 4) && within 64 16777216 (leAt x 4 4) && zeroAt x (offs 8 16)
  if ok then some (body, len) else none

/-! Gate lists (10 R280). The first list begins at the first 64-byte boundary of the body beyond its header (log entry 24). -/

/-- The lists from offset `off` on, and where the last one ends. -/
def gateLists (s : Nat) (b : List Byte) : Nat → Nat → Option (List GateList × Nat)
  | 0, stop => some ([], stop)
  | n + 1, stop =>
    let o := up64 stop
    let ne := leAt b (o + 2) 2
    let ents := recordsAt b (o + 0x20) 8 ne
    let g : GateList := ⟨byteAt b o, leAt b (o + 4) 4, leAt b (o + 8) 8, ents.map fun e => (byteAt e 0, leAt e 4 4)⟩
    let ok := g.port / 8 == s / 3 && within 1 1024 ne && within 32 1000000000 g.cycle && zeroAt (b.drop o) (1 :: offs 0x10 0x20) &&
      ents.all fun e => zeroAt e [1, 2, 3] && within 32 1000000000 (leAt e 4 4)
    if ok then (gateLists s b n (o + 0x20 + 8 * ne)).map fun r => (g :: r.1, r.2) else none

/-- A gate list body of slice `s`, and its length. -/
def gatesOf (s : Nat) (b : List Byte) : Option (List GateList × Nat) :=
  let n := byteAt b 5
  if headOk b 0x45544147 s && zeroAt b [6, 7] && decide (n ≤ 16) then
    match gateLists s b n 8 with
    | some (l, len) => if len ≤ b.length ∧ dedup (l.map GateList.port) = l.map GateList.port then some (l, len) else none
    | none => none
  else none

/-! Metering definitions (16 R442). -/

def mtrDefOf (b : List Byte) : MtrDef :=
  let fl := byteAt b 0
  ⟨bitOf fl 0, bitOf fl 1, bitOf fl 2, byteAt b 1, signedOf 16 (leAt b 2 2), byteAt b 4⟩

/-- The metering body, and its length. -/
def mtrOf (b : List Byte) : Option (MtrBody × Nat) :=
  let es := leAt b 4 2
  let nd := leAt b 6 2
  let nf := byteAt b 9
  let len := 0x40 + 16 * nd
  let fs := keyFieldsAt b 0x10 nf
  let defs := recordsAt b 0x40 16 nd
  let ok := leAt b 0 4 == 0x5254454D && within 1 3600 es && 3600 % es == 0 && within 1 256 nd && decide (byteAt b 8 ≤ 48) && decide (nf ≤ 8) &&
    zeroAt b (offs 0xA 0x10) && decide (len ≤ b.length) && fs.all keyFieldOk &&
    defs.all fun x => decide (byteAt x 0 < 8) && decide (byteAt x 1 ≤ 20) && decide (byteAt x 4 ≤ 2) && zeroAt x (offs 5 16)
  if ok then some (⟨es, byteAt b 8, fs.map keyFieldOf, defs.map mtrDefOf⟩, len) else none

end Sys2Proof.Machine
end

