-- ==== Sys2Proof/Machine/Sha.lean ====
section
/-! DEFINITION. SHA-256 (03 R62; 16 R447; 17 R467 to R472). FIPS 180-4's constants are computed from the primes they come from. -/
namespace Sys2Proof.Machine

/-- The greatest `x` made of `acc`'s bits and the `n` below them with `x ^ k ≤ m`. -/
def rootBits (k m : Nat) : Nat → Nat → Nat
  | 0, acc => acc
  | n + 1, acc => rootBits k m n (if (acc + 2 ^ n) ^ k ≤ m then acc + 2 ^ n else acc)

/-- The first 32 bits of the fraction of the `k`-th root of `p`. -/
def rootFraction (k p : Nat) : BitVec 32 := BitVec.ofNat 32 (rootBits k (p * 2 ^ (32 * k)) 40 0)

/-- The primes below 312: the first 64. -/
def shaPrimes : List Nat := (List.range' 2 310).filter fun p => (List.range' 2 16).all fun q => q == p || p % q != 0

/-- `x` turned right by each distance, the turns summed without carry. -/
def turns (x : BitVec 32) (ds : List Nat) : BitVec 32 := ds.foldl (fun y n => y ^^^ x.rotateRight n) 0

/-- The compression of one block in progress: the last four values of each of its two sequences, newest first, and the next 16
schedule words, oldest first. -/
structure ShaRun where
  as : List (BitVec 32)
  es : List (BitVec 32)
  ws : List (BitVec 32)
  deriving DecidableEq, Repr

/-- One round with constant `k`: both sequences and the schedule gain a value. -/
def ShaRun.round (r : ShaRun) (k : BitVec 32) : ShaRun :=
  let a n := r.as.getD n 0
  let e n := r.es.getD n 0
  let w n := r.ws.getD n 0
  let common := k + w 0 + e 3 + turns (e 0) [6, 11, 25] + (e 2 ^^^ (e 0 &&& (e 1 ^^^ e 2)))
  let majority := (a 0 &&& (a 1 ||| a 2)) ||| (a 1 &&& a 2)
  let far := w 9 + w 0 + (turns (w 1) [7, 18] ^^^ (w 1 >>> 3)) + (turns (w 14) [17, 19] ^^^ (w 14 >>> 10))
  { as := (common + majority + turns (a 0) [2, 13, 22]) :: r.as.take 3, es := (common + a 3) :: r.es.take 3, ws := r.ws.drop 1 ++ [far] }

/-- The 32-bit words of a byte string, big-endian, at most `n`. -/
def beWords (n : Nat) (bs : List Byte) : List (BitVec 32) := (List.range n).map fun i => BitVec.ofNat 32 (beAt bs (4 * i) 4)

/-- One 64-byte block taken into the hash value. -/
def shaBlock (h : List (BitVec 32)) (blk : List Byte) : List (BitVec 32) :=
  let r := (shaPrimes.map (rootFraction 3)).foldl ShaRun.round { as := h.take 4, es := h.drop 4, ws := beWords 16 blk }
  List.zipWith (· + ·) h (r.as ++ r.es)

/-- The hash value after the first `n` blocks of a padded message. -/
def shaBlocks (msg : List Byte) (n : Nat) : List (BitVec 32) :=
  (List.range n).foldl (fun h i => shaBlock h (bytesAt msg (64 * i) 64)) ((shaPrimes.take 8).map (rootFraction 2))

/-- SHA-256 of a byte string: padded to whole blocks with a 1 bit, zeros and the length in bits. -/
def sha256 (bs : List Byte) : List Byte :=
  let blocks := (bs.length + 72) / 64
  let msg := bs ++ 0x80 :: List.replicate (64 * blocks - 9 - bs.length) 0 ++ beBytes 8 (8 * bs.length)
  (shaBlocks msg blocks).flatMap fun x => beBytes 4 x.toNat

end Sys2Proof.Machine
end

