-- ==== Sys2Proof/Machine/Images.lean ====
section
/-! DEFINITION. Program images and epochs (03 R60 to R74): load, the checks, the switch, the drain. -/
namespace Sys2Proof.Machine

/-! The checks of R63. -/

/-- The last bytes of an image, its signature (R61). -/
def sigLen : Nat := 7856

/-- The directory entries of an image (R62). -/
def dirOf (bs : List Byte) : List (List Byte) := recordsAt bs 0x20 48 6

/-- Check 0x01 of R63; a directory with an unknown, a repeated or a missing TYPE fails it too, its entries not being as R60 and R62 state (log entry 150). -/
def headerOk (bs : List Byte) : Bool :=
  let total := leAt bs 0x18 4
  let dirs := dirOf bs
  leAt bs 0 4 == 0x4D49564F && leAt bs 4 2 == 3 && leAt bs 0xA 2 == 6 && decide (byteAt bs 9 ≤ 3) && zeroAt bs (offs 0x1C 0x20) &&
  decide (0x140 + sigLen ≤ total) && decide (total ≤ 2 ^ 28) && decide (total ≤ bs.length) &&
  (dirs.all fun x => within 1 6 (byteAt x 0) && (byteAt x 0 == 6 || decide (byteAt x 1 < 64)) && zeroAt x ([2, 3] ++ offs 0xC 0x10) &&
    decide (0x140 ≤ leAt x 4 4) && decide (leAt x 4 4 + leAt x 8 4 ≤ total - sigLen)) &&
  decide (dedup (dirs.map fun x => byteAt x 0) = dirs.map fun x => byteAt x 0)

/-- Whether an image key is accepted: unrevoked, and allowed by the life-cycle state (R63; 17 R473; log entry 25). -/
def Dev.keyAccepted (d : Dev) (k : Nat) : Bool :=
  !(d.fld MBX_FUSE MBX_FUSE_REVOKED).testBit k && match d.life with
    | 1 | 2 => true
    | 0 | 3 => k == 0
    | _ => false

/-- The bodies of a segment for the slices of its mask, each on a 64-byte boundary, ending exactly at its end (R534). -/
def bodiesAt {α : Type} (f : Nat → List Byte → Option (α × Nat)) (seg : List Byte) : List Nat → Nat → Option (List (Nat × α))
  | [], stop => if stop = seg.length then some [] else none
  | s :: t, stop =>
    match f s (seg.drop (up64 stop)) with
    | some (b, n) => (bodiesAt f seg t (up64 stop + n)).map fun r => (s, b) :: r
    | none => none

/-- The bytes and the slices of the segment of type `t`. -/
def segOf (bs : List Byte) (t : Nat) : List Byte × List Nat :=
  match (dirOf bs).find? fun x => byteAt x 0 == t with
  | some x => (bytesAt bs (leAt x 4 4) (leAt x 8 4), if leAt x 4 4 % 64 = 0 then setBits 6 (byteAt x 1) else [6])
  | none => ([], [6])

/-- The bodies of the segment of type `t` (R534). -/
def segBodies {α : Type} (bs : List Byte) (t : Nat) (f : Nat → List Byte → Option (α × Nat)) : Option (Tab α) :=
  bodiesAt (fun s b => if s = 6 then none else f s b) (segOf bs t).1 (segOf bs t).2 0

/-- Whether two declarations of one TABLE_ID share storage (R72). -/
def TblDecl.shares (a b : TblDecl) : Bool :=
  a.id == b.id && a.layoutHash == b.layoutHash && a.kind == b.kind && a.keyBytes == b.keyBytes && a.flags == b.flags && a.capacity == b.capacity && a.treeKib == b.treeKib

/-- The table declarations of slice `s` in the epoch that stays resident. -/
def Dev.residentDecls (d : Dev) (s : Nat) : List TblDecl := (((d.bodies d.curSlot s).cls).map ClsBody.tables).getD []

/-- The declarations of the new tables of slice `s` that share no storage with the resident epoch (R72). -/
def Dev.ownDecls (d : Dev) (s : Nat) (b : ClsBody) : List TblDecl := b.tables.filter fun t => !(d.residentDecls s).any t.shares

/-- The limits of R125 beside the resident epoch, and that the initial entries can all be inserted (R534). -/
def Dev.clsFits (d : Dev) (cls : Tab ClsBody) (v : Nat) : Bool :=
  let all (s : Nat) : List TblDecl := d.residentDecls s ++ ((cls.look s).map (d.ownDecls s)).getD []
  let cap (p : Nat → Bool) (s : Nat) : Nat := (((all s).filter fun t => p t.kind).map TblDecl.capacity).sum
  ((List.range 6).all fun s => decide (cap (· == 1) s ≤ 262144) && decide (cap (fun k => k == 3 || k == 4) s ≤ 1048576) && decide (cap (· == 5) s ≤ 1048576)) &&
  decide (((List.range 6).map (cap (· == 2))).sum ≤ 67108864) &&
  decide (((List.range 6).map fun s => ((all s).map TblDecl.treeKib).sum).sum ≤ d.fld IMG_TREE_MEM IMG_TREE_MEM_MIB * 1024) &&
  cls.all fun sb => (d.ownDecls sb.1 sb.2).all fun t => (fillTable t sb.2.init v).isSome

/-- Check 0x07: the image, when every body is consistent and fits (R63, R534). -/
def Dev.imageOf (d : Dev) (bs : List Byte) (v : Nat) : Option Image :=
  match segBodies bs 1 parseOf, segBodies bs 2 clsOf, segBodies bs 3 codeOf, segBodies bs 4 schedOf, segBodies bs 5 gatesOf, mtrOf (segOf bs 6).1 with
  | some p, some c, some e, some t, some g, some (m, n) =>
    if (segOf bs 6).2 ≠ [6] ∧ n = (segOf bs 6).1.length ∧ d.clsFits c v = true then
      let bytes := bs.take (leAt bs 0x18 4)
      some ⟨leAt bs 0x10 8, (List.range 6).map fun s => ⟨p.look s, c.look s, e.look s, t.look s, g.look s⟩, m,
        (List.range 16).filterMap fun q => (Config.spreadOf bytes q).map fun x => ⟨q, x.1, x.2⟩, bytes, v⟩
    else none
  | _, _, _, _, _, _ => none

/-- The checks 0x01 to 0x07 in their order (R63): the first code that fails, or the image. -/
def Dev.checkImage (d : Dev) (bs : List Byte) (v : Nat) : Nat ⊕ Image :=
  if !headerOk bs then .inl 1
  else if !(leAt bs 6 2 == GLB_IDENT.rst / 2 ^ 16 && byteAt bs 8 == GLB_STEP.rst % 2 ^ 8) then .inl 2
  else if !d.keyAccepted (byteAt bs 9) then .inl 3
  else if !Config.sigOk (byteAt bs 9) (bs.take (leAt bs 0x18 4)) then .inl 4
  else if leAt bs 0xC 4 < d.fld MBX_FUSE MBX_FUSE_IMAGE_MIN then .inl 5
  else if !((dirOf bs).all fun x => sha256 (bytesAt bs (leAt x 4 4) (leAt x 8 4)) == x.drop 0x10) then .inl 6
  else match d.imageOf bs v with
    | some i => .inr i
    | none => .inl 7

/-! A load (R63, R74). -/

/-- LOAD_STATE becomes `st`. -/
def Dev.loadState (d : Dev) (st : Nat) : Dev := d.setF IMG_STATUS IMG_STATUS_LOAD_STATE st

/-- The asker of load `l` is answered (R461, R463); a load from the boot, or one whose request was abandoned, has none. -/
def Dev.loadReply (d : Dev) (l : Load) (status : Nat) (payload : List Nat) : Dev :=
  d.onlyIf (decide (l.chan < 8)) fun d => (d.mbReply l.chan l.tag status payload).mbRefuse l.chan 32

/-- The bytes an address argument names: from host memory as `data` says, or from device memory. -/
def State.argBytes (s : State) (c : Nat) (p : List Nat) (len : Nat) (data : HostData) : Option (List Byte) :=
  match spaceOf c (p.getD 0 0) with
  | .host pf => if s.canIssue pf then data.map fun b => bytesAt b 0 len else none
  | .device => some (s.mem.readN (word64 p 1) len)
  | .bad => none

/-- Whether the request at the front of channel `c`, a command `cmd` that would be served, names host memory whose requests wait for Bus Master Enable: it waits (13 R367). -/
def Dev.reqWaits (d : Dev) (c cmd : Nat) (allowed state : Bool) (len : Nat) : Bool :=
  match (d.mb c).front with
  | some (h, p) => h / 2 ^ 24 == cmd && !badCommand h && allowed && state && p.length == len && (match spaceOf c (p.getD 0 0) with
    | .host pf => d.fnHeld (4096 + pf)
    | _ => false)
  | none => false

/-- Whether an address argument is one: a SPACE word of R460, and device addresses in granules that a descriptor of Ulyar reaches (15 R420). -/
def Dev.argOk (d : Dev) (c : Nat) (p : List Nat) (len : Nat) : Bool :=
  match spaceOf c (p.getD 0 0) with
  | .host _ => true
  | .device => d.dramIn [1, 2] (word64 p 1) len
  | .bad => false

/-- A request to load the image `bytes` at time `t` (R63, R64). -/
def Dev.loadStart (d : Dev) (chan tag t : Nat) (bytes : List Byte) : Dev :=
  ((d.setLoad (some ⟨chan, tag, bytes, none, 0⟩)).loadState 1).wr IMG_SWITCH_AT (BitVec.ofNat 64 t)

/-- The channels on which a command other than GET_INFO is allowed (R461): IMAGE_LOAD on 4 to 7, and on 0 to 3 when NS_IMAGE is 1. -/
def Dev.mayLoad (d : Dev) (c : Nat) : Bool := decide (4 ≤ c) || d.flag MBX_POLICY MBX_POLICY_NS_IMAGE

/-- IMAGE_LOAD (R63; 17 R461): refused with 0x08 while a load is in progress, before its payload is looked at, else staged; the reply follows the switch or the refusal (R35). -/
def execImageLoad (ch : Fin 8) (data : HostData) (s : State) : Host.Outcome State Fault Refusal :=
  let c := ch.val
  let busy := s.fld IMG_STATUS IMG_STATUS_LOAD_STATE != 0
  if !busy && s.reqWaits c 2 (s.mayLoad c) (s.life != 4) 6 then fin s s.toDev else
  fin s (s.mbServe c 2 (s.mayLoad c) (s.life != 4) (if busy then ((s.mb c).front.map fun x => x.2.length).getD 6 else 6) fun d h p =>
    if busy then (d.setF IMG_STATUS IMG_STATUS_LAST_ERROR 8).mbReply c h 5 [8]
    else if !d.argOk c p (p.getD 3 0) then d.mbReply c h 3 []
    else match s.argBytes c p (p.getD 3 0) data with
      | some bs => d.loadStart c h (word64 p 4) bs
      | none => d.mbReply c h 6 [])

/-! The epoch slots (R66, R72, R138, R174). -/

/-- The slot a verified load takes: slot 0 for the first image, else the one that is not current. -/
def Dev.freeSlot (d : Dev) : Nat := if d.flag IMG_STATUS IMG_STATUS_NO_IMAGE then 0 else 1 - d.curSlot

/-- A number for a new stored table, above every one in use. -/
def Dev.nextTbl (d : Dev) : Nat :=
  (d.tbl.map Prod.fst ++ d.tblMap.map Prod.snd ++ (d.treeLoad.map fun x => x.2.1) ++ d.skim.map fun x => x.2.tab).foldl (fun a k => max a (k + 1)) 0

/-- Table `t` of slice `s` in slot `e`: shared with the current epoch's (R72), or new with its initial entries (R138). -/
def Dev.placeTable (d : Dev) (s e : Nat) (init : List InitEnt) (v : Nat) (t : TblDecl) : Dev :=
  let shared := if (d.residentDecls s).any t.shares then d.tblMap.look (tblKey s d.curSlot t.id) else none
  match shared with
  | some n => d.setTblMap (d.tblMap.put (tblKey s e t.id) n)
  | none =>
    let n := d.nextTbl
    let x := (fillTable t init v).getD ⟨t, [], none, 0⟩
    (d.putTable n { x with sweptAt := d.now }).setTblMap (d.tblMap.put (tblKey s e t.id) n)

/-- The residency bits of slot `e` of slice `s` follow what the slot holds (R60). -/
def Dev.residency (d : Dev) (s e : Nat) : Dev :=
  let b := d.bodies e s
  let d := d.setF (PRS_STATUS s) (if e = 0 then PRS_STATUS_SLOT0_TREE else PRS_STATUS_SLOT1_TREE) (b2n b.parse.isSome)
  let d := d.setF (CLS_STATUS s) (if e = 0 then CLS_STATUS_SLOT0_BODY else CLS_STATUS_SLOT1_BODY) (b2n b.cls.isSome)
  let d := d.setF (TMG_STATUS s) (if e = 0 then TMG_STATUS_SLOT0_TREE else TMG_STATUS_SLOT1_TREE) (b2n b.sched.isSome)
  let d := d.setF (TMG_STATUS s) (if e = 0 then TMG_STATUS_SLOT0_GATES else TMG_STATUS_SLOT1_GATES) (b2n b.gates.isSome)
  d.each (List.range 32) fun d p => d.setBitF (ENG_STATUS s p) ENG_STATUS_CODE_SLOTS e (b.code.any fun c => c.runs p)

/-- DATA and QUAD of slice `s`'s code body are copied (07 R174). -/
def State.placeData (s : State) (sl : Nat) (b : CodeBody) : State :=
  let m := ((List.range 32).filter b.runs).foldl (fun (m : Memory) p => m.writeN (localAt (s.physOf sl p) 0x20000) b.data) s.mem
  { s with mem := (List.range 8).foldl (fun (m : Memory) q => m.writeN (quadAt (8 * sl + q) 0) b.quad) m }

/-- The code of slice `sl` is placed in the region of slot `e`. -/
def State.putCode (s : State) (e sl : Nat) : State :=
  match s.code e sl with
  | none => s
  | some b => { s with mem := ((List.range 32).filter b.runs).foldl (fun (m : Memory) p => m.writeN (localAt (s.physOf sl p) (codeBase e)) b.code) s.mem }

/-- The code of slice `sl` is placed in the region of slot `e`; DATA and QUAD only where no code of the other epoch is there (07 R174). -/
def State.placeCode (s : State) (e sl : Nat) : State :=
  match s.code e sl, s.code (1 - e) sl with
  | some b, none => (s.putCode e sl).placeData sl b
  | _, _ => s.putCode e sl

/-- The number of the epoch after the last one: 1 to 65,535 (R66). -/
def Dev.nextEpoch (d : Dev) : Nat := d.lastEpoch % 65535 + 1

/-- The image takes its slot: its tables are placed, its code, and the load waits for its switch (R74, R138). -/
def State.slotEnter (s : State) (i : Image) : State :=
  let e := s.freeSlot
  let t := (s.rd IMG_SWITCH_AT).toNat
  let d := (s.setSlots (s.slots.put e ⟨s.nextEpoch, if s.now < t then t else 2 ^ 64, i⟩)).loadState 3
  let d := d.each (List.range 6) fun d sl => match (d.bodies e sl).cls with
    | some b => d.each b.tables fun d x => d.placeTable sl e b.init i.fill x
    | none => d
  let d := d.each (List.range 6) fun d sl => d.residency sl e
  (List.range 6).foldl (fun s sl => s.placeCode e sl) { s with toDev := d }

/-- The load is refused with `code` (R63). -/
def Dev.loadRefused (d : Dev) (l : Load) (code : Nat) : Dev :=
  (((d.setLoad none).loadState 0).setF IMG_STATUS IMG_STATUS_LAST_ERROR code).loadReply l 5 [code]

/-- The answer of a meaning that may have changed memory. -/
def finS (s t : State) : Host.Outcome State Fault Refusal := finM s t.toDev t.mem

/-- IMAGE_VERIFIED (R63, R67, R74): the checks end. -/
def execImageVerified (s : State) : Host.Outcome State Fault Refusal :=
  match s.load with
  | some l =>
    if s.fld IMG_STATUS IMG_STATUS_LOAD_STATE != 1 then fin s s.toDev
    else
      let (v, d) := s.fresh
      match d.checkImage l.bytes v with
      | .inl code => fin s (d.loadRefused l code)
      | .inr i =>
        let d := d.setLoad (some { l with bytes := [], image := some i, waitSince := d.refNs })
        if d.draining then fin s (d.loadState 2) else finS s (State.slotEnter { s with toDev := d } i)
  | none => fin s s.toDev

/-! The switch (R64, R70). -/

/-- The position's registers show the epoch's table, priorities and mode in force (08 R217 to R220). -/
def Dev.engShow (d : Dev) (s p : Nat) : Dev :=
  let b := d.code d.curSlot s
  let c := (b.bind fun b => b.pos[p]?).getD ⟨[], [], []⟩
  let compat := b.any CodeBody.compat
  let nib (l : List Nat) (f : Nat → Nat) : Nat := (List.range l.length).foldl (fun a i => a + f (l.getD i 0) * 16 ^ i) 0
  let d := d.wr (ENG_STROKE s p) (BitVec.ofNat 64 (nib c.stroke fun x => x / 128 * 8 + x % 8))
  let d := d.wr (ENG_SWEEP s p) (BitVec.ofNat 64 (nib (if compat then c.weight else c.sweep) fun x => x))
  let d := d.onlyIf (compat && !d.flag (ENG_STATUS s p) ENG_STATUS_MODE) fun d => d.setRound (d.round.del (posKey s p))
  (d.setF (ENG_STATUS s p) ENG_STATUS_MODE (b2n compat)).setF (ENG_STATUS s p) ENG_STATUS_PHYS (d.physOf s p)

/-- Threads at the switch from slot `o`: the positions that the old epoch had no code for are started (08 R226). -/
def Dev.startNew (d : Dev) (s o : Nat) (first : Bool) : Dev :=
  let e := d.curSlot
  if !d.sliceOn s then d else
  match d.code e s with
  | some b => d.each ((List.range 32).filter b.runs) fun d p =>
      if first || !((d.code o s).any fun x => x.runs p) then d.startPos b s p e else d
  | none => d

/-- The old tree's buckets and credits of slice `s` are brought up to the present before its parameters change (10 R269, R285). -/
def Dev.tmSettle (d : Dev) (s : Nat) : Dev :=
  match d.sched s with
  | none => d
  | some b =>
    let d := d.each (List.range 17) fun d p => d.creditSync b s p
    d.setNode (d.node.mapVals fun k n =>
      if k / 262144 = s then (match b.rec? (k / 65536 % 4) (k % 65536) with
        | some r => if r.shaped then n.filledTo r d.ntu.peak else n
        | none => n) else n)

/-- Whether node `c` of level `l` is a weighted member under parent `i` in tree `b`. -/
def SchedBody.weighted (b : SchedBody) (l i c : Nat) : Bool := (b.rec? l c).any fun r => r.slot == 0xFF && r.parent == i

/-- The queues of slice `s` that hold frames and that the new tree `nb` no longer has keep the port, ring and TF they had in the old tree `ob`; a queue it has is no orphan (R70). -/
def Dev.orphans (d : Dev) (s : Nat) (ob nb : SchedBody) : Dev :=
  d.setQueue (d.queue.mapVals fun k x =>
    if k / 65536 != s then x
    else if k % 65536 < nb.queues.length then { x with orphan := none }
    else match x.orphan, ob.above (k % 65536) with
      | none, some (p, _, t) => { x with orphan := some (p, ((ob.rec? 3 (k % 65536)).map NodeRec.ring).getD 0xFFFFFFFF, ((ob.rec? 2 t).map NodeRec.tf).getD 0xFFFF) }
      | _, _ => x)

/-- The frames that wait in slice `s` for a port or a ring that takes none are dropped at once, as on arrival (01 R30, R34; 10 R279). -/
def Dev.dropUnreachable (d : Dev) (s : Nat) : Dev :=
  (d.busyQueues s).foldl (fun d q =>
    match d.queuePort s q with
    | some p =>
      if p = 16 then
        if d.ringFrozen (d.queueRing s q) then d.dropQueue s q (tmgCnt s 11)
        else if d.ringDown (d.queueRing s q) (d.queueTf s q) then d.dropQueue s q (tmgCnt s 13) else d
      else if d.portState p ≤ 1 then d.dropQueue s q (tmgCnt s 13) else d
    | none => d) d

/-- What is off the rounds in slice `s` under the tree `b`: the wheels hold its shaped nodes whose bucket is below 0, and its classes whose credit is, each at the time that its new parameters
give (10 R269, R273, R285). A node that was released in the old tree `ob` keeps its release. -/
def Dev.wheelsAnew (d : Dev) (s : Nat) (ob b : SchedBody) : Dev :=
  let kept (k : Nat) : Bool := (ob.rec? (k / 65536 % 4) (k % 65536)).any fun r => r.shaped || r.cbs
  let old := (d.wheels.lookD s []).map WheelEnt.node ++ ((d.node.filter fun kn => kn.1 / 262144 == s && !kept kn.1).map Prod.fst)
  let d := (d.setWheels (d.wheels.put s [])).setDue (d.due.filter fun x => !(x.kind == .wheel && x.id % 8 == s))
  d.each old fun d k =>
    let n := d.node.lookD k NodeSt.fresh
    match b.rec? (k / 65536 % 4) (k % 65536) with
    | some r =>
      if r.shaped then
        let t := bucketAt r.rate r.burst n.tokens n.filled d.ntu.peak
        if t < 0 then d.wheelIn s k (eligibleAt r.rate t d.ntu.peak) else d
      else if r.cbs && decide (n.credit < 0) then d.wheelIn s k ((d.ntu.peak + ((-n.credit).toNat + 25 * r.rate - 1) / (25 * r.rate)) / 2 ^ 32) else d
    | none => d

/-- The tree of slice `s` changes from `ob` to `nb` (10 R285): nodes of both keep their state, new ones start fresh, and a weighted member with a new parent leaves its old rounds. -/
def Dev.treeSwitch (d : Dev) (s : Nat) (ob nb : SchedBody) : Dev :=
  let d := d.orphans s ob nb
  let here (k : Nat) : Bool := k / 262144 == s
  let has (b : SchedBody) (k : Nat) : Bool := (b.rec? (k / 65536 % 4) (k % 65536)).isSome
  let d := d.setNode (d.node.filter fun kn => !here kn.1 || (has ob kn.1 && has nb kn.1))
  let d := (d.wheelsAnew s ob nb).dropUnreachable s
  let d := d.setNode (d.node.mapVals fun k n =>
    if here k then
      let keep (c : Nat) : Bool := nb.weighted (k / 65536 % 4 + 1) (k % 65536) c && ob.weighted (k / 65536 % 4 + 1) (k % 65536) c
      { n with cur := n.cur.filter keep, nxt := n.nxt.filter keep, serving := n.serving.filter keep }
    else n)
  let d := d.each ((d.node.filter fun kn => here kn.1 && kn.1 / 65536 % 4 != 0).map Prod.fst) fun d k =>
    let l := k / 65536 % 4
    match nb.rec? l (k % 65536) with
    | some r =>
      if r.slot == 0xFF && !ob.weighted l r.parent (k % 65536) then
        let v := (d.nodeSt s (l - 1) r.parent).v
        d.setNode (d.node.upd k NodeSt.fresh fun n => { n with elig := false, lastV := v })
      else d
    | none => d
  d.tmRefresh s

/-- Policer `i` of slice `s` in slot `e`: the bucket of slot `o`'s where both have it with equal parameters, else a full one (10 R276). -/
def Dev.placePol (d : Dev) (s e o i : Nat) (r : PolRec) (old : Option PolRec) : Dev :=
  let k := (s * 2 + e) * 65536 + i
  let ko := d.polKey s o i
  if old = some r then d.setPolMap (d.polMap.put k ko)
  else
    let n := if old.isSome && ko == k then (s * 2 + o) * 65536 + i else k
    (d.setPolMap (d.polMap.put k n)).setPol (d.pol.del n)

/-- The policers of slice `s` at the switch from slot `o`. -/
def Dev.polSwitch (d : Dev) (s o : Nat) : Dev :=
  let recs (e : Nat) : List PolRec := (((d.bodies e s).sched).map SchedBody.policers).getD []
  let old := recs o
  ((List.range (recs d.curSlot).length).foldl (fun d i => d.placePol s d.curSlot o i ((recs d.curSlot).getD i ⟨0, 0⟩) old[i]?) d)

/-- The gate list of port `p` in the body of its acting home slice (10 R280). -/
def Dev.gateListOf (d : Dev) (p : Nat) : Option GateList :=
  ((d.bodies d.curSlot (d.actingSlice p)).gates).bind fun l => l.find? fun g => g.port == p

/-- When a list takes effect that switches in at `t` ns: its base, or its first heat at or after `t` (R70). -/
def GateList.startsAt (g : GateList) (t : Nat) : Nat := if t ≤ g.base then g.base else g.base + (t - g.base + g.cycle - 1) / g.cycle * g.cycle

/-- The gates of port `p` at a switch at `t` ns: the new list waits for its start behind the lists that start before it, and without one every gate is open (R70; 10 R281). -/
def Dev.gateSwitch (d : Dev) (p t : Nat) : Dev :=
  match d.gateListOf p with
  | some g => d.setGate (d.gate.put p { d.gateSt p with next := ((d.gateSt p).next.filter fun z => decide (z.2 < g.startsAt t)) ++ [(g, g.startsAt t)] })
  | none => if (d.gate.look p).isSome then ((d.setGate (d.gate.del p)).setDue (d.due.filter fun x => !(x.kind == .gate && x.id == p))).gateShow p else d

/-- GATE_LIST_SWITCH (R70; 10 R283): the waiting list takes effect, and the longest open spans of its gates are computed. -/
def Dev.gateListSwitch (d : Dev) (p : Nat) : Dev :=
  match (d.gateSt p).next with
  | (g, t) :: rest =>
    if d.now < t then d
    else
      let d := d.setGate (d.gate.put p ⟨some g, rest, (t - g.base) / g.cycle, 0, (List.range 8).map g.longestOpen⟩)
      let d := d.setDue (d.due.filter fun x => !(x.kind == .gate && x.id == p))
      let d := match d.gateDue p with
        | some x => d.onlyIf (decide (x.t ≤ d.now)) fun d => d.setDue (Due.insert x d.due)
        | none => d
      (d.gateShow p).tmRefresh (d.actingSlice p)
  | [] => d

/-- GATE_LIST_SWITCH. -/
def execGateListSwitch (port : Fin 16) (s : State) : Host.Outcome State Fault Refusal := fin s (s.gateListSwitch port.val)

/-- The tables of slice `s` owe no sweep when the epoch of slot `e` becomes current: what slot `o`'s declarations and its own made due before is done (06 R155). -/
def Dev.sweepsMeet (d : Dev) (s o e : Nat) : Dev :=
  let ids (k : Nat) : List Nat := (((d.bodies k s).cls).map fun b => b.tables.map TblDecl.id).getD []
  ((d.each (ids o) fun d i => d.ageSweep s o i).each (ids e) fun d i => d.ageSweep s e i).each (d.sliceTables s) Dev.sweptNow

/-- The switch to the image in `x`, the epoch of slot `e` (R64 to R70; 06 R152; 08 R220, R226; 10 R276, R285; 16 R442). -/
def Dev.epochSwitch (d : Dev) (e : Nat) (x : EpochSlot) : Dev :=
  let first := d.flag IMG_STATUS IMG_STATUS_NO_IMAGE
  let o := 1 - e
  let since := if x.since = 2 ^ 64 then d.now else x.since
  let tree (d : Dev) (s : Nat) : SchedBody := (d.sched s).getD ⟨[], [], [], [], []⟩
  let olds := (List.range 6).map (tree d)
  let d := (d.each (List.range 6) Dev.tmSettle).each (List.range 6) fun d s => d.sweepsMeet s o e
  let d := d.setSlots (d.slots.put e { x with since := since })
  let d := (d.setF IMG_STATUS IMG_STATUS_CUR_SLOT e).setF IMG_STATUS IMG_STATUS_DRAINING (b2n !first)
  let d := (((d.setF IMG_STATUS IMG_STATUS_NO_IMAGE 0).setF IMG_STATUS IMG_STATUS_SWITCHED 1).loadState 0).setLastEpoch x.epoch
  let d := d.wr IMG_BUILD_ID (BitVec.ofNat 64 x.img.buildId)
  let d := d.each (List.range 6) fun d s => ((d.treeSwitch s (olds.getD s ⟨[], [], [], [], []⟩) (tree d s)).polSwitch s o).startNew s o first
  let d := d.each (List.range 6) fun d s => d.each (List.range 32) fun d p => d.engShow s p
  let d := d.each (List.range 16) fun d p => (d.portShow p).gateSwitch p since
  (((d.setMtrNext (some x.img.mtr)).setMtrNextFrom since).setLrnTok [])

/-- EPOCH_SWITCH (R64): at the first tick at or after T; the load is answered (R35). -/
def execEpochSwitch (s : State) : Host.Outcome State Fault Refusal :=
  let e := s.freeSlot
  fin s (match s.slot? e with
    | some x =>
      if s.fld IMG_STATUS IMG_STATUS_LOAD_STATE == 3 && decide ((s.rd IMG_SWITCH_AT).toNat ≤ s.now) then
        let d := (s.epochSwitch e x).setLoad none
        match s.load with
        | some l => (d.loadReply l 0 [x.epoch]).onlyIf (l.chan == 8) fun d => d.setF MBX_BOOT_STATUS MBX_BOOT_STATUS_PHASE 5
        | none => d
      else s.toDev
    | none => s.toDev)

/-! The drain (R68, R71). -/

/-- The older epoch's slot is freed: its trees and code regions are released (R68). -/
def Dev.slotFree (d : Dev) : Dev :=
  let o := 1 - d.curSlot
  let mine (k n : Nat) : Bool := k / n % 2 == o
  let d := ((d.treesDrained o).setSlots (d.slots.del o)).setF IMG_STATUS IMG_STATUS_DRAINING 0
  let d := d.setTblMap (d.tblMap.filter fun kn => !mine kn.1 64)
  let d := d.setTbl (d.tbl.filter fun nt => d.tblMap.any fun kn => kn.2 == nt.1)
  let d := d.setPolMap (d.polMap.filter fun kn => !mine kn.1 65536)
  let d := (d.setDspLast (d.dspLast.filter fun kn => !mine kn.1 256)).setDspq (d.dspq.filter fun kn => !mine kn.1 256)
  d.each (List.range 6) fun d s => d.residency s o

/-- A load that waits for the drain takes the freed slot (R67). -/
def State.drainEnds (s : State) : State :=
  let d := s.slotFree
  let s := { s with toDev := d }
  match d.load.bind Load.image with
  | some i => if d.fld IMG_STATUS IMG_STATUS_LOAD_STATE = 2 then s.slotEnter i else s
  | none => s

/-- EPOCH_DRAINED (R68). -/
def execEpochDrained (s : State) : Host.Outcome State Fault Refusal :=
  if s.draining && s.inflight (1 - s.curSlot) == 0 then finS s s.drainEnds else fin s s.toDev

/-- The frames `ids` are dropped wherever they stand: queues, wires and deliveries to rings included. -/
def Dev.purge (d : Dev) (ids : List Nat) : Dev :=
  let d := d.each ids Dev.frameOut
  let d := d.each (List.range 16) fun d p => if (d.portSt p).onWire.any ids.contains then d.updPort p fun x => { x with onWire := none } else d
  let d := d.setRing (d.ring.mapVals fun _ x => { x with rxq := x.rxq.filter fun y => !y.frame.any ids.contains })
  d.setQueue (d.queue.mapVals fun _ q => { q with on := q.on.filter fun i => !ids.contains i, ov := q.ov.filter fun i => !ids.contains i })

/-- Every remaining frame of the older epoch is dropped, and its threads are stopped and re-entered (R71). -/
def Dev.forceDrain (d : Dev) : Dev :=
  let o := 1 - d.curSlot
  let ids := (d.frames.filter fun kf => kf.2.slot == o).map Prod.fst
  let d := (d.satAdd IMG_FORCED_DROPS IMG_FORCED_DROPS_COUNT ids.length).purge ids |>.each (List.range 6) Dev.tmRefresh
  d.each ((d.thr.filter fun kt => kt.2.slot == o && kt.2.st != .stopped).map Prod.fst) fun d k => (d.dropTickets k).cross k .running

/-- FORCED_DRAIN (R71): the limit has passed while a load waits. -/
def execForcedDrain (s : State) : Host.Outcome State Fault Refusal :=
  let lim := s.fld IMG_DRAIN_LIMIT IMG_DRAIN_LIMIT_LIMIT_MS
  match s.load with
  | some l =>
    if s.fld IMG_STATUS IMG_STATUS_LOAD_STATE == 2 && lim != 0 && decide (l.waitSince + lim * 1000000 ≤ s.refNs) then
      finS s (State.drainEnds { s with toDev := s.forceDrain })
    else fin s s.toDev
  | none => fin s s.toDev

end Sys2Proof.Machine
end

