-- ==== Sys2Proof/Machine/Manage.lean ====
section
/-! DEFINITION. Management (17 R454 to R474): the mailbox commands beside IMAGE_LOAD, the watchdog, MCTP, PLDM, SPDM and the RGMII port. -/
namespace Sys2Proof.Machine

/-! Queries (R461). -/

/-- SEC_VERSION, KEY_INDEX and TOTAL_LEN of an Ulyar image (R469). -/
def ulyarVersion (b : List Byte) : Nat := leAt b 8 4
def ulyarKey (b : List Byte) : Nat := byteAt b 6
def ulyarLen (b : List Byte) : Nat := leAt b 12 4

/-- GET_INFO; in the safe state the Kyotas core answers it on channel 6, with MBX_BOOT_STATUS as the only word (18 R480). -/
def execGetInfo (ch : Fin 8) (s : State) : Host.Outcome State Fault Refusal :=
  if s.pwrMode = .safe then finA s (if ch.val = 6 then s.mbServe 6 1 true true 0 fun d h _ => d.mbReply 6 h 0 [(d.rd MBX_BOOT_STATUS).toNat] else s.toDev)
  else fin s (s.mbServe ch.val 1 true true 0 fun d h _ => d.mbReply ch.val h 0 [ulyarVersion d.ulyar, d.life, d.bootCount % 2 ^ 32])

/-- IMAGE_QUERY. -/
def execImageQuery (ch : Fin 8) (s : State) : Host.Outcome State Fault Refusal :=
  fin s (s.mbServe ch.val 3 true true 0 fun d h _ => d.mbReply ch.val h 0 [(d.rd IMG_STATUS).toNat % 2 ^ 32, d.imgEpochView])

/-! Certificates (R472). -/

/-- `bs` is written where an address argument points: none for a host link that cannot take it. -/
def State.argWrite (s : State) (c : Nat) (p : List Nat) (bs : List Byte) : Option State :=
  match spaceOf c (p.getD 0 0) with
  | .host pf => if s.canIssue pf then some (s.onDev fun d => d.fnWrite (4096 + pf) false (word64 p 1) bs) else none
  | .device => some (s.store (word64 p 1) bs)
  | .bad => none

/-- A served command's answer, its memory changed by `f` of the request's payload where the command is served. -/
def State.mbServeM (s : State) (c cmd : Nat) (allowed state : Bool) (len : Nat) (f : State → Nat → List Nat → State) : State :=
  match (s.mb c).front with
  | some (h, p) =>
    if h / 2 ^ 24 = cmd ∧ badCommand h = false ∧ allowed = true ∧ state = true ∧ p.length = len then
      (f (s.onDev fun d => d.mbTake c) h p).onDev fun d => d.mbRefuse c 32
    else s.onDev fun d => d.mbServe c cmd allowed state len fun d _ _ => d
  | none => s

/-- GET_CERT: the chain, as far as CAP allows. -/
def execGetCert (ch : Fin 8) (s : State) : Host.Outcome State Fault Refusal :=
  let c := ch.val
  if s.reqWaits c 4 (decide (c < 6)) true 4 then fin s s.toDev else
  let t := s.mbServeM c 4 (decide (c < 6)) true 4 fun s h p =>
    let bs := s.chain.take (p.getD 3 0)
    if !s.argOk c p bs.length then s.onDev fun d => d.mbReply c h 3 []
    else match s.argWrite c p bs with
      | some s => s.onDev fun d => d.mbReply c h 0 [bs.length]
      | none => s.onDev fun d => d.mbReply c h 6 []
  finM t t.toDev t.mem

/-- The length argument of the request at the front of channel `c` is at most `n`. -/
def Dev.argFits (d : Dev) (c n : Nat) : Bool := ((d.mb c).front.map fun x => x.2.getD 3 0).any fun l => decide (l ≤ n)

/-- CERT_WRITE: in PROVISIONED alone, as long as the chain fits its flash region (R469). -/
def execCertWrite (ch : Fin 8) (data : HostData) (s : State) : Host.Outcome State Fault Refusal :=
  let c := ch.val
  if s.reqWaits c 5 (decide (4 ≤ c) && decide (c ≤ 6)) (s.life == 1) 4 && s.argFits c 0x100000 then fin s s.toDev else
  fin s (s.mbServe c 5 (decide (4 ≤ c) && decide (c ≤ 6)) (s.life == 1) 4 fun d h p =>
    if !d.argOk c p (p.getD 3 0) || decide (0x100000 < p.getD 3 0) then d.mbReply c h 3 []
    else match s.argBytes c p (p.getD 3 0) data with
      | some bs => (d.setChain bs).mbReply c h 0 []
      | none => d.mbReply c h 6 [])

/-! Firmware (R469, R470). -/

/-- The first check of R470 that an Ulyar image fails, in its order. -/
def Dev.ulyarCheck (d : Dev) (b : List Byte) : Option Nat :=
  let len := ulyarLen b
  if leAt b 0 4 != 0x4C55564F || leAt b 4 2 != 1 || decide (16777216 < len) || decide (b.length < len) || decide (len < 16 + 7856) then some 1
  else if decide (3 < ulyarKey b) || (d.fld MBX_FUSE MBX_FUSE_REVOKED).testBit (ulyarKey b) then some 2
  else if !Config.keyHashOk (ulyarKey b) (b.take len) then some 3
  else if !Config.sigOk (ulyarKey b) (b.take len) then some 4
  else if ulyarVersion b < d.fld MBX_FUSE MBX_FUSE_ULYAR_MIN then some 5 else none

/-- The unselected bank takes `bs`, and once it verifies the selector names it (R470): the check that failed, if any. -/
def Dev.ulyarUpdate (d : Dev) (bs : List Byte) : Dev × Option Nat :=
  let b := 1 - d.bankSel
  let d := if b = 0 then d.setBankA bs else d.setBankB bs
  match d.ulyarCheck bs with
  | some e => (d, some e)
  | none => (d.setBankSel b, none)

/-- FW_UPDATE. -/
def execFwUpdate (ch : Fin 8) (data : HostData) (s : State) : Host.Outcome State Fault Refusal :=
  let c := ch.val
  if s.reqWaits c 6 (c == 4 || c == 5) true 4 && s.argFits c 16777216 then fin s s.toDev else
  fin s (s.mbServe c 6 (c == 4 || c == 5) true 4 fun d h p =>
    if !d.argOk c p (p.getD 3 0) || decide (16777216 < p.getD 3 0) then d.mbReply c h 3 []
    else match s.argBytes c p (p.getD 3 0) data with
      | some bs => match d.ulyarUpdate bs with
        | (d, some e) => d.mbReply c h 5 [e]
        | (d, none) => d.mbReply c h 0 [d.bankSel]
      | none => d.mbReply c h 6 [])

/-! Life cycle and fuses (R471 to R474). -/

/-- LIFECYCLE: the public key that leaving BLANK draws is in the reply (R472). -/
def execLifecycle (ch : Fin 8) (s : State) : Host.Outcome State Fault Refusal :=
  let c := ch.val
  fin s (s.mbServe c 7 (decide (4 ≤ c) && decide (c ≤ 6)) true 2 fun d h p =>
    let t := p.getD 0 0
    if t != d.life + 1 || decide (4 < t) || p.getD 1 0 != 2 ^ 32 - 1 - t then d.mbReply c h 3 []
    else
      if d.life = 0 then
        let (v, d) := d.fresh
        let k := leBytes 32 v
        (d.setLifeNext (some ⟨t, c, d.refNs, k⟩)).mbReply c h 0 ((List.range 8).map fun i => leAt k (4 * i) 4)
      else (d.setLifeNext (some ⟨t, c, d.refNs, []⟩)).mbReply c h 0 [])

/-- The SEC_VERSION of the current program image; 0 while there is none. -/
def Dev.imageVersion (d : Dev) : Nat := if d.flag IMG_STATUS IMG_STATUS_NO_IMAGE then 0 else ((d.slot? d.curSlot).map fun x => leAt x.img.bytes 0xC 4).getD 0

/-- SET_MIN_VERSION (R471). -/
def execSetMinVersion (ch : Fin 8) (s : State) : Host.Outcome State Fault Refusal :=
  let c := ch.val
  fin s (s.mbServe c 8 (c == 4 || c == 5) true 2 fun d h p =>
    let v := p.getD 1 0
    let go (f : Fld) (have_ : Nat) : Dev := if v < d.fld MBX_FUSE f ∨ 64 < v ∨ have_ < v then d.mbReply c h 3 [] else (d.setF MBX_FUSE f v).mbReply c h 0 []
    match p.getD 0 0 with
    | 0 => go MBX_FUSE_IMAGE_MIN d.imageVersion
    | 1 => go MBX_FUSE_ULYAR_MIN (ulyarVersion d.ulyar)
    | _ => d.mbReply c h 3 [])

/-- KEY_REVOKE (R471). -/
def execKeyRevoke (ch : Fin 8) (s : State) : Host.Outcome State Fault Refusal :=
  let c := ch.val
  fin s (s.mbServe c 9 (c == 4 || c == 5) true 1 fun d h p =>
    let i := p.getD 0 0
    let r := d.fld MBX_FUSE MBX_FUSE_REVOKED
    if 3 < i ∨ i = ulyarKey d.ulyar ∨ setBit r i true = 15 then d.mbReply c h 3 []
    else (d.setF MBX_FUSE MBX_FUSE_REVOKED (setBit r i true)).mbReply c h 0 [])

/-! SEAL (R462). -/

/-- Whether two address ranges share a byte of granule `g`. -/
def granOverlaps (g a n : Nat) : Bool := overlap (g * 2 ^ 28) (2 ^ 28) a n

/-- Whether a granule may go back to FREE. -/
def Dev.unsealOk (d : Dev) (g : Nat) : Bool :=
  !(d.granClass g == 3 && !d.seals.contains g) &&
  !(!d.keySlot.isEmpty && granOverlaps g (d.fld KEY_STORE_BASE KEY_STORE_BASE_ADDR) (128 * 2 ^ 20)) &&
  !((List.range 6).any fun s => d.ovfUsed s != 0 && granOverlaps g (d.rd (TMG_OVF_BASE s)).toNat (d.fld (TMG_OVF_SIZE s) TMG_OVF_SIZE_MIB * 2 ^ 20))

/-- SEAL: the reply waits until PENDING has cleared in every granule of the range. -/
def execSeal (ch : Fin 8) (s : State) : Host.Outcome State Fault Refusal :=
  let c := ch.val
  let allowed := c == 4 || c == 5 || (decide (c < 4) && (s.fld RGM_MEDIATOR RGM_MEDIATOR_PF_MASK).testBit c)
  fin s (s.mbServe c 10 allowed true 3 fun d h p =>
    let first := p.getD 0 0
    let n := p.getD 1 0
    let act := p.getD 2 0
    let l := (List.range (min n granules)).map fun i => first + i
    let bad := n = 0 || 1 < act || decide (d.capacity < (first + n) * 2 ^ 28) ||
      (if act = 1 then l.any fun g => d.granClass g != 0 || d.granPending g else l.any fun g => !d.unsealOk g)
    if bad then d.mbReply c h 3 []
    else
      let d := d.each l fun d g => d.granChange g (if act = 1 then 3 else 0) 0
      let d := d.setSeals (if act = 1 then d.seals ++ l else d.seals.filter fun g => !l.contains g)
      (d.setSealWait (d.sealWait ++ [⟨c, h, first, n⟩])).sealReplies)

/-! The watchdog (R455). -/

/-- WATCHDOG_EXPIRY: requests taken and not answered are lost, with the replies that waited; a RESTARTED notice goes out on channels 0 to 5; requests left at the head are taken again. -/
def execWatchdogExpiry (s : State) : Host.Outcome State Fault Refusal :=
  let d := s.satAdd MBX_BOOT_STATUS MBX_BOOT_STATUS_RESTARTS 1
  let d := match d.load with
    | some l => if 8 ≤ l.chan then d
      else if d.fld IMG_STATUS IMG_STATUS_LOAD_STATE = 1 then (d.setLoad none).loadState 0 else d.setLoad (some { l with chan := 9 })
    | none => d
  let d := d.setSealWait []
  let n := d.fld MBX_BOOT_STATUS MBX_BOOT_STATUS_RESTARTS
  let d := d.each (List.range 8) fun d c => d.updMb c fun m => { m with busy := false, out := [] }
  let d := d.each (List.range 6) fun d c => (d.updMb c fun m => { m with out := [[0xFF * 2 ^ 24 + 1, n]] }).mbFlush c
  fin s (d.each (List.range 8) fun d c => d.mbRefuse c 32)

/-! The management controller (R465 to R467). -/

/-- MCTP_VENDOR_MESSAGE (R465): one mailbox message on channel 6; it is dropped while the buffer is busy, and when its words are not those its header announces. In the safe state only GET_INFO
is answered (18 R480). -/
def execMctpVendorMessage (words : WordList) (s : State) : Host.Outcome State Fault Refusal :=
  let m := s.mb 6
  let whole := match words with
    | h :: t => h % 32 == t.length && words.all fun w => decide (w < 2 ^ 32)
    | [] => false
  if s.pwrMode = .safe then finA s (if m.busy || !m.tx.isEmpty || !whole || words.headD 0 / 2 ^ 24 != 1 then s.toDev else s.updMb 6 fun m => { m with tx := words })
  else fin s (if m.busy || !m.tx.isEmpty || !whole then s.toDev else (s.updMb 6 fun m => { m with tx := words }).mbRefuse 6 32)

/-- Bytes that nothing states, at most 16 KiB. -/
def anyBytes (v : Nat) : List Byte := leBytes (v % 16385) (v / 16385)

/-- PLDM_MESSAGE (R465, R466): the answer's bytes are those of other specifications; component 1 is written as FW_UPDATE is, component 2 is the default image. -/
def execPldmMessage (m : PldmMsg) (s : State) : Host.Outcome State Fault Refusal :=
  let d := match m with
    | .query _ => s.toDev
    | .update 1 b => (s.ulyarUpdate b).1
    | .update 2 b => s.setDefImage b
    | .update _ _ => s.toDev
  let (v, d) := d.fresh
  fin s (d.emit (.reply 7 (anyBytes v)))

/-- An SPDM request that needs the exchange to have come to `need` (R467): its response, and how far the exchange has come then; an error response otherwise. -/
def spdmServe (need next : Nat) (name : String) (data : Dev → List Byte) (s : State) : Host.Outcome State Fault Refusal :=
  fin s (if s.spdm < need then s.emit (.spdm "ERROR" []) else (s.setSpdm next).emit (.spdm name (data s.toDev)))

/-- GET_VERSION: SPDM 1.3 (R467). -/
def execGetVersion (s : State) : Host.Outcome State Fault Refusal := spdmServe 0 1 "VERSION" (fun _ => [0x13]) s

/-- GET_CAPABILITIES: CERT_CAP, CHAL_CAP, MEAS_CAP with signatures, and CTExponent 19 (R467; the places of the flags are SPDM's). -/
def execGetCapabilities (s : State) : Host.Outcome State Fault Refusal := spdmServe 1 2 "CAPABILITIES" (fun _ => [19] ++ leBytes 4 0x16) s

/-- NEGOTIATE_ALGORITHMS: TPM_ALG_SHA_256; the extended asymmetric algorithm of registry 0x03, vendor 0x1E7A, algorithm 0x0001 (R467). -/
def execNegotiateAlgorithms (s : State) : Host.Outcome State Fault Refusal :=
  spdmServe 2 3 "ALGORITHMS" (fun _ => leBytes 4 1 ++ [0x03] ++ leBytes 2 0x1E7A ++ leBytes 2 1) s

/-- GET_DIGESTS: of the chain in slot 0 (R467, R472). -/
def execGetDigests (s : State) : Host.Outcome State Fault Refusal := spdmServe 3 3 "DIGESTS" (fun d => sha256 d.chain) s

/-- GET_CERTIFICATE: a part of the chain in slot 0 (R467, R472). -/
def execGetCertificate (slot : Nat) (off len : Nat) (s : State) : Host.Outcome State Fault Refusal :=
  if slot = 0 then spdmServe 3 3 "CERTIFICATE" (fun d => (d.chain.drop off).take len) s else fin s (s.emit (.spdm "ERROR" []))

/-- The signature by the identity key: 7,856 bytes (R467, R472). -/
def Dev.signed (d : Dev) (bs : List Byte) : List Byte := leBytes 7856 (Config.sign d.pubKey bs)

/-- CHALLENGE: a signature by the identity key (R467). -/
def execChallenge (slot : Nat) (s : State) : Host.Outcome State Fault Refusal :=
  if slot = 0 then
    let (v, d) := s.fresh
    spdmServe 3 3 "CHALLENGE_AUTH" (fun d => d.signed (anyBytes v)) { s with toDev := d }
  else fin s (s.emit (.spdm "ERROR" []))

/-- The measurement blocks of R467. -/
def Dev.measurement (d : Dev) (i : Nat) : Option (List Byte) :=
  match i with
  | 1 => some (leBytes 32 Config.romHash)
  | 2 => some (sha256 d.ulyar)
  | 3 => some (sha256 (((d.slot? d.curSlot).map fun x => x.img.bytes).getD []))
  | 4 => some (leBytes 4 (d.rd MBX_LIFECYCLE).toNat ++ leBytes 4 (d.rd MBX_FUSE).toNat)
  | 5 => some (leBytes 8 (d.rd IMG_BUILD_ID).toNat)
  | _ => none

/-- GET_MEASUREMENTS (R467). -/
def execGetMeasurements (index : Nat) (signed : Bool) (s : State) : Host.Outcome State Fault Refusal :=
  let blocks := if index = 0xFF then (List.range 5).map (· + 1) else [index]
  let data (d : Dev) : List Byte := blocks.flatMap fun i => BitVec.ofNat 8 i :: (d.measurement i).getD []
  if index != 0xFF && (s.measurement index).isNone then fin s (s.emit (.spdm "ERROR" []))
  else spdmServe 3 3 "MEASUREMENTS" (fun d => data d ++ if signed then d.signed (data d) else []) s

/-- MCTP_CONTROL_MESSAGE (R465): the bus owner assigns the endpoint ID. The Kyotas core answers it in EASY and in the safe state too (18 R480; 20 R516). -/
def execMctpControlMessage (eid : OptEid) (s : State) : Host.Outcome State Fault Refusal :=
  let d := match eid with
    | some e => s.setEid (e % 256)
    | none => s.toDev
  let (v, d) := d.fresh
  if s.pwrMode = .held then .next s else finA s (d.emit (.reply 8 (anyBytes v)))

/-- RGMII_FRAME_RECEIVED (R466): taken by Ulyar and passed nowhere else. -/
def execRgmiiFrameReceived (data : Bytes) (s : State) : Host.Outcome State Fault Refusal := fin s (s.emit (.ulyarFrame data))

end Sys2Proof.Machine
end

