-- ==== Sys2Proof/Machine/Epoch.lean ====
section
/-! DEFINITION. Metering epochs and their blocks (16 R442 to R449), the sketch query (R450), and the capability ROM that the chain of blocks begins with (13 R351 to R354). -/
namespace Sys2Proof.Machine

/-! The capability ROM (13 R351 to R354). -/

/-- SERIAL: the low 64 bits of the SHA-256 of the identity public key, its last eight bytes read in network order (13 R352, log entry 29). -/
def Dev.serial (d : Dev) : Nat := beNat ((sha256 d.pubKey).drop 24)

/-- An entry of the ROM: unit code, instances, base, stride, size, and the instances in service (R353). -/
def romEntry (inst stride on : Nat) (u : Nat × Nat × Nat) : List Byte :=
  leBytes 2 u.1 ++ [1, 0] ++ leBytes 1 inst ++ leBytes 1 on ++ [0, 0] ++ leBytes 8 u.2.1 ++ leBytes 8 stride ++ leBytes 4 u.2.2 ++ [0, 0, 0, 0]

/-- The hub units and the slice units of R354, each with its unit code, base and size. -/
def romHub : List (Nat × Nat × Nat) := [(1, 0, 0x1000), (2, 0x1000, 0xFF000)] ++ (List.range 11).map fun i => (3 + i, (1 + i) * 0x100000, 0x100000)
def romSlice : List (Nat × Nat × Nat) :=
  [(0x10, 0x1000000, 0x100000), (0x11, 0x1100000, 0x100000), (0x12, 0x1200000, 0x200000), (0x13, 0x1400000, 0x200000), (0x14, 0x1600000, 0x100000),
    (0x15, 0x1700000, 0x100000), (0x16, 0x1800000, 0x800000)]

/-- The ROM's header (R352). -/
def Dev.romHeader (d : Dev) : List Byte :=
  leBytes 4 0x5041434F ++ leBytes 2 1 ++ leBytes 2 20 ++ leBytes 2 32 ++ [0, 0] ++ leBytes 4 8560 ++ leBytes 2 0x3200 ++ [0xB1, 0] ++ leBytes 4 d.bootCount ++ leBytes 8 d.serial ++
    List.replicate 32 0

/-- The ROM up to its signature. -/
def Dev.romBody (d : Dev) : List Byte := d.romHeader ++ romHub.flatMap (romEntry 1 0 1) ++ romSlice.flatMap (romEntry 6 0x1000000 d.bistSlices)

/-- The whole ROM: 8,560 bytes (R352). -/
def Dev.rom (d : Dev) : List Byte := d.romBody ++ d.signed d.romBody

/-! Closing an epoch (R443, R444). -/

/-- Two counts of a TF as one. -/
def TfCnt.add (a b : TfCnt) : TfCnt := ⟨List.zipWith (· + ·) a.c b.c, a.late + b.late⟩

/-- Epoch `a` and the next epoch `b` as one (R444): from the start of the first to the end of the last. -/
def MtrEpoch.merge (a b : MtrEpoch) : MtrEpoch :=
  { b with start := a.start, cnt := b.cnt.foldl (fun t kv => t.upd kv.1 TfCnt.zero fun x => x.add kv.2) a.cnt, assigned := dedup (a.assigned ++ b.assigned), withdrawn := dedup (a.withdrawn ++ b.withdrawn), stepped := a.stepped || b.stepped }

/-- The TFs that have a record: assigned at any moment of the epoch, or with a nonzero counter (R445). -/
def MtrEpoch.tfs (e : MtrEpoch) : List Nat :=
  (List.range 4096).filter fun f => e.assigned.contains f || (match e.cnt.look f with
    | some x => x.late != 0 || x.c.any (· != 0)
    | none => false)

/-- A record up to PREV (R445): kind, flags, TF, index, EPOCH, and the bytes 0x10 to 0x5F. -/
def mtrRecord (kind flags tf index epoch : Nat) (body : List Byte) : List Byte :=
  leBytes 1 kind ++ leBytes 1 flags ++ leBytes 2 tf ++ leBytes 4 index ++ leBytes 8 epoch ++ body ++ List.replicate (80 - body.length) 0

/-- One level of the tree over leaves: neighbours joined, a last one without a partner unchanged (R447). -/
def merkleUp : List (List Byte) → List (List Byte)
  | a :: b :: t => sha256 (1 :: a ++ b) :: merkleUp t
  | l => l

/-- The Merkle root of leaves, in at most `n` levels (R447). -/
def merkleRoot : Nat → List (List Byte) → List Byte
  | 0, l => l.headD []
  | n + 1, l => if l.length ≤ 1 then l.headD [] else merkleRoot n (merkleUp l)

/-- Records chained: PREV of each is the SHA-256 of the one before; also the SHA-256 of the last (R447). -/
def chainRecords (prev : List Byte) : List (List Byte) → List (List Byte) × List Byte
  | [] => ([], prev)
  | r :: t =>
    let x := r ++ prev
    let y := chainRecords (sha256 x) t
    (x :: y.1, y.2)

/-- The block of `n` epochs that `e` holds, up to its root record, and the SHA-256 of that (R445, R447). -/
def Dev.mtrBlockOf (d : Dev) (n : Nat) (e : MtrEpoch) : List (List Byte) × List Byte :=
  let tfs := e.tfs
  let ep := e.start / (e.lenS * 1000000000)
  let fl := b2n e.stepped + 2 * b2n (1 < n)
  let hdr := mtrRecord 1 fl 0xFFFF 0 ep (leBytes 8 e.start ++ leBytes 8 e.stop ++ leBytes 4 e.lenS ++ leBytes 4 tfs.length ++ leBytes 4 n ++
    leBytes 1 (d.fld NTU_STATUS NTU_STATUS_STEP_GEN) ++ leBytes 1 (d.fld PWR_STATUS PWR_STATUS_SLICES) ++ [0, 0] ++ leBytes 8 e.build ++ leBytes 8 d.serial ++ leBytes 4 d.bootCount)
  let recs := tfs.mapIdx fun i f =>
    let x := e.cnt.lookD f TfCnt.zero
    mtrRecord 2 (fl + 4 * b2n (e.withdrawn.contains f)) f (i + 1) ep (x.c.flatMap (leBytes 8) ++ leBytes 8 x.late)
  let ch := chainRecords (d.mtrRoot.getD (sha256 d.romHeader)) (hdr :: recs)
  let root := merkleRoot 13 (ch.1.map fun r => sha256 (0 :: r))
  let r := mtrRecord 3 fl 0xFFFF (tfs.length + 1) ep (root ++ leBytes 4 (tfs.length + 1) ++ leBytes 4 7856) ++ ch.2
  (ch.1 ++ [r], sha256 r)

/-- The slots of a block: its records, and 62 of signature (R445). -/
def MtrBlock.slots (b : MtrBlock) : Nat := b.recs.length + 62

/-- Whether the buffer has room for a block of `n` slots more: it lies in SEALED granules (R444; 15 R422). -/
def Dev.mtrRoom (d : Dev) (n : Nat) : Dev × Bool :=
  let size := d.fld MTR_BUF MTR_BUF_MIB * 2 ^ 20
  if size = 0 then (d, false)
  else
    let (d, ok) := d.sealedCheck (d.fld MTR_BUF MTR_BUF_BASE) size
    (d, ok && decide (128 * ((d.mtrBlocks.map MtrBlock.slots).sum + n) ≤ size))

/-- MTR_STATUS follows the blocks and the accumulator. -/
def Dev.mtrShow (d : Dev) : Dev :=
  ((d.setF MTR_STATUS MTR_STATUS_BACKLOG (min d.mtrBlocks.length 0xFFFF)).setF MTR_STATUS MTR_STATUS_MERGING (b2n d.mtrHeld.isSome)).setF
    MTR_STATUS MTR_STATUS_SIGN_WAIT (b2n (d.mtrBlocks.any fun b => b.sig.isNone))

/-- `n` epochs close, `e` holding their counts: with those already held they become one block, or are held while the buffer has no room (R444). -/
def Dev.mtrClose (d : Dev) (n : Nat) (e : MtrEpoch) : Dev :=
  let h : MtrHeld := match d.mtrHeld with
    | some h => ⟨h.n + n, h.e.merge e⟩
    | none => ⟨n, e⟩
  let (d, room) := d.mtrRoom (h.e.tfs.length + 2 + 62)
  if room then
    let b := d.mtrBlockOf h.n h.e
    let d := ((d.setMtrBlocks (d.mtrBlocks ++ [⟨b.1, none⟩])).setMtrRoot (some b.2)).setMtrHeld none
    (d.onlyIf (decide (1 < h.n)) fun d => d.count (mtrCnt 1) h.n).mtrShow
  else ((d.setMtrHeld (some h)).setF MTR_STATUS MTR_STATUS_BUF_FULL 1).mtrShow

/-- The grace of the epoch before the open one has ended, 1,000,000 ns after its boundary (R443). -/
def Dev.graceDone (d : Dev) : Bool :=
  match d.mtrOld with
  | some o => decide (o.stop + 1000000 ≤ d.now)
  | none => false

/-- The grace ends: the old banks and the hub's counts become one epoch, which closes (R443). -/
def Dev.graceEnd (d : Dev) : Dev :=
  match d.mtrOld with
  | some o => if d.graceDone then (d.setMtrOld none).mtrClose 1 o else d
  | none => d

/-- GRACE_END (R443). -/
def execGraceEnd (s : State) : Host.Outcome State Fault Refusal := finK s s.toDev.graceEnd

/-- The TFs assigned now (14 R378). -/
def Dev.assignedTfs (d : Dev) : List Nat := d.fns.filter fun f => decide (f < 4096) && d.fnCtl f RGM_FUNC_CTL_ASSIGNED == 1

/-- What follows epoch `o` from its boundary on (R442; 03 R70): the length of `o`, when the definitions that wait apply (the first boundary at or after their switch time), the definitions, and
when their length does (the first boundary after that which is a multiple of it). -/
structure EpochPlan where
  old : MtrEpoch
  defsAt : Nat
  body : MtrBody
  build : Nat
  lenAt : Nat
  deriving DecidableEq, Repr

/-- `n` raised to a multiple of `m`. -/
def ceilTo (n m : Nat) : Nat := if m = 0 then n else (n + m - 1) / m * m

/-- The plan after epoch `o`. -/
def Dev.epochPlan (d : Dev) (o : MtrEpoch) : EpochPlan :=
  let l := o.lenS * 1000000000
  match d.mtrNext with
  | some b =>
    let a := o.stop + ceilTo (d.mtrNextFrom - o.stop) l
    ⟨o, a, b, (d.rd IMG_BUILD_ID).toNat, ceilTo a (Nat.lcm l (b.epochS * 1000000000))⟩
  | none => ⟨o, o.stop, o.body, o.build, ceilTo o.stop (Nat.lcm l (o.body.epochS * 1000000000))⟩

/-- The epoch that begins at boundary `t` of the plan, with the TFs `fs` assigned. -/
def EpochPlan.epochAt (p : EpochPlan) (t : Nat) (fs : List Nat) : MtrEpoch :=
  let n := if p.lenAt ≤ t then p.body.epochS else p.old.lenS
  let new := decide (p.defsAt ≤ t)
  ⟨t, t + n * 1000000000, n, if new then p.body else p.old.body, [], fs, [], false, if new then p.build else p.old.build⟩

/-- How many epochs of the plan, from its first, network time `now` has wholly passed, and the start of the last of them and of the one after (R444). -/
def EpochPlan.passed (p : EpochPlan) (now : Nat) : Nat × Nat × Nat :=
  let e := p.old.stop
  let l0 := p.old.lenS * 1000000000
  let l1 := p.body.epochS * 1000000000
  let n0 := min ((now - e) / l0) ((p.lenAt - e) / l0)
  let t := e + n0 * l0
  let n1 := if p.lenAt ≤ t then (now - t) / l1 else 0
  (n0 + n1, if n1 = 0 then t - l0 else t + (n1 - 1) * l1, t + n1 * l1)

/-- The epoch `e` opens, and the registers show it; a length that waits shows in PEND_S (R442). -/
def Dev.mtrOpens (d : Dev) (p : EpochPlan) (e : MtrEpoch) : Dev :=
  let d := (d.setMtrOpen e).onlyIf (decide (p.defsAt ≤ e.start)) fun d => d.setMtrNext none
  let d := (d.wr MTR_EPOCH_START (BitVec.ofNat 64 e.start)).setF MTR_EPOCH_CFG MTR_EPOCH_CFG_LENGTH_S e.lenS
  d.setF MTR_EPOCH_CFG MTR_EPOCH_CFG_PEND_S (if p.body.epochS = e.lenS then 0 else p.body.epochS)

/-- The sketch banks swap; the new open bank starts at 0 (R450). -/
def Dev.sketchSwap (d : Dev) : Dev := d.setSketch (d.sketch.mapVals fun _ x => ⟨[], 0, x.cur, x.curN⟩)

/-- The boundary of the open epoch (R443): fresh banks; what network time has stepped over closes as one block of zero counts, marked STEPPED (R444). -/
def Dev.epochEnds (d : Dev) : Dev :=
  let d := (d.cxlSync d.mtrOpen.stop).graceEnd
  let o := d.mtrOpen
  let p := d.epochPlan o
  let fs := d.assignedTfs
  let (k, last, next) := p.passed d.now
  let d := (d.setMtrOld (some o)).sketchSwap
  let d := if k = 0 then d else
    let d := d.graceEnd.sketchSwap
    d.mtrClose k { p.epochAt last fs with start := o.stop, stop := next, stepped := true }
  d.mtrOpens p (p.epochAt next fs)

/-- METERING_EPOCH_END (R443; 02 R53 to R57): at the first tick at which network time has reached the boundary, in its place among the compares; nothing before. -/
def execMeteringEpochEnd (s : State) : Host.Outcome State Fault Refusal :=
  finK s (if s.dueFirst .epochStop 0 then (s.toDev.epochEnds).dueFired none else s.toDev)

/-! Signature and publication (R447, R448). -/

/-- The oldest unsigned block of `l` gets `sig` of its root record. -/
def signFirst (sig : List Byte → List Byte) : List MtrBlock → List MtrBlock
  | [] => []
  | b :: t => if b.sig.isNone then { b with sig := some (sig (b.recs.getLastD [])) } :: t else b :: signFirst sig t

/-- BLOCK_SIGNED (R447): the oldest block without one gets its signature, over the 128 bytes of its root record. -/
def execBlockSigned (s : State) : Host.Outcome State Fault Refusal :=
  finK s ((s.setMtrBlocks (signFirst s.toDev.signed s.mtrBlocks)).mtrShow)

/-- The slots written from slot number `i` of a ring of `n` slots at `base` (R448). -/
def Dev.mtrSlots (d : Dev) (f base n : Nat) : Nat → List (List Byte) → Dev
  | _, [] => d
  | i, r :: t => (d.fnWrite f false (base + 128 * (i % n)) r).mtrSlots f base n (i + 1) t

/-- The oldest block is written into the metering ring, when it is signed, the ring is enabled, its link takes requests and the whole block fits; then the producer index, first to host memory,
then to MTR_RING_PROD (R448, R449). -/
def Dev.blockPublish (d : Dev) : Dev :=
  match d.mtrBlocks with
  | [] => d
  | b :: rest =>
    match b.sig with
    | none => d
    | some sig =>
      let f := 4096 + d.fld MTR_RING_CFG MTR_RING_CFG_PF
      let n := 2 ^ d.fld MTR_RING_CFG MTR_RING_CFG_SIZE_LOG2
      let p := d.fld MTR_RING_PROD MTR_RING_PROD_PROD
      if !d.flag MTR_RING_CFG MTR_RING_CFG_EN || !d.fnCan f || decide (n < idxSub p (d.fld MTR_RING_CONS MTR_RING_CONS_CONS) + b.slots) then d
      else
        let base := (d.rd MTR_RING_BASE).toNat
        let tail := sig ++ List.replicate 80 0
        let d := d.mtrSlots f base n p (b.recs ++ (List.range 62).map fun i => bytesAt tail (128 * i) 128)
        let q := (p + b.slots) % 65536
        let d := (d.fnWrite f false (base + 128 * n) (leBytes 8 q)).setF MTR_RING_PROD MTR_RING_PROD_PROD q
        (((d.setMtrBlocks rest).count (mtrCnt 0)).setF MTR_STATUS MTR_STATUS_CLOSED 1).mtrShow

/-- BLOCK_PUBLISH (R448). -/
def execBlockPublish (s : State) : Host.Outcome State Fault Refusal := finK s s.toDev.blockPublish

/-! Reading telemetry and the open epoch (R450; R535). -/

/-- The bytes of the query key (MTR_SK_KEY0 to 5). -/
def Dev.queryKey (d : Dev) (s : Nat) : List Byte :=
  ((List.range 6).flatMap fun n => leBytes 8 (d.rd (MTR_SK_KEY s n)).toNat).take d.mtrOpen.body.keyBytes

/-- A write of MTR_SK_QUERY: with GO, the minimum of the key's four counters of the chosen bank (R450). -/
def Dev.sketchQuery (d : Dev) (s : Nat) (v : Word) : Dev :=
  let d := d.setF (MTR_SK_QUERY s) MTR_SK_QUERY_BANK (MTR_SK_QUERY_BANK.get v)
  if MTR_SK_QUERY_GO.get v = 0 then d
  else
    let x := d.sketchAt s
    let old := MTR_SK_QUERY_BANK.get v = 1
    let t := if old then x.prev else x.cur
    let key := d.queryKey s
    let at_ (r : Nat) : Nat := t.lookD (r * 65536 + d.sketchCol r key) 0
    let est := min (min (at_ 0) (at_ 1)) (min (at_ 2) (at_ 3))
    ((d.wr (MTR_SK_EST s) (BitVec.ofNat 64 est)).wr (MTR_SK_TOTAL s) (BitVec.ofNat 64 (if old then x.prevN else x.curN))).setF (MTR_SK_QUERY s) MTR_SK_QUERY_VALID 1

/-- SKETCH_QUERY (R450): a write of MTR_SK_QUERY. -/
def execSketchQuery (src : Src) (slice : Fin 6) (v : Word) (s : State) : Host.Outcome State Fault Refusal :=
  finSW s src slice.val (MTR_SK_QUERY slice.val) (s.toDev.sketchQuery slice.val v)

/-- The nine counters of TF `f` in the open epoch, granule time counted to now (MTR_LIVE_DATA). -/
def Dev.mtrLive (d : Dev) (f : Nat) : List Nat := ((d.cxlSync d.now).mtrOpen.cnt.lookD f TfCnt.zero).c

end Sys2Proof.Machine
end

