-- ==== Sys2Proof/Machine/Dma.lean ====
section
/-! DEFINITION. The DMA engine (15 R426 to R438): channels, descriptors, bursts, pacing. -/
namespace Sys2Proof.Machine

/-! Channels (R426, R427). -/

/-- Channel `c`'s state beside its registers. -/
def Dev.dmaAt (d : Dev) (c : Nat) : DmaCh := d.dmaCh.lookD c ⟨none, 0, 0, [], false⟩

/-- `d` with channel `c` changed by `f`. -/
def Dev.updDma (d : Dev) (c : Nat) (f : DmaCh → DmaCh) : Dev := d.setDmaCh (d.dmaCh.put c (f (d.dmaAt c)))

/-- Who submitted a descriptor: an offload command, or the PF (none: Ulyar) the channel is bound to. -/
inductive DmaFrom where
  | engine (n : Nat) (o : OpRec)
  | pf (p : Nat)
  | ulyar
  deriving DecidableEq, Repr

/-- Whether an engine submitted it. -/
def DmaFrom.isEngine : DmaFrom → Bool
  | .engine _ _ => true
  | _ => false

/-- The current descriptor of channel `c`, and its submitter. -/
def Dev.dmaCurrent (d : Dev) (c : Nat) : Option (DmaFrom × List Byte) :=
  match (d.dmaAt c).host with
  | some b => some (if d.fld (DMA_CH_CFG c) DMA_CH_CFG_BIND_KIND = 2 then .pf (d.fld (DMA_CH_CFG c) DMA_CH_CFG_BIND_ID) else .ulyar, b)
  | none => match d.dmaQueue c with
    | (n, o) :: _ => some (.engine n o, o.desc)
    | [] => none

/-- DMA_CH_STATUS.STATE as it reads: 0 IDLE, 1 BUSY, 2 PAUSED, 3 HELD by the N3200. -/
def Dev.dmaState (d : Dev) (c : Nat) : Nat :=
  if d.fld (DMA_CH_STATUS c) DMA_CH_STATUS_STATE = 3 then 3
  else if (d.dmaCurrent c).isNone then 0 else if (d.dmaAt c).paused then 2 else 1

/-- DMA_CH_STATUS.QUEUED as it reads. -/
def Dev.dmaQueued (d : Dev) (c : Nat) : Nat := (d.dmaQueue c).length + b2n (d.dmaAt c).host.isSome

/-- The units of the DMA engine's host reads: operand `i` of channel `c`. -/
def dmaUnit (c i : Nat) : Nat := 4 * 2 ^ 40 + c * 64 + i

/-- Whatever has arrived for channel `c`, or is on its way, is forgotten. -/
def Dev.dmaForget (d : Dev) (c : Nat) : Dev :=
  (d.each (d.dmaAt c).want fun d i => (d.setArrived (d.arrived.del (dmaUnit c i))).orphanReads (dmaUnit c i)).updDma c fun x => { x with want := [] }

/-! Descriptors (R428, R429). -/

/-- A descriptor's fields. -/
structure DmaJob where
  code : Nat
  flags : Nat
  srcSpace : Nat
  dstSpace : Nat
  mode : Nat
  func : Nat
  k : Nat
  src : Nat
  dst : Nat
  len : Nat
  unit : Nat
  stride : Nat
  deriving DecidableEq, Repr

/-- The descriptor `b`. -/
def dmaJob (b : List Byte) : DmaJob :=
  ⟨leAt b 4 2, leAt b 6 2, leAt b 0x11 1, leAt b 0x12 1, leAt b 0x13 1, leAt b 0x14 2, leAt b 0x16 1, leAt b 0x18 8, leAt b 0x20 8, leAt b 0x28 8, leAt b 0x30 4, leAt b 0x38 8⟩

/-- MODE's bits. -/
def DmaJob.srcFixed (j : DmaJob) : Bool := j.mode.testBit 0
def DmaJob.dstFixed (j : DmaJob) : Bool := j.mode.testBit 1
def DmaJob.ro (j : DmaJob) : Bool := j.mode.testBit 2
def DmaJob.parity (j : DmaJob) : Nat := b2n (j.mode.testBit 3)
def DmaJob.pattern (j : DmaJob) : Bool := j.code == 4 || (j.code == 5 && j.mode.testBit 4)
def DmaJob.stripes (j : DmaJob) : Bool := j.code == 2 || j.code == 3

/-- Whether the descriptor uses its source space. -/
def DmaJob.reads (j : DmaJob) : Bool := !j.pattern

/-- The checks that end a descriptor with BAD_DESC (R429 to R432). -/
def DmaJob.formOk (j : DmaJob) (b : List Byte) (engine : Bool) : Bool :=
  let space (x : Nat) : Bool := decide (x ≤ 3) && (x == 1 || x == 2 || engine) && (x != 3 || j.flags.testBit 0)
  let fixed (on : Bool) (a : Nat) : Bool := !on || (a % 8 == 0 && j.len % 8 == 0)
  let host := j.dstSpace == 2 || (j.reads && j.srcSpace == 2)
  decide (1 ≤ j.code) && decide (j.code ≤ 5) && decide (j.flags < 2) && decide (j.mode < 32) && leAt b 0x17 1 == 0 && leAt b 0x34 4 == 0 &&
    space j.dstSpace && (!j.reads || space j.srcSpace) && (!host || decide (j.func < 4100)) && decide (1 ≤ j.len) && decide (j.len ≤ 2 ^ 36) &&
    (!j.stripes || (decide (2 ≤ j.k) && decide (j.k ≤ 16) && decide (64 ≤ j.unit) && decide (j.unit ≤ 1048576) && j.unit % 64 == 0 &&
      (if j.code = 2 then j.len % j.unit == 0 && decide (j.len ≤ j.stride) else j.len % (j.k * j.unit) == 0 && decide (j.len / j.k ≤ j.stride)))) &&
    (j.code != 4 || (j.dst % 8 == 0 && j.len % 8 == 0)) &&
    (j.stripes || ((j.pattern || fixed j.srcFixed j.src) && fixed j.dstFixed j.dst))

/-- The bytes of output, or of comparison (R432, R433). -/
def DmaJob.total (j : DmaJob) : Nat :=
  match j.code with
  | 2 => j.len / j.unit * (j.k + j.parity) * j.unit
  | 3 => j.len / (j.k * j.unit) * (j.k + j.parity) * j.unit
  | _ => j.len

/-- Where byte `p` of the output goes, the addresses whose bytes XORed give it, and how many bytes follow in the same way (R431, R432). -/
def DmaJob.spot (j : DmaJob) (p : Nat) : Nat × List Nat × Nat :=
  let per := (j.k + j.parity) * j.unit
  let stripe := p / per
  let u := p % per / j.unit
  let o := p % j.unit
  match j.code with
  | 2 =>
    let one (i : Nat) : Nat := j.src + i * j.stride + stripe * j.unit + o
    (j.dst + p, if u < j.k then [one u] else (List.range j.k).map one, j.unit - o)
  | 3 =>
    let one (i : Nat) : Nat := j.src + stripe * j.k * j.unit + i * j.unit + o
    (j.dst + u * j.stride + stripe * j.unit + o, if u < j.k then [one u] else (List.range j.k).map one, j.unit - o)
  | _ => (if j.dstFixed then j.dst else j.dst + p, if j.pattern then [] else [if j.srcFixed then j.src else j.src + p], j.len - p)

/-- The bytes of the burst at `p`: up to an aligned 64-byte boundary of its destination, 8 at a fixed address (R431). -/
def DmaJob.burst (j : DmaJob) (p : Nat) : Nat :=
  let (a, _, n) := j.spot p
  if !j.stripes && (j.dstFixed || j.srcFixed) then 8 else min n (64 - a % 64)

/-! Accesses (R410, R430). -/

/-- What an access comes to: done, to be waited for, or the result that ends the descriptor, with the cluster one of whose banks refused it. -/
inductive DmaGot (α : Type) where
  | ok (x : α)
  | wait (d : Dev)
  | fails (code : Nat) (denied : Option Nat := none)

/-- An access that a bank of cluster `k` refused is counted (09 R252). -/
def Dev.bankDenied (d : Dev) : Option Nat → Dev
  | some k => d.count (ENG_BANK_DENIED (k / 2) (k % 2)).addr
  | none => d

/-- `n` bytes at device address `a` for channel `c`. -/
def Dev.dmaDevice (d : Dev) (c a n : Nat) : DmaGot Nat :=
  if 0xFF0000000000 ≤ a && a + n ≤ 0xFF0003000000 then
    let o := a - 0xFF0000000000
    let k := o / 0x400000
    match d.banksAsk (k / 2) (banksOf (k % 2 * 16) (o % 0x400000) n) 2 c with
    | .owner => .ok a
    | .held => .wait d
    | .refused => .fails 0x03 (some k)
  else if d.dramIn [1, 2] a n then .ok a else .fails 0x02

/-- `n` bytes at engine address `a` for channel `c`, as the engine of command `o` names them. -/
def Dev.dmaEngine (d : Dev) (c : Nat) (o : OpRec) (a n : Nat) : DmaGot Nat :=
  match d.spot? o.slice o.pos a n with
  | some (.mem m none) => .ok m
  | some (.mem m (some _)) => d.dmaDevice c m n
  | _ => .fails 0x02

/-- Whether the submitter may name function `f` (R430). -/
def Dev.dmaNames (d : Dev) (w : DmaFrom) (f : Nat) : Bool :=
  match w with
  | .pf p => f == 4096 + p || (decide (f < 4096) && d.fnState f != 0 && d.fnPf f == p)
  | _ => true

/-- Whether host accesses for function `f` end with an error, or wait for Bus Master Enable (R430, R437). -/
def Dev.dmaHost (d : Dev) (w : DmaFrom) (f : Nat) : DmaGot Unit :=
  let n := d.fnPf f
  if !d.dmaNames w f then .fails 0x02
  else if d.fnState f != 2 || !d.pfPresent n || d.frozen n then .fails 0x04
  else if !d.bme n then .wait d else .ok ()

/-- Operand `i`: `n` bytes of space `sp` at `a` read for channel `c`, and whether they hold an uncorrectable word. A host read is issued once and awaited. -/
def State.dmaRead (s : State) (c : Nat) (w : DmaFrom) (j : DmaJob) (i sp a n : Nat) : DmaGot (List Byte × Bool) :=
  let mem (g : DmaGot Nat) : DmaGot (List Byte × Bool) := match g with
    | .ok m => .ok (s.mem.readN m n, s.badIn m n)
    | .wait d => .wait d
    | .fails e c => .fails e c
  match sp, w with
  | 0, .engine _ o => mem (s.dmaEngine c o a n)
  | 1, _ => mem (s.dmaDevice c a n)
  | 2, _ =>
    match s.arrived.look (dmaUnit c i) with
    | some (some b) => .ok (b, false)
    | some none => .fails 0x04
    | none =>
      match s.dmaHost w j.func with
      | .fails e c => .fails e c
      | .wait d => .wait d
      | .ok _ =>
        if (s.dmaAt c).want.contains i then .wait s.toDev
        else match s.fnRead j.func (dmaUnit c i) j.ro a n with
          | some d => .wait (d.updDma c fun x => { x with want := i :: x.want })
          | none => .wait s.toDev
  | _, .engine _ o =>
    match o.frame.bind s.frame? with
    | some f => if f.len < a + n then .fails 0x09 else .ok (bytesAt f.data a n, false)
    | none => .fails 0x09
  | _, _ => .fails 0x01

/-- Operands (number, space, address) of `n` bytes read in turn: each must be there; the ones that are not are asked for. -/
def State.dmaReads (s : State) (c : Nat) (w : DmaFrom) (j : DmaJob) (n : Nat) : List (Nat × Nat × Nat) → DmaGot (List (List Byte × Bool))
  | [] => .ok []
  | (i, sp, a) :: t =>
    match s.dmaRead c w j i sp a n with
    | .fails e c => .fails e c
    | .wait d => match State.dmaReads { s with toDev := d } c w j n t with
      | .ok _ => .wait d
      | r => r
    | .ok b => match State.dmaReads s c w j n t with
      | .ok l => .ok (b :: l)
      | r => r

/-- `bs` written to space `sp` at `a`. -/
def State.dmaWrite (s : State) (c : Nat) (w : DmaFrom) (j : DmaJob) (a : Nat) (bs : List Byte) : DmaGot State :=
  let mem (g : DmaGot Nat) : DmaGot State := match g with
    | .ok m => .ok (s.store m bs)
    | .wait d => .wait d
    | .fails e c => .fails e c
  match j.dstSpace, w with
  | 0, .engine _ o => mem (s.dmaEngine c o a bs.length)
  | 1, _ => mem (s.dmaDevice c a bs.length)
  | 2, _ => match s.dmaHost w j.func with
    | .ok _ => .ok (s.onDev fun d => d.fnWrite j.func j.ro a bs)
    | .wait d => .wait d
    | .fails e c => .fails e c
  | _, .engine _ o =>
    match o.frame.bind s.frame? with
    | some f => if f.len < a + bs.length then .fails 0x09 else .ok (s.onDev fun d => d.updFrame (o.frame.getD 0) fun y => { y with data := setBytes y.data a bs })
    | none => .fails 0x09
  | _, _ => .fails 0x01

/-! Ends (R427, R436). -/

/-- The current descriptor of channel `c` ends with `code` and `result`. -/
def State.dmaEnds (s : State) (c : Nat) (w : DmaFrom) (b : List Byte) (code result : Nat) : State :=
  let s := s.onDev fun d => ((d.dmaForget c).setF (DMA_CH_STATUS c) DMA_CH_STATUS_LAST_RESULT code).updDma c fun _ => ⟨none, 0, 0, [], false⟩
  match w with
  | .engine n o => s.opEnds n o code result
  | _ => s.onDev fun d =>
    ((d.wr (DMA_CH_DESC c 1) (BitVec.ofNat 64 result)).wr (DMA_CH_DESC c 0) (BitVec.ofNat 64 (leAt b 4 4 * 2 ^ 32 + 2 ^ 31 + code))).setBitF DMA_EVENT DMA_EVENT_DONE c true

/-! Pacing (R434). -/

/-- The pacing check of channel `c` before a burst: whether it is paused. -/
def Dev.pacePaused (d : Dev) (c : Nat) : Bool :=
  let r := DMA_CH_CFG c
  if !d.flag r DMA_CH_CFG_PACE_EN then false
  else
    let f := d.fld r DMA_CH_CFG_PACE_FIFO
    let level := d.fld (DMA_FIFO_LEVEL f) DMA_FIFO_LEVEL_BYTES
    let hi := d.fld (DMA_FIFO_MARKS f) DMA_FIFO_MARKS_HIGH
    let lo := d.fld (DMA_FIFO_MARKS f) DMA_FIFO_MARKS_LOW
    let consumer := d.flag r DMA_CH_CFG_PACE_ROLE
    if (d.dmaAt c).paused then decide (hi ≤ lo) || (if consumer then decide (level < hi) else decide (lo < level))
    else if consumer then decide (level ≤ lo) else decide (hi ≤ level)

/-- A FIFO's level moved by `x` bytes, saturating (R434). -/
def Dev.fifoAdd (d : Dev) (f : Nat) (x : Int) : Dev :=
  d.setF (DMA_FIFO_LEVEL f) DMA_FIFO_LEVEL_BYTES (min (Int.ofNat (d.fld (DMA_FIFO_LEVEL f) DMA_FIFO_LEVEL_BYTES) + x).toNat (2 ^ 48 - 1))

/-- The level after a burst of channel `c` that read `r` and wrote `w` bytes. -/
def Dev.paceMove (d : Dev) (c r w : Nat) : Dev :=
  let g := DMA_CH_CFG c
  if !d.flag g DMA_CH_CFG_PACE_EN then d
  else d.fifoAdd (d.fld g DMA_CH_CFG_PACE_FIFO) (if d.flag g DMA_CH_CFG_PACE_ROLE then -(Int.ofNat r) else Int.ofNat w)

/-! Bursts (R431 to R435). -/

/-- Byte strings XORed together. -/
def xorAll : List (List Byte) → List Byte
  | [] => []
  | [a] => a
  | a :: t => List.zipWith (fun x y => x ^^^ y) a (xorAll t)

/-- The pattern of `n` bytes from byte `p` on. -/
def patternAt (v p n : Nat) : List Byte := (List.range n).map fun i => BitVec.ofNat 8 (v / 2 ^ (8 * ((p + i) % 8)))

/-- The first place where two byte strings differ. -/
def firstDiff (a b : List Byte) : Option Nat := ((a.zip b).findIdx? fun x => x.1 != x.2)

/-- One burst of channel `c`: the state, and whether it can go on. -/
def State.dmaBurst (s : State) (c : Nat) (w : DmaFrom) (b : List Byte) : State × Bool :=
  let j := dmaJob b
  let x := s.dmaAt c
  if s.pacePaused c then (s.onDev fun d => d.updDma c fun x => { x with paused := true }, false) else
  let s := s.onDev fun d => d.updDma c fun x => { x with paused := false }
  let n := j.burst x.pos
  let (a, srcs, _) := j.spot x.pos
  let ins := (if j.code = 5 then [(63, j.dstSpace, a)] else []) ++ srcs.zipIdx.map fun y => (y.2, j.srcSpace, y.1)
  match s.dmaReads c w j n ins with
  | .fails e y => ((s.onDev fun d => d.bankDenied y).dmaEnds c w b e (if j.code = 5 then 0 else x.wrote), false)
  | .wait d => ({ s with toDev := d }, false)
  | .ok l =>
    let s := s.onDev fun d => d.each (ins.filter fun y => y.2.1 == 1) fun d y => d.touchDram y.2.2 n
    let bad := l.any Prod.snd
    let read := (l.map fun y => y.1.length).sum
    let done := decide (j.total ≤ x.pos + n)
    if j.code = 5 then
      let u := (l.headD ([], false)).1
      let v := if j.pattern then patternAt j.src x.pos n else xorAll (l.tail.map Prod.fst)
      if bad then (s.dmaEnds c w b 0x05 (x.pos + 2 ^ 63), false)
      else match firstDiff u v with
        | some i => (s.dmaEnds c w b 0x05 (x.pos + i), false)
        | none =>
          let s := s.onDev fun d => ((d.dmaForget c).paceMove c read 0).updDma c fun y => { y with pos := y.pos + n }
          if done then (s.dmaEnds c w b 0 0, false) else (s, true)
    else if bad then (s.dmaEnds c w b 0x06 x.wrote, false)
    else
      match s.dmaWrite c w j a (if j.pattern then patternAt j.src x.pos n else xorAll (l.map Prod.fst)) with
      | .fails e y => ((s.onDev fun d => d.bankDenied y).dmaEnds c w b e x.wrote, false)
      | .wait d => ({ s with toDev := d }, false)
      | .ok s =>
        let s := s.onDev fun d => (((d.count (DMA_CNT c).addr n).dmaForget c).paceMove c read n).updDma c fun y => { y with pos := y.pos + n, wrote := y.wrote + n }
        if done then (s.dmaEnds c w b 0 (x.wrote + n), false) else (s, true)

/-- Up to `k` bursts of channel `c`'s current descriptor. -/
def State.dmaBursts (c : Nat) (w : DmaFrom) (b : List Byte) : Nat → State → State
  | 0, s => s
  | k + 1, s =>
    match s.dmaBurst c w b with
    | (s, true) => State.dmaBursts c w b k s
    | (s, false) => s

/-- A DMA operation of OPCODE `code` on channel `c`: its current descriptor is checked and moves on by up to `k` bursts; an OPCODE not listed ends by any of them (R429). -/
def dmaOp (code c k : Nat) (s : State) : Host.Outcome State Fault Refusal :=
  match s.dmaCurrent c with
  | none => fin s s.toDev
  | some (w, b) =>
    let v := leAt b 4 2
    if v != code && decide (1 ≤ v) && decide (v ≤ 5) then fin s s.toDev
    else
      let t := if (dmaJob b).formOk b w.isEngine then State.dmaBursts c w b k s else s.dmaEnds c w b 0x01 0
      finM t t.toDev t.mem

/-- COPY (R431). -/
def execCopy (ch : Fin 64) (bursts : Nat) (s : State) : Host.Outcome State Fault Refusal := dmaOp 1 ch.val bursts s

/-- INTERLEAVE (R432). -/
def execInterleave (ch : Fin 64) (bursts : Nat) (s : State) : Host.Outcome State Fault Refusal := dmaOp 2 ch.val bursts s

/-- DEINTERLEAVE (R432). -/
def execDeinterleave (ch : Fin 64) (bursts : Nat) (s : State) : Host.Outcome State Fault Refusal := dmaOp 3 ch.val bursts s

/-- FILL (R429). -/
def execFill (ch : Fin 64) (bursts : Nat) (s : State) : Host.Outcome State Fault Refusal := dmaOp 4 ch.val bursts s

/-- COMPARE (R433). -/
def execCompare (ch : Fin 64) (bursts : Nat) (s : State) : Host.Outcome State Fault Refusal := dmaOp 5 ch.val bursts s

/-! Control (R426, R427, R434, R437, R438). -/

/-- A write of DMA_CH_CFG (R426, R438). -/
def Dev.dmaConfig (d : Dev) (src : Src) (c : Nat) (v : Word) : Dev :=
  let kind := DMA_CH_CFG_BIND_KIND.get v
  let id := DMA_CH_CFG_BIND_ID.get v
  let bad := (kind == 1 && decide (5 < id)) || (kind == 2 && decide (3 < id))
  if src != .ulyar || d.dmaState c != 0 || bad then d
  else
    let put (d : Dev) (f : Fld) : Dev := d.setF (DMA_CH_CFG c) f (f.get v)
    (((put (put (put d DMA_CH_CFG_PACE_EN) DMA_CH_CFG_PACE_ROLE) DMA_CH_CFG_PACE_FIFO).setF (DMA_CH_CFG c) DMA_CH_CFG_BIND_KIND kind).setF (DMA_CH_CFG c)
      DMA_CH_CFG_BIND_ID (if kind = 1 ∨ kind = 2 then id else 0))

/-- DMA_CH_CFG_WRITE. -/
def execDmaChCfgWrite (src : Src) (ch : Fin 64) (v : Word) (s : State) : Host.Outcome State Fault Refusal := finW s src (DMA_CH_CFG ch.val).addr (s.toDev.dmaConfig src ch.val v)

/-- The descriptor that DMA_CH_DESC0 to 7 hold. -/
def Dev.dmaDesc (d : Dev) (c : Nat) : List Byte := (List.range 8).flatMap fun k => leBytes 8 (d.rd (DMA_CH_DESC c k)).toNat

/-- Whether channel `c` is bound to `src`. -/
def Dev.dmaOf (d : Dev) (src : Src) (c : Nat) : Bool :=
  let kind := d.fld (DMA_CH_CFG c) DMA_CH_CFG_BIND_KIND
  match src with
  | .pf n _ => kind == 2 && d.fld (DMA_CH_CFG c) DMA_CH_CFG_BIND_ID == n.val
  | .ulyar => kind == 3

/-- GO (R427): discarded while the channel is BUSY; a submitter the channel is not bound to, or one that the N3200 holds, ends with CHANNEL. -/
def State.dmaGo (s : State) (src : Src) (c : Nat) : State :=
  if (s.dmaCurrent c).isSome then s
  else if !s.dmaOf src c || s.dmaState c = 3 then s.dmaEnds c .ulyar (s.dmaDesc c) 0x07 0
  else s.onDev fun d => d.updDma c fun _ => ⟨some (d.dmaDesc c), 0, 0, [], false⟩

/-- DMA_GO (R427). -/
def execDmaGo (src : Src) (ch : Fin 64) (s : State) : Host.Outcome State Fault Refusal := finSM s src (DMA_CH_CTRL ch.val).addr (s.dmaGo src ch.val)

/-- Every descriptor of channel `c` ends with ABORTED, the current one first (R437). -/
def State.dmaAbort (c : Nat) : Nat → State → State
  | 0, s => s
  | n + 1, s =>
    match s.dmaCurrent c with
    | some (w, b) => State.dmaAbort c n (s.dmaEnds c w b 0x08 (if leAt b 4 2 = 5 then 0 else (s.dmaAt c).wrote))
    | none => s

/-- DMA_ABORT (R437). -/
def execDmaAbort (src : Src) (ch : Fin 64) (s : State) : Host.Outcome State Fault Refusal := finSM s src (DMA_CH_CTRL ch.val).addr (State.dmaAbort ch.val 66 s)

/-- FIFO_ADJ (R434): the signed bytes are added to the level. -/
def execFifoAdj (src : Src) (fifo : Fin 16) (delta : Word) (s : State) : Host.Outcome State Fault Refusal := finW s src (DMA_FIFO_ADJ fifo.val).addr (s.toDev.fifoAdd fifo.val delta.toInt)

end Sys2Proof.Machine
end

