-- ==== Sys2Proof/Machine/Functions.lean ====
section
/-! DEFINITION. Functions (14 R377 to R380), their resets (R402, R403), and a TF's mediation vector (R400). -/
namespace Sys2Proof.Machine

/-! Assignment and control (R377 to R380). -/

/-- Whether `src` may write the FUNC registers of function `f` (R378). -/
def Dev.mayFunc (d : Dev) (src : Src) (f : Nat) : Bool :=
  match src with
  | .ulyar => true
  | .pf p _ =>
    if 4096 ≤ f then f == 4096 + p.val
    else (d.fld RGM_MEDIATOR RGM_MEDIATOR_PF_MASK).testBit p.val && (d.fnState f == 0 || d.fnPf f == p.val)

/-- Function `f`'s STATE and REFUSED. -/
def Dev.setFnState (d : Dev) (f st : Nat) : Dev := d.setF (RGM_FUNC_STATUS f) RGM_FUNC_STATUS_STATE st
def Dev.fnRefuse (d : Dev) (f : Nat) : Dev := d.setF (RGM_FUNC_STATUS f) RGM_FUNC_STATUS_REFUSED 1

/-- Whether the ranges `[a, a + n)` and `[b, b + m)` meet. -/
def meets (a n b m : Nat) : Bool := decide (a < b + m) && decide (b < a + n) && n != 0 && m != 0

/-- Whether function `f` may have rings `[b, b + n)`: within the ring numbers and its limit, apart from every other function's, ABSENT or not (R377). -/
def Dev.ringsFit (d : Dev) (f b n : Nat) : Bool :=
  decide (n ≤ if 4096 ≤ f then 4096 else 256) && decide (b + n ≤ 131072) &&
    d.fns.all fun g => g == f || !meets b n (d.fnCtl g RGM_FUNC_CTL_RING_BASE) (d.fnCtl g RGM_FUNC_CTL_RING_COUNT)

/-- Whether TF `f` may have message entries `[b, b + n)` (R377). -/
def Dev.msgsFit (d : Dev) (f b n : Nat) : Bool :=
  decide (n ≤ 1024) && decide (b + n ≤ 65536) && d.fns.all fun g => g == f || decide (4096 ≤ g) ||
    !meets b n (d.fld (RGM_FUNC_MSG g) RGM_FUNC_MSG_MSG_BASE) (d.fld (RGM_FUNC_MSG g) RGM_FUNC_MSG_MSG_COUNT)

/-- A TF's state after ENABLE is written `en` (R379). -/
def tfEnable (st : Nat) (en : Bool) : Nat :=
  match st, en with
  | 1, true => 2
  | 2, false => 1
  | 3, true => 4
  | 4, false => 3
  | st, _ => st

/-- The ring range of function `f` becomes that of `v`. -/
def Dev.setRings (d : Dev) (f : Nat) (v : Word) : Dev :=
  (d.setF (RGM_FUNC_CTL f) RGM_FUNC_CTL_RING_COUNT (RGM_FUNC_CTL_RING_COUNT.get v)).setF (RGM_FUNC_CTL f) RGM_FUNC_CTL_RING_BASE (RGM_FUNC_CTL_RING_BASE.get v)

/-- A write of RGM_FUNC_CTL would change a field that only an ABSENT or DISABLED function's may (R378). -/
def Dev.ctlMoves (d : Dev) (f : Nat) (v : Word) : Bool :=
  [RGM_FUNC_CTL_PASID, RGM_FUNC_CTL_PF, RGM_FUNC_CTL_RING_COUNT, RGM_FUNC_CTL_RING_BASE].any fun x => x.get v != d.fnCtl f x

/-- Those fields of function `f` become `v`'s. -/
def Dev.setCtl (d : Dev) (f : Nat) (v : Word) : Dev :=
  ((d.setRings f v).setF (RGM_FUNC_CTL f) RGM_FUNC_CTL_PASID (RGM_FUNC_CTL_PASID.get v)).setF (RGM_FUNC_CTL f) RGM_FUNC_CTL_PF (RGM_FUNC_CTL_PF.get v)

/-- Whether the assignment of PF `f` is fixed: while it is in reset or any of its rings is not DISABLED. A PF that is present is never DISABLED itself (R378, R380; log entry 30). -/
def Dev.pfFixed (d : Dev) (f : Nat) : Bool := d.fnResetting f || !(d.liveRings f).isEmpty

/-- A write of RGM_FUNC_CTL of PF entry `f` (R378, R380): ASSIGNED and ENABLE ignore it. -/
def Dev.pfCtl (d : Dev) (f : Nat) (v : Word) : Dev :=
  if RGM_FUNC_CTL_RESET.get v = 1 || !d.ctlMoves f v then d
  else if d.pfFixed f || !d.ringsFit f (RGM_FUNC_CTL_RING_BASE.get v) (RGM_FUNC_CTL_RING_COUNT.get v) then d.fnRefuse f
  else d.setCtl f v

/-- A write of RGM_FUNC_CTL of TF `f` with RESET 0 (R377 to R379): a TF leaves for ABSENT from DISABLED alone. No TF is assigned before PROVISIONED, or after retirement (17 R473). -/
def Dev.tfCtl (d : Dev) (f : Nat) (v : Word) : Dev :=
  let st := d.fnState f
  let was := st != 0
  let on := RGM_FUNC_CTL_ASSIGNED.get v == 1
  let en := RGM_FUNC_CTL_ENABLE.get v == 1
  let st1 := tfEnable (if on && !was then 1 else st) en
  let bad := (d.ctlMoves f v && decide (1 < st)) || (!en && !(d.liveRings f).isEmpty) || (on && !was && d.life != 1 && d.life != 2) ||
    !d.ringsFit f (RGM_FUNC_CTL_RING_BASE.get v) (RGM_FUNC_CTL_RING_COUNT.get v) || (was && !on && !(st == 1 && st1 == 1))
  if bad then d.fnRefuse f
  else
    let st2 := if on then st1 else 0
    let d := (((d.setCtl f v).setF (RGM_FUNC_CTL f) RGM_FUNC_CTL_ASSIGNED (b2n on)).setF (RGM_FUNC_CTL f) RGM_FUNC_CTL_ENABLE (b2n (st2 == 2 || st2 == 4))).setFnState f st2
    if on && !was then d.mtrAssigned f else if was && !on then d.mtrWithdrawn f else d

/-- A write of RGM_FUNC_MSG of function `f` (R377, R378); a PF's takes what is written, and nothing reads it (R380). -/
def Dev.funcMsg (d : Dev) (src : Src) (f : Nat) (v : Word) : Dev :=
  let b := RGM_FUNC_MSG_MSG_BASE.get v
  let n := RGM_FUNC_MSG_MSG_COUNT.get v
  if !d.mayFunc src f then d.count (rgmCnt 14)
  else if b == d.fld (RGM_FUNC_MSG f) RGM_FUNC_MSG_MSG_BASE && n == d.fld (RGM_FUNC_MSG f) RGM_FUNC_MSG_MSG_COUNT then d
  else if (if 4096 ≤ f then d.pfFixed f else decide (1 < d.fnState f) || !d.msgsFit f b n) then d.fnRefuse f
  else (d.setF (RGM_FUNC_MSG f) RGM_FUNC_MSG_MSG_BASE b).setF (RGM_FUNC_MSG f) RGM_FUNC_MSG_MSG_COUNT n

/-! Resets (R402, R403). -/

/-- The requests of function `f` that the DMA engine has not issued end with an error (R402; 15 R437). -/
def State.dmaSquash (s : State) (f : Nat) : State :=
  (List.range 64).foldl (fun s c =>
    match s.dmaCurrent c with
    | some (w, b) =>
      let j := dmaJob b
      if j.func = f && (j.dstSpace == 2 || (j.reads && j.srcSpace == 2)) then s.dmaEnds c w b 0x04 (if j.code = 5 then 0 else (s.dmaAt c).wrote) else s
    | none => s) s

/-- Ring `r` is squashed: nothing is fetched, what is fetched or captured is discarded, and its frames are dropped (R402). -/
def Dev.ringSquash (d : Dev) (r : Nat) : Dev :=
  let d := (d.forgetArrived r).updRing r fun x => { x with fetching := none, captured := [], chains := [], held := [], capWait := [], pendDb := [], pubWait := false, evWait := 0 }
  d.ringDropFrames r 13

/-- The rings of function `f` that are not as at reset. -/
def Dev.ringsOf (d : Dev) (f : Nat) : List Nat := (d.ring.filter fun kr => d.ringOwner kr.1 == some f).map Prod.fst

/-- The reads outstanding for `f` lose their data: for their unit each ends with an error, and no unit awaits it (R402). -/
def Dev.fnReadsLost (d : Dev) (f : Nat) : Dev :=
  let n := d.fnPf f
  let d := d.each ((d.pf n).reads.filter fun tr => tr.2.fn == f) fun d tr => d.onlyIf (!tr.2.dropped) fun d => d.readEnds tr.2.unit none
  d.updPf n fun p => { p with reads := p.reads.mapVals fun _ r => if r.fn = f then { r with unit := 2 ^ 50 } else r }

/-- A reset of function `f` begins, if it is one that can and none is in progress: it enters RESETTING and is squashed (R402, R403). -/
def State.fnReset (s : State) (f : Nat) : State :=
  if s.fnState f = 1 || s.fnState f = 2 then
    let s := s.onDev fun d => if 4096 ≤ f then d.setPfReset (setBit d.pfReset (f - 4096) true) else (d.setFnState f 3).setF (RGM_FUNC_CTL f) RGM_FUNC_CTL_ENABLE 0
    (s.onDev fun d => (d.each (d.ringsOf f) Dev.ringSquash).fnReadsLost f).dmaSquash f
  else s

/-- Whether no read is outstanding for function `f`. -/
def Dev.fnDrained (d : Dev) (f : Nat) : Bool := !((d.pf (d.fnPf f)).reads.any fun tr => tr.2.fn == f)

/-- RGM_EVENT.MEDIATE follows RGM_MED_PENDING. -/
def Dev.medShow (d : Dev) : Dev := d.setF RGM_EVENT RGM_EVENT_MEDIATE (b2n ((List.range 64).any fun w => d.rd (RGM_MED_PENDING w) != 0))

/-- The wipe and the report (R402): the rings' contexts, the held messages and the mediation bit are cleared; the function is DISABLED or ENABLED. -/
def Dev.fnWipe (d : Dev) (f : Nat) : Dev :=
  let d := d.each (d.ringsOf f) fun d r => d.setRing (d.ring.del r)
  let d := if 4096 ≤ f then d.setPfReset (setBit d.pfReset (f - 4096) false)
    else
      let d := d.setMsg (d.msg.mapVals fun e m => if d.msgOwner e == some f then { m with pending := false } else m)
      ((d.setBitF (RGM_MED_PENDING (f / 64)) RGM_MED_PENDING_PENDING (f % 64) false).medShow).setFnState f (if d.fnState f = 4 then 2 else 1)
  d.setF RGM_EVENT RGM_EVENT_RESET_DONE 1

/-- RESET_DRAIN_DONE (R402): nothing before the last read outstanding for the function has ended. -/
def execResetDrainDone (fn : Fin 4100) (s : State) : Host.Outcome State Fault Refusal :=
  fin s (if s.fnResetting fn.val && s.fnDrained fn.val then s.toDev.fnWipe fn.val else s.toDev)

/-- A write of RGM_FUNC_CTL by `src` (R378): with RESET, it begins a reset of a TF and ignores every other field. -/
def State.funcCtl (s : State) (src : Src) (f : Nat) (v : Word) : State :=
  if !s.mayFunc src f then s.onDev fun d => d.count (rgmCnt 14)
  else if 4096 ≤ f then s.onDev fun d => d.pfCtl f v
  else if RGM_FUNC_CTL_RESET.get v = 1 then s.fnReset f
  else s.onDev fun d => d.tfCtl f v

/-- FUNC_CTL_WRITE (R378 to R380). -/
def execFuncCtlWrite (src : Src) (fn : Fin 4100) (v : Word) (s : State) : Host.Outcome State Fault Refusal := finSM s src (RGM_FUNC_CTL fn.val).addr (s.funcCtl src fn.val v)

/-- TF_RESET (R402): a write of RESET. -/
def execTfReset (src : Src) (tf : Fin 4096) (s : State) : Host.Outcome State Fault Refusal := finSM s src (RGM_FUNC_CTL tf.val).addr (s.funcCtl src tf.val 4)

/-- The TFs assigned to PF `p`. -/
def Dev.tfsOf (d : Dev) (p : Nat) : List Nat := d.fns.filter fun f => decide (f < 4096) && d.fnState f != 0 && d.fnPf f == p

/-- A Function Level Reset of PF `p` (R402; 19 R499): of the PF, of every TF assigned to it, and of its configuration registers; its mailbox channel's exchange is abandoned (17 R459). -/
def State.flr (s : State) (p : Nat) : State :=
  if !s.pfPresent p then s
  else
    let s := (s.tfsOf p).foldl State.fnReset (s.fnReset (4096 + p))
    s.onDev fun d => (((d.recsLost p none).cfgReset p).updPf p fun x => { x with msix := [], pba := [] }).mbAbandon p

/-! Mediation (R400). -/

/-- A write of RGM_MED_NOTIFY with GO in PF `p`'s window: vector 0 of the TF is due, if it is assigned to the PF. -/
def Dev.medNotify (d : Dev) (src : Src) (p f : Nat) : Dev :=
  if !srcMayPf src p || d.fnState f = 0 || d.fnPf f != p then d.count (rgmCnt 14)
  else if d.fld (RGM_FUNC_MSG f) RGM_FUNC_MSG_MSG_COUNT = 0 then d.count (rgmCnt 13)
  else d.msgDue f (d.fld (RGM_FUNC_MSG f) RGM_FUNC_MSG_MSG_BASE)

/-- MED_NOTIFY (R400). -/
def execMedNotify (src : Src) (pf : Fin 4) (tf : Fin 4096) (s : State) : Host.Outcome State Fault Refusal :=
  finW s src (RGM_MED_NOTIFY pf.val).addr (s.toDev.medNotify src pf.val tf.val)

end Sys2Proof.Machine
end

