-- ==== Sys2Proof/Machine/Slices.lean ====
section
/-! DEFINITION. A slice's reset, its leaving and its joining service (19 R493, R499; 09 R258; 04 R80). -/
namespace Sys2Proof.Machine

/-- Whether frame `f` lies in slice `s`. -/
def Dev.inSlice (d : Dev) (s : Nat) (f : Frame) : Bool :=
  match f.stage with
  | .queued tm _ _ => tm == s
  | .wire p => d.actingSlice p == s
  | _ => f.slice == s

/-- The frames of slice `s` are dropped, and its firmware queue emptied (03 R68, R73; 05 R119; 10 R285). -/
def Dev.dropSlice (d : Dev) (s : Nat) : Dev :=
  let d := (d.purge ((d.frames.filter fun kf => d.inSlice s kf.2).map Prod.fst)).setFwq (d.fwq.del s)
  (d.setOrder (d.order.del s)).setLrnRecent (d.lrnRecent.del s)

/-- The traffic manager of slice `s` as after its reset (10 R285): wheels and rounds cleared, every bucket full, every credit and count 0. -/
def Dev.tmCleared (d : Dev) (s : Nat) : Dev :=
  let d := (d.setNode (d.node.filter fun kn => kn.1 / 262144 != s)).setWheels (d.wheels.del s)
  (d.setPol (d.pol.filter fun kx => kx.1 / 131072 != s)).setQueue (d.queue.filter fun kx => kx.1 / 65536 != s)

/-- Learned entries are removed, with no event posted; a pass or a bank load in progress ends (R499). -/
def Dev.unlearn (d : Dev) (s : Nat) : Dev :=
  let d := d.each (d.sliceTables s) fun d n => match d.tbl.look n with
    | some t => d.putTable n { t with entries := t.entries.filter fun e => !e.2.learned }
    | none => d
  let d := d.onlyIf (d.skim.look s).isSome fun d => d.skimEnds s 3
  d.treeStops s

/-- The commands of slice `s`'s engines: a DMA descriptor in progress ends ABORTED with its ticket lost, every other is discarded (12 R334; 15 R437). -/
def State.dropOps (s : State) (sl : Nat) : State :=
  let s := (List.range 64).foldl (fun s c =>
    match s.dmaCurrent c with
    | some (.engine n o, b) =>
      if o.slice = sl then s.dmaEnds c (.engine n { o with ticket := 8 }) b 0x08 (if leAt b 4 2 = 5 then 0 else (s.dmaAt c).wrote) else s
    | _ => s) s
  s.onDev fun d => d.setOps (d.ops.filter fun o => o.2.slice != sl)

/-- Bank `i` of slice `s` is unowned, and nothing drains (09 R250); an access held there is refused. -/
def Dev.bankFree (d : Dev) (s i : Nat) : Dev :=
  let r := ENG_BANK_STATUS s i
  let d := (d.excOff s i).each (d.excOn s i) Dev.excRefused
  (((d.bankNone s i).setF r ENG_BANK_STATUS_DRAINING 0).setF r ENG_BANK_STATUS_PEND_KIND 0).setF r ENG_BANK_STATUS_PEND_ID 0

/-- A migration of cluster `c` is abandoned. -/
def Dev.migDrop (d : Dev) (c : Nat) : Dev :=
  if (d.mig.look c).isSome then d.migAbandon c else d

/-- The engines of slice `s`: every position is reset; an OFFLINE one is STOPPED (08 R226, R245). -/
def Dev.enginesReset (d : Dev) (s : Nat) : Dev :=
  let d := (d.migDrop (2 * s)).migDrop (2 * s + 1)
  let d := d.each (List.range 32) fun d p =>
    if d.offline s p then (d.clearPos s p).each (thrsOf s p) fun d k => d.updThr k fun x => { Thr.reset with migrated := x.migrated }
    else d.engineReset s p
  (d.each (List.range 32) fun d i => d.bankFree s i).setGated (d.gated.filter fun g => g / 32 != s)

/-- Whether the register or counter at `a` is one of slice `sl`'s units: the MAC registers are the die's (04). -/
def ofSlice (sl a : Nat) : Bool := sliceAt a == some sl && decide (0x100000 ≤ a % 0x1000000)

/-- The registers and counters of slice `sl`'s units take their reset values (00 R7; R499), the exception limiters theirs (05 PRS_EXC_TOKENS); what they show of the bodies, which are kept, of
engines that are OFFLINE or replaced by a spare (08 R245; 18 R479) and of gate lists they show again. -/
def Dev.sliceRegsReset (d : Dev) (sl : Nat) : Dev :=
  let keep (r : Reg) (f : Fld) (n : Dev) : Dev := if d.flag r f then n.setF r f (d.fld r f) else n
  let n := (d.setRegs (d.regs.filter fun kv => !ofSlice sl kv.1)).setCnt (d.cnt.filter fun kv => !ofSlice sl kv.1)
  let n := n.setExc (n.exc.filter fun kx => kx.1 / 2 != sl)
  let n := [ENG_SPARE_STATUS_POSITION_A, ENG_SPARE_STATUS_POSITION_B, ENG_SPARE_STATUS_STATE_A, ENG_SPARE_STATUS_STATE_B].foldl (fun n f => keep (ENG_SPARE_STATUS sl) f n) n
  let n := n.each (List.range 32) fun n p => (keep (ENG_STATUS sl p) ENG_STATUS_OFFLINE n).engShow sl p
  ((n.residency sl 0).residency sl 1).each ((List.range 16).filter fun p => n.actingSlice p == sl) Dev.gateShow

/-- The reset of slice `sl` (R499): its scope, and nothing outside it. Image bodies, installed entries and metering counts are kept. -/
def State.sliceReset (s : State) (sl : Nat) : State :=
  let s := (s.onDev fun d => (((d.dropSlice sl).setKeySlot (d.keySlot.mapVals fun _ x => x.strand sl)).unlearn sl).tmCleared sl).dropOps sl
  let s := s.onDev fun d => ((d.enginesReset sl).setSlowClk (setBit d.slowClk sl false)).sliceRegsReset sl
  let s := match s.code s.curSlot sl with
    | some b => s.placeData sl b
    | none => s
  s.onDev fun d => d.tmRefresh sl

/-- Whether the memory cell at `a` lies in the engine-local, quad or bank memory of slice `sl`. -/
def inSliceMem (sl a : Nat) : Bool :=
  if 2 * 2 ^ 48 ≤ a then (a - 2 * 2 ^ 48) / 2 ^ 23 == sl
  else if 2 ^ 48 ≤ a then
    let n := (a - 2 ^ 48) / 2 ^ 18
    (if n < 192 then n / 32 else (n - 192) / 2) == sl
  else decide (0xFF0000000000 ≤ a) && (a - 0xFF0000000000) / 0x800000 == sl

/-- The memories of slice `sl` are set to 0 (09 R258). -/
def State.sliceZero (s : State) (sl : Nat) : State :=
  { s.onDev fun d => d.setPoison (d.poison.filter fun p => !inSliceMem sl (p.1 * 8)) with mem := s.mem.filter fun c => !inSliceMem sl c.1 }

/-- The table storage of slice `s` is as its bodies give it: initial entries alone, shared where two resident epochs share it (03 R72; 06 R138). -/
def Dev.tablesAnew (d : Dev) (s : Nat) : Dev :=
  let d := d.setTblMap (d.tblMap.filter fun kn => kn.1 / 128 != s)
  let d := d.setTbl (d.tbl.filter fun nt => d.tblMap.any fun kn => kn.2 == nt.1)
  d.each [d.curSlot, 1 - d.curSlot] fun d e => match d.slot? e with
    | some x => match (d.bodies e s).cls with
      | some b => (d.each b.tables fun d t => d.placeTable s e b.init x.img.fill t).residency s e
      | none => d.residency s e
    | none => d.residency s e

/-- Slice `sl` joins service (R493 step 2): cleared, it receives the bodies of every resident epoch, and its engines start in the current one. -/
def State.sliceJoin (s : State) (sl : Nat) : State :=
  let s := (s.sliceZero sl).onDev fun d => d.tablesAnew sl
  let s := (s.putCode 0 sl).putCode 1 sl
  let s := match s.code s.curSlot sl with
    | some b => s.placeData sl b
    | none => s
  s.onDev fun d => ((d.each (List.range 32) fun d p => ((d.onlyIf (!d.offline sl p) fun d => d.restartPos sl p).engShow sl p)).each (List.range 32) fun d i => d.bankFree sl i).tmRefresh sl

/-- The slices `l` leave service: each is reset and powered down (R493 step 1); none of its threads runs. -/
def State.slicesLeave (s : State) (l : List Nat) : State :=
  l.foldl (fun s sl => (s.sliceReset sl).onDev fun d =>
    (d.setF PWR_STATUS PWR_STATUS_SLICES (setBit (d.fld PWR_STATUS PWR_STATUS_SLICES) sl false)).each ((List.range 32).flatMap (thrsOf sl)) fun d k => d.setThr (d.thr.del k)) s

/-- The gate list of port `p`'s acting slice takes over, as it stands at the present time (10 R281, R285). -/
def Dev.gateTake (d : Dev) (p : Nat) : Dev :=
  let x : Option GateSt := (d.gateListOf p).map fun g =>
    if d.now < g.base then ⟨none, [(g, g.base)], 0, 0, []⟩ else ⟨some g, [], (g.at d.now).1, (g.at d.now).2, (List.range 8).map g.longestOpen⟩
  let d := (d.setGate (d.gate.putOpt p x)).setDue (d.due.filter fun y => !(y.kind == .gate && y.id == p))
  (d.gateShow p).tmRefresh (d.actingSlice p)

/-- The ports follow the slices in service (04 R80; 10 R285): where a port's acting slice changes, the new slice's gate list takes over. -/
def Dev.portsFollow (d : Dev) : Dev :=
  let old := (List.range 16).map d.actingSlice
  let d := d.portsFollowSlices
  d.each (List.range 16) fun d p => if d.actingSlice p != old.getD p 0 then d.gateTake p else d

end Sys2Proof.Machine
end

