-- ==== Sys2Proof/Machine/Power.lean ====
section
/-! DEFINITION. Pressure states, transitions, envelopes and the slice resets (19 R490 to R499). -/
namespace Sys2Proof.Machine

/-- A write of a PWR register by `src` (R492, R499): the block lies in the always-on domain. -/
def finP (s : State) (src : Src) (d : Dev) : Host.Outcome State Fault Refusal :=
  if s.pwrMode = .running ∨ s.pwrMode = .warm then finA s (if s.srcFrozen src then s.inboundDiscard src else d) else .next s

/-- A write of a PWR register is discarded (R492). -/
def Dev.pwrRefuse (d : Dev) : Dev := d.setPs PWR_STATUS_REFUSED 1

/-- A write of PWR_CMD (R491, R492). -/
def Dev.pwrCmd (d : Dev) (v : Word) : Dev :=
  let t := PWR_CMD_TARGET.get v
  if (d.rd PWR_ALLOW).toNat.testBit t then (d.setF PWR_CMD PWR_CMD_TARGET t).pwrEval else d.pwrRefuse

/-- PWR_CMD_WRITE. -/
def execPwrCmdWrite (src : Src) (v : Word) (s : State) : Host.Outcome State Fault Refusal := finP s src (s.pwrCmd v)

/-- A write of PWR_ALLOW (R492): bit 3 only while every granule is FREE. -/
def Dev.pwrAllow (d : Dev) (v : Word) : Dev :=
  let a := PWR_ALLOW_ALLOW.get v
  if a.testBit 2 && !d.allFree then d.pwrRefuse else (d.setF PWR_ALLOW PWR_ALLOW_ALLOW a).pwrEval

/-- PWR_ALLOW_WRITE. -/
def execPwrAllowWrite (src : Src) (v : Word) (s : State) : Host.Outcome State Fault Refusal := finP s src (s.pwrAllow v)

/-- A write of PWR_HALF_SLICES (R501): exactly three slices. -/
def Dev.pwrHalf (d : Dev) (v : Word) : Dev :=
  let m := PWR_HALF_SLICES_MASK.get v
  if (setBits 6 m).length = 3 then (d.setF PWR_HALF_SLICES PWR_HALF_SLICES_MASK m).pwrEval else d.pwrRefuse

/-- PWR_HALF_SLICES_WRITE. -/
def execPwrHalfSlicesWrite (src : Src) (v : Word) (s : State) : Host.Outcome State Fault Refusal := finP s src (s.pwrHalf v)

/-- PF `n` goes to D-state `st` (R491): D1 and D2 are not supported. -/
def Dev.dState (d : Dev) (n st : Nat) : Dev :=
  if d.pfPresent n && (st == 0 || st == 3) then (d.updPf n fun p => { p with dstate := st }).pwrEval else d

/-- The PERST_N of host port `hp` falls or rises. The selected one, falling in PADDLE, is D3cold (R491); what its release brings are EASY_EXIT and COLD_RESET, and what the other's brings is HOT_RESET. -/
def Dev.perstLevel (d : Dev) (hp : Nat) (low : Bool) : Dev :=
  if low && hp == b2n d.straps.perstSel && d.ps PWR_STATUS_STATE == 2 then (d.setPerst true).pwrEval else d

/-- D_STATE_CHANGE (R491). -/
def execDStateChange (change : DChange) (s : State) : Host.Outcome State Fault Refusal :=
  finK s (match change with
    | .pf n st => s.dState n.val st.val
    | .perst hp low => s.perstLevel hp.val low)

/-- SLICE_RESET (R499): a write of PWR_RESET.SLICE; ignored for a slice not in service. -/
def State.sliceResetBy (s : State) (sl : Nat) : State :=
  if s.sliceOn sl then (s.sliceReset sl).onDev fun d => d.setBitF PWR_RESET_STATUS PWR_RESET_STATUS_SLICE_BUSY sl true else s

/-- SLICE_RESET. -/
def execSliceReset (src : Src) (slice : Fin 6) (s : State) : Host.Outcome State Fault Refusal :=
  if s.srcFrozen src then finP s src s.toDev else if s.runs then finS s (s.sliceResetBy slice.val) else .next s

/-- SLICE_RESET_DONE (R499). -/
def execSliceResetDone (slice : Fin 6) (s : State) : Host.Outcome State Fault Refusal :=
  fin s (if (s.fld PWR_RESET_STATUS PWR_RESET_STATUS_SLICE_BUSY).testBit slice.val then
    (s.setBitF PWR_RESET_STATUS PWR_RESET_STATUS_SLICE_BUSY slice.val false).setBitF PWR_RESET_STATUS PWR_RESET_STATUS_SLICE_DONE slice.val true else s.toDev)

/-- The average package power of the last 1 ms is `dw` tenths of a watt (R498). -/
def Dev.powerAverage (d : Dev) (dw : Nat) : Dev :=
  let dw := min dw 0xFFFF
  let cap := d.fld PWR_ENVELOPE PWR_ENVELOPE_CAP_W * 10
  let d := (d.setF PWR_MEASURE PWR_MEASURE_AVG_DW dw).setF PWR_MEASURE PWR_MEASURE_MAX_DW (max dw (d.fld PWR_MEASURE PWR_MEASURE_MAX_DW))
  if cap != 0 && decide (cap < dw) then (d.setPs PWR_STATUS_CAP_EXCEEDED 1).setGateShort (d.gateShort || d.flag PWR_ENVELOPE PWR_ENVELOPE_CLK_GATE)
  else if cap = 0 || dw < cap then d.setGateShort false else d

/-- POWER_AVERAGE. -/
def execPowerAverage (deciwatt : Nat) (s : State) : Host.Outcome State Fault Refusal := finK s (s.powerAverage deciwatt)

/-- CLOCK_GATE (R497): the idle time of the engine has passed. -/
def execClockGate (slice : Fin 6) (pos : Fin 32) (s : State) : Host.Outcome State Fault Refusal :=
  let g := posKey slice.val pos.val
  fin s (if s.sliceOn slice.val && s.gateCan g && !s.gated.contains g then s.setGated (s.gated ++ [g]) else s.toDev)

end Sys2Proof.Machine
end

