-- ==== Sys2Proof/Machine/HostCfg.lean ====
section
/-! DEFINITION. Configuration space and the host's resets (13 R344 to R347; 19 R499). The places of the standard registers' bits are PCI Express's (log entry 31). -/
namespace Sys2Proof.Machine

/-- The bytes that BAR pair `i` spans, as a power of two (R347). -/
def barLog (i : Nat) : Nat := match i with
  | 0 => 28
  | 1 => 24
  | _ => 26

/-- The value of BAR dword `n` of PF `p`: 64-bit and non-prefetchable, its low bits fixed. -/
def PfLink.bar (p : PfLink) (n : Nat) : Nat :=
  let v := p.cfg.lookD n 0
  if n % 2 = 1 then v else v / 2 ^ barLog (n / 2) * 2 ^ barLog (n / 2) + 4

/-- Dword `i` of the Ovlorek DVSEC (R346); `v` is what nothing states of the header's upper half. -/
def Dev.dvsec (d : Dev) (n i v : Nat) : Nat :=
  match i with
  | 0 => v % 2 ^ 16 * 2 ^ 16 + 0x0023
  | 1 => 0x02001E7A
  | 2 => 0x0001
  | 4 => 0x1000
  | 5 => d.ls n HIF_LINK_STATUS_FROZEN + 2 * d.ls n HIF_LINK_STATUS_QUIESCED + 16 * d.ls n HIF_LINK_STATUS_CAUSE
  | _ => 0

/-- The capabilities of PF `n`, by ID: the PCI list (Power Management, PCI Express, MSI-X), or the extended one (AER, serial number, PASID, DVSEC and, in CXL mode, a CXL DVSEC and data object
exchange) (R345). -/
def Dev.capIds (d : Dev) (n : Nat) (extended : Bool) : List Nat :=
  if extended then [0x0001, 0x0003, 0x001B, 0x0023] ++ (if d.ls n HIF_LINK_STATUS_MODE == 1 then [0x0023, 0x002E] else []) else [0x01, 0x10, 0x11]

/-- What a configuration read of PF `n` returns; `v` is a free value, for what nothing states. -/
def Dev.cfgRead (d : Dev) (n v : Nat) (r : CfgReg) : Nat :=
  let p := d.pf n
  match r with
  | .vendorDevice => 0x32001E7A
  | .revisionClass => 0x020000B1
  | .headerType | .intPin | .romBar => 0
  | .subsystem => bitsOf d.board 16 32
  | .command => setBit (setBit 0 1 p.mse) 2 (d.bme n)
  | .devCtl => setBit (setBit (v % 2 ^ 16) 4 p.roEn) 15 false
  | .devCtl2 => setBit (v % 2 ^ 16) 8 p.idoEn
  | .devStatus => setBit (v % 2 ^ 16) 5 (d.ls n HIF_LINK_STATUS_QUIESCED == 0)
  | .msixCtl => setBit (setBit 2047 15 p.msixEn) 14 p.fnMask
  | .pmcsr => v % 2 ^ 14 * 4 + p.dstate
  | .serial high => if high then d.serial / 2 ^ 32 else d.serial % 2 ^ 32
  | .dvsec i => d.dvsec n i.val v
  | .bar i => p.bar i.val
  | .capId e i => (d.capIds n e).getD i.val 0
  | .pasid => v % 2 ^ 16 * 2 ^ 16 + 20 * 2 ^ 8
  | .devCap2 => v % 2 ^ 27 * 2 ^ 5
  | .aerUncorr => p.aerUncorr
  | .aerCorr => p.aerCorr
  | .other _ => v % 2 ^ 32

/-- Bus Master Enable of PF `n` becomes `on` (R367, R368). -/
def Dev.setBme (d : Dev) (n : Nat) (on : Bool) : Dev := if on then d.bmeSet n else d.bmeClear n

/-- A configuration write of `v` to PF `n`; what is read-only, and what nothing states the effect of, is unchanged. -/
def State.cfgWrite (s : State) (n v : Nat) (r : CfgReg) : State :=
  match r with
  | .command => s.onDev fun d => (d.updPf n fun p => { p with mse := v.testBit 1 }).setBme n (v.testBit 2)
  | .devCtl =>
    let s := s.onDev fun d => d.updPf n fun p => { p with roEn := v.testBit 4 }
    if v.testBit 15 then s.flr n else s
  | .devCtl2 => s.onDev fun d => d.updPf n fun p => { p with idoEn := v.testBit 8 }
  | .msixCtl => s.onDev fun d => d.updPf n fun p => { p with msixEn := v.testBit 15, fnMask := v.testBit 14 }
  | .pmcsr => s.onDev fun d => d.dState n (v % 4)
  | .aerUncorr => s.onDev fun d => d.updPf n fun p => { p with aerUncorr := p.aerUncorr &&& (2 ^ 32 - 1 - v % 2 ^ 32) }
  | .aerCorr => s.onDev fun d => d.updPf n fun p => { p with aerCorr := p.aerCorr &&& (2 ^ 32 - 1 - v % 2 ^ 32) }
  | .bar i => s.onDev fun d => d.updPf n fun p => { p with cfg := p.cfg.put i.val (v % 2 ^ 32) }
  | _ => s

/-- The answer of a meaning of a unit that a warm reset keeps, which may have changed memory. -/
def finKS (s t : State) : Host.Outcome State Fault Refusal := if s.runs || s.pwrMode == .warm then .next { t with toDev := t.toDev.settle } else .next s

/-- CONFIG_REQUEST (R345): retry status until the function is ready. No request comes over a link that is down. -/
def execConfigRequest (pf : Fin 4) (reg : CfgReg) (data : CfgData) (s : State) : Host.Outcome State Fault Refusal :=
  let n := pf.val
  finKS s (if !s.pfPresent n || s.ls n HIF_LINK_STATUS_LINK_UP == 0 then s
    else if !(s.pf n).ready then s.onDev fun d => d.emit .cfgRetry
    else match data with
      | some v => s.cfgWrite n v reg
      | none => s.onDev fun d =>
        let (v, d) := d.fresh
        d.emit (.cfgData (d.cfgRead n v reg)))

/-- FLR (R499; 14 R402): Initiate Function Level Reset of PF `pf`. -/
def execFlr (pf : Fin 4) (s : State) : Host.Outcome State Fault Refusal := finKS s (s.flr pf.val)

/-- A hot reset or link disable of host port `hp` (R499; 13 R373), or the release of the PERST_N that is not selected: the port's links go down without a freeze, each of its PFs is reset as by a
Function Level Reset; a freeze in force stays. -/
def State.hotReset (s : State) (hp : Nat) : State :=
  [2 * hp, 2 * hp + 1].foldl (fun s n => if s.pfPresent n then (s.flr n).onDev fun d => d.linkLost n else s) s

/-- HOT_RESET (R499). -/
def execHotReset (hp : Fin 2) (s : State) : Host.Outcome State Fault Refusal := finKS s (s.hotReset hp.val)

end Sys2Proof.Machine
end

