-- ==== Sys2Proof/Machine/Ras.lean ====
section
/-! DEFINITION. Reliability at run time (18 R480 to R489; 20 R507, R518): the safe state, clocks, rails and temperatures, aging, SRAM scrub and repair, fault records. -/
namespace Sys2Proof.Machine

/-- A report of `id` whose DETAIL and CODE nothing states. -/
def Dev.reportOpen (d : Dev) (id kind : Nat) (who : Reporter) : Dev :=
  let (v, d) := d.fresh
  let (c, d) := d.fresh
  d.report id kind v who c

/-- The part enters the safe state (R480): every link down, no slice in service, FAULT_N asserted, PHASE 0xF with the test or the error that led there. -/
def Dev.enterSafe (d : Dev) (test error : Nat) : Dev :=
  let d := ((d.setF MBX_BOOT_STATUS MBX_BOOT_STATUS_PHASE 15).setF MBX_BOOT_STATUS MBX_BOOT_STATUS_TEST test).setF MBX_BOOT_STATUS MBX_BOOT_STATUS_ERROR error
  let d := d.each ((List.range 4).filter d.pfPresent) Dev.linkLost
  ((d.setF PWR_STATUS PWR_STATUS_SLICES 0).emit (.pin "MGT_FAULT_N" false)).setPwrMode .safe

/-! Clocks, rails, temperature (R485; 20 R507, R518). -/

/-- Compute die `h` is out of service until cold reset (R485). -/
def State.dieDown (s : State) (h : Nat) : State :=
  let s := s.slicesLeave ((List.range 6).filter fun i => i / 3 == h && s.sliceOn i)
  s.onDev fun d => (((d.setDiesDown (setBit d.diesDown h true)).setPwrNext (d.pwrNext.1, Nat.land d.pwrNext.2 (if h = 0 then 0x38 else 0x07))).portsFollow).pwrEval

/-- PLL `p` has lost lock (R485). -/
def State.pllLoss (s : State) (p : Nat) : State :=
  let s := s.onDev fun d => d.reportOpen (0x0F00 + p) 5 hubUnit
  match p with
  | 0 | 3 => s.dieDown 0
  | 1 | 4 => s.dieDown 1
  | 5 | 6 => s.onDev fun d => d.each ([2 * (p - 5), 2 * (p - 5) + 1].filter d.pfPresent) fun d n => ((d.freeze n 3).cfgReset n).linkLost n
  | _ => s.onDev fun d => d.enterSafe (0x050 + p) 0

/-- PLL_LOCK_LOSS (R485). -/
def execPllLockLoss (pll : Fin 8) (s : State) : Host.Outcome State Fault Refusal := finS s (s.pllLoss pll.val)

/-- RAIL_FAULT (20 R507). -/
def execRailFault (rail : Fin 10) (s : State) : Host.Outcome State Fault Refusal := finK s (s.reportOpen (0x0F20 + rail.val) 5 hubUnit)

/-- A reading of sensor `i` of die `h` (20 R518): at 105 °C a report; at 120 °C THERMTRIP_N, and every clock outside the always-on domain stops. -/
def Dev.thermal (d : Dev) (h i : Nat) (c : Int) : Dev :=
  let d := d.onlyIf (decide (105 ≤ c)) fun d => d.reportOpen (0x0F10 + 4 * h + i) 5 hubUnit
  if 120 ≤ c then (d.emit (.pin "MGT_THERMTRIP_N" false)).setPwrMode .tripped else d

/-- THERMAL_READ (20 R518). -/
def execThermalRead (die : Fin 3) (sensor : Fin 4) (celsius : Int) (s : State) : Host.Outcome State Fault Refusal := finK s (s.thermal die.val sensor.val celsius)

/-! Aging (R483). -/

/-- The warning of element `e` (R483): a lane's triggers sparing (04 R91), an engine's a migration (08 R242). -/
def Dev.agingWarn (d : Dev) (e : Nat) : Dev :=
  let d := d.setF (RAS_AGING e) RAS_AGING_WARN 1
  if e < 20 then (d.setF (laneStatus (e / 10) (e % 10)) MAC_LANE_STATUS_AGING_WARN 1).laneFail (e / 10) (e % 10) 4 (d.autoSpare (e / 10) (e % 10))
  else if e < 224 then
    match (List.range 192).find? fun k => d.physOf (k / 32) (k % 32) == e - 20 with
    | some k => d.migAuto (k / 32) (k % 32) 4
    | none => d.reportOpen (0x0800 + (e - 20)) 4 hubUnit
  else d.reportOpen (0x0C00 + (e - 224)) 4 hubUnit

/-- AGING_MEASURE (R483): the drift is recorded; a warning is raised once, and stays until cold reset. -/
def Dev.aging (d : Dev) (e ppm : Nat) : Dev :=
  let d := d.setF (RAS_AGING e) RAS_AGING_DRIFT_PPM (min ppm 0xFFFFF)
  if d.fld RAS_SRAM_CFG RAS_SRAM_CFG_WARN_PPM ≤ ppm && !d.flag (RAS_AGING e) RAS_AGING_WARN then d.agingWarn e else d

/-- AGING_MEASURE. -/
def execAgingMeasure (element : Fin 236) (driftPpm : Nat) (s : State) : Host.Outcome State Fault Refusal := fin s (s.aging element.val driftPpm)

/-! SRAM scrub and repair (R481, R482). -/

/-- A row of a memory, as one number: the slice (6 for the hub), the memory, the row. -/
def sramRow (m : Sram) (row : Nat) : Nat :=
  (match m with
    | .engineLocal n => (if n.val < 192 then n.val / 32 else (n.val - 192) / 2) * 1024 + n.val
    | .quad q => q.val / 8 * 1024 + 256 + q.val
    | .buffer s => s.val * 1024 + 512
    | .tables s => s.val * 1024 + 513
    | .hub => 6 * 1024
    | .bank k b => k.val / 2 * 1024 + 576 + k.val % 2 * 16 + b.val) * 2 ^ 32 + row % 2 ^ 32

/-- The slice of a memory, none for the hub. -/
def sramSlice : Sram → Option Nat
  | .engineLocal n => some (if n.val < 192 then n.val / 32 else (n.val - 192) / 2)
  | .quad q => some (q.val / 8)
  | .buffer s => some s.val
  | .tables s => some s.val
  | .hub => none
  | .bank k _ => some (k.val / 2)

/-- The fault source of a memory, and its reporter (R484). The table SRAM of a slice is the classifier's. -/
def sramSource (m : Sram) : Nat :=
  match m with
  | .engineLocal n => 0x0500 + n.val
  | .quad q => 0x0600 + q.val
  | .buffer s => 0x0200 + s.val
  | .tables s => 0x0400 + s.val
  | .hub => 0x0E00
  | .bank k b => 0x0700 + 16 * k.val + b.val

def sramReporter (m : Sram) : Reporter := match sramSlice m with
  | some s => sliceUnit s
  | none => hubUnit

/-- The position that runs on physical engine `n`. -/
def Dev.posOn (d : Dev) (n : Nat) : Option Nat := (List.range 192).find? fun k => d.physOf (k / 32) (k % 32) == n

/-- An error of memory `m` that remains after soft repair (R482): of engine-local SRAM it starts a migration; of every other memory it is reported. -/
def Dev.sramRemains (d : Dev) (m : Sram) : Dev :=
  match m with
  | .engineLocal n => match d.posOn n.val with
    | some k => d.migAuto (k / 32) (k % 32) 2
    | none => d.reportOpen (sramSource m) 2 (sramReporter m)
  | _ => d.reportOpen (sramSource m) 2 (sramReporter m)

/-- The scrub period that is running (R481). -/
def Dev.scrubPeriod (d : Dev) : Nat := d.refNs / (max 1 (d.fld RAS_SRAM_CFG RAS_SRAM_CFG_SCRUB_H) * 3600000000000)

/-- The scrub, or another read, finds word `w` of a row corrected or uncorrectable (R481, R482). An uncorrectable word of engine-local memory, quad memory or a cluster
bank is poisoned (09 R248). -/
def Dev.sramFound (d : Dev) (m : Sram) (row w : Nat) (f : EccFound) : Dev :=
  let k := sramRow m row
  match f with
  | .clean => d
  | .corrected =>
    let old := d.sramErr.lookD k (0, 0)
    let n := if old.1 = d.scrubPeriod then old.2 + 1 else 1
    let d := d.setSramErr (d.sramErr.put k (d.scrubPeriod, n))
    if n = max 1 (d.fld RAS_SRAM_CFG RAS_SRAM_CFG_CE_LIMIT) then (d.setSramBad (d.sramBad.put k ())).reportOpen (sramSource m) 1 (sramReporter m) else d
  | .uncorrectable =>
    let d := match m with
      | .engineLocal n => d.setPoison (d.poison.put (localAt n.val (w % 32768 * 8) / 8) 0)
      | .quad q => d.setPoison (d.poison.put (quadAt q.val (w % 131072 * 8) / 8) 0)
      | .bank k b => d.setPoison (d.poison.put (bankAt k.val b.val (w % 32768 * 8) / 8) 0)
      | _ => d
    if (d.sramFixed.look k).isSome then d.sramRemains m else (d.setSramBad (d.sramBad.put k ())).reportOpen (sramSource m) 2 (sramReporter m)

/-- SRAM_SCRUB (R481). -/
def execSramScrub (mem : Sram) (row word : Nat) (found : EccFound) (s : State) : Host.Outcome State Fault Refusal := fin s (s.sramFound mem row word found)

/-- SRAM_ROW_REPAIR (R482): a row that waits for it is replaced by a spare row, its words copied, poison included; without a spare row left the error remains. -/
def Dev.sramRepair (d : Dev) (m : Sram) (row : Nat) (left : Bool) : Dev :=
  let k := sramRow m row
  if (d.sramBad.look k).isNone then d
  else
    let d := (d.setSramBad (d.sramBad.del k)).setSramErr (d.sramErr.del k)
    if left then d.setSramFixed (d.sramFixed.put k ()) else d.sramRemains m

/-- SRAM_ROW_REPAIR. -/
def execSramRowRepair (mem : Sram) (row : Nat) (left : Bool) (s : State) : Host.Outcome State Fault Refusal := fin s (s.sramRepair mem row left)

/-! Fault records (R488, R489). -/

/-- STORM_WINDOW_END (R488): the counts of the window return to 0; STORM stays. -/
def execStormWindowEnd (s : State) : Host.Outcome State Fault Refusal := finK s (s.setRas (s.ras.mapVals fun _ r => { r with window := 0 }))

/-- A write of RAS_REC_SEL: it selects a record, and with CLEAR frees it (R489). -/
def Dev.recSel (d : Dev) (v : Word) : Dev :=
  let d := d.setF RAS_REC_SEL RAS_REC_SEL_INDEX (RAS_REC_SEL_INDEX.get v)
  if RAS_REC_SEL_CLEAR.get v = 1 then (d.setRas (d.ras.del (RAS_REC_SEL_INDEX.get v))).rasCount else d

/-- RECORD_CLEAR (R489): a write of RAS_REC_SEL. -/
def execRecordClear (src : Src) (v : Word) (s : State) : Host.Outcome State Fault Refusal := finW s src RAS_REC_SEL.addr (s.recSel v)

end Sys2Proof.Machine
end

