-- ==== Sys2Proof/Machine/Bist.lean ====
section
/-! DEFINITION. The power-on tests (18 R476 to R479): signatures, substitution, degradation. -/
namespace Sys2Proof.Machine

/-! Signatures (R477). -/

/-- One byte into a CRC-64 of polynomial 0x42F0_E1EB_A9EA_3693, without reflection. -/
def crc64Byte (c b : Nat) : Nat :=
  (List.range 8).foldl (fun c _ => if c.testBit 63 then Nat.xor (2 * c - 2 ^ 64) 0x42F0E1EBA9EA3693 else 2 * c) (Nat.xor c (b * 2 ^ 56))

/-- The signature of bins in their order. -/
def crc64 (l : List Nat) : Nat := l.foldl crc64Byte 0

/-- The signature of a run of `n` measurements all in bin 1. -/
def goldenSig (n : Nat) : Nat := crc64 (List.replicate n 1)

/-- Whether test `t` exists (R476). -/
def bistExists (t : Nat) : Bool :=
  (decide (1 ≤ t) && decide (t ≤ 0x14)) || (decide (0x20 ≤ t) && decide (t ≤ 0x4B)) || (decide (0x50 ≤ t) && decide (t ≤ 0x57)) || (decide (0x60 ≤ t) && decide (t ≤ 0x6B)) ||
  (decide (0x70 ≤ t) && decide (t ≤ 0x79)) || (decide (0x100 ≤ t) && decide (t ≤ 0x1CB)) || (decide (0x200 ≤ t) && decide (t ≤ 0x22F)) || (decide (0x240 ≤ t) && decide (t ≤ 0x245)) ||
  (decide (0x248 ≤ t) && decide (t ≤ 0x24D)) || t == 0x250 || (decide (0x300 ≤ t) && decide (t ≤ 0x3BF))

/-- The measurements of analog test `t`: eye height and width at 64 sampling points for a lane. -/
def bistMeasures (t : Nat) : Nat := if t < 0x40 then 128 else Config.measures t

/-- The bins of a run as numbers, its signature, and whether it passes (R477): an analog test by its signature, any other when it finds nothing. -/
def runBins (r : BistRun) : List Nat := r.bins.map Fin.val
def runSig (r : BistRun) : Nat := crc64 (runBins r)
def runPasses (r : BistRun) : Bool := if r.test < 0x100 then runSig r == goldenSig r.bins.length else !r.bad

/-- The index of the first measurement outside bin 1, or 0xFFFF (R477). -/
def firstBad (r : BistRun) : Nat := if (runBins r).all (· == 1) then 0xFFFF else (runBins r).findIdx (· != 1)

/-! Results and consequences (R478, R479). -/

/-- The result registers of a run whose outcome is `res`; the signature is that of the last run, which a substituted element has passed. -/
def Dev.bistResult (d : Dev) (r : BistRun) (res : Nat) : Dev :=
  let k := RAS_BIST_STATE r.test
  let d := (d.setF k RAS_BIST_STATE_RESULT res).setF k RAS_BIST_STATE_FIRST_BAD (firstBad r)
  if r.test < 0x100 then d.wr (RAS_BIST_SIG r.test) (BitVec.ofNat 64 (if res = 2 then goldenSig r.bins.length else runSig r)) else d

/-- Whether DEGRADE bit `i` of the board description is set. -/
def Dev.degrade (d : Dev) (i : Nat) : Bool := d.board.testBit i

/-- Slice `s` is left out of service. -/
def Dev.sliceOut (d : Dev) (s : Nat) : Dev := d.setBistSlices (setBit d.bistSlices s false)

/-- Network lane `n` fails: its group's routed spare takes its position where it passes (R479), else it is FAILED (R478). The outcome, and the device. -/
def Dev.bistLane (d : Dev) (r : BistRun) (spareBad : Bool) (n : Nat) : Nat × Dev :=
  let h := n / 10
  let l := n % 10
  let g := l / 5
  let sp := 5 * g + 4
  let routed := d.board.testBit (3 + 2 * h + g)
  let failed := d.setF (laneStatus h l) MAC_LANE_STATUS_LANE_STATE 2
  if l != sp && routed && r.spareOk && !spareBad && d.laneState h sp != 2 && !d.flag (groupSpare h g) MAC_GROUP_SPARE_A_SPARE_USED then
    (2, ((failed.setF (laneStatus h sp) MAC_LANE_STATUS_LOGICAL (4 * g + l % 5)).setF (groupSpare h g) MAC_GROUP_SPARE_A_SPARE_USED 1).refreshLanes h)
  else if d.degrade 1 then (3, failed) else (4, d)

/-- Engine `n` fails: the spare of its cluster takes its position where it passes; a spare that fails is FAILED (R479). -/
def Dev.bistEngine (d : Dev) (r : BistRun) (spareBad : Bool) (n : Nat) : Nat × Dev :=
  if 192 ≤ n then (4, d.setSpare (n - 192) 4)
  else
    let c := n / 16
    if r.spareOk && !spareBad && d.spare c == 0 then
      (2, (((d.setSpare c 3).setF (ENG_SPARE_STATUS (n / 32)) (sparePos c) (n % 32)).setPhys (d.phys.put n (192 + c))).setF (ENG_STATUS (n / 32) (n % 32)) ENG_STATUS_PHYS (192 + c))
    else if d.degrade 0 then (3, d.sliceOut (n / 32)) else (4, d)

/-- A failing test's outcome: 2 pass after substitution, 3 degraded, 4 fail; and the device (R478). `l` holds all runs. -/
def Dev.bistFail (d : Dev) (l : BistRuns) (r : BistRun) : Nat × Dev :=
  let t := r.test
  let bad (u : Nat) : Bool := l.any fun x => x.test == u && !runPasses x
  if t < 0x20 then d.bistLane r (bad (1 + (t - 1) / 5 * 5 + 4)) (t - 1)
  else if 0x40 ≤ t ∧ t < 0x50 then if d.degrade 2 then (3, d.setSetsOut (setBit d.setsOut ((t - 0x40) / 4) true)) else (4, d)
  else if t < 0x100 then (4, d)
  else if t < 0x200 then d.bistEngine r (bad (0x100 + 192 + (t - 0x100) / 16)) (t - 0x100)
  else if r.spareOk then (2, d)
  else if 0x240 ≤ t ∧ t < 0x250 ∧ d.degrade 0 = true then (3, d.sliceOut (t % 8))
  else if 0x300 ≤ t then (4, d.reportOpen (0x0700 + (t - 0x300)) 2 hubUnit)
  else (4, d)

/-- Whether an outcome of 4 in test `t` leads to the safe state: of a spare engine it does not, the element being spare (R479). -/
def bistFatal (t res : Nat) : Bool := res == 4 && !(decide (0x1C0 ≤ t) && decide (t ≤ 0x1CB))

/-- The passes over the banks `l`, each 16 x cluster + bank (09 R257): a bank passes, or passes once a row of it is replaced, or still fails and is reported; which, and what row, nothing
states (log entry 105). The device, and the test number of the first bank that fails. -/
def Dev.bankRuns (d : Dev) : List (Fin 192) → Dev × Option Nat
  | [] => (d, none)
  | b :: t =>
    let (v, d) := d.fresh
    let m : Sram := .bank (Fin.ofNat 12 (b.val / 16)) (Fin.ofNat 16 b.val)
    let d := match v % 3 with
      | 0 => d
      | 1 => d.setSramFixed (d.sramFixed.put (sramRow m (v / 3)) ())
      | _ => d.reportOpen (sramSource m) 2 hubUnit
    let (d, r) := Dev.bankRuns d t
    (d, if v % 3 = 2 then some (0x300 + b.val) else r)

/-- The banks of the slices `sl`. -/
def banksOfSlices (sl : List Nat) : List (Fin 192) := (List.finRange 192).filter fun b => sl.contains (b.val / 32)

/-- One run: the device and whether the safe state is entered. -/
def Dev.bistRun (d : Dev) (l : BistRuns) (r : BistRun) (safe : Bool) : Dev × Bool :=
  if !bistExists r.test then (d, safe)
  else if runPasses r then (d.bistResult r 1, safe)
  else
    let x := d.bistFail l r
    (x.2.bistResult r x.1, safe || bistFatal r.test x.1)

/-- Whether something is left of each die's slices and of the DRAM sets (R478). -/
def Dev.enoughLeft (d : Dev) : Bool := Nat.land d.bistSlices 7 != 0 && Nat.land d.bistSlices 0x38 != 0 && Nat.land d.setsOut 7 != 7

/-- The number of the first test that failed, 0 for none. -/
def Dev.firstFailed (d : Dev) (l : BistRuns) : Nat :=
  ((l.find? fun r => bistExists r.test && decide (3 ≤ d.fld (RAS_BIST_STATE r.test) RAS_BIST_STATE_RESULT)).map fun r => r.test).getD 0

/-- The DRAM channels in the mask `m` fail training: each is reported, and its set left unused (15 R411). -/
def Dev.untrained (d : Dev) (m : Nat) : Dev :=
  d.each (setBits 12 m) fun d c => (d.reportOpen (0x0C00 + c) 3 hubUnit).setSetsOut (setBit d.setsOut (c / 4) true)

/-- The power-on tests and DRAM training: the device, and the test that leads to the safe state, where one of them does (R476 to R478). Channels are trained only when boot comes so far. -/
def Dev.bist (d : Dev) (b : BootIn) : Dev × Option Nat :=
  let x := b.tests.foldl (fun (a : Dev × Bool) r => a.1.bistRun b.tests r a.2) (d, false)
  let d := x.1.setTested true
  let stop (d : Dev) : Dev × Option Nat := (d, some (d.firstFailed b.tests))
  if x.2 || !d.enoughLeft then stop d
  else
    let d := d.untrained b.untrained
    if d.enoughLeft then (d, none) else stop d

end Sys2Proof.Machine
end

