-- ==== Sys2Proof/Machine/Boot.lean ====
section
/-! DEFINITION. Resets of the whole part, EASY, the undercoat wipe and boot (17 R470, R474, R475; 19 R494, R495, R499, R500; 20 R504, R509, R511). -/
namespace Sys2Proof.Machine

/-! What a cold reset leaves (R499). -/

/-- Whether address `a` lies in the register block of `b`, a number of MiB. -/
def inBlock (b a : Nat) : Bool := a / 0x100000 == b

/-- The registers that outlive a cold reset: the fuses; on the exit from EASY also those of network time and of the PWR block (R495). -/
def Dev.coldRegs (d : Dev) (easy : Bool) : Tab Word :=
  d.regs.filter fun kv => kv.1 == MBX_LIFECYCLE.addr || kv.1 == MBX_FUSE.addr || (easy && (inBlock 1 kv.1 || inBlock 10 kv.1))

/-- The links that the straps give (13 R339, R343). -/
def Dev.strapLinks (d : Dev) (x : Straps) : Dev :=
  d.each [0, 1, 2, 3] fun d n =>
    let two := if n < 2 then x.hp0Bif else x.hp1Bif
    let cxl := if n < 2 then x.hp0Cxl else x.hp1Cxl
    if n % 2 = 0 || two then d.wr (HIF_LINK_STATUS n) (BitVec.ofNat 64 (0x20008 + 2 * b2n two + b2n cxl)) else d

/-- The soft repairs of DRAM rows that `old` held are lost; with HARD_EN those a bank group has a hard repair left for are made permanent, and the others reported (15 R418). The modules of
a channel come with `Config.hardRepairs`; MEM_PPR_STATUS, reset, then shows what was made now and what is left (log entry 140). -/
def Dev.pprBoot (d old : Dev) : Dev :=
  if !old.flag MEM_PPR MEM_PPR_HARD_EN then d else
  d.each (List.range 12) fun d c =>
    let r := MEM_PPR_STATUS c
    let soft := old.fld r MEM_PPR_STATUS_SOFT_ACTIVE
    let left := Config.hardRepairs c % 256 - old.hardUsed.lookD c 0
    let m := min soft left
    if soft = 0 then d
    else
      let d := ((d.setHardUsed (d.hardUsed.put c (old.hardUsed.lookD c 0 + m))).setF r MEM_PPR_STATUS_HARD_DONE (min m 255)).setF r MEM_PPR_STATUS_HARD_LEFT (left - m)
      d.onlyIf (decide (m < soft)) fun d => d.reportOpen (0x0C00 + c) 3 hubUnit

/-- Metering that starts anew at the present network time: its epochs are multiples of 60 s (16 R443). -/
def mtrAnew (now : Nat) : MtrU :=
  { MtrU.reset with mtrOpen := { MtrU.reset.mtrOpen with start := now / 60000000000 * 60000000000, stop := (now / 60000000000 + 1) * 60000000000 }, mtrCxlAt := Int.ofNat now }

/-- What flash holds (17 R469), the rest of management as after reset. -/
def MgtU.flash (m : MgtU) : MgtU := { MgtU.reset with chain := m.chain, pubKey := m.pubKey, bankSel := m.bankSel, bankA := m.bankA, bankB := m.bankB, defImage := m.defImage }

/-- The part as a cold reset leaves it before boot runs: all of it as after reset but fuses and flash, and on the exit from EASY network time and the PWR block (R495, R499). -/
def Dev.cold (d : Dev) (x : Straps) (easy : Bool) : Dev :=
  let n : Dev := { Dev.reset with regs := d.coldRegs easy, out := d.out, freeCtr := d.freeCtr, mgt := d.mgt.flash }
  let n := n.setPwr { PwrU.reset with bootCount := d.bootCount, board := d.board, avsFuse := d.avsFuse, straps := x, wipeFrom := 0, bootAt := if easy then d.refNs else 0 }
  let n := n.onlyIf easy fun n => (n.setNtu d.ntu).setMtr (mtrAnew d.now)
  (((n.strapLinks x).setHardUsed d.hardUsed).pprBoot d).emit (.pin "MGT_FAULT_N" true)

/-! Boot (R500; 17 R470). -/

/-- Flash bank `i`. -/
def Dev.bank (d : Dev) (i : Nat) : List Byte := if i = 0 then d.bankA else d.bankB

/-- Bank `i` holds the Ulyar that starts. -/
def Dev.ulyarFrom (d : Dev) (i : Nat) : Dev := d.setUlyar ((d.bank i).take (ulyarLen (d.bank i)))

/-- Ulyar is verified from the selected bank, or else the other, and the default image is read; when both banks fail the part enters the safe state with the first failure of the selected one. -/
def Dev.ulyarStart (d : Dev) : Dev :=
  let go (d : Dev) : Dev := (d.setF MBX_BOOT_STATUS MBX_BOOT_STATUS_PHASE 4).loadStart 8 0 0 d.defImage
  match d.ulyarCheck (d.bank d.bankSel) with
  | none => go (d.ulyarFrom d.bankSel)
  | some e => match d.ulyarCheck (d.bank (1 - d.bankSel)) with
    | none => go (d.ulyarFrom (1 - d.bankSel))
    | some _ => d.enterSafe 0 e

/-- The Kyotas core writes the fused set point to the VDD_CMP regulator before the tests; one that does not acknowledge stays at 0.900 V and is reported (20 R506). -/
def Dev.avsWrite (d : Dev) (ack : Bool) : Dev :=
  let d := d.emit (.avsWrite d.avsFuse)
  if ack then d.setVddCmp d.avsFuse else d.reportOpen 0x0F20 5 hubUnit

/-- Ulyar, once it runs, gives the NTU the owner that the board description names (02 R44). -/
def Dev.boardOwner (d : Dev) : Dev := if d.pwrMode = .running then d.setF NTU_CTRL NTU_CTRL_OWNER (b2n (d.board.testBit 8)) else d

/-- Ulyar, once it runs, seals the lowest granules and places the firmware exception queues (05 R119; 15 R422; R500): how many granules, and where the queues begin, are Ulyar's own. -/
def Dev.ulyarPlaces (d : Dev) (b : BootIn) : Dev :=
  d.onlyIf (d.pwrMode == .running) fun d => (d.each (List.range (min b.sealLow 6144)) fun d g => d.setF (MEM_GRANULE g) MEM_GRANULE_CLASS 3).setFwBase b.fwBase

/-- Boot up to the start of Ulyar: tests, wipe of the memories on the chip, key store ready (R500; 17 R475). -/
def Dev.boot (d : Dev) (b : BootIn) (easy : Bool) : Dev :=
  let d := d.cold b.straps easy
  let d := d.onlyIf (decide (1 ≤ d.life)) fun d => d.setBootCount (d.bootCount + 1)
  match (d.avsWrite b.avsAck).bist b with
  | (d, some t) => d.enterSafe t 0
  | (d, none) => (((((d.setF KEY_STATUS KEY_STATUS_READY 1).setPs PWR_STATUS_SLICES d.availSlices).ulyarStart).boardOwner).ulyarPlaces b).pwrEval

/-- A cold reset of the whole part, or the exit from EASY: no memory keeps its contents. -/
def State.coldReset (s : State) (b : BootIn) (easy : Bool) : State := { s with toDev := s.toDev.boot b easy, mem := [] }

/-- The answer of a meaning that may have changed memory, in any state of power. -/
def finAS (t : State) : Host.Outcome State Fault Refusal := .next { t with toDev := t.toDev.settle }

/-- COLD_RESET (R499): outside EASY. -/
def execColdReset (b : BootIn) (s : State) : Host.Outcome State Fault Refusal := if s.pwrMode = .easy then .next s else finAS (s.coldReset b false)

/-- POWER_GOOD_LOSS (20 R509): a pulse of 1 µs to 10 µs either resets the part or is ignored. In EASY the board takes PWRGD low (20 R511). -/
def execPowerGoodLoss (ns : Nat) (s : State) : Host.Outcome State Fault Refusal :=
  let (maybe, d) := if 1000 ≤ ns ∧ ns < 10000 then s.freshBool else (decide (10000 ≤ ns), s.toDev)
  if maybe && s.pwrMode != .easy then finA s (((d.setPwrMode .held).emit (.pin "MGT_THERMTRIP_N" true)).emit (.pin "MGT_FAULT_N" true)) else finA s d

/-! Life cycle (17 R474). -/

/-- Whether the reply to the accepted request has been read: a request of the BMC is answered at once. -/
def Dev.lifeRead (d : Dev) (l : LifeNext) : Bool := decide (6 ≤ l.chan) || ((d.mb l.chan).rx.isEmpty && (d.mb l.chan).out.isEmpty)

/-- The state is burnt: leaving BLANK makes the identity, and entering RETIRED overwrites it (17 R472, R473). -/
def Dev.lifeBurn (d : Dev) (l : LifeNext) : Dev :=
  (d.setF MBX_LIFECYCLE MBX_LIFECYCLE_STATE l.target).setPubKey (if l.target = 1 then l.key else if l.target = 4 then [] else d.pubKey)

/-- LIFECYCLE_BURN (17 R474): once the reply has been read, or 1 s has passed. -/
def execLifecycleBurn (b : BootIn) (s : State) : Host.Outcome State Fault Refusal :=
  match s.lifeNext with
  | some l =>
    if s.pwrMode != .held && (s.lifeRead l || decide (l.since + 1000000000 ≤ s.refNs)) then finAS ((s.onDev fun d => d.lifeBurn l).coldReset b false) else .next s
  | none => .next s

/-! EASY (R494, R495; 20 R511). -/

/-- Whether the metering epochs up to the one that ended at `e` have closed and their blocks are published (R494). -/
def Dev.publishedTo (d : Dev) (e : Nat) : Bool :=
  decide (e ≤ d.mtrOpen.start) && d.mtrOld.all (fun x => decide (e ≤ x.start)) && d.mtrHeld.all (fun x => decide (e ≤ x.e.start)) &&
  d.mtrBlocks.all fun b => decide (e ≤ leAt (b.recs.headD []) 0x10 8)

/-- EASY is reached: network time and the PWR block alone go on. -/
def State.easyEnter (s : State) : State :=
  let d := (s.toDev.cold s.straps true).setPerst s.perst
  let d := (((d.setPs PWR_STATUS_STATE 3).setPs PWR_STATUS_SLICES 0).setPs PWR_STATUS_EASY_WAIT 0).setPwrMode .easy
  { s with toDev := d.emit (.pin "PWR_EASY_N" false), mem := [] }

/-- EASY_ENTRY (R494). -/
def execEasyEntry (s : State) : Host.Outcome State Fault Refusal :=
  match s.easyEpoch with
  | some e => if s.runs && s.flag PWR_STATUS PWR_STATUS_EASY_WAIT && s.allFree && s.publishedTo e then finAS s.easyEnter else .next s
  | none => .next s

/-- EASY_EXIT (R495): boot as at a cold reset, in state FULL until the effective state is computed. -/
def execEasyExit (b : BootIn) (s : State) : Host.Outcome State Fault Refusal :=
  if s.pwrMode = .easy then finAS ((s.onDev fun d => (d.setPs PWR_STATUS_STATE 0).emit (.pin "PWR_EASY_N" true)).coldReset b true) else .next s

/-! The warm reset (R499). -/

/-- The registers that a warm reset keeps: network time, the host links (their timeout, the interrupt routes and the events are reset), metering, the records of the RAS unit and the results of the tests, the PWR block, the fuses; of device memory its
population, its orders, its repairs and its granules. -/
def warmKeeps (a : Nat) : Bool :=
  inBlock 1 a || (decide (0x200000 ≤ a) && decide (a < 0x204000) && a % 0x1000 != 0x10) || inBlock 7 a || (inBlock 9 a && a != RAS_STORM_CFG.addr && a != RAS_SRAM_CFG.addr && a != RAS_REC_SEL.addr) || inBlock 10 a ||
  a == MBX_LIFECYCLE.addr || a == MBX_FUSE.addr || a == MEM_POP.addr || a == MEM_GEOM.addr || a == MEM_MAP.addr ||
  (decide (0x500100 ≤ a) && decide (a < 0x500130)) || (decide (0x508000 ≤ a) && decide (a < 0x508000 + 4 * 6144))

/-- Lanes that have failed stay FAILED, and a spare in use keeps its place (18 R479; log entry 33). -/
def Dev.warmLanes (n d : Dev) : Dev :=
  n.each [0, 1] fun n h =>
    let n := n.each (List.range 10) fun n l =>
      let r := laneStatus h l
      let n := n.onlyIf (d.laneState h l == 2) fun n => n.setF r MAC_LANE_STATUS_LANE_STATE 2
      let n := n.onlyIf (d.flag r MAC_LANE_STATUS_AGING_WARN) fun n => n.setF r MAC_LANE_STATUS_AGING_WARN 1
      n.onlyIf (l % 5 == 4 && d.flag (groupSpare h (l / 5)) MAC_GROUP_SPARE_A_SPARE_USED) fun n =>
        (n.setF (groupSpare h (l / 5)) MAC_GROUP_SPARE_A_SPARE_USED 1).setF r MAC_LANE_STATUS_LOGICAL (d.fld r MAC_LANE_STATUS_LOGICAL)
    n.refreshLanes h

/-- Spare engines in use, or failed, stay so (18 R479). -/
def Dev.warmSpares (n d : Dev) : Dev :=
  n.each (List.range 12) fun n c =>
    if d.spare c < 3 then n else (n.setSpare c (d.spare c)).setF (ENG_SPARE_STATUS (c / 2)) (sparePos c) (d.fld (ENG_SPARE_STATUS (c / 2)) (sparePos c))

/-- The part in a warm reset: both compute dies and every hub unit outside the always-on domain reset, no TF assigned, the memories on the chip cleared (R499). -/
def Dev.warm (d : Dev) : Dev :=
  let tfs := (List.range 4096).filter fun f => d.fnState f != 0
  let d := d.each tfs Dev.mtrWithdrawn
  let n : Dev := { Dev.reset with regs := d.regs.filter fun kv => warmKeeps kv.1, cnt := d.cnt.filter fun kv => inBlock 2 kv.1 || inBlock 7 kv.1, out := d.out, freeCtr := d.freeCtr, ntu := d.ntu }
  let n := (n.setDue (d.due.filter fun x => x.kind == .epochStop)).setSnapWait (d.snapWait.filter (· == .mtrLive))
  let n := n.setEng { EngU.reset with phys := d.phys, poison := d.poison.filter fun p => decide (p.1 * 8 < 0xFF0000000000) }
  let n := n.setHif { d.hif with link := d.link.mapVals fun _ p => { p with reads := p.reads.mapVals fun _ r => { r with unit := 2 ^ 50 } }, arrived := [] }
  let n := n.setDma { d.dma with dmaCh := [] }
  let n := n.setMtr { d.mtr with sketch := [], flowSeq := [], flowCnt := [] }
  let n := n.setMgt { d.mgt.flash with seals := d.seals, lifeNext := d.lifeNext }
  let n := ((n.setRel d.rel).setFwBase d.fwBase).setPwr { d.pwr with pwrMode := .warm, gated := [], easyEpoch := none }
  (((n.warmLanes d).warmSpares d).setPs PWR_STATUS_IN_TRANSITION 0).setPs PWR_STATUS_EASY_WAIT 0 |>.setPs PWR_STATUS_SLICES 0

/-- A warm reset: DRAM keeps its contents, the memories on the chip do not. -/
def State.warmReset (s : State) : State := { s with toDev := s.toDev.warm, mem := s.mem.filter fun c => decide (c.1 < 0xFF0000000000) }

/-- WARM_RESET (R499): a write of PWR_RESET.WARM. -/
def execWarmReset (src : Src) (s : State) : Host.Outcome State Fault Refusal :=
  if s.srcFrozen src then finP s src s.toDev else if s.runs then finS s s.warmReset else .next s

/-- WARM_RESET_DONE (R499): the wipe's passes over the banks have ended (09 R257), the slices of the state come back, Ulyar is verified again, the default image is read, and the effective state is computed again (R501). -/
def Dev.warmDone (d : Dev) : Dev :=
  match d.bankRuns (banksOfSlices (setBits 6 (d.slicesIn (d.ps PWR_STATUS_STATE)))) with
  | (d, some t) => d.enterSafe t 0
  | (d, none) =>
  let d := (d.setPwrMode .running).setPs PWR_STATUS_SLICES (d.slicesIn (d.ps PWR_STATUS_STATE))
  ((((d.setF KEY_STATUS KEY_STATUS_READY 1).setF PWR_RESET_STATUS PWR_RESET_STATUS_WARM_DONE 1).setF PWR_RESET_STATUS PWR_RESET_STATUS_SLICE_BUSY 0).ulyarStart).pwrEval

/-- WARM_RESET_DONE. -/
def execWarmResetDone (s : State) : Host.Outcome State Fault Refusal := if s.pwrMode = .warm then finA s s.warmDone else .next s

/-! The end of a transition (R493). -/

/-- TRANSITION_DONE (R493): slices leave and join service, the ports follow, CHANGED sets, and a state computed meanwhile is acted on; a joining slice's bank that no repair mends leads to the
safe state instead (09 R258). -/
def State.transitionDone (s : State) : State :=
  if !s.flag PWR_STATUS PWR_STATUS_IN_TRANSITION then s
  else
    let (st, sl) := s.pwrNext
    let s := s.slicesLeave ((List.range 6).filter fun i => s.sliceOn i && !sl.testBit i)
    let new := (List.range 6).filter fun i => sl.testBit i && !s.sliceOn i
    match s.bankRuns (banksOfSlices new) with
    | (d, some t) => { s with toDev := d.enterSafe t 0 }
    | (d, none) =>
      let s := new.foldl State.sliceJoin { s with toDev := ((d.setPs PWR_STATUS_SLICES sl).setPs PWR_STATUS_STATE st).setPs PWR_STATUS_IN_TRANSITION 0 }
      s.onDev fun d => (((d.banksDone).setPs PWR_STATUS_CHANGED 1).portsFollow).pwrEval

/-- TRANSITION_DONE. -/
def execTransitionDone (s : State) : Host.Outcome State Fault Refusal := finS s s.transitionDone

/-! The wipe of DRAM, and readiness (17 R475; R500). -/

/-- DRAM_WIPE_DONE (17 R475): the zero fill goes on in ascending granule order. -/
def execDramWipeDone (g : Fin 6144) (s : State) : Host.Outcome State Fault Refusal :=
  fin s (if g.val = s.wipeFrom then (s.setWipeFrom (g.val + 1)).sealReplies else s.toDev)

/-- Whether the functions are ready (R500). -/
def Dev.bootReady (d : Dev) : Bool :=
  let ph := d.fld MBX_BOOT_STATUS MBX_BOOT_STATUS_PHASE
  ph == 5 || (ph == 4 && !d.load.any fun l => l.chan == 8) || decide (d.bootAt + 1000000000 ≤ d.refNs)

/-- FUNCTION_READY (R500). -/
def execFunctionReady (s : State) : Host.Outcome State Fault Refusal :=
  fin s (if s.bootReady then s.toDev.each ((List.range 4).filter s.pfPresent) fun d n => d.updPf n fun p => { p with ready := true } else s.toDev)

end Sys2Proof.Machine
end

