-- ==== Sys2Proof/Machine/Aes.lean ====
section
/-! DEFINITION. AES (FIPS 197), GCM (SP 800-38D) and XTS (IEEE 1619), the ciphers of 11 R288. -/
namespace Sys2Proof.Machine

/-- Multiplication by x in GF(2^8) of AES. -/
def aesX (a : Nat) : Nat := if 128 ≤ a then Nat.xor (2 * a - 256) 0x1B else 2 * a

/-- Multiplication in GF(2^8) of AES: `n` bits of `b`. -/
def aesMul : Nat → Nat → Nat → Nat
  | 0, _, _ => 0
  | n + 1, a, b => Nat.xor (if b % 2 = 1 then a else 0) (aesMul n (aesX a) (b / 2))

/-- The inverse in GF(2^8), 0 for 0: the power 254. -/
def aesInv (a : Nat) : Nat :=
  let sq (x : Nat) : Nat := aesMul 8 x x
  let a2 := sq a
  let a4 := sq a2
  let a8 := sq a4
  let a16 := sq a8
  let a32 := sq a16
  let a64 := sq a32
  aesMul 8 (aesMul 8 (aesMul 8 a2 a4) (aesMul 8 a8 a16)) (aesMul 8 (aesMul 8 a32 a64) (sq a64))

/-- One S-box value. -/
def aesSub (a : Nat) : Nat :=
  let b := aesInv a
  let r (k : Nat) : Nat := (b * 2 ^ k) % 256 + b / 2 ^ (8 - k)
  Nat.xor (Nat.xor (Nat.xor b (r 1)) (Nat.xor (r 2) (r 3))) (Nat.xor (r 4) 0x63)

/-- The S-box. -/
def aesSbox : List Nat := (List.range 256).map aesSub

/-- The inverse S-box. -/
def aesInvSbox : List Nat := (List.range 256).map fun y => aesSbox.findIdx (· == y)

/-- Bytes XORed in pairs. -/
def xorN (a b : List Nat) : List Nat := List.zipWith Nat.xor a b

/-- Key expansion: the words still to make, the last `nk` words newest last (their count in `nk`), and the number of the next word. -/
def aesExpand (nk : Nat) : Nat → Nat → List (List Nat) → List (List Nat)
  | 0, _, ws => ws
  | n + 1, i, ws =>
    let t := ws.getLastD []
    let sub (w : List Nat) : List Nat := w.map fun b => aesSbox.getD b 0
    let t := if i % nk = 0 then xorN (sub (t.drop 1 ++ t.take 1)) [(List.range (i / nk - 1)).foldl (fun c _ => aesX c) 1, 0, 0, 0]
      else if 6 < nk && i % nk = 4 then sub t else t
    aesExpand nk n (i + 1) (ws ++ [xorN (ws.getD (i - nk) []) t])

/-- The round keys of a 16- or 32-byte key. -/
def aesKeys (key : List Byte) : List (List Nat) :=
  let nk := key.length / 4
  let w := (List.range nk).map fun i => ((key.drop (4 * i)).take 4).map BitVec.toNat
  let ws := aesExpand nk (4 * (nk + 7) - nk) nk w
  (List.range (nk + 7)).map fun r => ((ws.drop (4 * r)).take 4).flatten

/-- One column times the circulant matrix of coefficients `c`. -/
def aesMixCol (c : List Nat) (x : List Nat) : List Nat :=
  (List.range 4).map fun i => (List.range 4).foldl (fun a j => Nat.xor a (aesMul 8 (x.getD j 0) (c.getD ((j + 4 - i) % 4) 0))) 0

/-- The four columns mixed. -/
def aesMix (c : List Nat) (s : List Nat) : List Nat := (List.range 4).flatMap fun k => aesMixCol c ((s.drop (4 * k)).take 4)

/-- Row r of the state shifted left by `k * r`. -/
def aesShift (k : Nat) (s : List Nat) : List Nat :=
  (List.range 16).map fun i => s.getD ((i / 4 + k * (i % 4)) % 4 * 4 + i % 4) 0

/-- The rounds of encryption after the first round key. -/
def aesRounds : List (List Nat) → List Nat → List Nat
  | [], s => s
  | [k], s => xorN (aesShift 1 (s.map fun b => aesSbox.getD b 0)) k
  | k :: ks, s => aesRounds ks (xorN (aesMix [2, 3, 1, 1] (aesShift 1 (s.map fun b => aesSbox.getD b 0))) k)

/-- The rounds of decryption, given the round keys from the last but one down. -/
def aesInvRounds : List (List Nat) → List Nat → List Nat
  | [], s => s
  | [k], s => xorN ((aesShift 3 s).map fun b => aesInvSbox.getD b 0) k
  | k :: ks, s => aesInvRounds ks (aesMix [14, 11, 13, 9] (xorN ((aesShift 3 s).map fun b => aesInvSbox.getD b 0) k))

/-- Numbers as bytes. -/
def toBytes (l : List Nat) : List Byte := l.map (BitVec.ofNat 8)

/-- AES encryption of a block. -/
def aesEnc (ks : List (List Nat)) (b : List Byte) : List Byte :=
  toBytes (match ks with
    | k :: t => aesRounds t (xorN (b.map BitVec.toNat) k)
    | [] => [])

/-- AES decryption of a block. -/
def aesDec (ks : List (List Nat)) (b : List Byte) : List Byte :=
  toBytes (match ks.reverse with
    | k :: t => aesInvRounds t (xorN (b.map BitVec.toNat) k)
    | [] => [])

/-- Byte strings XORed. -/
def xorB (a b : List Byte) : List Byte := List.zipWith (fun x y => x ^^^ y) a b

/-! GCM. -/

/-- The product of GHASH: `n` bits of `x` from its most significant. -/
def ghMul : Nat → Nat → Nat → Nat
  | 0, _, _ => 0
  | n + 1, x, v =>
    Nat.xor (if x.testBit n then v else 0) (ghMul n x (if v % 2 = 1 then Nat.xor (v / 2) (0xE1 * 2 ^ 120) else v / 2))

/-- GHASH over the 16-byte blocks of a string, its last one filled with zeros: `n` blocks. -/
def ghash (h : Nat) : Nat → List Byte → Nat → Nat
  | 0, _, y => y
  | n + 1, bs, y => ghash h n (bs.drop 16) (ghMul 128 (Nat.xor y (beAt bs 0 16)) h)

/-- The blocks of a string. -/
def blocks (n : Nat) : Nat := (n + 15) / 16

/-- The key stream of GCM from counter `c`: `n` blocks. -/
def gcmStream (ks : List (List Nat)) (iv : List Byte) (c n : Nat) : List Byte :=
  (List.range n).flatMap fun i => aesEnc ks (iv ++ beBytes 4 ((c + i) % 2 ^ 32))

/-- The text encrypted (or decrypted) under a 12-byte nonce. -/
def gcmCrypt (key iv text : List Byte) : List Byte := xorB text (gcmStream (aesKeys key) iv 2 (blocks text.length))

/-- The 16-byte tag of additional data and ciphertext. -/
def gcmTag (key iv aad ct : List Byte) : List Byte :=
  let ks := aesKeys key
  let h := beNat (aesEnc ks (List.replicate 16 0))
  let y := ghash h (blocks ct.length) ct (ghash h (blocks aad.length) aad 0)
  let y := ghMul 128 (Nat.xor y (aad.length * 8 * 2 ^ 64 + ct.length * 8)) h
  xorB (beBytes 16 y) (aesEnc ks (iv ++ [0, 0, 0, 1]))

/-! XTS. -/

/-- Multiplication of a tweak by x. -/
def xtsX (t : Nat) : Nat := if 2 ^ 127 ≤ t then Nat.xor (2 * t - 2 ^ 128) 0x87 else 2 * t

/-- One block under tweak `t`. -/
def xtsBlock (f : List Byte → List Byte) (t : Nat) (b : List Byte) : List Byte :=
  let tb := leBytes 16 t
  xorB (f (xorB b tb)) tb

/-- Whole blocks, then a last pair with ciphertext stealing; `dec` swaps the last two tweaks. -/
def xtsRun (f : List Byte → List Byte) (dec : Bool) : Nat → Nat → List Byte → List Byte
  | 0, _, _ => []
  | n + 1, t, bs =>
    if bs.length < 32 && bs.length != 16 then
      let m := bs.length - 16
      let (t1, t2) := if dec then (xtsX t, t) else (t, xtsX t)
      let c := xtsBlock f t1 (bs.take 16)
      xtsBlock f t2 (bs.drop 16 ++ c.drop m) ++ c.take m
    else xtsBlock f t (bs.take 16) ++ (if bs.length ≤ 16 then [] else xtsRun f dec n (xtsX t) (bs.drop 16))

/-- A data unit of number `u` of 16 bytes or more, encrypted or decrypted under the two keys. -/
def xts (dec : Bool) (k1 k2 : List Byte) (u : Nat) (bs : List Byte) : List Byte :=
  let ks := aesKeys k1
  let t := leNat (aesEnc (aesKeys k2) (leBytes 16 u))
  xtsRun (if dec then aesDec ks else aesEnc ks) dec (blocks bs.length) t bs

end Sys2Proof.Machine
end

