-- ==== Sys2Proof/Machine/Cipher.lean ====
section
/-! DEFINITION. The cipher blocks (11 R300 to R314): operations, their checks, and the protocols. -/
namespace Sys2Proof.Machine

/-- A cipher operation as its action or its descriptor asks for it (R301, R303): its slice and OPCODE, its slot, the frame it works on, the header of STACK_INDEX and the one that ends there,
and the descriptor's fields. -/
structure CphJob where
  slice : Nat
  pos : Nat
  code : Nat
  slot : Nat
  frame : Option (Nat × Frame)
  place : Option Nat
  before : Option (Nat × Nat)
  tlsType : Nat
  src : Nat
  dst : Nat
  len : Nat
  seq : Nat
  unit : Nat
  aad : Nat
  deriving DecidableEq, Repr

/-- What the cryptographic work comes to: its result code, the bytes it protects, the frame's new bytes, the bytes for DST, and RESULT. -/
structure CphOut where
  code : Nat
  bytes : Nat
  frame : Option (List Byte)
  mem : List Byte
  result : Nat
  deriving DecidableEq, Repr

/-- A failure that works on `n` bytes. -/
def CphOut.fail (code n : Nat) : CphOut := ⟨code, n, none, [], 0⟩

/-- The key of GCM. -/
def KeySlot.gcmKey (x : KeySlot) : List Byte := x.key.take (if x.alg = 1 then 16 else 32)

/-- The frame's bytes. -/
def CphJob.data (j : CphJob) : List Byte := (j.frame.map fun f => f.2.data).getD []

/-! The header P of ESP (R306). -/

/-- The version nibble of the header at `a`. -/
def ipVersion (bs : List Byte) (a : Nat) : Nat := leAt bs a 1 / 16

/-- The end of P, by its length field. -/
def ipEnd (bs : List Byte) (a : Nat) : Nat := if ipVersion bs a = 4 then a + beAt bs (a + 2) 2 else a + 40 + beAt bs (a + 4) 2

/-- P's next header field. -/
def ipNextAt (bs : List Byte) (a : Nat) : Nat := if ipVersion bs a = 4 then a + 9 else a + 6

/-- P with its length for an end at `e`, and its checksum (R306 step 4). -/
def ipFix (bs : List Byte) (a e : Nat) : List Byte :=
  if ipVersion bs a = 4 then
    let bs := setBytes bs (a + 2) (beBytes 2 (e - a))
    let h := bytesAt bs a (leAt bs a 1 % 16 * 4)
    setBytes bs (a + 10) (beBytes 2 (ipv4Sum h))
  else setBytes bs (a + 4) (beBytes 2 (e - a - 40))

/-- The header of STACK_INDEX and P, where ESP finds both (R306): P an IPv4 or IPv6 header whose end lies in the frame beyond STACK_INDEX. -/
def CphJob.esp (j : CphJob) : Option (Nat × Nat × Nat) :=
  match j.place, j.before with
  | some n, some (a, _) =>
    let v := ipVersion j.data a
    let e := ipEnd j.data a
    if (v = 4 ∨ v = 6) ∧ n ≤ e ∧ e ≤ j.data.length then some (n, a, e) else none
  | _, _ => none

/-- Whether a MACsec tag with E and C stands at byte 12 of the Ethernet header at `n` (R308). -/
def macsecTag (bs : List Byte) (n : Nat) : Bool := decide (n + 20 ≤ bs.length) && beAt bs (n + 12) 2 == 0x88E5 && bitsOf (leAt bs (n + 14) 1) 2 2 == 3 && !(leAt bs (n + 14) 1).testBit 7

/-! The checks (R301 to R305). -/

/-- Check 1: the descriptor or profile. None when it holds, else its result code. -/
def CphJob.form (j : CphJob) (x : Option KeySlot) (action : Bool) : Option Nat :=
  match j.code with
  | 1 => if j.esp.isSome then none else some 0x0B
  | 2 => if (action && x.any KeySlot.esn) || j.esp.isNone then some 0x0B else none
  | 3 => if j.place.any fun n => decide (n + 14 ≤ j.data.length) then none else some 0x0B
  | 4 => if j.place.any fun n => macsecTag j.data n then none else some 0x0B
  | 5 | 6 | 7 | 8 => none
  | 9 | 10 => if j.aad ≤ 65535 ∧ j.aad ≤ j.len then none else some 0x10
  | _ => some 0x10

/-- Check 2: the slot's state. -/
def keyState : Option KeySlot → Option Nat
  | none => some 1
  | some x => if x.erasing then some 1 else if x.state = 1 then none else if x.state = 2 then some 2 else if x.corrupt then some 0x11 else some 3

/-- The OPCODEs a slot serves (R302). -/
def KeySlot.serves (x : KeySlot) (c : Nat) : Bool :=
  (match c with
    | 1 | 2 => x.proto == 1
    | 3 | 4 => x.proto == 2 || x.proto == 3
    | 5 | 6 => x.proto == 4
    | 7 | 8 => x.proto == 5
    | _ => x.proto == 0) && (c == 7 || c == 8 || x.dir == (c + 1) % 2)

/-- The padding of ESP (R306 step 3). -/
def espPad (n : Nat) : Nat := (4 - (n + 2) % 4) % 4

/-- The frame's length after the operation. -/
def CphJob.newLen (j : CphJob) : Nat :=
  let n := j.data.length
  match j.code with
  | 1 => match j.esp with
    | some (p, _, e) => e + 34 + espPad (e - p)
    | none => n
  | 3 => n + 32
  | 5 => n + 22
  | _ => n

/-- Check 6: the length limits (R304). -/
def CphJob.lens (j : CphJob) : Option Nat :=
  if (j.code == 9 || j.code == 10) && decide (2 ^ 36 - 32 < j.len - j.aad) then some 7
  else if (j.code == 7 || j.code == 8) && (decide (j.unit < 16) || decide (2 ^ 24 < j.unit) || j.len % j.unit != 0) then some 8
  else if (j.code == 5 && decide (16384 < j.len)) || (j.code == 6 && decide (16640 < j.len - 5)) then some 9
  else if j.frame.isSome && (decide (16384 < j.newLen) || ((j.code == 5 || j.code == 6) && decide (j.data.length < j.src + j.len))) then some 0x0F
  else none

/-- The first check of R305 that fails, up to the length limits. -/
def CphJob.check (j : CphJob) (x : Option KeySlot) (action : Bool) : Option Nat :=
  match j.form x action, keyState x, x with
  | some c, _, _ => some c
  | none, some c, _ => some c
  | none, none, some x =>
    let owner := x.attrF KEY_INST_ATTR_OWNER_TF
    if owner != 0xFFFF && !(j.frame.any fun f => f.2.tf == owner) then some 4
    else if !x.serves j.code then some 5
    else if !x.binds j.slice then some 6
    else j.lens
  | none, none, none => some 1

/-- The uses an operation takes (R290). -/
def CphJob.uses (j : CphJob) : Nat := if j.code = 7 ∨ j.code = 8 then j.len / j.unit else 1

/-! The work (R300, R306 to R309). -/

/-- ESP_ENC (R306). -/
def espEnc (x : KeySlot) (u : Nat) (j : CphJob) : CphOut :=
  match j.esp with
  | none => .fail 0x0B 0
  | some (n, a, e) =>
    let bs := j.data
    let next := leAt bs (ipNextAt bs a) 1
    let body := (bs.take e).drop n
    let pad := espPad body.length
    let text := body ++ (List.range pad).map (fun i => BitVec.ofNat 8 (i + 1)) ++ [BitVec.ofNat 8 pad, BitVec.ofNat 8 next]
    let iv := beBytes 8 u
    let spi := beBytes 4 x.param
    let aad := spi ++ (if x.esn then beBytes 8 (u + 1) else beBytes 4 (u + 1))
    let nonce := x.salt.take 4 ++ iv
    let ct := gcmCrypt x.gcmKey nonce text
    let esp := spi ++ beBytes 4 (u + 1) ++ iv ++ ct ++ gcmTag x.gcmKey nonce aad ct
    let out := ipFix (setBytes (bs.take n) (ipNextAt bs a) [50]) a (n + esp.length) ++ esp
    ⟨0, aad.length + text.length, some out, [], out.length⟩

/-- ESP_DEC (R307); `hi` is the high half of the sequence number. -/
def espDec (x : KeySlot) (hi : Nat) (j : CphJob) : CphOut :=
  match j.esp with
  | none => .fail 0x0B 0
  | some (n, a, e) =>
    let bs := j.data
    if beAt bs n 4 != x.param then .fail 0x0C 0
    else if e < n + 34 then .fail 0x0A (e - n)
    else
      let iv := bytesAt bs (n + 8) 8
      let ct := (bs.take (e - 16)).drop (n + 16)
      let aad := bytesAt bs n 4 ++ (if x.esn then beBytes 4 hi else []) ++ bytesAt bs (n + 4) 4
      let nonce := x.salt.take 4 ++ iv
      let m := aad.length + ct.length
      if gcmTag x.gcmKey nonce aad ct != bytesAt bs (e - 16) 16 then .fail 0x0A m
      else
        let text := gcmCrypt x.gcmKey nonce ct
        let pad := leAt text (text.length - 2) 1
        if text.length < pad + 2 then .fail 0x0A m
        else
          let body := text.take (text.length - 2 - pad)
          let out := ipFix (setBytes (bs.take n) (ipNextAt bs a) (text.drop (text.length - 1))) a (n + body.length) ++ body
          ⟨0, m, some out, [], out.length⟩

/-- The nonce of MACsec for packet number `pn` (R300). -/
def macsecNonce (x : KeySlot) (pn : Nat) : List Byte :=
  if x.proto = 3 then xorB (beBytes 4 x.ssci ++ beBytes 8 pn) x.salt else beBytes 8 x.param ++ beBytes 4 pn

/-- MACSEC_ENC (R308). -/
def macsecEnc (x : KeySlot) (u : Nat) (j : CphJob) : CphOut :=
  match j.place with
  | none => .fail 0x0B 0
  | some n =>
    let bs := j.data
    let text := bs.drop (n + 12)
    let sl := if text.length < 48 then text.length else 0
    let tag := beBytes 2 0x88E5 ++ [BitVec.ofNat 8 (0x2C + x.attrF KEY_INST_ATTR_AN), BitVec.ofNat 8 sl] ++ beBytes 4 (u + 1) ++ beBytes 8 x.param
    let aad := bytesAt bs n 12 ++ tag
    let nonce := macsecNonce x (u + 1)
    let ct := gcmCrypt x.gcmKey nonce text
    let out := bs.take (n + 12) ++ tag ++ ct ++ gcmTag x.gcmKey nonce aad ct
    ⟨0, aad.length + text.length, some out, [], out.length⟩

/-- MACSEC_DEC (R308); `hi` is the high half of an XPN packet number, which the tag does not carry. -/
def macsecDec (x : KeySlot) (hi : Nat) (j : CphJob) : CphOut :=
  match j.place with
  | none => .fail 0x0B 0
  | some n =>
    let bs := j.data
    let tci := leAt bs (n + 14) 1
    let sc := tci.testBit 5
    let tagLen := if sc then 16 else 8
    let t := n + 12 + tagLen
    let sl := leAt bs (n + 15) 1 % 64
    let avail := bs.length - t - 16
    let m := if sl = 0 then avail else min sl avail
    if tci % 4 != x.attrF KEY_INST_ATTR_AN || (sc && beAt bs (n + 20) 8 != x.param) then .fail 0x0C 0
    else if bs.length < t + 16 then .fail 0x0A (bs.length - n)
    else
      let ct := bytesAt bs t m
      let aad := bytesAt bs n (12 + tagLen)
      let pn := beAt bs (n + 16) 4
      let nonce := macsecNonce x (if x.proto = 3 then hi % 2 ^ 32 * 2 ^ 32 + pn else pn)
      if gcmTag x.gcmKey nonce aad ct != bytesAt bs (t + m) 16 then .fail 0x0A (aad.length + m)
      else
        let out := bs.take (n + 12) ++ gcmCrypt x.gcmKey nonce ct
        ⟨0, aad.length + m, some out, [], out.length⟩

/-- The nonce of TLS record `u` (R300). -/
def tlsNonce (x : KeySlot) (u : Nat) : List Byte := xorB x.salt (beBytes 12 u)

/-- Bytes put in place of the `n` from `off` of the frame, or sent to DST. -/
def CphJob.outTo (j : CphJob) (m : Nat) (bs : List Byte) (result : Nat) : CphOut :=
  match j.frame with
  | some f => ⟨0, m, some (f.2.data.take j.src ++ bs ++ f.2.data.drop (j.src + j.len)), [], result⟩
  | none => ⟨0, m, none, bs, result⟩

/-- TLS_ENC (R309) of `text`. -/
def tlsEnc (x : KeySlot) (u : Nat) (j : CphJob) (text : List Byte) : CphOut :=
  let inner := text ++ [BitVec.ofNat 8 j.tlsType]
  let hdr := [0x17, 3, 3] ++ beBytes 2 (inner.length + 16)
  let ct := gcmCrypt x.gcmKey (tlsNonce x u) inner
  let out := hdr ++ ct ++ gcmTag x.gcmKey (tlsNonce x u) hdr ct
  j.outTo (5 + inner.length) out out.length

/-- TLS_DEC (R309) of the record `rec`; `free` is the inner type of a record that holds none. -/
def tlsDec (x : KeySlot) (u free : Nat) (j : CphJob) (rec : List Byte) : CphOut :=
  let hdr := rec.take 5
  let ct := (rec.take (rec.length - 16)).drop 5
  let m := hdr.length + ct.length
  if rec.length < 21 || gcmTag x.gcmKey (tlsNonce x u) hdr ct != rec.drop (rec.length - 16) then .fail 0x0A m
  else
    let inner := ((gcmCrypt x.gcmKey (tlsNonce x u) ct).reverse.dropWhile (· == 0)).reverse
    let text := inner.take (inner.length - 1)
    let ty := match inner.getLast? with
      | some b => b.toNat
      | none => free % 256
    j.outTo m text (text.length + ty * 2 ^ 32)

/-- The two keys of XTS (KEY_INST_KEY). -/
def KeySlot.xtsKeys (x : KeySlot) : List Byte × List Byte := if x.alg = 3 then (x.key.take 16, bytesAt x.key 16 16) else (x.key.take 32, bytesAt x.key 32 32)

/-- XTS_ENC and XTS_DEC (R300, R304) of `bs`: its data units in turn. -/
def xtsWork (x : KeySlot) (dec : Bool) (j : CphJob) (bs : List Byte) : CphOut :=
  let out := (List.range (j.len / j.unit)).flatMap fun i => xts dec x.xtsKeys.1 x.xtsKeys.2 ((j.seq + i) % 2 ^ 64) (bytesAt bs (i * j.unit) j.unit)
  ⟨0, bs.length, none, out, out.length⟩

/-- GCM_ENC (R303) of `bs`, its additional data first: the ciphertext, then the tag. -/
def gcmSeal (x : KeySlot) (u : Nat) (j : CphJob) (bs : List Byte) : CphOut :=
  let nonce := x.salt.take 4 ++ beBytes 8 u
  let ct := gcmCrypt x.gcmKey nonce (bs.drop j.aad)
  let out := ct ++ gcmTag x.gcmKey nonce (bs.take j.aad) ct
  ⟨0, bs.length, none, out, out.length⟩

/-- GCM_DEC (R303) of `bs`: additional data, ciphertext, tag. -/
def gcmOpen (x : KeySlot) (j : CphJob) (bs : List Byte) : CphOut :=
  let nonce := x.salt.take 4 ++ beBytes 8 j.seq
  let rest := bs.drop j.aad
  let ct := rest.take (rest.length - 16)
  let m := j.aad + ct.length
  if rest.length < 16 || gcmTag x.gcmKey nonce (bs.take j.aad) ct != rest.drop (rest.length - 16) then .fail 0x0A m
  else
    let out := gcmCrypt x.gcmKey nonce ct
    ⟨0, m, none, out, out.length⟩

/-- The cryptographic work of an operation with use `u`, on the input `bs` of one that has its input in memory or in a part of the frame; `free` stands for what nothing states. -/
def CphJob.work (j : CphJob) (x : KeySlot) (u free : Nat) (bs : List Byte) : CphOut :=
  match j.code with
  | 1 => espEnc x u j
  | 2 => espDec x (j.seq / 2 ^ 32) j
  | 3 => macsecEnc x u j
  | 4 => macsecDec x free j
  | 5 => tlsEnc x u j bs
  | 6 => tlsDec x u free j bs
  | 7 => xtsWork x false j bs
  | 8 => xtsWork x true j bs
  | 9 => gcmSeal x u j bs
  | _ => gcmOpen x j bs

/-- The bytes that the output takes at DST, as far as the input tells. -/
def CphJob.outLen (j : CphJob) : Nat :=
  match j.code with
  | 5 => j.len + 22
  | 6 => j.len - 22
  | 9 => j.len - j.aad + 16
  | 10 => j.len - j.aad - 16
  | _ => j.len

/-! Ends (R305, R310, R313). -/

/-- The counter of a result (R313). -/
def cphResultCnt : Nat → Option Nat
  | 0x0A => some 2
  | 0x02 => some 3
  | 0x01 | 0x03 | 0x04 | 0x05 | 0x06 | 0x11 => some 4
  | 0x07 | 0x08 | 0x09 | 0x0F => some 5
  | 0x0C => some 6
  | 0x0B | 0x10 => some 7
  | 0x0D => some 8
  | _ => none

/-- An operation ends with `code` in slice `s`. -/
def Dev.cphCount (d : Dev) (s code : Nat) : Dev :=
  let d := d.count (cphCnt s 0)
  match cphResultCnt code with
  | some c => d.count (cphCnt s c)
  | none => d

/-- A mismatch of the two computations (R310). -/
def Dev.cphFault (d : Dev) (j : CphJob) : Dev :=
  let s := j.slice
  let (v, d) := d.fresh
  let (c, d) := d.fresh
  let d := (d.setF (CPH_STATUS s) CPH_STATUS_FAULT 1).report (0x0A00 + s) 3 v (sliceUnit s) c
  if d.flag (CPH_FAULT_LOG s) CPH_FAULT_LOG_VALID then d
  else ((d.setF (CPH_FAULT_LOG s) CPH_FAULT_LOG_VALID 1).setF (CPH_FAULT_LOG s) CPH_FAULT_LOG_OPCODE j.code).setF (CPH_FAULT_LOG s) CPH_FAULT_LOG_SLOT j.slot

/-- What an operation comes to: its result, and the bytes it sends to memory with where they go. -/
structure CphEnd where
  code : Nat
  result : Nat
  trap : Bool
  reason : Nat
  deriving DecidableEq, Repr

/-- The input of an operation: its place in memory, or the part of the frame it names. -/
def CphJob.inputAt (j : CphJob) (d : Dev) : Place := if j.frame.isSome || decide (j.code < 5) then .at_ 0 else d.bufPlace j.slice j.pos j.src j.len
def CphJob.outputAt (j : CphJob) (d : Dev) : Place := if j.frame.isSome || decide (j.code < 5) then .at_ 0 else d.bufPlace j.slice j.pos j.dst j.outLen

/-- Checks 1 to 8 of R305 on job `j`, with the effects of the work; none while a bank's handover holds an access. -/
def State.cphRun (s : State) (j : CphJob) (action : Bool) (f : CphFacts) : Option (State × CphEnd) :=
  let s := s.fetchSlot j.slot f.miss
  let s := s.onDev fun d => d.leaseTick j.slice j.slot
  let x := s.keySlot.look j.slot
  let policy := (x.map fun x => x.attrF KEY_INST_ATTR_POLICY).getD 0 == 1
  let reason := (x.map fun x => x.attrF KEY_INST_ATTR_REASON).getD 0
  let stop (c : Nat) : Option (State × CphEnd) := some (s.onDev fun d => d.cphCount j.slice c, ⟨c, 0, c == 2 && policy, reason⟩)
  match j.check x action, x with
  | some c, _ => stop c
  | none, none => stop 1
  | none, some x =>
    if !x.hasUses j.slice j.uses then stop 2 else
    match j.inputAt s.toDev, j.outputAt s.toDev with
    | .held, _ => none
    | _, .held => none
    | src, dst =>
      let u := (s.nextUse j.slice j.slot).getD 0
      let s := (if j.frame.isSome then s else s.touchBuf j.src j.len).onDev fun d => d.takeUses j.slice j.slot (2 * j.uses + 8) j.uses
      let ends (s : State) (c r : Nat) : Option (State × CphEnd) := some (s.onDev fun d => d.cphCount j.slice c, ⟨c, r, false, reason⟩)
      match src, dst with
      | .at_ a, .at_ b =>
        if j.frame.isNone && s.badIn a j.len then
          let (v, d) := s.fresh
          ends { s with toDev := d } (v % 65536) 0
        else
          let bs := match j.frame with
            | some g => bytesAt g.2.data j.src j.len
            | none => s.mem.readN a j.len
          let (v, d) := s.fresh
          let o := j.work x u v bs
          let d := d.count (cphCnt j.slice 1) o.bytes
          let d := match j.frame with
            | some g => d.meterAdd g.2.tf 4 o.bytes
            | none => d
          if f.mismatch then ends { s with toDev := d.cphFault j } 0x0D 0
          else
            let d := match j.frame, o.frame with
              | some g, some bs => d.updFrame g.1 fun y => { y with data := bs }
              | _, _ => d
            let s : State := { s with toDev := d }
            ends (if o.mem.isEmpty then s else s.store b o.mem) o.code o.result
      | _, _ => ends s 0x0E 0

/-- The job of a CIPHER action on frame `id`. -/
def ciphJob (id : Nat) (f : Frame) (a : CiphAct) : CphJob :=
  ⟨f.slice, 0, bitsOf a.profile 8 4, a.slot, some (id, f), a.place, a.before, 0, 0, 0, f.len, 0, 0, 0⟩

/-- A CIPHER action takes place (R301, R305, R298): a failure drops the frame, but for a spent key under a trap policy, whose frame goes to the host's exception path. -/
def State.ciphAction (s : State) (id : Nat) (f : Frame) (a : CiphAct) (next : Terminal) (facts : CphFacts) : State :=
  let j := ciphJob id f a
  if 2 ^ 20 ≤ a.slot then s.onDev fun d => (d.cphCount f.slice 0x0B).frameOut id
  else match s.cphRun j true facts with
    | none => s
    | some (t, e) =>
      t.onDev fun d =>
        if e.code = 0 then match d.frame? id with
          | some g => d.takeTerminal id g a.source next
          | none => d
        else if e.trap then d.exception id f a.source e.reason false
        else d.frameOut id

/-- The header of stack index `i` of a frame, and the one before it that ends there. -/
def Frame.ciphPlace (f : Frame) (i : Nat) : Option Nat × Option (Nat × Nat) :=
  ((f.pmeta.stack[i]?).map StackEnt.off, (f.pmeta.stack[i]?).bind fun h => (if i = 0 then none else f.pmeta.stack[i - 1]?).bind fun p =>
    if p.off + p.len = h.off then some (p.off, p.len) else none)

/-- Whether a cipher descriptor's header and body keep R302 and R303. -/
def cphDescOk (b : List Byte) (frame : Bool) : Bool :=
  let op := leAt b 4 2
  decide (1 ≤ op) && decide (op ≤ 10) && leAt b 6 2 == b2n frame && decide (leAt b 0x10 4 < 2 ^ 20) && leAt b 0x16 2 == 0 &&
    (decide (op ≤ 4) → frame) && (decide (7 ≤ op) → !frame) && (!frame || leAt b 0x20 8 == 0)

/-- The job of command `o`. -/
def opJob (o : OpRec) (fr : Option (Nat × Frame)) : CphJob :=
  let b := o.desc
  let pl := match fr with
    | some f => f.2.ciphPlace (leAt b 0x14 1)
    | none => (none, none)
  ⟨o.slice, o.pos, leAt b 4 2, leAt b 0x10 4 % 2 ^ 20, fr, pl.1, pl.2, leAt b 0x15 1, leAt b 0x18 8, leAt b 0x20 8, leAt b 0x28 8, leAt b 0x30 8, leAt b 0x38 4,
    if leAt b 4 2 = 9 ∨ leAt b 4 2 = 10 then leAt b 0x3C 4 else 0⟩

/-- Offload command `n` of the cipher block takes place (R303, R305, R298, R310). -/
def State.ciphOp (s : State) (n : Nat) (o : OpRec) (facts : CphFacts) : State :=
  let wantsFrame := (leAt o.desc 6 2).testBit 0
  let fr := o.frame.bind fun id => (s.frame? id).map fun f => (id, f)
  let k := thrKey o.slice o.pos o.thread
  if !cphDescOk o.desc wantsFrame || (wantsFrame && fr.isNone) then (s.onDev fun d => d.cphCount o.slice 0x10).opEnds n o 0x10 0
  else match s.cphRun (opJob o fr) false facts with
    | none => s
    | some (t, e) =>
      let t := t.opEnds n o e.code e.result
      if 8 ≤ o.ticket then t
      else if e.code = 2 && e.trap then t.onDev fun d => d.opTrap k causeKeySpent none none
      else if e.code = 0x0D then t.onDev fun d => d.opTrap k causeCipherFault none (some (0x0A00 + o.slice))
      else t

/-- An operation in a cipher block: its place in the order of entry, its block, its slot, its OPCODE, and what it works on. -/
structure CphEntry where
  entered : Nat
  slice : Nat
  slot : Nat
  code : Nat
  work : Work
  deriving DecidableEq, Repr

/-- The operation of the CIPHER action that frame `id` waits for. -/
def Frame.cphEntry (id : Nat) (f : Frame) : Option CphEntry :=
  match f.stage with
  | .cipher a _ => some ⟨a.entered, f.slice, a.slot, bitsOf a.profile 8 4, .frame id⟩
  | _ => none

/-- The operation of offload command `n`. -/
def OpRec.cphEntry (n : Nat) (o : OpRec) : Option CphEntry := if o.unit = 0 then some ⟨n, o.slice, leAt o.desc 0x10 4, leAt o.desc 4 2, .op n⟩ else none

/-- The operation that `w` names, if there is one. -/
def Dev.cphEntry (d : Dev) : Work → Option CphEntry
  | .frame id => (d.frame? id).bind (Frame.cphEntry id)
  | .op n => (d.ops.look n).bind (OpRec.cphEntry n)

/-- The operations on slot `k` in the block of slice `sl`. -/
def Dev.cphEntries (d : Dev) (sl k : Nat) : List CphEntry :=
  ((d.frames.filterMap fun f => f.2.cphEntry f.1) ++ d.ops.filterMap fun o => o.2.cphEntry o.1).filter fun e => e.slice == sl && e.slot == k

/-- No operation on the same slot entered the block before `e`: they take their uses and leave it in that order (R298, R311). -/
def Dev.cphFirst (d : Dev) (e : CphEntry) : Bool := (d.cphEntries e.slice e.slot).all fun x => decide (e.entered ≤ x.entered)

/-- The operation on `w` takes place. -/
def State.cphWork (s : State) (w : Work) (x : CphFacts) : State :=
  match w with
  | .frame id => match s.frame? id with
    | some f => match f.stage with
      | .cipher a next => s.ciphAction id f a next x
      | _ => s
    | none => s
  | .op n => match s.ops.look n with
    | some o => s.ciphOp n o x
    | none => s

/-- A cipher operation of OPCODE `c` (R302), where it is its turn; an OPCODE not listed ends by any of them. -/
def cipherOp (c : Nat) (w : Work) (x : CphFacts) (s : State) : Host.Outcome State Fault Refusal :=
  let t := match s.cphEntry w with
    | some e => if (e.code == c || e.code == 0 || decide (10 < e.code)) && s.cphFirst e then s.cphWork w x else s
    | none => s
  finM t t.toDev t.mem

/-- Whether slice `sl` holds a lease on slot `k` that has not expired (R299). -/
def Dev.hasLease (d : Dev) (sl k : Nat) : Bool := ((d.keySlot.look k).bind fun x => x.leases.look sl).any fun l => decide (d.now < l.expiry)

/-- The operation on slot `k` whose turn it is in the block of slice `sl`, where the slice holds no lease on the slot: the one that a draw is for (R298). -/
def Dev.drawsFor (d : Dev) (sl k : Nat) : Option CphEntry := if d.hasLease sl k then none else (d.cphEntries sl k).find? d.cphFirst

/-- LEASE_GRANT (R297, R298): the draw that the slot's next operation in the slice waits for is answered, and the operation performs its use from the lease at once; where R297 or a check of R305
refuses the draw, it ends with that result. -/
def execLeaseGrant (slice : Fin 6) (slot : Fin 1048576) (miss : Bool) (s : State) : Host.Outcome State Fault Refusal :=
  let t := match s.drawsFor slice.val slot.val with
    | some e => s.cphWork e.work ⟨miss, false⟩
    | none => s
  finM t t.toDev t.mem

/-- ESP_ENC (R306). -/
def execEspEnc (w : Work) (x : CphFacts) (s : State) : Host.Outcome State Fault Refusal := cipherOp 1 w x s

/-- ESP_DEC (R307). -/
def execEspDec (w : Work) (x : CphFacts) (s : State) : Host.Outcome State Fault Refusal := cipherOp 2 w x s

/-- MACSEC_ENC (R308). -/
def execMacsecEnc (w : Work) (x : CphFacts) (s : State) : Host.Outcome State Fault Refusal := cipherOp 3 w x s

/-- MACSEC_DEC (R308). -/
def execMacsecDec (w : Work) (x : CphFacts) (s : State) : Host.Outcome State Fault Refusal := cipherOp 4 w x s

/-- TLS_ENC (R309). -/
def execTlsEnc (w : Work) (x : CphFacts) (s : State) : Host.Outcome State Fault Refusal := cipherOp 5 w x s

/-- TLS_DEC (R309). -/
def execTlsDec (w : Work) (x : CphFacts) (s : State) : Host.Outcome State Fault Refusal := cipherOp 6 w x s

/-- XTS_ENC (R304). -/
def execXtsEnc (w : Work) (x : CphFacts) (s : State) : Host.Outcome State Fault Refusal := cipherOp 7 w x s

/-- XTS_DEC (R304). -/
def execXtsDec (w : Work) (x : CphFacts) (s : State) : Host.Outcome State Fault Refusal := cipherOp 8 w x s

/-- GCM_ENC (R304). -/
def execGcmEnc (w : Work) (x : CphFacts) (s : State) : Host.Outcome State Fault Refusal := cipherOp 9 w x s

/-- GCM_DEC (R304). -/
def execGcmDec (w : Work) (x : CphFacts) (s : State) : Host.Outcome State Fault Refusal := cipherOp 10 w x s

end Sys2Proof.Machine
end

