-- ==== Sys2Proof/Machine/CloigInt.lean ====
section
/-! DEFINITION. Integer, constant, bitfield and predicate instructions, and control transfer (07 R176, R179 to R185). -/
namespace Sys2Proof.Machine

/-- ALWAYS_ILLEGAL (R176): opcode 0x00 traps whatever its predicate. -/
def execAlwaysIllegal (th : ThId) (s : State) : Host.Outcome State Fault Refusal := issue th 0 false true s illegal

/-- UNDEFINED_OPCODE (R178, R179): a word whose opcode or FN is not defined traps ILLEGAL when its predicate lets it execute. -/
def execUndefinedOpcode (th : ThId) (word : BitVec 32) (s : State) : Host.Outcome State Fault Refusal :=
  issue th ⟨word.toNat / 2 ^ 29 % 8, Nat.mod_lt _ (by decide)⟩ (word.getLsbD 28) false s illegal

/-- ALU (R180). -/
def execAlu (th : ThId) (x : FmtR) (s : State) : Host.Outcome State Fault Refusal :=
  issue th x.pred x.pn false s (legal ((aluOp x.fn.val 0 0).isSome && (!aluUnary x.fn.val || x.rb.val == 0))
    (setsRd x.rd fun t => (aluOp x.fn.val (t.rg x.ra.val) (t.rg x.rb.val)).getD 0))

/-- ADDI (R181). -/
def execAddi (th : ThId) (x : FmtI) (s : State) : Host.Outcome State Fault Refusal :=
  issue th x.pred x.pn false s (setsRd x.rd fun t => t.rg x.ra.val + sext 12 x.imm.val)

/-- ANDI (R181). -/
def execAndi (th : ThId) (x : FmtI) (s : State) : Host.Outcome State Fault Refusal :=
  issue th x.pred x.pn false s (setsRd x.rd fun t => t.rg x.ra.val &&& BitVec.ofNat 64 x.imm.val)

/-- ORI (R181). -/
def execOri (th : ThId) (x : FmtI) (s : State) : Host.Outcome State Fault Refusal :=
  issue th x.pred x.pn false s (setsRd x.rd fun t => t.rg x.ra.val ||| BitVec.ofNat 64 x.imm.val)

/-- XORI (R181). -/
def execXori (th : ThId) (x : FmtI) (s : State) : Host.Outcome State Fault Refusal :=
  issue th x.pred x.pn false s (setsRd x.rd fun t => t.rg x.ra.val ^^^ BitVec.ofNat 64 x.imm.val)

/-- SHLI (R181): IMM12[11:6] must be 0. -/
def execShli (th : ThId) (x : FmtI) (s : State) : Host.Outcome State Fault Refusal :=
  issue th x.pred x.pn false s (legal (decide (x.imm.val < 64)) (setsRd x.rd fun t => t.rg x.ra.val <<< x.imm.val))

/-- SHRI (R181). -/
def execShri (th : ThId) (x : FmtI) (s : State) : Host.Outcome State Fault Refusal :=
  issue th x.pred x.pn false s (legal (decide (x.imm.val < 64)) (setsRd x.rd fun t => t.rg x.ra.val >>> x.imm.val))

/-- SARI (R181). -/
def execSari (th : ThId) (x : FmtI) (s : State) : Host.Outcome State Fault Refusal :=
  issue th x.pred x.pn false s (legal (decide (x.imm.val < 64)) (setsRd x.rd fun t => (t.rg x.ra.val).sshiftRight x.imm.val))

/-- LIMS (R181). -/
def execLims (th : ThId) (x : FmtW) (s : State) : Host.Outcome State Fault Refusal :=
  issue th x.pred x.pn false s (setsRd x.rd fun _ => sext 17 x.imm.val)

/-- LIMU (R181). -/
def execLimu (th : ThId) (x : FmtW) (s : State) : Host.Outcome State Fault Refusal :=
  issue th x.pred x.pn false s (setsRd x.rd fun _ => BitVec.ofNat 64 x.imm.val)

/-- CAT (R181): bit 16 of its word is reserved. -/
def execCat (th : ThId) (x : FmtW) (s : State) : Host.Outcome State Fault Refusal :=
  issue th x.pred x.pn false s (legal (decide (x.imm.val < 65536)) (setsRd x.rd fun t => (t.rg x.rd.val <<< 16) ||| BitVec.ofNat 64 x.imm.val))

/-- BFX (R182). -/
def execBfx (th : ThId) (x : FmtF) (s : State) : Host.Outcome State Fault Refusal :=
  issue th x.pred x.pn false s (setsRd x.rd fun t => bitExtract (t.rg x.ra.val) x.at_.val x.wm1.val)

/-- BFI (R182). -/
def execBfi (th : ThId) (x : FmtF) (s : State) : Host.Outcome State Fault Refusal :=
  issue th x.pred x.pn false s (setsRd x.rd fun t => bitInsert (t.rg x.rd.val) (t.rg x.ra.val) x.at_.val x.wm1.val)

/-- CMP (R183). -/
def execCmp (th : ThId) (x : FmtC) (s : State) : Host.Outcome State Fault Refusal :=
  issue th x.pred x.pn false s (legal (x.rsv.val == 0) (advance fun t => t.setP x.pd.val (condHolds x.cc.val (t.rg x.ra.val) (t.rg x.rb.val))))

/-- CMPI (R183). -/
def execCmpi (th : ThId) (x : FmtCI) (s : State) : Host.Outcome State Fault Refusal :=
  issue th x.pred x.pn false s (advance fun t => t.setP x.pd.val (condHolds x.cc.val (t.rg x.ra.val) (sext 11 x.imm.val)))

/-- PLOG (R184). -/
def execPlog (th : ThId) (x : FmtP) (s : State) : Host.Outcome State Fault Refusal :=
  issue th x.pred x.pn false s (legal (x.rsv.val == 0) (advance fun t => t.setP x.pd.val (plogOp x.fn.val (t.pred x.pa.val) (t.pred x.pb.val))))

/-! Control transfer (R185). -/

/-- A transfer to `target` (R185), after `f`: a target off its 4-byte boundary or outside the epoch's code region traps PC_RANGE at the transfer. -/
def transfer (target : Thr → Nat) (f : Thr → Thr) : Meaning := fun k s =>
  let x := s.thrAt k
  let a := target x
  let base := codeBase x.slot
  if a % 4 != 0 || a < base || base + 0x10000 ≤ a then trapAt causePcRange (some a) none k s
  else some (s.onDev fun d => d.updThr k fun x => { f x with pc := a })

/-- PC + 4 × DISP of `w` bits, on 64 bits. -/
def pcRel (w disp : Nat) (t : Thr) : Nat := (BitVec.ofNat 64 t.pc + sext w disp * 4).toNat

/-- BR (R185). -/
def execBr (th : ThId) (x : FmtB) (s : State) : Host.Outcome State Fault Refusal :=
  issue th x.pred x.pn false s (transfer (pcRel 22 x.disp.val) id)

/-- CALL (R185). -/
def execCall (th : ThId) (x : FmtB) (s : State) : Host.Outcome State Fault Refusal :=
  issue th x.pred x.pn false s (transfer (pcRel 22 x.disp.val) fun t => t.setG 31 (BitVec.ofNat 64 (t.pc + 4)))

/-- JR (R185): FN must be 0. -/
def execJr (th : ThId) (x : FmtR) (s : State) : Host.Outcome State Fault Refusal :=
  issue th x.pred x.pn false s (legal (x.fn.val == 0) (transfer (fun t => (t.rg x.ra.val).toNat) fun t => t.setG x.rd.val (BitVec.ofNat 64 (t.pc + 4))))

/-- ADR (R185). -/
def execAdr (th : ThId) (x : FmtD) (s : State) : Host.Outcome State Fault Refusal :=
  issue th x.pred x.pn false s (setsRd x.rd fun t => BitVec.ofNat 64 (pcRel 17 x.disp.val t))

end Sys2Proof.Machine
end

