-- ==== Sys2Proof/Machine/Inflate.lean ====
section
/-! DEFINITION. The DEFLATE format (12 R322, R326; RFC 1951): decoding of a raw stream with the errors of R326, stored blocks, and compressed
blocks. -/
namespace Sys2Proof.Machine

/-- How a decoding ends (R326). -/
inductive InfEnd where
  | done
  | bad (sub : Nat)
  | truncated
  | full
  deriving DecidableEq, Repr

/-- A decoding under way: the bits to come, the bits read, the output newest first and its length, and the end once there is one. -/
structure Inf where
  bits : List Bool
  used : Nat
  out : List Byte
  n : Nat
  stop : Option InfEnd
  deriving DecidableEq, Repr

/-- The bits of bytes, each from its least significant. -/
def byteBits (bs : List Byte) : List Bool := bs.flatMap fun b => (List.range 8).map fun i => b.toNat.testBit i

/-- The bytes of bits, the last one filled with zeros: `n` bytes. -/
def bitBytes : Nat → List Bool → List Byte
  | 0, _ => []
  | n + 1, l => BitVec.ofNat 8 (((l.take 8).zipIdx.map fun b => if b.1 then 2 ^ b.2 else 0).sum) :: bitBytes n (l.drop 8)

/-- `w` bits of a number, least significant first. -/
def numBits (w v : Nat) : List Bool := (List.range w).map fun i => v.testBit i

/-- The end `e`. -/
def Inf.ends (x : Inf) (e : InfEnd) : Inf := { x with stop := some (x.stop.getD e) }

/-- The next `w` bits as a number, least significant first; none, with the end TRUNCATED, when they are not there. -/
def Inf.take (x : Inf) (w : Nat) : Option Nat × Inf :=
  if x.stop.isSome then (none, x)
  else
    let l := x.bits.take w
    if l.length < w then (none, ({ x with bits := [], used := x.used + l.length } : Inf).ends .truncated)
    else (some ((l.zipIdx.map fun b => if b.1 then 2 ^ b.2 else 0).sum), { x with bits := x.bits.drop w, used := x.used + w })

/-- A byte of output, while there is room. -/
def Inf.put (cap : Nat) (x : Inf) (b : Byte) : Inf :=
  if x.stop.isSome then x else if cap ≤ x.n then x.ends .full else { x with out := b :: x.out, n := x.n + 1 }

/-- `n` bytes copied from `dist` back. -/
def Inf.copy (cap dist : Nat) : Nat → Inf → Inf
  | 0, x => x
  | n + 1, x => Inf.copy cap dist n (x.put cap (x.out.getD (dist - 1) 0))

/-! Huffman codes by their lengths. -/

/-- How many codes have length `l`. -/
def codeCount (lens : List Nat) (l : Nat) : Nat := (lens.filter (· == l)).length

/-- The symbols in the order of their codes. -/
def codeSyms (lens : List Nat) : List Nat := (List.range 15).flatMap fun l => (lens.zipIdx.filter fun x => x.1 == l + 1).map Prod.snd

/-- The code space used, in units of 2^-15. -/
def codeSpace (lens : List Nat) : Nat := (lens.map fun l => if l = 0 then 0 else 2 ^ (15 - l)).sum

/-- Whether the lengths of a code are neither over-subscribed nor incomplete. -/
def codeFull (lens : List Nat) : Bool := codeSpace lens == 2 ^ 15

/-- The same of a distance code, of which a single code may be incomplete. -/
def distFull (lens : List Nat) : Bool := codeFull lens || (decide (codeSpace lens ≤ 2 ^ 15) && decide ((lens.filter (· != 0)).length ≤ 1))

/-- One symbol: the lengths still to try, and the code read, the first code and the index of the length reached. -/
def Inf.symAux (lens syms : List Nat) (bad : Nat) : Nat → Nat → Nat → Nat → Inf → Option Nat × Inf
  | 0, _, _, _, x => (none, x.ends (.bad bad))
  | n + 1, code, first, index, x =>
    match x.take 1 with
    | (none, x) => (none, x)
    | (some b, x) =>
      let code := code + b
      let c := codeCount lens (15 - n)
      if code < first + c then (syms[index + (code - first)]?, x)
      else Inf.symAux lens syms bad n (2 * code) (2 * (first + c)) (index + c) x

/-- A code's lengths with its symbols in order. -/
structure HCode where
  lens : List Nat
  syms : List Nat
  deriving DecidableEq, Repr

/-- The code of lengths. -/
def HCode.of (lens : List Nat) : HCode := ⟨lens, codeSyms lens⟩

/-- One symbol of a code; bits that are no code end the stream as `bad`. -/
def Inf.sym (c : HCode) (bad : Nat) (x : Inf) : Option Nat × Inf := Inf.symAux c.lens c.syms bad 15 0 0 0 x

/-- The extra bits and base of length symbol 257 + i. -/
def lenBase : List (Nat × Nat) :=
  [(0, 3), (0, 4), (0, 5), (0, 6), (0, 7), (0, 8), (0, 9), (0, 10), (1, 11), (1, 13), (1, 15), (1, 17), (2, 19), (2, 23), (2, 27)] ++
  [(2, 31), (3, 35), (3, 43), (3, 51), (3, 59), (4, 67), (4, 83), (4, 99), (4, 115), (5, 131), (5, 163), (5, 195), (5, 227), (0, 258)]

/-- The extra bits and base of distance symbol i. -/
def distBase : List (Nat × Nat) :=
  [(0, 1), (0, 2), (0, 3), (0, 4), (1, 5), (1, 7), (2, 9), (2, 13), (3, 17), (3, 25), (4, 33), (4, 49), (5, 65), (5, 97), (6, 129)] ++
  [(6, 193), (7, 257), (7, 385), (8, 513), (8, 769), (9, 1025), (9, 1537), (10, 2049), (10, 3073), (11, 4097), (11, 6145)] ++
  [(12, 8193), (12, 12289), (13, 16385), (13, 24577)]

/-- A match whose length symbol is 257 + `i`. -/
def Inf.matchAt (cap : Nat) (dc : HCode) (i : Nat) (x : Inf) : Inf :=
  match lenBase[i]? with
  | none => x.ends (.bad 4)
  | some (e, b) =>
    match x.take e with
    | (none, x) => x
    | (some k, x) =>
      match x.sym dc 4 with
      | (none, x) => x
      | (some s, x) =>
        match distBase[s]? with
        | none => x.ends (.bad 4)
        | some (e2, b2) =>
          match x.take e2 with
          | (none, x) => x
          | (some k2, x) => if x.n < b2 + k2 then x.ends (.bad 5) else Inf.copy cap (b2 + k2) (b + k) x

/-- The symbols of a block up to its end. -/
def Inf.symbols (cap : Nat) (lc dc : HCode) : Nat → Inf → Inf
  | 0, x => x
  | n + 1, x =>
    if x.stop.isSome then x else
    match x.sym lc 4 with
    | (none, x) => x
    | (some s, x) =>
      if s < 256 then Inf.symbols cap lc dc n (x.put cap (BitVec.ofNat 8 s))
      else if s = 256 then x
      else Inf.symbols cap lc dc n (x.matchAt cap dc (s - 257))

/-- The code of fixed lengths. -/
def fixedLit : HCode := HCode.of (List.replicate 144 8 ++ List.replicate 112 9 ++ List.replicate 24 7 ++ List.replicate 8 8)
def fixedDist : HCode := HCode.of (List.replicate 32 5)

/-- The order of code length code lengths. -/
def clOrder : List Nat := [16, 17, 18, 0, 8, 7, 9, 6, 10, 5, 11, 4, 12, 3, 13, 2, 14, 1, 15]

/-- `n` numbers of `w` bits. -/
def Inf.nums (w : Nat) : Nat → Inf → List Nat × Inf
  | 0, x => ([], x)
  | n + 1, x =>
    match x.take w with
    | (none, x) => ([], x)
    | (some v, x) => let r := Inf.nums w n x; (v :: r.1, r.2)

/-- The code lengths of a dynamic block, up to `total` of them, newest first. -/
def Inf.lengths (cc : HCode) (total : Nat) : Nat → List Nat → Inf → List Nat × Inf
  | 0, l, x => (l, x)
  | n + 1, l, x =>
    if x.stop.isSome || total ≤ l.length then (l, x) else
    match x.sym cc 3 with
    | (none, x) => (l, x)
    | (some s, x) =>
      if s < 16 then Inf.lengths cc total n (s :: l) x
      else if s = 16 && l.isEmpty then (l, x.ends (.bad 6))
      else
        let (w, b, v) := if s = 16 then (2, 3, l.headD 0) else if s = 17 then (3, 3, 0) else (7, 11, 0)
        match x.take w with
        | (none, x) => (l, x)
        | (some k, x) => if total < l.length + b + k then (l, x.ends (.bad 6)) else Inf.lengths cc total n (List.replicate (b + k) v ++ l) x

/-- A dynamic block. -/
def Inf.dynamic (cap fuel : Nat) (x : Inf) : Inf :=
  match x.take 14 with
  | (none, x) => x
  | (some h, x) =>
    let hlit := h % 32 + 257
    let hdist := h / 32 % 32 + 1
    let (cl, x) := Inf.nums 3 (h / 1024 + 4) x
    if x.stop.isSome then x else
    let cls := (List.range 19).map fun i => (cl[clOrder.findIdx (· == i)]?).getD 0
    if !codeFull cls then x.ends (.bad 3) else
    let (rev, x) := Inf.lengths (HCode.of cls) (hlit + hdist) 320 [] x
    if x.stop.isSome then x else
    let l := rev.reverse
    let lit := l.take hlit
    let dist := l.drop hlit
    if !codeFull lit || !distFull dist then x.ends (.bad 3)
    else Inf.symbols cap (HCode.of lit) (HCode.of dist) fuel x

/-- `n` bytes of a stored block. -/
def Inf.stored (cap : Nat) : Nat → Inf → Inf
  | 0, x => x
  | n + 1, x =>
    match x.take 8 with
    | (none, x) => x
    | (some b, x) => Inf.stored cap n (x.put cap (BitVec.ofNat 8 b))

/-- Blocks up to the final one. -/
def Inf.blocks (cap fuel : Nat) : Nat → Inf → Inf
  | 0, x => x
  | n + 1, x =>
    match x.take 3 with
    | (none, x) => x
    | (some h, x) =>
      let x := match h / 2 with
        | 0 =>
          let pad := (8 - x.used % 8) % 8
          match ({ x with bits := x.bits.drop pad, used := x.used + pad } : Inf).take 32 with
          | (none, x) => x
          | (some v, x) => if v / 65536 + v % 65536 = 65535 then Inf.stored cap (v % 65536) x else x.ends (.bad 2)
        | 1 => Inf.symbols cap fixedLit fixedDist fuel x
        | 2 => Inf.dynamic cap fuel x
        | _ => x.ends (.bad 1)
      if x.stop.isSome then x else if h % 2 = 1 then x.ends .done else Inf.blocks cap fuel n x

/-- One raw stream decoded, with room for `cap` bytes: its end, its output, and the input bytes consumed. -/
def inflate (bs : List Byte) (cap : Nat) : InfEnd × List Byte × Nat :=
  let bits := byteBits bs
  let x := Inf.blocks cap (bits.length + 1) (bits.length + 1) ⟨bits, 0, [], 0, none⟩
  (x.stop.getD .truncated, x.out.reverse, (x.used + 7) / 8)

/-! Encoding (R322). -/

/-- The pieces of at most `m` bytes of a string, at least one. -/
def chunksOf (m : Nat) : Nat → List Byte → List (List Byte)
  | 0, _ => []
  | n + 1, bs => if bs.length ≤ m then [bs] else bs.take m :: chunksOf m n (bs.drop m)

/-- A stored block from bit position `p`. -/
def storedBlock (p : Nat) (final : Bool) (c : List Byte) : List Bool :=
  let pad := (8 - (p + 3) % 8) % 8
  [final, false, false] ++ List.replicate pad false ++ numBits 16 c.length ++ numBits 16 (65535 - c.length) ++ byteBits c

/-- Whether `bits` are the symbols of a block, of fixed codes at level 1 and of dynamic codes else, that decode to the chunk `c` after the bytes `before` (R322; RFC 1951). -/
def bodyOk (level : Nat) (before c : List Byte) (bits : List Bool) : Bool :=
  let cap := before.length + c.length
  let x : Inf := ⟨bits, 0, before.reverse, before.length, none⟩
  let y := if level = 1 then Inf.symbols cap fixedLit fixedDist (bits.length + 1) x else Inf.dynamic cap (bits.length + 1) x
  y.stop.isNone && y.bits.isEmpty && y.out == c.reverse ++ before.reverse

/-- A piece of a chunk: a byte, or a match of a length at a distance back. -/
inductive Piece where
  | lit (b : Byte)
  | ref (len dist : Nat)
  deriving DecidableEq, Repr

/-- How many of the bytes to come, at most `n`, equal those from `dist` back; `rev` are the bytes before, newest first. -/
def matchLen (rev : List Byte) (dist : Nat) : Nat → List Byte → Nat
  | n + 1, b :: t => if rev[dist - 1]? = some b then matchLen (b :: rev) dist n t + 1 else 0
  | _, _ => 0

/-- The longest match of at least 3 bytes, at the shortest distance: its length and distance. -/
def bestMatch (rev rest : List Byte) : Option (Nat × Nat) :=
  (((List.range (min 32768 rev.length)).map fun d => (matchLen rev (d + 1) 258 rest, d + 1)).foldl
    (fun (a : Option (Nat × Nat)) x => if (a.map Prod.fst).getD 2 < x.1 then some x else a) none)

/-- A chunk cut into pieces: greedily, or lazily where a match gives way to a longer one that begins a byte later. -/
def pieces (lazy_ : Bool) : Nat → List Byte → List Byte → List Piece
  | n + 1, rev, b :: t =>
    match bestMatch rev (b :: t) with
    | some (l, d) =>
      if lazy_ && (bestMatch (b :: rev) t).any fun m => decide (l < m.1) then .lit b :: pieces lazy_ n (b :: rev) t
      else .ref l d :: pieces lazy_ n (((b :: t).take l).reverse ++ rev) ((b :: t).drop l)
    | none => .lit b :: pieces lazy_ n (b :: rev) t
  | _, _, _ => []

/-- The code of symbol `s` under the lengths of a code, its first bit first. -/
def symBits (lens : List Nat) (s : Nat) : List Bool :=
  let l := lens.getD s 0
  let code := (lens.map fun m => if m = 0 || l ≤ m then 0 else 2 ^ (l - m)).sum + ((lens.take s).filter (· == l)).length
  (List.range l).map fun i => code.testBit (l - 1 - i)

/-- The place of `v` in a table of extra bits and bases: the last entry whose base is not above it. -/
def baseAt (t : List (Nat × Nat)) (v : Nat) : Nat := (t.takeWhile fun e => decide (e.2 ≤ v)).length - 1

/-- A value of such a table: its symbol, `first` for the first entry, and its extra bits. -/
def valueBits (lens : List Nat) (t : List (Nat × Nat)) (first v : Nat) : List Bool :=
  let i := baseAt t v
  let e := t.getD i (0, 0)
  symBits lens (first + i) ++ numBits e.1 (v - e.2)

/-- A piece's bits under the lengths of two codes. -/
def Piece.bits (lit dist : List Nat) : Piece → List Bool
  | .lit b => symBits lit b.toNat
  | .ref l d => valueBits lit lenBase 257 l ++ valueBits dist distBase 0 d

/-- Dynamic codes that every chunk can be written in, and their header. -/
def dynLit : List Nat := List.replicate 226 8 ++ List.replicate 60 9
def dynDist : List Nat := List.replicate 2 4 ++ List.replicate 28 5
def dynHeader : List Bool :=
  let cl := (List.range 19).map fun i => if [4, 5, 8, 9].contains i then 2 else 0
  numBits 5 29 ++ numBits 5 29 ++ numBits 4 8 ++ (clOrder.take 12).flatMap (fun i => numBits 3 (cl.getD i 0)) ++ (dynLit ++ dynDist).flatMap (symBits cl)

/-- A compressed form of the chunk `c` after `before` at `level` (R322). -/
def plainBody (level : Nat) (before c : List Byte) : List Bool :=
  let ps := pieces (level == 3) c.length before.reverse c
  if level = 1 then ps.flatMap (Piece.bits fixedLit.lens fixedDist.lens) ++ symBits fixedLit.lens 256
  else dynHeader ++ ps.flatMap (Piece.bits dynLit dynDist) ++ symBits dynLit 256

/-- The compressed form of the chunk (R322): the free one, which the spec does not give, wherever that is one of the chunk at all. -/
def deflateBody (level : Nat) (before c : List Byte) : List Bool :=
  let b := Config.deflateBody level before c
  if bodyOk level before c b then b else plainBody level before c

end Sys2Proof.Machine
end

