-- ==== Sys2Proof/Machine/Compress.lean ====
section
/-! DEFINITION. The compression blocks (12 R315 to R338): DEFLATE both ways, NVMe/TCP receive and transmit. -/
namespace Sys2Proof.Machine

/-! Descriptors (R317 to R320). -/

/-- An operation as its descriptor asks for it. -/
structure CmpJob where
  op : OpRec
  code : Nat
  flags : Nat
  ctx : Nat
  src : Nat
  dst : Nat
  len : Nat
  cap : Nat
  seq : Nat
  level : Nat
  tf : Nat
  frame : Option (Nat × Frame)
  deriving DecidableEq, Repr

/-- The job of command `o`. -/
def Dev.cmpJob (d : Dev) (o : OpRec) : CmpJob :=
  let b := o.desc
  let fr := o.frame.bind fun id => (d.frame? id).map fun f => (id, f)
  ⟨o, leAt b 4 2, leAt b 6 2, leAt b 0x10 8, leAt b 0x18 8, leAt b 0x20 8, leAt b 0x28 8, leAt b 0x30 8, leAt b 0x38 4, leAt b 0x3C 1,
    match fr with
    | some f => f.2.tf
    | none => leAt b 0x3E 2, fr⟩

/-- Check 1 of R319. -/
def CmpJob.formOk (j : CmpJob) : Bool :=
  decide (1 ≤ j.code) && decide (j.code ≤ 4) && decide (j.flags < 4) && (j.flags.testBit 0 == j.frame.isSome) && leAt j.op.desc 0x3D 1 == 0 &&
    (j.code == 3 || j.ctx == 0) && (j.code != 4 || j.dst == 0) && (j.code != 1 || decide (j.level ≤ 3))

/-- Where the input lies: the frame's own bytes count as address 0. -/
def CmpJob.srcPlace (j : CmpJob) (d : Dev) : Place := if j.frame.isSome then .at_ 0 else d.bufPlace j.op.slice j.op.pos j.src j.len

/-- Where the output lies. -/
def CmpJob.dstPlace (j : CmpJob) (d : Dev) : Place := if j.code = 4 then .at_ 0 else d.bufPlace j.op.slice j.op.pos j.dst j.cap

/-- `n` bytes at engine address `a` in engine-local data or quad memory, aligned to `al` (R318, R328). -/
def Dev.nearPlace (d : Dev) (s p a n al : Nat) : Option Nat :=
  if a % al != 0 || n = 0 then none else
  match d.spot? s p a n with
  | some (.mem m none) => some m
  | _ => none

/-- The length limits of R320. -/
def CmpJob.lenOk (j : CmpJob) : Bool := decide (j.len ≤ 16777216) && (j.code != 2 || decide (j.cap ≤ 16777216)) && (j.code != 4 || decide (24 ≤ j.len))

/-- B(n) of R323. -/
def deflateBound (n : Nat) : Nat := n + 5 * max 1 ((n + 65534) / 65535)

/-- The room that R323 and R331 ask for at DST. -/
def CmpJob.room (j : CmpJob) : Nat := if j.code = 1 then deflateBound j.len else if j.code = 3 then 16 * ((j.len + 23) / 24 + 1) else 0

/-! Ends (R321, R325, R337, R338). -/

/-- An operation's counters. -/
def Dev.cmpCount (d : Dev) (s code : Nat) : Dev :=
  let d := d.count (cmpCnt s 0)
  match code with
  | 0 => d
  | 0x0B => d.count (cmpCnt s 9)
  | 0x09 => d.count (cmpCnt s 11)
  | 0x08 => d.count (cmpCnt s 13)
  | _ => d.count (cmpCnt s 14)

/-- A fault of the block (R325, R337): `kind` 1 VERIFY_FAIL, 2 ECC_DATA; its report's CODE is the result code. -/
def Dev.cmpFault (d : Dev) (j : CmpJob) (kind : Nat) : Dev :=
  let s := j.op.slice
  let (v, d) := d.fresh
  let d := (d.setF (CMP_STATUS s) (if kind = 1 then CMP_STATUS_FAULT else CMP_STATUS_ECC_ERR) 1).report (0x0B00 + s) (if kind = 1 then 3 else 2) v (sliceUnit s)
    (if kind = 1 then 0x08 else 0x0F)
  let r := CMP_FAULT_LOG s
  if d.flag r CMP_FAULT_LOG_VALID then d
  else ((((d.setF r CMP_FAULT_LOG_VALID 1).setF r CMP_FAULT_LOG_OPCODE j.code).setF r CMP_FAULT_LOG_KIND kind).setF r CMP_FAULT_LOG_POSITION j.op.pos).setF r
    CMP_FAULT_LOG_THREAD j.op.thread

/-- The operation ends with `code` and `result`. -/
def State.cmpEnds (s : State) (n : Nat) (j : CmpJob) (code result : Nat) : State := (s.onDev fun d => d.cmpCount j.op.slice code).opEnds n j.op code result

/-- An operation that met an uncorrectable error (R337) ends with ECC_DATA and `result`, as a fault of the block; where it met it reading `n` bytes at engine address `a`, the thread traps. -/
def State.cmpEcc (s : State) (n : Nat) (j : CmpJob) (a len result : Nat) : State :=
  let s := (s.onDev fun d => d.cmpFault j 2).cmpEnds n j 0x0F result
  if 2 ^ 63 ≤ a || j.frame.isSome || decide (8 ≤ j.op.ticket) then s else
  match s.spot? j.op.slice j.op.pos a 1 with
  | some (.mem m _) =>
    let f := (s.poisonIn m len).getD (memSource m)
    s.onDev fun d => (d.report f 2 a ⟨j.op.slice, j.op.pos, j.op.thread⟩ causeEccData).opTrap (thrKey j.op.slice j.op.pos j.op.thread) causeEccData (some a) (some f)
  | _ => s

/-! DEFLATE (R322 to R327). -/

/-- The stream under way: the bits emitted (their count), the input before, and the blocks stored in place of their compressed form. -/
structure DefAcc where
  bits : List Bool
  n : Nat
  before : List Byte
  stored : Nat
  deriving DecidableEq, Repr

/-- One chunk (R322): the stored block when the compressed one would take more bits. -/
def deflateChunk (level : Nat) (a : DefAcc) (final : Bool) (c : List Byte) : DefAcc :=
  let st := storedBlock a.n final c
  let co := [final, level == 1, level != 1] ++ deflateBody level a.before c
  let useStored := level == 0 || decide (st.length < co.length)
  let b := if useStored then st else co
  ⟨a.bits ++ b, a.n + b.length, a.before ++ c, a.stored + b2n (useStored && level != 0)⟩

/-- The chunks in turn, the last one final. -/
def deflateChunks (level : Nat) : List (List Byte) → DefAcc → DefAcc
  | [], a => a
  | [c], a => deflateChunk level a true c
  | c :: t, a => deflateChunks level t (deflateChunk level a false c)

/-- The raw DEFLATE stream of `bs` at `level`, and how many blocks fell back to stored (R322, R324). -/
def deflate (level : Nat) (bs : List Byte) : List Byte × Nat :=
  let a := deflateChunks level (chunksOf 65535 (bs.length + 1) bs) ⟨[], 0, [], 0⟩
  (bitBytes ((a.n + 7) / 8) a.bits, a.stored)

/-- Whether the stream `out` decompresses to bytes with the CRC32C of `bs` (R325). -/
def verified (out bs : List Byte) : Bool := crc32cFull (inflate out bs.length).2.1 == crc32cFull bs

/-- The work of DEFLATE_COMP (R322 to R325); `bad` says that the block's own decompression went wrong. -/
def State.compRun (s : State) (n : Nat) (j : CmpJob) (b : Nat) (bs : List Byte) (bad : Bool) : State :=
  let sl := j.op.slice
  let (out, st) := deflate j.level bs
  let d := ((s.count (cmpCnt sl 1) bs.length).count (cmpCnt sl 2) out.length).count (cmpCnt sl 5) st
  let d := d.meterAdd j.tf 5 bs.length
  let result := out.length + crc32cFull bs * 2 ^ 32
  if j.flags.testBit 1 && (bad || !verified out bs) then
    let (v, d) := (d.cmpFault j 1).fresh
    (({ s with toDev := d } : State).store b (leBytes out.length v)).cmpEnds n j 0x08 result
  else (({ s with toDev := d } : State).store b out).cmpEnds n j 0 result

/-- The work of DEFLATE_DECOMP (R326, R327). -/
def State.decompRun (s : State) (n : Nat) (j : CmpJob) (b : Nat) (bs : List Byte) : State :=
  let sl := j.op.slice
  let (e, out, used) := inflate bs j.cap
  let d := ((s.count (cmpCnt sl 3) used).count (cmpCnt sl 4) out.length).meterAdd j.tf 5 out.length
  let (code, sub) := match e with
    | .done => (0, 0)
    | .bad k => (6, k)
    | .truncated => (7, 0)
    | .full => (5, 0)
  (({ s with toDev := d } : State).store b out).cmpEnds n j code (out.length + sub * 2 ^ 32 + min used 0xFFFFFF * 2 ^ 40)

/-! NVMe/TCP receive (R328 to R334). -/

/-- Fields of a PDU header of which `h` are the bytes collected. -/
def pduHlen (h : List Byte) : Nat := leAt h 2 1
def pduPdo (h : List Byte) : Nat := leAt h 3 1
def pduPlen (h : List Byte) : Nat := leAt h 4 4
def pduHd (h : List Byte) : Nat := if (leAt h 1 1).testBit 0 then 4 else 0
def pduDd (h : List Byte) : Nat := if (leAt h 1 1).testBit 1 then 4 else 0

/-- Whether a PDU's common header is right by itself (R329, R335); PDO is compared for a PDU that carries data or gives a PDO. -/
def pduOk (h : List Byte) : Bool :=
  decide (24 ≤ pduHlen h) && decide (pduHlen h ≤ 128) && decide (pduHlen h + pduHd h + pduDd h ≤ pduPlen h) &&
    ((pduPdo h == 0 && pduHlen h + pduHd h + pduDd h == pduPlen h) || decide (pduHlen h + pduHd h ≤ pduPdo h))

/-- Where a PDU's data begins and ends. -/
def pduDataEnd (h : List Byte) : Nat := pduPlen h - pduDd h
def pduDataAt (h : List Byte) : Nat := min (max (pduPdo h) (pduHlen h + pduHd h)) (pduDataEnd h)

/-- The CCCID a PDU carries (R331): H2CData, C2HData and R2T do. -/
def pduCccid (h : List Byte) : Nat := if [0x06, 0x07, 0x09].contains (leAt h 0 1) then leAt h 8 2 else 0

/-- A stream context and what an operation on it has done so far: its bytes, the input read, the START of the PDU, records newest first, digests that failed, bytes placed in all and of this
PDU, the placement entry its header found, with its number, the bytes of the PDU placed by this operation and those before it, why it is not placed, a placement that failed, and the result of
a PDU in error. -/
structure PduRun where
  ctx : List Byte
  off : Nat
  start : Int
  recs : List (List Byte)
  bad : Nat
  placed : Nat
  here : Nat
  entry : Option (Nat × List Byte)
  sofar : Nat
  reason : Nat
  fault : Bool
  stop : Option Nat
  deriving DecidableEq, Repr

/-- Context fields (R328). -/
def PduRun.f (x : PduRun) (off n : Nat) : Nat := leAt x.ctx off n
def PduRun.setF (x : PduRun) (off n v : Nat) : PduRun := { x with ctx := setBytes x.ctx off (leBytes n v) }
def PduRun.hdr (x : PduRun) : List Byte := bytesAt x.ctx 0x40 (x.f 2 1)

/-- The value CRC has once a matching digest has followed the data. -/
def crcResidue : Nat := crc32c 0xFFFFFFFF [0, 0, 0, 0]

/-- The address of placement entry `e`. -/
def PduRun.entryAt (x : PduRun) (e : Nat) : Nat := x.f 0x18 8 + e * 32

/-- The record of the PDU under way (R331). -/
def PduRun.record (x : PduRun) (opened : Bool) (bad : Bool) : List Byte :=
  let h := x.hdr
  leBytes 1 (leAt h 0 1) ++ leBytes 1 (b2n opened + 2 * b2n x.entry.isSome + 4 * b2n bad + 16 * x.reason) ++ leBytes 2 (pduCccid h) ++
    leBytes 4 (unsignedOf 32 x.start) ++ leBytes 4 (pduPlen h) ++ leBytes 4 x.here

/-- Whether the PDU's data is to be placed, by its role (R330). -/
def PduRun.isData (x : PduRun) : Bool := leAt x.hdr 0 1 == (if (x.f 1 1).testBit 2 then 0x06 else 0x07)

/-- Why a data PDU with header `h` is not placed by entry `e`, 0 when it is (R330). -/
def placeTest (h e : List Byte) (tf : Nat) : Nat :=
  if !(leAt e 0 1).testBit 0 then 1
  else if leAt e 2 2 != leAt h 8 2 then 2
  else if leAt e 4 2 != tf then 3
  else if leAt e 0x10 4 < leAt h 12 4 + leAt h 16 4 then 4
  else 0

/-- The place in memory of entry `e` of the context's table. -/
def State.entryPlace (s : State) (j : CmpJob) (x : PduRun) (e : Nat) : Nat := (s.nearPlace j.op.slice j.op.pos (x.entryAt e) 32 32).getD 0

/-- The number of the placement entry of the PDU under way (R330). -/
def PduRun.entryNo (x : PduRun) : Nat := leAt x.hdr 8 2 % 2 ^ x.f 0x16 1

/-- The header is whole (R329, R330): its digest, then where its data goes, by the entry as it now reads. -/
def State.pduHeader (s : State) (j : CmpJob) (x : PduRun) : State × PduRun :=
  let h := x.hdr
  let hl := pduHlen h
  if pduHd h = 4 && leAt h hl 4 != crc32cFull (h.take hl) then (s, { (x.setF 0 1 4).setF 3 1 0x0B with stop := some 0x0B })
  else
    let a := s.entryPlace j x x.entryNo
    let e := s.mem.readN a 32
    if x.isData && s.badIn a 32 then (s, { x with stop := some 0x0F }) else
    let y := ((((x.setF 0 1 1).setF 8 4 (pduPlen h - h.length)).setF 0x0C 4 0xFFFFFFFF).setF 0x10 4 (leAt h 12 4)).setF 0x14 2 0xFFFF
    let y := { y with entry := none, sofar := 0, reason := 0 }
    if !x.isData then (s, y)
    else
      let r := placeTest h e j.tf
      if r = 0 then (s, { y.setF 0x14 2 x.entryNo with entry := some (x.entryNo, e) })
      else (s.onDev fun d => d.count (cmpCnt j.op.slice 12), { y with reason := r })

/-- How many of `n` bytes of the input from offset `o` on a placement writes (R333): up to the first whose write the host port reports an error for. -/
def goodBytes (errs : List Nat) (o n : Nat) : Nat := (errs.filter fun e => decide (o ≤ e)).foldl (fun a e => min a (e - o)) n

/-- Data bytes `bs` of the PDU, from offset `o` of the input on, are placed from DATAO_NEXT on (R330, R333): a host port that cannot take them or reports an error, or a device address out of
reach, stops the PDU's placement. -/
def State.placeBytes (s : State) (j : CmpJob) (errs : List Nat) (o : Nat) (x : PduRun) (bs : List Byte) : State × PduRun :=
  let next := x.f 0x10 4
  let bs := bs.take (leAt x.hdr 12 4 + leAt x.hdr 16 4 - next)
  let y := x.setF 0x10 4 (next + bs.length)
  match x.entry with
  | none => (s, y)
  | some (_, e) =>
    if x.reason != 0 || bs.isEmpty then (s, y)
    else
      let dest := leAt e 8 8 + next
      let tf := leAt e 4 2
      let dev := (leAt e 0 1).testBit 1
      let k := if dev then (if s.dramIn [1, 2] dest bs.length then bs.length else 0) else if s.fnCan tf then goodBytes errs o bs.length else 0
      let put := bs.take k
      let s := s.onDev fun d => d.count (cmpCnt j.op.slice 8) k
      let s := if k = 0 then s else if dev then s.store dest put else s.onDev fun d => d.fnWrite tf false dest put
      let y := { y with placed := y.placed + k, here := y.here + k, sofar := y.sofar + k }
      (s, if k = bs.length then y else { y.setF 0x14 2 0xFFFF with reason := 5, fault := true })

/-- The PDU ends (R330 to R332): its record, its entry's DONE, and the context at the next PDU's header. -/
def State.pduEnd (s : State) (j : CmpJob) (x : PduRun) : State × PduRun :=
  let h := x.hdr
  let bad := pduDd h = 4 && x.f 0x0C 4 != crcResidue
  let s := (s.onDev fun d => d.count (cmpCnt j.op.slice 7)).onDev fun d => d.count (cmpCnt j.op.slice 10) (b2n bad)
  let s := match x.entry with
    | some (i, e) =>
      if bad then s else
      let a := s.entryPlace j x i
      let old := s.mem.readLE (a + 0x14) 4
      let s := s.store (a + 0x14) (leBytes 4 (old + x.sofar))
      if old < leAt e 0x10 4 && decide (leAt e 0x10 4 ≤ old + x.sofar) then s.onDev fun d => d.meterAdd j.tf 6 1 else s
    | none => s
  let y := ((((x.setF 0 1 0).setF 2 1 0).setF 8 4 0).setF 0x14 2 0xFFFF).setF 0x20 8 (x.f 0x20 8 + 1)
  (s, { y with recs := x.record false bad :: x.recs, bad := x.bad + b2n bad, start := Int.ofNat x.off, here := 0, entry := none, sofar := 0, reason := 0 })

/-- One piece of the input: as much of the state's bytes as there are, or the move to the next state. None when nothing more can be done. -/
def State.pduPiece (s : State) (j : CmpJob) (errs : List Nat) (input : List Byte) (x : PduRun) : Option (State × PduRun) :=
  let left := input.length - x.off
  let h := x.hdr
  let pos := pduPlen h - x.f 8 4
  let skip (n : Nat) : PduRun := { x.setF 8 4 (x.f 8 4 - n) with off := x.off + n }
  if x.stop.isSome then none else
  match x.f 0 1 with
  | 0 =>
    let have_ := h.length
    let goal := if have_ < 8 then 8 else pduHlen h + pduHd h
    if left = 0 then none else
    let k := min (goal - have_) left
    let y : PduRun := { (x.setF 2 1 (have_ + k)) with off := x.off + k }
    let y := { y with ctx := setBytes y.ctx (0x40 + have_) (bytesAt input x.off k) }
    if have_ < 8 && have_ + k = 8 && (!pduOk y.hdr || pduHd y.hdr != (if (x.f 1 1).testBit 0 then 4 else 0) || pduDd y.hdr != (if (x.f 1 1).testBit 1 then 4 else 0)) then
      some (s, { (y.setF 0 1 4).setF 3 1 0x0A with stop := some 0x0A })
    else if 8 ≤ have_ && have_ + k = goal then some (s.pduHeader j y)
    else some (s, if 8 ≤ have_ + k then y.setF 8 4 (pduPlen y.hdr - (have_ + k)) else y)
  | 1 =>
    if pduDataAt h ≤ pos then some (s, x.setF 0 1 2)
    else if left = 0 then none else some (s, skip (min (pduDataAt h - pos) left))
  | 2 =>
    if pduDataEnd h ≤ pos then some (s, x.setF 0 1 3)
    else if left = 0 then none
    else
      let k := min (pduDataEnd h - pos) left
      let bs := bytesAt input x.off k
      let y := (skip k).setF 0x0C 4 (crc32c (x.f 0x0C 4) bs)
      some (s.placeBytes j errs x.off y bs)
  | 3 =>
    if x.f 8 4 = 0 then some (s.pduEnd j x)
    else if left = 0 then none
    else
      let k := min (x.f 8 4) left
      some (s, (skip k).setF 0x0C 4 (crc32c (x.f 0x0C 4) (bytesAt input x.off k)))
  | _ => none

/-- The pieces in turn. -/
def State.pduLoop (j : CmpJob) (errs : List Nat) (input : List Byte) : Nat → State → PduRun → State × PduRun
  | 0, s, x => (s, x)
  | n + 1, s, x =>
    match s.pduPiece j errs input x with
    | some (s, x) => State.pduLoop j errs input n s x
    | none => (s, x)

/-- The number under which the unit keeps the PDU left open on the context at `c` in memory, engine address `a`: engine-local data goes with the position (08 R243). -/
def ctxKey (s p a c : Nat) : Nat := if a < 0x40000 then posKey s p * 2 ^ 18 + a else c

/-- Where an operation takes up the context with bytes `ctx` at `c` (R328, R334): a PDU open in it goes on as the unit left it; of one that the engine's own stores opened, the entry is as it now
reads, and the reason that it is not placed is free where the entry would take it. -/
def State.rxStart (s : State) (j : CmpJob) (c v : Nat) (ctx : List Byte) : PduRun :=
  let x : PduRun := ⟨ctx, 0, 0, [], 0, 0, 0, none, 0, 0, false, none⟩
  if x.f 0 1 = 0 then { x with start := -(Int.ofNat x.hdr.length) } else
  let x := { x with start := -(Int.ofNat (pduPlen x.hdr - x.f 8 4)) }
  match (s.pduOpen.look (ctxKey j.op.slice j.op.pos j.ctx c)).filter fun o => o.ctx == ctx with
  | some o => { x with entry := if o.index = 0xFFFF then none else some (o.index, o.entry), sofar := o.placed, reason := o.reason }
  | none =>
    let e (i : Nat) : List Byte := s.mem.readN (s.entryPlace j x i) 32
    if x.f 0x14 2 != 0xFFFF then { x with entry := some (x.f 0x14 2, e (x.f 0x14 2)), sofar := x.f 0x10 4 - leAt x.hdr 12 4 }
    else if !x.isData then x
    else
      let r := placeTest x.hdr (e x.entryNo) j.tf
      { x with reason := if r = 0 then 1 + v % 5 else r }

/-- What the unit keeps of the PDU that an operation leaves open. -/
def PduRun.left (x : PduRun) : PduOpen := ⟨x.ctx, (x.entry.map Prod.snd).getD [], (x.entry.map Prod.fst).getD 0xFFFF, x.sofar, x.reason⟩

/-- Check 5 of R319: the result code of a context in ERROR or out of sequence (R328). -/
def CmpJob.ctxBad (j : CmpJob) (ctx : List Byte) : Option Nat := if leAt ctx 0 1 = 4 then some 0x0C else if leAt ctx 4 4 != j.seq then some 0x09 else none

/-- The work of PDU_RX on the context at `c` (R328 to R334). -/
def State.rxRun (s : State) (n : Nat) (j : CmpJob) (c b : Nat) (bs : List Byte) (errs : List Nat) : State :=
  let (v, s) := (s.fresh.1, s.onDev fun d => d.fresh.2)
  let k := ctxKey j.op.slice j.op.pos j.ctx c
  let (s, x) := State.pduLoop j errs bs (2 * bs.length + 16) s (s.rxStart j c v (s.mem.readN c 256))
  let opened := x.stop.isNone && (x.f 0 1 != 0 || x.f 2 1 != 0)
  let recs := if opened then x.record true false :: x.recs else x.recs
  let x := x.setF 4 4 (j.seq + x.off)
  let s := (s.store b recs.reverse.flatten).store c x.ctx
  let s := s.onDev fun d => (d.count (cmpCnt j.op.slice 6) x.off).setPduOpen (if x.f 0 1 = 0 then d.pduOpen.del k else d.pduOpen.put k x.left)
  let result := recs.length % 65536 + x.bad % 65536 * 65536 + x.placed * 2 ^ 32
  if x.stop = some 0x0F then s.cmpEcc n j (x.entryAt x.entryNo) 32 result
  else s.cmpEnds n j (x.stop.getD (if x.fault then 0x0D else 0)) result

/-- Whether PDU_RX must wait because Bus Master Enable holds its host writes back (13 R367). -/
def Dev.placeHeld (d : Dev) (tf : Nat) : Bool := decide (tf < 4096) && d.fnState tf == 2 && d.pfPresent (d.fnPf tf) && !d.bme (d.fnPf tf) && !d.frozen (d.fnPf tf)

/-! NVMe/TCP transmit (R335). -/

/-- The PDU with its digests. -/
def pduSealed (bs : List Byte) : List Byte :=
  let hl := pduHlen bs
  let bs := if pduHd bs = 4 then setBytes bs hl (leBytes 4 (crc32cFull (bs.take hl))) else bs
  if pduDd bs = 4 then setBytes bs (pduDataEnd bs) (leBytes 4 (crc32cFull ((bs.take (pduDataEnd bs)).drop (pduDataAt bs)))) else bs

/-- The work of PDU_TX on the bytes at `a`, or in the frame. -/
def State.txRun (s : State) (n : Nat) (j : CmpJob) (a : Nat) (bs : List Byte) : State :=
  let s := s.onDev fun d => d.count (cmpCnt j.op.slice 6) bs.length
  if !pduOk bs || pduPlen bs != j.len then s.cmpEnds n j 0x0A 0
  else
    let out := pduSealed bs
    let s := match j.frame with
      | some f => s.onDev fun d => d.updFrame f.1 fun y => { y with data := setBytes y.data j.src out }
      | none => s.store a out
    let s := if leAt bs 0 1 = 0x04 then s.onDev fun d => d.meterAdd j.tf 6 1 else s
    s.cmpEnds n j 0 j.len

/-! Operations (R315, R319). -/

/-- Operation `n` takes place, unless a bank's handover or a disabled bus master holds it back. -/
def State.cmpRun (s : State) (n : Nat) (j : CmpJob) (x : CmpFacts) : State :=
  let sl := j.op.slice
  if !j.formOk then s.cmpEnds n j 0x01 0
  else if j.frame.any fun f => decide (f.2.len < j.src + j.len) then s.cmpEnds n j 0x0E 0
  else
    let ctx := if j.code = 3 then s.nearPlace sl j.op.pos j.ctx 256 64 else some 0
    let table := match j.code, ctx with
      | 3, some c => decide (s.mem.readLE (c + 0x16) 1 ≤ 12) && (s.nearPlace sl j.op.pos (s.mem.readLE (c + 0x18) 8) (32 * 2 ^ s.mem.readLE (c + 0x16) 1) 32).isSome
      | _, _ => true
    match j.srcPlace s.toDev, j.dstPlace s.toDev, ctx with
    | .held, _, _ | _, .held, _ => s
    | .at_ a, .at_ b, some c =>
      if !table then s.cmpEnds n j 0x02 0
      else if !j.lenOk then s.cmpEnds n j 0x03 0
      else if j.cap < j.room then s.cmpEnds n j 0x04 0
      else if j.code = 3 && s.badIn c 256 then s.cmpEcc n j j.ctx 256 0
      else match (if j.code = 3 then j.ctxBad (s.mem.readN c 256) else none) with
        | some code => s.cmpEnds n j code 0
        | none =>
          if j.code = 3 && s.placeHeld j.tf then s
          else if x.ecc || (j.frame.isNone && s.badIn a j.len) then s.cmpEcc n j j.src j.len 0
          else
            let s := if j.frame.isSome then s else s.touchBuf j.src j.len
            let bs := match j.frame with
              | some f => bytesAt f.2.data j.src j.len
              | none => s.mem.readN a j.len
            match j.code with
            | 1 => s.compRun n j b bs x.verifyBad
            | 2 => s.decompRun n j b bs
            | 3 => s.rxRun n j c b bs x.hostErrors
            | _ => s.txRun n j a bs
    | _, _, _ => s.cmpEnds n j 0x02 0

/-- Whether command `n` is the oldest of its unit in its slice (R315). -/
def Dev.cmpFirst (d : Dev) (n : Nat) (o : OpRec) : Bool :=
  d.ops.all fun m => !(m.1 < n && m.2.unit == 1 && m.2.slice == o.slice && cmpUnit (leAt m.2.desc 4 2) == cmpUnit (leAt o.desc 4 2))

/-- A compression operation of OPCODE `c`; an OPCODE not listed ends by any of them. -/
def compressOp (c n : Nat) (x : CmpFacts) (s : State) : Host.Outcome State Fault Refusal :=
  match s.ops.look n with
  | some o =>
    let j := s.cmpJob o
    if o.unit = 1 && (j.code = c || j.code = 0 || decide (4 < j.code)) && s.cmpFirst n o then (let t := s.cmpRun n j x; finM t t.toDev t.mem) else fin s s.toDev
  | none => fin s s.toDev

/-- DEFLATE_COMP (R322). -/
def execDeflateComp (op : Nat) (x : CmpFacts) (s : State) : Host.Outcome State Fault Refusal := compressOp 1 op x s

/-- DEFLATE_DECOMP (R326). -/
def execDeflateDecomp (op : Nat) (x : CmpFacts) (s : State) : Host.Outcome State Fault Refusal := compressOp 2 op x s

/-- PDU_RX (R331). -/
def execPduRx (op : Nat) (x : CmpFacts) (s : State) : Host.Outcome State Fault Refusal := compressOp 3 op x s

/-- PDU_TX (R335). -/
def execPduTx (op : Nat) (x : CmpFacts) (s : State) : Host.Outcome State Fault Refusal := compressOp 4 op x s

end Sys2Proof.Machine
end

