-- ==== Sys2Proof/Machine/NetTime.lean ====
section
/-! DEFINITION. Network time (02): the tick, steps and slews, ownership, PPS. -/
namespace Sys2Proof.Machine

/-- Whether `src` is the side NTU_CTRL.OWNER names (R44). -/
def Dev.ntuOwner (d : Dev) : Src → Bool
  | .ulyar => d.flag NTU_CTRL NTU_CTRL_OWNER
  | .pf _ _ => !d.flag NTU_CTRL NTU_CTRL_OWNER

/-- A write from the side that does not own the NTU is counted (R44). -/
def Dev.ntuForeign (d : Dev) : Dev := d.satAdd NTU_STATUS NTU_STATUS_FOREIGN_WRITES 1

/-- `f` of `d` when `src` owns the NTU; else the write is discarded and counted (R44). -/
def Dev.ntuOwned (d : Dev) (src : Src) (f : Dev → Dev) : Dev := if d.ntuOwner src then f d else d.ntuForeign

/-- The adjustment NTU_ADJ_NS + NTU_ADJ_FRAC ÷ 65,536, signed, in 2^-32 ns (R49). -/
def Dev.ntuAdj (d : Dev) : Int :=
  signedOf 64 (d.rd NTU_ADJ_NS).toNat * 2 ^ 32 + Int.ofNat (d.fld NTU_ADJ_FRAC NTU_ADJ_FRAC_FRAC) * 2 ^ 16

/-- A command of NTU_CMD waits for the next tick (R49). The adjustment is the one that NTU_ADJ_NS and NTU_ADJ_FRAC hold at the write, and of several commands before one tick all apply, their steps
summed (log entry 145). -/
def Dev.ntuOp (d : Dev) (op : NtuOp) : Dev := d.setNtu { d.ntu with ops := d.ntu.ops ++ [op] }

/-- Billionths of 2^-32 ns the slew has accrued by the end of this tick: NTU_SLEW_RATE parts per billion of the elapsed time,
an accrual rounded down to 2^-32 ns with the rest carried, counted from the tick after the one at which the slew begins (R50; log entry 145). -/
def Dev.slewAccrued (d : Dev) : Nat :=
  d.ntu.slewPpb + d.fld NTU_INCR NTU_INCR_INCR * d.fld NTU_SLEW_RATE NTU_SLEW_RATE_RATE_PPB

/-- What the slew in progress adds to (or, negative, withholds from) this tick, in 2^-32 ns (R50). -/
def Dev.slewPart (d : Dev) : Int :=
  if d.flag NTU_STATUS NTU_STATUS_SLEWING then
    let w := Int.ofNat (d.slewAccrued / 1000000000)
    if 0 ≤ d.ntu.slewRem then min w d.ntu.slewRem else max (-w) d.ntu.slewRem
  else 0

/-- The slew after this tick: its unapplied part falls, and it ends when nothing is left (R50). -/
def Dev.slewTick (d : Dev) : Dev :=
  if d.flag NTU_STATUS NTU_STATUS_SLEWING then
    let rem := d.ntu.slewRem - d.slewPart
    (d.setNtu { d.ntu with slewRem := rem, slewPpb := d.slewAccrued % 1000000000 }).setF NTU_STATUS NTU_STATUS_SLEWING
      (b2n (rem != 0))
  else d

/-- A command of NTU_CMD at its tick, and the adjustment a step adds (R49, R51). -/
def Dev.ntuApply (d : Dev) : NtuOp → Dev
  | .step _ =>
    ((d.setF NTU_STATUS NTU_STATUS_SLEWING 0).setF NTU_STATUS NTU_STATUS_STEP_GEN
      (d.fld NTU_STATUS NTU_STATUS_STEP_GEN + 1)).setF NTU_STATUS NTU_STATUS_STEPPED 1
  | .slew adj => (d.setNtu { d.ntu with slewRem := adj, slewPpb := 0 }).setF NTU_STATUS NTU_STATUS_SLEWING (b2n (adj != 0))
  | .abandon => d.setF NTU_STATUS NTU_STATUS_SLEWING 0

/-- What the command adds to network time at its tick. -/
def NtuOp.adj : NtuOp → Int
  | .step adj => adj
  | _ => 0

/-- Whether a step waits for the next tick. -/
def Dev.stepWaits (d : Dev) : Bool := d.ntu.ops.any fun o => match o with | .step _ => true | _ => false

/-- Network time after the next tick, in 2^-32 ns (R41, R49, R50). -/
def Dev.nextAcc (d : Dev) : Int :=
  Int.ofNat d.ntu.acc + Int.ofNat (d.fld NTU_INCR NTU_INCR_INCR) + d.slewPart + (d.ntu.ops.map NtuOp.adj).sum

/-- The second boundary (ns) that counting from `old` to `new` (2^-32 ns) reaches, for the offset `off` (R59). -/
def secondReached (off old new : Int) : Option Nat :=
  let k := (new - off * 2 ^ 32) / (1000000000 * 2 ^ 32)
  if (old - off * 2 ^ 32) / (1000000000 * 2 ^ 32) < k ∧ 0 ≤ k then some (k * 1000000000 + off).toNat else none

/-- A step by `adj` (2^-32 ns) leaves what port `p` has yet to do where it was in elapsed time: the end of its occupancy, and a start of frame still to pass after the tick at which the count
would have been `due` (10 R282, R285; 02 R52). -/
def PortSt.stepped (x : PortSt) (adj : Int) (due : Nat) : PortSt :=
  let move (t : Nat) : Nat := (Int.ofNat t + adj * 125).toNat
  { x with busyTo := if x.busyTo = 0 then 0 else move x.busyTo, sfdAt := if due * 125 ≤ x.sfdAt then move x.sfdAt else x.sfdAt }

/-- After a step every planned start not yet begun is judged again (10 R285), and the sweeps of a time that comes again recur (06 R155). -/
def Dev.stepped (d : Dev) (adj : Int) (due : Nat) : Dev :=
  let d := (d.setPort (d.port.mapVals fun _ x => x.stepped adj due)).setTbl (d.tbl.mapVals fun _ t => { t with sweptAt := min t.sweptAt d.now })
  (d.onlyIf (decide (adj < 0)) Dev.gatesBack).each (List.range 6) Dev.tmRefresh

/-- The tick of the NTU (R41): time advances, what NTU_CMD commanded takes effect, the compares that are due are listed. PPS_OUT marks the boundaries that the count reaches beyond what a
forward step jumps (R56, R59; log entry 145). -/
def Dev.tick (d : Dev) : Dev :=
  let acc := d.nextAcc
  let ops := d.ntu.ops
  let adj := (ops.map NtuOp.adj).sum
  let reached := if !d.flag NTU_CTRL NTU_CTRL_PPS_OUT_EN then none
    else secondReached (Int.ofNat (d.fld NTU_PPS_OUT_OFFSET NTU_PPS_OUT_OFFSET_OFFSET)) (Int.ofNat d.ntu.acc + max adj 0) acc
  let due := d.ntu.acc + d.fld NTU_INCR NTU_INCR_INCR
  let waits := d.stepWaits
  let d := (d.onlyIf waits fun d => d.mtrStep adj).slewTick.each ops Dev.ntuApply
  let d := d.setNtu { d.ntu with acc := acc.toNat, peak := max d.ntu.peak acc.toNat, ticks := d.ntu.ticks + 1, ops := [], ppsDue := reached <|> d.ntu.ppsDue }
  let d := d.onlyIf waits fun d => d.stepped adj due
  d.setDue d.dueNow

/-- The tick, or the stop where network time leaves [0, 2^63) ns (R43). -/
def tickOr (s : State) : Host.Outcome State Fault Refusal :=
  if s.pwrMode = .held then .next s
  else if 0 ≤ s.nextAcc ∧ s.nextAcc < 2 ^ 95 then finA s s.toDev.tick else .fault .networkTimeRange

/-- NTU_TICK (R41). -/
def execNtuTick (s : State) : Host.Outcome State Fault Refusal := tickOr s

/-- STEP_APPLIED (R49): the tick at which a commanded step is added; nothing without one. -/
def execStepApplied (s : State) : Host.Outcome State Fault Refusal :=
  if s.stepWaits then tickOr s else finA s s.toDev

/-- SLEW_DONE (R50): the tick at which the last of a slew's adjustment is applied; nothing at another time. -/
def execSlewDone (s : State) : Host.Outcome State Fault Refusal :=
  if s.flag NTU_STATUS NTU_STATUS_SLEWING && s.ntu.slewRem == s.slewPart then tickOr s else finA s s.toDev

/-- The PPS fields of NTU_CTRL, as one number. -/
def ppsFields (v : Word) : Nat := v.toNat % 8

/-- NTU_CTRL judged field by field against the owner before the write (R44). PPS_OUT is held low while PPS_OUT_EN is 0. -/
def Dev.ntuCtrlWrite (d : Dev) (src : Src) (v : Word) : Dev :=
  let mayPps := d.ntuOwner src
  let mayOwn := match src with | .ulyar => true | .pf _ _ => false
  let old := d.rd NTU_CTRL
  let foreign := (!mayPps && ppsFields v != ppsFields old) || (!mayOwn && NTU_CTRL_OWNER.get v != NTU_CTRL_OWNER.get old)
  let pps := if mayPps then ppsFields v else ppsFields old
  let own := if mayOwn then NTU_CTRL_OWNER.get v else NTU_CTRL_OWNER.get old
  let d := (d.wr NTU_CTRL (BitVec.ofNat 64 (own * 8 + pps))).onlyIf foreign Dev.ntuForeign
  if d.ntu.ppsHigh && !d.flag NTU_CTRL NTU_CTRL_PPS_OUT_EN then
    (d.setNtu { d.ntu with ppsHigh := false }).emit (.pin "PPS_OUT" false)
  else d

/-- NTU_CTRL_WRITE (R44). -/
def execNtuCtrlWrite (src : Src) (v : Word) (s : State) : Host.Outcome State Fault Refusal :=
  finW s src NTU_CTRL.addr (s.toDev.ntuCtrlWrite src v)

/-- NTU_TIME_READ (R42, NTU_TIME_NS): the time in ns, its fraction latched. -/
def execNtuTimeRead (src : Src) (s : State) : Host.Outcome State Fault Refusal :=
  finR s src NTU_TIME_NS.addr 64 s.now (s.toDev.setF NTU_TIME_FRAC NTU_TIME_FRAC_FRAC (s.ntu.acc / 2 ^ 16))

/-- PPS_IN_READ (R58, NTU_PPS_IN_NS): the capture, its fraction latched. -/
def execPpsInRead (src : Src) (s : State) : Host.Outcome State Fault Refusal :=
  finR s src NTU_PPS_IN_NS.addr 64 (s.rd NTU_PPS_IN_NS).toNat (s.toDev.setF NTU_PPS_IN_FRAC NTU_PPS_IN_FRAC_FRAC s.ntu.ppsFrac)

/-- STEP (R49): NTU_CMD.OP 1. -/
def execStep (src : Src) (s : State) : Host.Outcome State Fault Refusal :=
  finW s src NTU_CMD.addr (s.toDev.ntuOwned src fun d => d.ntuOp (.step d.ntuAdj))

/-- SLEW (R50): NTU_CMD.OP 2. -/
def execSlew (src : Src) (s : State) : Host.Outcome State Fault Refusal :=
  finW s src NTU_CMD.addr (s.toDev.ntuOwned src fun d => d.ntuOp (.slew d.ntuAdj))

/-- ABANDON (R51): NTU_CMD.OP 3. -/
def execAbandon (src : Src) (s : State) : Host.Outcome State Fault Refusal :=
  finW s src NTU_CMD.addr (s.toDev.ntuOwned src fun d => d.ntuOp .abandon)

/-- PPS_IN_EDGE (R58): an edge of the polarity PPS_IN_EDGE names captures network time, its error at most 1 ns. -/
def execPpsInEdge (rising : Bool) (skew : Fin 393217) (s : State) : Host.Outcome State Fault Refusal :=
  let at16 := s.stampAt 1 skew.val
  finA s (if s.flag NTU_CTRL NTU_CTRL_PPS_IN_EN && rising != s.flag NTU_CTRL NTU_CTRL_PPS_IN_EDGE then
      ((s.toDev.setNtu { s.ntu with ppsFrac := at16 % 2 ^ 16 }).wr NTU_PPS_IN_NS (BitVec.ofNat 64 (at16 / 2 ^ 16))).setF
        NTU_STATUS NTU_STATUS_PPS_IN_SEEN 1
    else s.toDev)

/-- PPS_OUT_RISE (R59): the edge of a second boundary reached by the running count. The pulse ends when network time is WIDTH_US past the boundary, as WIDTH_US stands at the rise
(log entry 145). -/
def Dev.ppsRise (d : Dev) : Dev :=
  match d.ntu.ppsDue with
  | some b =>
    if d.flag NTU_CTRL NTU_CTRL_PPS_OUT_EN then
      let w := d.fld NTU_PPS_OUT_CFG NTU_PPS_OUT_CFG_WIDTH_US
      let d := d.onlyIf d.ntu.ppsHigh fun d => d.emit (.pin "PPS_OUT" false)
      (d.setNtu { d.ntu with ppsDue := none, ppsHigh := true, ppsEnd := b + w * 1000 }).emit (.pin "PPS_OUT" true)
    else d.setNtu { d.ntu with ppsDue := none }
  | none => d

/-- PPS_OUT_RISE (R59). -/
def execPpsOutRise (s : State) : Host.Outcome State Fault Refusal := finA s s.toDev.ppsRise

/-- PPS_OUT_FALL (R59): the pulse has stayed high for WIDTH_US microseconds of network time. -/
def execPpsOutFall (s : State) : Host.Outcome State Fault Refusal :=
  finA s (if s.ntu.ppsHigh && decide (s.ntu.ppsEnd ≤ s.now) then
      (s.toDev.setNtu { s.ntu with ppsHigh := false }).emit (.pin "PPS_OUT" false)
    else s.toDev)

/-- A write of an owned NTU register by its address (R44), with the clamps of its table. -/
def Dev.ntuWrite (d : Dev) (src : Src) (a : Nat) (v : Word) : Dev :=
  d.ntuOwned src fun d =>
    if a = NTU_INCR.addr then
      let x := NTU_INCR_INCR.get v
      let y := max 0x3FF800000 (min 0x400800000 x)
      (d.setF NTU_INCR NTU_INCR_INCR y).onlyIf (x != y) fun d => d.setF NTU_STATUS NTU_STATUS_INCR_CLAMP 1
    else if a = NTU_ADJ_NS.addr then d.wr NTU_ADJ_NS v
    else if a = NTU_ADJ_FRAC.addr then d.setF NTU_ADJ_FRAC NTU_ADJ_FRAC_FRAC (NTU_ADJ_FRAC_FRAC.get v)
    else if a = NTU_SLEW_RATE.addr then
      d.setF NTU_SLEW_RATE NTU_SLEW_RATE_RATE_PPB (max 1 (min 100000 (NTU_SLEW_RATE_RATE_PPB.get v)))
    else if a = NTU_PPS_OUT_CFG.addr then
      d.setF NTU_PPS_OUT_CFG NTU_PPS_OUT_CFG_WIDTH_US (max 1 (NTU_PPS_OUT_CFG_WIDTH_US.get v))
    else if a = NTU_PPS_OUT_OFFSET.addr then
      if NTU_PPS_OUT_OFFSET_OFFSET.get v ≤ 999999999 then
        d.setF NTU_PPS_OUT_OFFSET NTU_PPS_OUT_OFFSET_OFFSET (NTU_PPS_OUT_OFFSET_OFFSET.get v) else d
    else if a = NTU_CMD.addr then
      match NTU_CMD_OP.get v with
      | 1 => d.ntuOp (.step d.ntuAdj)
      | 2 => d.ntuOp (.slew d.ntuAdj)
      | 3 => d.ntuOp .abandon
      | _ => d
    else d

end Sys2Proof.Machine
end

