-- ==== Sys2Proof/Machine/RegTable.lean ====
section
/-! DEFINITION. The register map for whole-register accesses: every register table of spec/ with the access code (R5) of
each field; what the tables leave out of a register is reserved (R6). -/
namespace Sys2Proof.Machine

/-- The access codes of R5 (a reserved field is one no entry covers). -/
inductive Acc where
  | rw | ro | wo | w1c | w1s | rc
  deriving DecidableEq, Repr

/-- One register table: the address of its first instance, the dimensions of the array it stands for (count and stride,
the largest stride first), its width in bits, its reset value, and its fields. -/
structure RegDesc where
  base : Nat
  dims : List (Nat × Nat)
  width : Nat
  rst : Nat
  flds : List (Fld × Acc)
  deriving DecidableEq, Repr

/-- The registers of spec/01_architecture.md. -/
def regTable01 : List RegDesc := [
  ⟨0x0, [], 32, 0x32001E7A, [(GLB_IDENT_DEVICE, .ro), (GLB_IDENT_VENDOR, .ro)]⟩,
  ⟨0x4, [], 32, 0xB1, [(GLB_STEP_MAJOR, .ro), (GLB_STEP_MINOR, .ro)]⟩,
  ⟨0x10, [], 32, 0x0, [(GLB_UNMAPPED_ADDR_VALID, .w1c), (GLB_UNMAPPED_ADDR_WRITE, .ro), (GLB_UNMAPPED_ADDR_OFFSET, .ro)]⟩,
  ⟨0x14, [], 32, 0x0, [(GLB_UNMAPPED_COUNT_COUNT, .rc)]⟩]

/-- The registers of spec/02_network_time.md. -/
def regTable02 : List RegDesc := [
  ⟨0x100000, [], 64, 0x0, [(NTU_TIME_NS_NS, .ro)]⟩,
  ⟨0x100008, [], 32, 0x0, [(NTU_TIME_FRAC_FRAC, .ro)]⟩,
  ⟨0x100010, [], 32, 0x8, [(NTU_CTRL_OWNER, .rw), (NTU_CTRL_PPS_IN_EDGE, .rw), (NTU_CTRL_PPS_IN_EN, .rw), (NTU_CTRL_PPS_OUT_EN, .rw)]⟩,
  ⟨0x100018, [], 64, 0x400000000, [(NTU_INCR_INCR, .rw)]⟩,
  ⟨0x100020, [], 64, 0x0, [(NTU_ADJ_NS_NS, .rw)]⟩,
  ⟨0x100028, [], 32, 0x0, [(NTU_ADJ_FRAC_FRAC, .rw)]⟩,
  ⟨0x100030, [], 32, 0x0, [(NTU_CMD_OP, .wo)]⟩,
  ⟨0x100034, [], 32, 0xC350, [(NTU_SLEW_RATE_RATE_PPB, .rw)]⟩,
  ⟨0x100038, [], 32, 0x0, [(NTU_STATUS_FOREIGN_WRITES, .rc), (NTU_STATUS_STEP_GEN, .ro), (NTU_STATUS_STEPPED, .w1c), (NTU_STATUS_PPS_IN_SEEN, .w1c), (NTU_STATUS_INCR_CLAMP, .w1c), (NTU_STATUS_SLEWING, .ro)]⟩,
  ⟨0x100040, [], 64, 0x0, [(NTU_SLEW_REMAIN_NS, .ro)]⟩,
  ⟨0x100048, [], 64, 0x0, [(NTU_PPS_IN_NS_NS, .ro)]⟩,
  ⟨0x100050, [], 32, 0x0, [(NTU_PPS_IN_FRAC_FRAC, .ro)]⟩,
  ⟨0x100054, [], 32, 0x64, [(NTU_PPS_OUT_CFG_WIDTH_US, .rw)]⟩,
  ⟨0x100058, [], 32, 0x0, [(NTU_PPS_OUT_OFFSET_OFFSET, .rw)]⟩]

/-- The registers of spec/03_program_images.md. -/
def regTable03 : List RegDesc := [
  ⟨0xB00000, [], 32, 0x8, [(IMG_STATUS_LAST_ERROR, .ro), (IMG_STATUS_HOST_WRITES, .rc), (IMG_STATUS_LOAD_STATE, .ro), (IMG_STATUS_NO_IMAGE, .ro), (IMG_STATUS_DRAINING, .ro), (IMG_STATUS_CUR_SLOT, .ro), (IMG_STATUS_SWITCHED, .w1c)]⟩,
  ⟨0xB00004, [], 32, 0x0, [(IMG_EPOCH_OLD, .ro), (IMG_EPOCH_CUR, .ro)]⟩,
  ⟨0xB00008, [], 64, 0x0, [(IMG_SWITCH_AT_NS, .rw)]⟩,
  ⟨0xB00010, [], 64, 0x0, [(IMG_INFLIGHT_OLD, .ro), (IMG_INFLIGHT_CUR, .ro)]⟩,
  ⟨0xB00018, [], 32, 0x0, [(IMG_DRAIN_LIMIT_LIMIT_MS, .rw)]⟩,
  ⟨0xB0001C, [], 32, 0x0, [(IMG_FORCED_DROPS_COUNT, .rc)]⟩,
  ⟨0xB00020, [], 64, 0x0, [(IMG_BUILD_ID_BUILD_ID, .ro)]⟩,
  ⟨0xB00028, [], 32, 0x0, [(IMG_TREE_MEM_MIB, .ro)]⟩]

/-- The registers of spec/04_ethernet_ports.md. -/
def regTable04 : List RegDesc := [
  ⟨0x1000000, [(6, 0x1000000)], 32, 0x0, [(MAC_HALF_MODE_GROUP_B, .rw), (MAC_HALF_MODE_GROUP_A, .rw), (MAC_HALF_MODE_FULL_1T6, .rw)]⟩,
  ⟨0x1000010, [(6, 0x1000000)], 32, 0x640000, [(MAC_GROUP_SPARE_A_SER_LIMIT_K, .rw), (MAC_GROUP_SPARE_A_LANE_SEL, .rw), (MAC_GROUP_SPARE_A_SPARE_NOW, .wo), (MAC_GROUP_SPARE_A_SPARE_USED, .ro), (MAC_GROUP_SPARE_A_AUTO, .rw), (MAC_GROUP_SPARE_A_ROUTED, .rw)]⟩,
  ⟨0x1000014, [(6, 0x1000000)], 32, 0x640000, [(MAC_GROUP_SPARE_B_SER_LIMIT_K, .rw), (MAC_GROUP_SPARE_B_LANE_SEL, .rw), (MAC_GROUP_SPARE_B_SPARE_NOW, .wo), (MAC_GROUP_SPARE_B_SPARE_USED, .ro), (MAC_GROUP_SPARE_B_AUTO, .rw), (MAC_GROUP_SPARE_B_ROUTED, .rw)]⟩,
  ⟨0x1001000, [(6, 0x1000000), (8, 0x100)], 32, 0xA240000, [(MAC_PORT_CTRL_LPI_IDLE_US, .rw), (MAC_PORT_CTRL_MAX_FRAME, .rw), (MAC_PORT_CTRL_LOOPBACK, .rw), (MAC_PORT_CTRL_LPI_EN, .rw), (MAC_PORT_CTRL_ENABLE, .rw)]⟩,
  ⟨0x1001008, [(6, 0x1000000), (8, 0x100)], 32, 0x0, [(MAC_PORT_STATUS_SPARE_FAILED, .w1c), (MAC_PORT_STATUS_RX_LPI, .ro), (MAC_PORT_STATUS_TX_LPI, .ro), (MAC_PORT_STATUS_ACTING_SLICE, .ro), (MAC_PORT_STATUS_SPEED, .ro), (MAC_PORT_STATUS_SPREAD, .ro), (MAC_PORT_STATUS_STATE, .ro)]⟩,
  ⟨0x1001010, [(6, 0x1000000), (8, 0x100)], 32, 0xFA0, [(MAC_PORT_WAKE_TW_NS, .rw)]⟩,
  ⟨0x1002000, [(6, 0x1000000), (10, 0x40)], 32, 0x3, [(MAC_LANE_STATUS_AGING_WARN, .ro), (MAC_LANE_STATUS_CDR_LOCK, .ro), (MAC_LANE_STATUS_LOGICAL, .ro), (MAC_LANE_STATUS_LANE_STATE, .ro)]⟩,
  ⟨0x1003000, [(6, 0x1000000)], 32, 0x0, [(MAC_STAT_HALF_STATUS_HALF, .w1c)]⟩,
  ⟨0x1003004, [(6, 0x1000000)], 32, 0xFFFFFFFF, [(MAC_STAT_HALF_MASK_MASK, .rw)]⟩]

/-- The registers of spec/05_parser.md. -/
def regTable05 : List RegDesc := [
  ⟨0x1100000, [(6, 0x1000000)], 32, 0x0, [(PRS_STATUS_ECC_ERR, .w1c), (PRS_STATUS_SLOT1_TREE, .ro), (PRS_STATUS_SLOT0_TREE, .ro)]⟩,
  ⟨0x1100010, [(6, 0x1000000)], 32, 0x1000002, [(PRS_EXC_CFG_SNAP_LEN, .rw), (PRS_EXC_CFG_HOST_PF, .rw), (PRS_EXC_CFG_FW_EN, .rw), (PRS_EXC_CFG_HOST_EN, .rw)]⟩,
  ⟨0x1100014, [(6, 0x1000000)], 32, 0x186A0, [(PRS_EXC_HOST_RATE_RATE_FPS, .rw)]⟩,
  ⟨0x1100018, [(6, 0x1000000)], 32, 0x100, [(PRS_EXC_HOST_BURST_BURST, .rw)]⟩,
  ⟨0x110001C, [(6, 0x1000000)], 32, 0x2710, [(PRS_EXC_FW_RATE_RATE_FPS, .rw)]⟩,
  ⟨0x1100020, [(6, 0x1000000)], 32, 0x40, [(PRS_EXC_FW_BURST_BURST, .rw)]⟩,
  ⟨0x1100024, [(6, 0x1000000)], 32, 0x1000040, [(PRS_EXC_TOKENS_HOST, .ro), (PRS_EXC_TOKENS_FW, .ro)]⟩,
  ⟨0x1100028, [(6, 0x1000000)], 32, 0x0, [(PRS_ECC_LOG_VALID, .w1c), (PRS_ECC_LOG_KIND, .ro), (PRS_ECC_LOG_SLOT, .ro), (PRS_ECC_LOG_INDEX, .ro)]⟩]

/-- The registers of spec/06_classification.md. -/
def regTable06 : List RegDesc := [
  ⟨0x1200000, [(6, 0x1000000)], 32, 0x0, [(CLS_STATUS_SKIM_DONE, .w1c), (CLS_STATUS_ECC_ERR, .w1c), (CLS_STATUS_SLOT1_BODY, .ro), (CLS_STATUS_SLOT0_BODY, .ro)]⟩,
  ⟨0x1200010, [(6, 0x1000000)], 32, 0x0, [(CLS_UPD_CTRL_GO, .wo), (CLS_UPD_CTRL_PORT_FILTER, .rw), (CLS_UPD_CTRL_PORT, .rw), (CLS_UPD_CTRL_SLOT, .rw), (CLS_UPD_CTRL_TABLE, .rw), (CLS_UPD_CTRL_OP, .rw)]⟩,
  ⟨0x1200018, [(6, 0x1000000)], 64, 0x0, [(CLS_UPD_STATUS_INDEX, .rw), (CLS_UPD_STATUS_BUSY, .ro), (CLS_UPD_STATUS_RESULT, .ro)]⟩,
  ⟨0x1200020, [(6, 0x1000000), (8, 0x8)], 64, 0x0, [(CLS_UPD_DATA_DATA, .rw)]⟩,
  ⟨0x1200060, [(6, 0x1000000)], 64, 0x0, [(CLS_UPD_TREE_ADDR_PF, .rw), (CLS_UPD_TREE_ADDR_ADDR, .rw)]⟩,
  ⟨0x1200100, [(6, 0x1000000)], 64, 0x0, [(CLS_LRN_RING_BASE_ADDR, .rw)]⟩,
  ⟨0x1200108, [(6, 0x1000000)], 32, 0x6, [(CLS_LRN_RING_CFG_EN, .rw), (CLS_LRN_RING_CFG_PF, .rw), (CLS_LRN_RING_CFG_SIZE_LOG2, .rw)]⟩,
  ⟨0x120010C, [(6, 0x1000000)], 32, 0x0, [(CLS_LRN_CONS_CONS, .rw)]⟩,
  ⟨0x1200110, [(6, 0x1000000)], 32, 0x0, [(CLS_LRN_PROD_PROD, .ro)]⟩,
  ⟨0x1200200, [(6, 0x1000000)], 64, 0x0, [(CLS_SKIM_CFG_END, .rw), (CLS_SKIM_CFG_START, .rw), (CLS_SKIM_CFG_SLOT, .rw), (CLS_SKIM_CFG_TABLE, .rw), (CLS_SKIM_CFG_PF, .rw)]⟩,
  ⟨0x1200208, [(6, 0x1000000)], 64, 0x0, [(CLS_SKIM_SHADOW_ADDR, .rw)]⟩,
  ⟨0x1200210, [(6, 0x1000000)], 64, 0x0, [(CLS_SKIM_DIFF_ADDR, .rw)]⟩,
  ⟨0x1200218, [(6, 0x1000000)], 32, 0x100400, [(CLS_SKIM_CTRL_GO, .wo), (CLS_SKIM_CTRL_ABORT, .wo), (CLS_SKIM_CTRL_RATE_K, .rw), (CLS_SKIM_CTRL_DIFF_MAX, .rw)]⟩,
  ⟨0x1200220, [(6, 0x1000000)], 64, 0x0, [(CLS_SKIM_STATUS_SKIPPED_BUSY, .ro), (CLS_SKIM_STATUS_DIFFS, .ro), (CLS_SKIM_STATUS_STATE, .ro)]⟩,
  ⟨0x1200300, [(6, 0x1000000), (16, 0x4)], 32, 0x0, [(CLS_LRN_COUNT_COUNT, .ro)]⟩,
  ⟨0x1200380, [(6, 0x1000000)], 32, 0x0, [(CLS_ECC_LOG_VALID, .w1c), (CLS_ECC_LOG_LEARNED, .ro), (CLS_ECC_LOG_SLOT, .ro), (CLS_ECC_LOG_INDEX, .ro)]⟩,
  ⟨0x1200384, [(6, 0x1000000)], 32, 0x0, [(CLS_ECC_TABLE_TABLE, .ro)]⟩]

/-- The registers of spec/08_threads_channels.md. -/
def regTable08 : List RegDesc := [
  ⟨0x1800000, [(6, 0x1000000), (32, 0x1000)], 32, 0x0, [(ENG_CTRL_DBG_EN, .rw), (ENG_CTRL_COX_RESTART, .wo), (ENG_CTRL_RESET, .wo)]⟩,
  ⟨0x1800008, [(6, 0x1000000), (32, 0x1000)], 32, 0x0, [(ENG_STATUS_PHYS, .ro), (ENG_STATUS_OFFLINE, .ro), (ENG_STATUS_FAULT, .w1c), (ENG_STATUS_STALLED, .ro), (ENG_STATUS_MODE, .ro), (ENG_STATUS_CODE_SLOTS, .ro), (ENG_STATUS_MIGRATED, .w1c)]⟩,
  ⟨0x1800010, [(6, 0x1000000), (32, 0x1000)], 64, 0x0, [(ENG_STROKE_SLOTS, .ro)]⟩,
  ⟨0x1800018, [(6, 0x1000000), (32, 0x1000)], 32, 0x0, [(ENG_SWEEP_PRI, .ro)]⟩,
  ⟨0x1800020, [(6, 0x1000000), (32, 0x1000)], 32, 0x0, [(ENG_THREAD_STATE_STATES, .ro)]⟩,
  ⟨0x1800028, [(6, 0x1000000), (32, 0x1000)], 32, 0x0, [(ENG_DBG_CTRL_STEP, .wo), (ENG_DBG_CTRL_KILL, .wo), (ENG_DBG_CTRL_RESUME, .wo), (ENG_DBG_CTRL_HALT, .w1s)]⟩,
  ⟨0x1800030, [(6, 0x1000000), (32, 0x1000)], 32, 0x0, [(ENG_TDBG_SEL_ITEM, .rw), (ENG_TDBG_SEL_THREAD, .rw)]⟩,
  ⟨0x1800038, [(6, 0x1000000), (32, 0x1000)], 64, 0x0, [(ENG_TDBG_DATA_DATA, .rw)]⟩,
  ⟨0x1800100, [(6, 0x1000000), (32, 0x1000), (10, 0x8)], 64, 0x0, [(ENG_CNT_COUNT, .ro)]⟩,
  ⟨0x1A00000, [(6, 0x1000000)], 32, 0x0, [(ENG_SPARE_CFG_GO, .wo), (ENG_SPARE_CFG_POSITION, .rw), (ENG_SPARE_CFG_AUTO, .rw)]⟩,
  ⟨0x1A00008, [(6, 0x1000000)], 32, 0x0, [(ENG_SPARE_STATUS_ABORTED, .w1c), (ENG_SPARE_STATUS_DONE, .w1c), (ENG_SPARE_STATUS_POSITION_B, .ro), (ENG_SPARE_STATUS_STATE_B, .ro), (ENG_SPARE_STATUS_POSITION_A, .ro), (ENG_SPARE_STATUS_STATE_A, .ro)]⟩,
  ⟨0x1A10000, [(6, 0x1000000), (256, 0x8)], 64, 0x0, [(ENG_DSP_COUNT_COUNT, .ro)]⟩,
  ⟨0x1A10800, [(6, 0x1000000), (256, 0x8)], 64, 0x0, [(ENG_DSP_FULL_COUNT, .ro)]⟩,
  ⟨0x1A11000, [(6, 0x1000000)], 64, 0x0, [(ENG_DSP_NO_GROUP_COUNT, .ro)]⟩]

/-- The registers of spec/09_scratchpads_banks.md. -/
def regTable09 : List RegDesc := [
  ⟨0x1A20000, [(6, 0x1000000), (32, 0x8)], 32, 0x0, [(ENG_BANK_HANDOVER_KIND, .wo), (ENG_BANK_HANDOVER_ID, .wo)]⟩,
  ⟨0x1A20004, [(6, 0x1000000), (32, 0x8)], 32, 0x0, [(ENG_BANK_STATUS_DRAINING, .ro), (ENG_BANK_STATUS_REFUSED, .w1c), (ENG_BANK_STATUS_DISCARDED_WRITES, .rc), (ENG_BANK_STATUS_PEND_KIND, .ro), (ENG_BANK_STATUS_PEND_ID, .ro), (ENG_BANK_STATUS_KIND, .ro), (ENG_BANK_STATUS_ID, .ro)]⟩,
  ⟨0x1A20100, [(6, 0x1000000), (2, 0x8)], 64, 0x0, [(ENG_BANK_DENIED_COUNT, .ro)]⟩]

/-- The registers of spec/10_traffic_manager.md. -/
def regTable10 : List RegDesc := [
  ⟨0x1400000, [(6, 0x1000000)], 32, 0x0, [(TMG_STATUS_OVF_REFUSED, .w1c), (TMG_STATUS_OVF_ECC, .w1c), (TMG_STATUS_OVF_FULL, .w1c), (TMG_STATUS_SLOT1_GATES, .ro), (TMG_STATUS_SLOT0_GATES, .ro), (TMG_STATUS_SLOT1_TREE, .ro), (TMG_STATUS_SLOT0_TREE, .ro)]⟩,
  ⟨0x1400008, [(6, 0x1000000)], 64, 0x0, [(TMG_BUF_STATUS_HELD, .ro), (TMG_BUF_STATUS_STORED, .ro)]⟩,
  ⟨0x1400010, [(6, 0x1000000)], 64, 0x0, [(TMG_OVF_BASE_ADDR, .rw)]⟩,
  ⟨0x1400018, [(6, 0x1000000)], 32, 0x0, [(TMG_OVF_SIZE_MIB, .rw)]⟩,
  ⟨0x1400020, [(6, 0x1000000)], 64, 0x0, [(TMG_OVF_USED_BYTES, .ro)]⟩,
  ⟨0x1400100, [(6, 0x1000000)], 32, 0x0, [(TMG_QSEL_VALID, .ro), (TMG_QSEL_QUEUE, .rw)]⟩,
  ⟨0x1400108, [(6, 0x1000000)], 64, 0x0, [(TMG_QDATA0_FRAMES, .ro), (TMG_QDATA0_ONCHIP, .ro)]⟩,
  ⟨0x1400110, [(6, 0x1000000)], 64, 0x0, [(TMG_QDATA1_DRAM, .ro)]⟩,
  ⟨0x1400118, [(6, 0x1000000)], 64, 0x0, [(TMG_QDATA2_TAIL_DROPS, .ro)]⟩,
  ⟨0x1400120, [(6, 0x1000000)], 64, 0x0, [(TMG_QDATA3_TOKENS, .ro), (TMG_QDATA3_DEFICIT, .ro)]⟩,
  ⟨0x1400200, [(6, 0x1000000)], 32, 0x0, [(TMG_PSEL_VALID, .ro), (TMG_PSEL_SLOT, .rw), (TMG_PSEL_POLICER, .rw)]⟩,
  ⟨0x1400208, [(6, 0x1000000)], 64, 0x0, [(TMG_PDATA0_COUNT, .ro)]⟩,
  ⟨0x1400210, [(6, 0x1000000)], 64, 0x0, [(TMG_PDATA1_COUNT, .ro)]⟩,
  ⟨0x1401000, [(6, 0x1000000), (16, 0x10)], 64, 0xFF, [(TMG_GATE_STATUS_HEAT, .ro), (TMG_GATE_STATUS_ENTRY, .ro), (TMG_GATE_STATUS_LIST, .ro), (TMG_GATE_STATUS_STATES, .ro)]⟩]

/-- The registers of spec/11_cipher_keys.md. -/
def regTable11 : List RegDesc := [
  ⟨0x600000, [], 32, 0x0, [(KEY_CTRL_PF_MASK, .rw), (KEY_CTRL_SECURE_ONLY, .rw)]⟩,
  ⟨0x600008, [], 64, 0x0, [(KEY_STORE_BASE_ADDR, .rw)]⟩,
  ⟨0x600010, [], 32, 0x3E8, [(KEY_LEASE_CFG_TTL_MS, .rw)]⟩,
  ⟨0x600018, [], 64, 0x0, [(KEY_STATUS_PINNED, .ro), (KEY_STATUS_DENIED, .rc), (KEY_STATUS_CORRUPT, .w1c), (KEY_STATUS_READY, .ro)]⟩,
  ⟨0x600020, [], 32, 0x0, [(KEY_CMD_GO, .wo), (KEY_CMD_OP, .wo), (KEY_CMD_SLOT, .wo)]⟩,
  ⟨0x600024, [], 32, 0x0, [(KEY_CMD_STATUS_BUSY, .ro), (KEY_CMD_STATUS_RESULT, .ro)]⟩,
  ⟨0x600030, [], 64, 0xFFFF00700000, [(KEY_INST_ATTR_OWNER_TF, .rw), (KEY_INST_ATTR_REASON, .rw), (KEY_INST_ATTR_SLICE_BIND, .rw), (KEY_INST_ATTR_POLICY, .rw), (KEY_INST_ATTR_ESN, .rw), (KEY_INST_ATTR_AN, .rw), (KEY_INST_ATTR_DIR, .rw), (KEY_INST_ATTR_PROTO, .rw), (KEY_INST_ATTR_ALG, .rw)]⟩,
  ⟨0x600038, [], 64, 0x0, [(KEY_INST_LIMIT_LIMIT, .rw)]⟩,
  ⟨0x600040, [], 64, 0x0, [(KEY_INST_PARAM_PARAM, .rw)]⟩,
  ⟨0x600048, [], 64, 0x0, [(KEY_INST_SALT0_SALT_LO, .wo)]⟩,
  ⟨0x600050, [], 64, 0x0, [(KEY_INST_SALT1_SSCI, .wo), (KEY_INST_SALT1_SALT_HI, .wo)]⟩,
  ⟨0x600060, [(8, 0x8)], 64, 0x0, [(KEY_INST_KEY_KEY, .wo)]⟩,
  ⟨0x600100, [], 32, 0x0, [(KEY_SLOT_SEL_VALID, .ro), (KEY_SLOT_SEL_SLOT, .rw)]⟩,
  ⟨0x600108, [], 64, 0x0, [(KEY_SLOT_DATA0_OWNER_TF, .ro), (KEY_SLOT_DATA0_LEASES, .ro), (KEY_SLOT_DATA0_RETURNED, .ro), (KEY_SLOT_DATA0_ATTR, .ro)]⟩,
  ⟨0x600110, [], 64, 0x0, [(KEY_SLOT_DATA1_LIMIT, .ro)]⟩,
  ⟨0x600118, [], 64, 0x0, [(KEY_SLOT_DATA2_NEXT, .ro)]⟩,
  ⟨0x600120, [], 64, 0x0, [(KEY_SLOT_DATA3_STRANDED, .ro), (KEY_SLOT_DATA3_STATE, .ro)]⟩,
  ⟨0x1600000, [(6, 0x1000000)], 32, 0x0, [(CPH_STATUS_LEASES, .ro), (CPH_STATUS_FAULT, .w1c)]⟩,
  ⟨0x1600008, [(6, 0x1000000)], 32, 0x0, [(CPH_FAULT_LOG_VALID, .w1c), (CPH_FAULT_LOG_OPCODE, .ro), (CPH_FAULT_LOG_SLOT, .ro)]⟩]

/-- The registers of spec/12_storage_compression.md. -/
def regTable12 : List RegDesc := [
  ⟨0x1700000, [(6, 0x1000000)], 32, 0x0, [(CMP_STATUS_ECC_ERR, .w1c), (CMP_STATUS_FAULT, .w1c)]⟩,
  ⟨0x1700008, [(6, 0x1000000)], 64, 0x0, [(CMP_QUEUE_STREAM, .ro), (CMP_QUEUE_DECOMP, .ro), (CMP_QUEUE_COMP, .ro)]⟩,
  ⟨0x1700010, [(6, 0x1000000)], 32, 0x0, [(CMP_FAULT_LOG_VALID, .w1c), (CMP_FAULT_LOG_OPCODE, .ro), (CMP_FAULT_LOG_KIND, .ro), (CMP_FAULT_LOG_POSITION, .ro), (CMP_FAULT_LOG_THREAD, .ro)]⟩]

/-- The registers of spec/13_host_interface.md. -/
def regTable13 : List RegDesc := [
  ⟨0x200000, [(4, 0x1000)], 32, 0x20000, [(HIF_LINK_STATUS_CAUSE, .ro), (HIF_LINK_STATUS_FROZEN, .ro), (HIF_LINK_STATUS_QUIESCED, .ro), (HIF_LINK_STATUS_BME, .ro), (HIF_LINK_STATUS_CXL_CM, .ro), (HIF_LINK_STATUS_FLIT, .ro), (HIF_LINK_STATUS_WIDTH, .ro), (HIF_LINK_STATUS_SPEED, .ro), (HIF_LINK_STATUS_PRESENT, .ro), (HIF_LINK_STATUS_LINK_UP, .ro), (HIF_LINK_STATUS_BIFURCATED, .ro), (HIF_LINK_STATUS_MODE, .ro)]⟩,
  ⟨0x200008, [(4, 0x1000)], 32, 0x0, [(HIF_LINK_CTL_CTO_FREEZE, .rw), (HIF_LINK_CTL_FREEZE_NOW, .wo)]⟩,
  ⟨0x200010, [(4, 0x1000)], 32, 0x2710, [(HIF_CTO_US, .rw)]⟩,
  ⟨0x200018, [(4, 0x1000)], 32, 0x0, [(HIF_RELEASE_GO, .wo)]⟩,
  ⟨0x200020, [(4, 0x1000)], 32, 0x0, [(HIF_FREEZE_LOG_VALID, .w1c), (HIF_FREEZE_LOG_REFUSED, .w1c), (HIF_FREEZE_LOG_LAST_CAUSE, .ro), (HIF_FREEZE_LOG_TRIGGERS, .rc)]⟩,
  ⟨0x200028, [(4, 0x1000)], 64, 0x0, [(HIF_FREEZE_TIME_NS, .ro)]⟩,
  ⟨0x200030, [(4, 0x1000)], 64, 0x0, [(HIF_OUTSTANDING_QUARANTINED, .ro), (HIF_OUTSTANDING_OUTSTANDING, .ro)]⟩,
  ⟨0x208000, [(11, 0x4)], 32, 0x80000000, [(HIF_INT_ROUTE_DEST, .rw), (HIF_INT_ROUTE_PF, .rw), (HIF_INT_ROUTE_VECTOR, .rw)]⟩,
  ⟨0x208040, [(2, 0x4)], 32, 0x80000000, [(HIF_INT_ROUTE_DEST, .rw), (HIF_INT_ROUTE_PF, .rw), (HIF_INT_ROUTE_VECTOR, .rw)]⟩,
  ⟨0x208080, [(6, 0x20), (6, 0x4)], 32, 0x80000000, [(HIF_INT_ROUTE_DEST, .rw), (HIF_INT_ROUTE_PF, .rw), (HIF_INT_ROUTE_VECTOR, .rw)]⟩,
  ⟨0x209000, [], 32, 0x0, [(HIF_EVENT_LINK_UP, .w1c), (HIF_EVENT_QUIESCED, .w1c), (HIF_EVENT_FROZE, .w1c)]⟩]

/-- The registers of spec/14_rings_tenants.md. -/
def regTable14 : List RegDesc := [
  ⟨0x300000, [], 32, 0x0, [(RGM_EVENT_MEDIATE, .ro), (RGM_EVENT_RESET_DONE, .w1c), (RGM_EVENT_RING_ERROR, .w1c)]⟩,
  ⟨0x300008, [], 32, 0x0, [(RGM_MEDIATOR_PF_MASK, .rw)]⟩,
  ⟨0x300100, [(4, 0x100)], 32, 0x0, [(RGM_RING_SEL_VALID, .ro), (RGM_RING_SEL_RING, .rw)]⟩,
  ⟨0x300108, [(4, 0x100)], 64, 0x0, [(RGM_RING_BASE_ADDR, .rw)]⟩,
  ⟨0x300110, [(4, 0x100)], 64, 0x0, [(RGM_RING_PUB_ADDR, .rw)]⟩,
  ⟨0x300118, [(4, 0x100)], 64, 0x0, [(RGM_RING_CFG_COHERENT, .rw), (RGM_RING_CFG_RO_DEFAULT, .rw), (RGM_RING_CFG_PREFETCH_LINES, .rw), (RGM_RING_CFG_EV_EN, .rw), (RGM_RING_CFG_EV_RING, .rw), (RGM_RING_CFG_KIND, .rw), (RGM_RING_CFG_SIZE_LOG2, .rw), (RGM_RING_CFG_BUF_KIB, .rw)]⟩,
  ⟨0x300120, [(4, 0x100)], 64, 0x100000000, [(RGM_RING_MOD_MOD_COUNT, .rw), (RGM_RING_MOD_MOD_TIME, .rw), (RGM_RING_MOD_VECTOR, .rw)]⟩,
  ⟨0x300128, [(4, 0x100)], 64, 0x0, [(RGM_RING_STATE_HEAD, .ro), (RGM_RING_STATE_PROD, .ro), (RGM_RING_STATE_ERR_INDEX, .ro), (RGM_RING_STATE_ERR_REASON, .ro), (RGM_RING_STATE_STATE, .ro)]⟩,
  ⟨0x300130, [(4, 0x100)], 32, 0x0, [(RGM_RING_CMD_GO, .wo), (RGM_RING_CMD_OP, .wo), (RGM_RING_CMD_START, .wo)]⟩,
  ⟨0x300134, [(4, 0x100)], 32, 0x0, [(RGM_RING_CMD_STATUS_BUSY, .ro), (RGM_RING_CMD_STATUS_RESULT, .ro)]⟩,
  ⟨0x300140, [(4, 0x100)], 32, 0x0, [(RGM_MSG_SEL_ENTRY, .rw)]⟩,
  ⟨0x300148, [(4, 0x100)], 64, 0x0, [(RGM_MSG_ADDR_ADDR, .rw)]⟩,
  ⟨0x300150, [(4, 0x100)], 32, 0x0, [(RGM_MSG_DATA_DATA, .rw)]⟩,
  ⟨0x300154, [(4, 0x100)], 32, 0x1, [(RGM_MSG_CTL_PENDING, .ro), (RGM_MSG_CTL_MASK, .rw)]⟩,
  ⟨0x300158, [(4, 0x100)], 32, 0x0, [(RGM_MED_NOTIFY_GO, .wo), (RGM_MED_NOTIFY_TF, .wo)]⟩,
  ⟨0x301000, [(64, 0x8)], 64, 0x0, [(RGM_MED_PENDING_PENDING, .w1c)]⟩,
  ⟨0x310000, [(4100, 0x20)], 64, 0x0, [(RGM_FUNC_CTL_PASID, .rw), (RGM_FUNC_CTL_PF, .rw), (RGM_FUNC_CTL_RING_COUNT, .rw), (RGM_FUNC_CTL_RING_BASE, .rw), (RGM_FUNC_CTL_RESET, .wo), (RGM_FUNC_CTL_ENABLE, .rw), (RGM_FUNC_CTL_ASSIGNED, .rw)]⟩,
  ⟨0x310008, [(4100, 0x20)], 32, 0x0, [(RGM_FUNC_MSG_MSG_BASE, .rw), (RGM_FUNC_MSG_MSG_COUNT, .rw)]⟩,
  ⟨0x31000C, [(4100, 0x20)], 32, 0x0, [(RGM_FUNC_STATUS_STATE, .ro), (RGM_FUNC_STATUS_REFUSED, .w1c), (RGM_FUNC_STATUS_DOORBELL_DROPS, .rc)]⟩]

/-- The registers of spec/15_dma_memory.md. -/
def regTable15 : List RegDesc := [
  ⟨0x400000, [(64, 0x100)], 32, 0x0, [(DMA_CH_CFG_PACE_EN, .rw), (DMA_CH_CFG_PACE_ROLE, .rw), (DMA_CH_CFG_PACE_FIFO, .rw), (DMA_CH_CFG_BIND_ID, .rw), (DMA_CH_CFG_BIND_KIND, .rw)]⟩,
  ⟨0x400004, [(64, 0x100)], 32, 0x0, [(DMA_CH_CTRL_ABORT, .wo), (DMA_CH_CTRL_GO, .wo)]⟩,
  ⟨0x400008, [(64, 0x100)], 64, 0x0, [(DMA_CH_STATUS_LAST_RESULT, .ro), (DMA_CH_STATUS_QUEUED, .ro), (DMA_CH_STATUS_STATE, .ro)]⟩,
  ⟨0x400040, [(64, 0x100), (8, 0x8)], 64, 0x0, [(DMA_CH_DESC_DATA, .rw)]⟩,
  ⟨0x408000, [(16, 0x20)], 64, 0x0, [(DMA_FIFO_LEVEL_BYTES, .ro)]⟩,
  ⟨0x408008, [(16, 0x20)], 64, 0x0, [(DMA_FIFO_MARKS_HIGH, .rw), (DMA_FIFO_MARKS_LOW, .rw)]⟩,
  ⟨0x408010, [(16, 0x20)], 64, 0x0, [(DMA_FIFO_ADJ_DELTA, .wo)]⟩,
  ⟨0x409000, [], 64, 0x0, [(DMA_EVENT_DONE, .w1c)]⟩,
  ⟨0x40A000, [(64, 0x8)], 64, 0x0, [(DMA_CNT_COUNT, .ro)]⟩,
  ⟨0x500000, [], 32, 0x0, [(MEM_POP_SPEED_MTS, .rw), (MEM_POP_CH_GIB, .rw), (MEM_POP_SETS, .rw)]⟩,
  ⟨0x500004, [], 32, 0x50, [(MEM_GEOM_ROW_BITS, .rw), (MEM_GEOM_RANK_BITS, .rw), (MEM_GEOM_BANK_BITS, .ro), (MEM_GEOM_COL_BITS, .rw)]⟩,
  ⟨0x500008, [], 32, 0x0, [(MEM_MAP_MAP_REFUSED, .w1c), (MEM_MAP_ORDER_2, .rw), (MEM_MAP_ORDER_1, .rw), (MEM_MAP_ORDER_0, .rw)]⟩,
  ⟨0x50000C, [], 32, 0x1800, [(MEM_REFRESH_SCRUB_H, .rw), (MEM_REFRESH_REFRESH_2X, .rw)]⟩,
  ⟨0x500010, [], 32, 0x64000, [(MEM_PWR_SR_IDLE_US, .rw), (MEM_PWR_SR_STATE, .ro), (MEM_PWR_SR_EN, .rw)]⟩,
  ⟨0x500018, [], 32, 0x100000, [(MEM_PPR_CE_LIMIT, .rw), (MEM_PPR_HARD_EN, .rw), (MEM_PPR_AUTO, .rw)]⟩,
  ⟨0x500100, [(12, 0x4)], 32, 0x0, [(MEM_PPR_STATUS_HARD_LEFT, .ro), (MEM_PPR_STATUS_HARD_DONE, .ro), (MEM_PPR_STATUS_SOFT_ACTIVE, .ro)]⟩,
  ⟨0x500020, [], 64, 0x0, [(MEM_ECC_LOG_VALID, .w1c), (MEM_ECC_LOG_UNCORRECTABLE, .ro), (MEM_ECC_LOG_CHANNEL, .ro), (MEM_ECC_LOG_ADDR, .ro)]⟩,
  ⟨0x500028, [], 32, 0x0, [(MEM_EVENT_PPR_DONE, .w1c), (MEM_EVENT_CXL_REFUSED, .w1c), (MEM_EVENT_SEALED_MISS, .w1c), (MEM_EVENT_ECC_UE, .w1c)]⟩,
  ⟨0x508000, [(6144, 0x4)], 32, 0x0, [(MEM_GRANULE_PENDING, .ro), (MEM_GRANULE_CLASS, .rw), (MEM_GRANULE_TF, .rw)]⟩]

/-- The registers of spec/16_metering_telemetry.md. -/
def regTable16 : List RegDesc := [
  ⟨0x700000, [], 32, 0x0, [(MTR_STATUS_BACKLOG, .ro), (MTR_STATUS_MERGING, .ro), (MTR_STATUS_SIGN_WAIT, .ro), (MTR_STATUS_CLOSED, .w1c), (MTR_STATUS_BUF_FULL, .w1c)]⟩,
  ⟨0x700008, [], 64, 0x0, [(MTR_EPOCH_START_NS, .ro)]⟩,
  ⟨0x700010, [], 32, 0x3C, [(MTR_EPOCH_CFG_PEND_S, .ro), (MTR_EPOCH_CFG_LENGTH_S, .ro)]⟩,
  ⟨0x700018, [], 64, 0x0, [(MTR_BUF_MIB, .ro), (MTR_BUF_BASE, .ro)]⟩,
  ⟨0x700020, [], 64, 0x0, [(MTR_RING_BASE_ADDR, .rw)]⟩,
  ⟨0x700028, [], 32, 0xD, [(MTR_RING_CFG_EN, .rw), (MTR_RING_CFG_PF, .rw), (MTR_RING_CFG_SIZE_LOG2, .rw)]⟩,
  ⟨0x70002C, [], 32, 0x0, [(MTR_RING_CONS_CONS, .rw)]⟩,
  ⟨0x700030, [], 32, 0x0, [(MTR_RING_PROD_PROD, .ro)]⟩,
  ⟨0x700100, [], 32, 0x0, [(MTR_LIVE_SEL_VALID, .ro), (MTR_LIVE_SEL_TF, .rw)]⟩,
  ⟨0x700108, [(9, 0x8)], 64, 0x0, [(MTR_LIVE_DATA_COUNT, .ro)]⟩,
  ⟨0x701000, [(6, 0x100)], 32, 0x0, [(MTR_SK_CFG_EN, .rw), (MTR_SK_CFG_UNIT, .rw)]⟩,
  ⟨0x701008, [(6, 0x100), (6, 0x8)], 64, 0x0, [(MTR_SK_KEY_KEY, .rw)]⟩,
  ⟨0x701038, [(6, 0x100)], 32, 0x0, [(MTR_SK_QUERY_GO, .wo), (MTR_SK_QUERY_VALID, .ro), (MTR_SK_QUERY_BANK, .rw)]⟩,
  ⟨0x701040, [(6, 0x100)], 64, 0x0, [(MTR_SK_EST_EST, .ro)]⟩,
  ⟨0x701048, [(6, 0x100)], 64, 0x0, [(MTR_SK_TOTAL_N, .ro)]⟩,
  ⟨0x702000, [(6, 0x100)], 64, 0x0, [(MTR_FR_BASE_ADDR, .rw)]⟩,
  ⟨0x702008, [(6, 0x100)], 32, 0x6, [(MTR_FR_CFG_EN, .rw), (MTR_FR_CFG_PF, .rw), (MTR_FR_CFG_SIZE_LOG2, .rw)]⟩,
  ⟨0x70200C, [(6, 0x100)], 32, 0x0, [(MTR_FR_CONS_CONS, .rw)]⟩,
  ⟨0x702010, [(6, 0x100)], 32, 0x0, [(MTR_FR_PROD_PROD, .ro)]⟩]

/-- The registers of spec/17_management_security.md. -/
def regTable17 : List RegDesc := [
  ⟨0x800000, [], 32, 0x0, [(MBX_BOOT_STATUS_PHASE, .ro), (MBX_BOOT_STATUS_TEST, .ro), (MBX_BOOT_STATUS_RESTARTS, .ro), (MBX_BOOT_STATUS_ERROR, .ro)]⟩,
  ⟨0x800004, [], 32, 0x0, [(MBX_LIFECYCLE_STATE, .ro)]⟩,
  ⟨0x800008, [], 32, 0x0, [(MBX_FUSE_ULYAR_MIN, .ro), (MBX_FUSE_IMAGE_MIN, .ro), (MBX_FUSE_REVOKED, .ro)]⟩,
  ⟨0x80000C, [], 32, 0x0, [(MBX_POLICY_NS_IMAGE, .rw)]⟩,
  ⟨0x800010, [], 32, 0x0, [(MBX_EVENT_RX_READY, .w1c), (MBX_EVENT_TX_EMPTY, .w1c)]⟩,
  ⟨0x800014, [], 32, 0x0, [(MBX_NS_DENIED_COUNT, .rc)]⟩,
  ⟨0x100000000, [(6, 0x1000)], 32, 0x0, [(MBX_TX_DATA_WORD, .wo)]⟩,
  ⟨0x100000004, [(6, 0x1000)], 32, 0x0, [(MBX_RX_DATA_WORD, .ro)]⟩,
  ⟨0x100000008, [(6, 0x1000)], 32, 0x2000, [(MBX_CH_STATUS_RX_COUNT, .ro), (MBX_CH_STATUS_TX_FREE, .ro), (MBX_CH_STATUS_UNDERRUN, .w1c), (MBX_CH_STATUS_OVERRUN, .w1c), (MBX_CH_STATUS_RX_READY, .w1c), (MBX_CH_STATUS_TX_EMPTY, .w1c)]⟩,
  ⟨0x10000000C, [(6, 0x1000)], 32, 0x0, [(MBX_CH_CTRL_ABORT, .wo), (MBX_CH_CTRL_IE_RX, .rw), (MBX_CH_CTRL_IE_TX, .rw)]⟩,
  ⟨0x100000010, [(6, 0x1000)], 32, 0x0, [(MBX_CH_ROUTE_EN, .rw), (MBX_CH_ROUTE_PF, .rw), (MBX_CH_ROUTE_VECTOR, .rw)]⟩]

/-- The registers of spec/18_reliability.md. -/
def regTable18 : List RegDesc := [
  ⟨0x900000, [], 32, 0x0, [(RAS_STATUS_RECORDS, .ro), (RAS_STATUS_OVERFLOW, .w1c), (RAS_STATUS_NEW, .w1c)]⟩,
  ⟨0x900008, [], 32, 0x3E80100, [(RAS_STORM_CFG_WINDOW_MS, .rw), (RAS_STORM_CFG_THRESHOLD, .rw)]⟩,
  ⟨0x900010, [], 64, 0x4E20000000100018, [(RAS_SRAM_CFG_WARN_PPM, .rw), (RAS_SRAM_CFG_CE_LIMIT, .rw), (RAS_SRAM_CFG_SCRUB_H, .rw)]⟩,
  ⟨0x900018, [], 32, 0x0, [(RAS_LOST_COUNT, .rc)]⟩,
  ⟨0x900100, [], 32, 0x0, [(RAS_REC_SEL_VALID, .ro), (RAS_REC_SEL_CLEAR, .wo), (RAS_REC_SEL_INDEX, .rw)]⟩,
  ⟨0x900108, [], 64, 0x0, [(RAS_REC_DATA0_FIRST_NS, .ro)]⟩,
  ⟨0x900110, [], 64, 0x0, [(RAS_REC_DATA1_DETAIL, .ro)]⟩,
  ⟨0x900118, [], 64, 0x0, [(RAS_REC_DATA2_ID, .ro), (RAS_REC_DATA2_COUNT, .ro), (RAS_REC_DATA2_WINDOW_COUNT, .ro), (RAS_REC_DATA2_KIND, .ro), (RAS_REC_DATA2_STORM, .ro)]⟩,
  ⟨0x900120, [], 64, 0x0, [(RAS_REC_DATA3_SLICE, .ro), (RAS_REC_DATA3_POSITION, .ro), (RAS_REC_DATA3_THREAD, .ro), (RAS_REC_DATA3_CODE, .ro)]⟩,
  ⟨0x901000, [(1024, 0x4)], 32, 0x0, [(RAS_BIST_STATE_RESULT, .ro), (RAS_BIST_STATE_FIRST_BAD, .ro)]⟩,
  ⟨0x902000, [(1024, 0x8)], 64, 0x0, [(RAS_BIST_SIG_SIG, .ro)]⟩,
  ⟨0x904000, [(236, 0x4)], 32, 0x0, [(RAS_AGING_WARN, .ro), (RAS_AGING_DRIFT_PPM, .ro)]⟩]

/-- The registers of spec/19_power_reset_boot.md. -/
def regTable19 : List RegDesc := [
  ⟨0xA00000, [], 32, 0x0, [(PWR_CMD_TARGET, .rw)]⟩,
  ⟨0xA00004, [], 32, 0x1, [(PWR_ALLOW_ALLOW, .rw), (PWR_ALLOW_FULL, .ro)]⟩,
  ⟨0xA00008, [], 32, 0x7, [(PWR_HALF_SLICES_MASK, .rw)]⟩,
  ⟨0xA00010, [], 64, 0x0, [(PWR_ENVELOPE_CAP_W, .rw), (PWR_ENVELOPE_LATENCY_NS, .rw), (PWR_ENVELOPE_CLK_GATE, .rw), (PWR_ENVELOPE_DRAM_SR, .rw), (PWR_ENVELOPE_IDLE_STEP, .rw)]⟩,
  ⟨0xA00018, [], 32, 0x3F0000, [(PWR_STATUS_SLICES, .ro), (PWR_STATUS_CHANGED, .w1c), (PWR_STATUS_REFUSED, .w1c), (PWR_STATUS_CAP_EXCEEDED, .w1c), (PWR_STATUS_EASY_WAIT, .ro), (PWR_STATUS_IN_TRANSITION, .ro), (PWR_STATUS_IMPLIED, .ro), (PWR_STATUS_STATE, .ro)]⟩,
  ⟨0xA00020, [], 32, 0x0, [(PWR_MEASURE_MAX_DW, .rc), (PWR_MEASURE_AVG_DW, .ro)]⟩,
  ⟨0xA00028, [], 32, 0x0, [(PWR_RESET_WARM, .wo), (PWR_RESET_SLICE, .wo)]⟩,
  ⟨0xA0002C, [], 32, 0x0, [(PWR_RESET_STATUS_WARM_DONE, .w1c), (PWR_RESET_STATUS_SLICE_BUSY, .ro), (PWR_RESET_STATUS_SLICE_DONE, .w1c)]⟩]

/-- Every register of the part. -/
def regTable : List RegDesc :=
  regTable01 ++ regTable02 ++ regTable03 ++ regTable04 ++ regTable05 ++ regTable06 ++ regTable08 ++ regTable09 ++ regTable10 ++ regTable11 ++ regTable12 ++ regTable13 ++ regTable14 ++ regTable15 ++ regTable16 ++ regTable17 ++ regTable18 ++ regTable19

/-- The offset into an array with these dimensions that lies at or below `d`, when an instance begins there. -/
def instanceAt : List (Nat × Nat) → Nat → Option Nat
  | [], d => if d < 8 then some 0 else none
  | (n, st) :: ds, d => if d / st < n then (instanceAt ds (d % st)).map (· + d / st * st) else none

/-- The register table and the first byte of the instance that covers address `a`, if any. -/
def regAt (a : Nat) : Option (RegDesc × Nat) :=
  regTable.findSome? fun d =>
    if a < d.base then none
    else (instanceAt d.dims (a - d.base)).bind fun o =>
      if a < d.base + o + d.width / 8 then some (d, d.base + o) else none

end Sys2Proof.Machine
end

