-- ==== Sys2Proof/Machine/RegPlace.lean ====
section
/-! DEFINITION. What stands at an address of the register file: registers, statistics counters and their read-and-clear
aliases, the capability ROM, the MSI-X structures, doorbell slots (00 R4; 01 R36 to R38; 04 R98; 13 R347 to R351, R361; 14 R383). -/
namespace Sys2Proof.Machine

/-- What covers a byte of the register file. -/
inductive RegPlace where
  /-- A register, by its table and the address of its first byte. -/
  | reg (r : RegDesc) (a : Nat)
  /-- A statistics counter, by its plain address, reached there or at its alias. -/
  | cnt (a : Nat) (alt : Bool)
  /-- A byte of the capability ROM. -/
  | rom (off : Nat)
  /-- A dword of the MSI-X table: entry and dword 0 to 3. -/
  | msix (ent dw : Nat)
  /-- 64 bits of the pending bit array. -/
  | pba (n : Nat)
  /-- A doorbell slot or MEDIATE, by its byte offset in BAR2 (`own` false) or in the PF ring pages. -/
  | slot (own : Bool) (off : Nat)
  | none
  deriving DecidableEq, Repr

/-- The statistics counters: the first, and the dimensions of their array (04 R97; 05 R121, R122; 06 R163; 08 R222, R224; 09; 10 R286; 11 R313; 12 R338; 13 R376; 14 R409; 15 R438, R439; 16 R453). -/
def counterTable : List (Nat × List (Nat × Nat)) :=
  let sl : Nat × Nat := (6, 0x1000000)
  [(0x1010000, [sl, (8, 0x400), (16, 8)]), (0x1010100, [sl, (8, 0x400), (9, 8)]), (0x1010200, [sl, (8, 0x400), (17, 8)]), (0x1010300, [sl, (8, 0x400), (6, 8)]),
   (0x1110000, [sl, (13, 8)]), (0x1110100, [sl, (64, 8)]), (0x1210000, [sl, (20, 8)]), (0x1410000, [sl, (14, 8)]), (0x1610000, [sl, (12, 8)]), (0x1710000, [sl, (15, 8)]),
   (0x1800100, [sl, (32, 0x1000), (10, 8)]), (0x1A10000, [sl, (256, 8)]), (0x1A10800, [sl, (256, 8)]), (0x1A11000, [sl, (1, 8)]), (0x1A20100, [sl, (2, 8)]),
   (0x200100, [(4, 0x1000), (9, 8)]), (0x302000, [(15, 8)]), (0x40A000, [(64, 8)]), (0x504000, [(27, 8)]), (0x704000, [(10, 8)])]

/-- The counter whose 8 bytes at its plain address cover `a`. -/
def counterAt (a : Nat) : Option Nat :=
  counterTable.findSome? fun x => if a < x.1 then none else (instanceAt x.2 (a - x.1)).map (x.1 + ·)

/-- The bytes of the capability ROM (13 R352). -/
def romLen : Nat := 8560

/-- What covers byte `a`. Counters stand before the register tables that list them too. -/
def placeAt (a : Nat) : RegPlace :=
  if 2 ^ 33 ≤ a then
    let o := a - 2 ^ 33
    if o < 2 ^ 24 && decide (o % 4096 < 0x808) then .slot false (o / 8 * 8) else .none
  else if 2 ^ 32 + 0x3F00000 ≤ a then
    let o := a - 2 ^ 32
    if o < 0x3F08000 then .msix ((o - 0x3F00000) / 16) (o / 4 % 4)
    else if 0x3F80000 ≤ o && decide (o < 0x3F80100) then .pba ((o - 0x3F80000) / 8)
    else .none
  else if 2 ^ 32 + 0x100000 ≤ a then
    let o := a - (2 ^ 32 + 0x100000)
    if o < 16 * 4096 && decide (o % 4096 < 0x800) then .slot true (o / 8 * 8) else .none
  else match counterAt a with
    | some c => .cnt c false
    | none => match (if a < 0x80000 then Option.none else counterAt (a - 0x80000)) with
      | some c => .cnt c true
      | none => match regAt a with
        | some x => .reg x.1 x.2
        | none => if 0x1000 ≤ a && decide (a < 0x1000 + romLen) then .rom (a - 0x1000) else .none

/-- The address a die-level MAC register is kept under: that of the die's first slice (04: the three slices of a die show one set). -/
def canonAddr (a : Nat) : Nat :=
  match sliceAt a with
  | some s => if a % 0x1000000 < 0x100000 then (s / 3 * 3 + 1) * 0x1000000 + a % 0x1000000 else a
  | none => a

/-- The first byte, in the window that `a` lies in, of what is kept from address `b` and covers `a`. -/
def firstByte (a b : Nat) : Nat := a - (canonAddr a - b)

/-- The first byte and the bytes of what covers byte `a`; a byte of the ROM stands alone. -/
def RegPlace.span (a : Nat) : RegPlace → Nat × Nat
  | .reg r b => (firstByte a b, r.width / 8)
  | .cnt c alt => (firstByte a (if alt then c + 0x80000 else c), 8)
  | .rom _ => (a, 1)
  | .msix _ _ => (a / 4 * 4, 4)
  | .pba _ => (a / 8 * 8, 8)
  | .slot _ _ => (a / 8 * 8, 8)
  | .none => (a, 0)

/-- Whether the unit at `a` is powered: hub units always (01 R38). -/
def Dev.powered (d : Dev) (a : Nat) : Bool := ((sliceAt a).map d.sliceOn).getD true

/-- What covers byte `a` now: nothing in a slice that is powered down (01 R38). -/
def Dev.placeNow (d : Dev) (a : Nat) : RegPlace := if d.powered a then placeAt (canonAddr a) else .none

/-- An access at `a` that reaches nothing: recorded in BAR0 (01 R38), not in the other BARs (13 R350). -/
def Dev.missed (d : Dev) (a : Nat) (write : Bool) : Dev := if a < 2 ^ 28 then d.unmapped a write else d

end Sys2Proof.Machine
end

