-- ==== Sys2Proof/Machine/RegRead.lean ====
section
/-! DEFINITION. What a whole-register read returns and what it changes (00 R4 to R6, R8; 04 R98; 14 R384): the value that a register holds, or
what it shows of state kept elsewhere. -/
namespace Sys2Proof.Machine

/-- What the units' views show, as fields beside a register's own. -/
abbrev Shown := List (Fld × Nat)

/-- 64 bits of a signed number. -/
def word64Of (i : Int) : Nat := unsignedOf 64 i

/-- The state of thread `k` as ENG_THREAD_STATE shows it (08): its code, and whether it holds a frame. -/
def Dev.thrNibble (d : Dev) (k : Nat) : Nat := (d.thrAt k).st.code + 8 * b2n (d.thrAt k).frame.isSome

/-- The operations that unit `u` of slice `s`'s compression block holds (12 R315). -/
def Dev.cmpHeld (d : Dev) (s u : Nat) : Nat := (d.ops.filter fun o => o.2.unit == 1 && o.2.slice == s && cmpUnit (leAt o.2.desc 4 2) == u).length

/-- Message store entry that PF `p`'s window selects, if its TF is the PF's (14 RGM_MSG_SEL). -/
def Dev.msgSel (d : Dev) (p : Nat) : Option Nat :=
  let e := d.fld (RGM_MSG_SEL p) RGM_MSG_SEL_ENTRY
  match d.msgOwner e with
  | some f => if d.fnState f != 0 && d.fnPf f == p then some e else none
  | none => none

/-- A whole register read as `v`. -/
def whole (v : Nat) : Shown := [(⟨0, 64⟩, v)]

/-- What PF `p`'s window of the ring manager shows (14 R536). -/
def Dev.viewRgm (d : Dev) (b a : Nat) : Option Shown :=
  let p := (a - 0x300100) / 0x100
  let r := d.ringSel p
  let x := d.ringAt r
  if b = (RGM_RING_STATE 0).addr then
    some (if d.windowOwns p r then [(RGM_RING_STATE_HEAD, x.head), (RGM_RING_STATE_PROD, x.prod), (RGM_RING_STATE_ERR_INDEX, x.errIndex),
      (RGM_RING_STATE_ERR_REASON, x.errReason), (RGM_RING_STATE_STATE, x.state)] else whole 0)
  else if b = (RGM_RING_BASE 0).addr ∨ b = (RGM_RING_PUB 0).addr ∨ b = (RGM_RING_CFG 0).addr ∨ b = (RGM_RING_MOD 0).addr then
    if d.windowOwns p r then none else some (whole 0)
  else if b = (RGM_MSG_ADDR 0).addr then some (whole (((d.msgSel p).map fun e => (d.msgAt e).addr).getD 0))
  else if b = (RGM_MSG_DATA 0).addr then some (whole (((d.msgSel p).map fun e => (d.msgAt e).data).getD 0))
  else if b = (RGM_MSG_CTL 0).addr then some (whole (((d.msgSel p).map fun e => b2n (d.msgAt e).masked + 2 * b2n (d.msgAt e).pending).getD 0))
  else if b = (RGM_FUNC_STATUS 0).addr then
    let f := (a - 0x310000) / 0x20
    some [(RGM_FUNC_STATUS_STATE, d.fnState f)]
  else if b = (RGM_FUNC_CTL 0).addr then
    let f := (a - 0x310000) / 0x20
    if 4096 ≤ f then some [(RGM_FUNC_CTL_ENABLE, 1), (RGM_FUNC_CTL_ASSIGNED, 1)] else none
  else none

/-- The fields of a slice's registers that show state kept elsewhere. -/
def Dev.viewSlice (d : Dev) (b a : Nat) : Option Shown :=
  let s := a / 0x1000000 - 1
  let o := a % 0x1000000
  let p := (o - 0x800000) / 0x1000
  if b = (PRS_EXC_TOKENS 0).addr then some [(PRS_EXC_TOKENS_HOST, d.excUnits s 0 / 1000000000), (PRS_EXC_TOKENS_FW, d.excUnits s 1 / 1000000000)]
  else if b = (CLS_LRN_COUNT 0 0).addr then some [(CLS_LRN_COUNT_COUNT, d.learnedCount s ((o - 0x200300) / 4))]
  else if b = (TMG_BUF_STATUS 0).addr then some [(TMG_BUF_STATUS_HELD, d.held s), (TMG_BUF_STATUS_STORED, d.stored s)]
  else if b = (TMG_OVF_USED 0).addr then some (whole (d.ovfUsed s))
  else if b = (CPH_STATUS 0).addr then some [(CPH_STATUS_LEASES, (d.leasesOf s).length)]
  else if b = (CMP_QUEUE 0).addr then some [(CMP_QUEUE_STREAM, d.cmpHeld s 2), (CMP_QUEUE_DECOMP, d.cmpHeld s 1), (CMP_QUEUE_COMP, d.cmpHeld s 0)]
  else if b = (ENG_THREAD_STATE 0 0).addr then some (whole (((List.range 8).map fun t => d.thrNibble (thrKey s p t) * 16 ^ t).sum))
  else if b = (ENG_DBG_CTRL 0 0).addr then some [(ENG_DBG_CTRL_HALT, maskOf ((List.range 8).filter fun t => (d.thrAt (thrKey s p t)).st == .halted))]
  else if b = (ENG_TDBG_DATA 0 0).addr then some (whole (d.tdbgRead s p))
  else none

/-- The fields of a hub register that show state kept elsewhere. -/
def Dev.viewHub (d : Dev) (b a : Nat) : Option Shown :=
  if b = NTU_TIME_NS.addr then some (whole d.now)
  else if b = NTU_SLEW_REMAIN.addr then some (whole (word64Of (Int.tdiv d.ntu.slewRem (2 ^ 32))))
  else if b = IMG_EPOCH.addr then some (whole d.imgEpochView)
  else if b = IMG_INFLIGHT.addr then some (whole d.imgInflightView)
  else if b = KEY_STATUS.addr then some [(KEY_STATUS_PINNED, d.pinned.length)]
  else if b = (DMA_CH_STATUS 0).addr then
    let c := (a - 0x400000) / 0x100
    some [(DMA_CH_STATUS_STATE, d.dmaState c), (DMA_CH_STATUS_QUEUED, d.dmaQueued c)]
  else if b = (MEM_GRANULE 0).addr then some [(MEM_GRANULE_PENDING, b2n (d.granPending ((a - 0x508000) / 4)))]
  else if b = RAS_REC_SEL.addr then some [(RAS_REC_SEL_VALID, b2n (d.ras.look (d.fld RAS_REC_SEL RAS_REC_SEL_INDEX)).isSome)]
  else if 0x900108 ≤ b ∧ b ≤ 0x900120 then
    match d.ras.look (d.fld RAS_REC_SEL RAS_REC_SEL_INDEX) with
    | none => some (whole 0)
    | some r =>
      some (if b = 0x900108 then whole r.firstNs else if b = 0x900110 then whole r.detail
        else if b = 0x900118 then [(RAS_REC_DATA2_ID, r.id), (RAS_REC_DATA2_COUNT, r.count), (RAS_REC_DATA2_WINDOW_COUNT, r.window), (RAS_REC_DATA2_KIND, r.kind),
          (RAS_REC_DATA2_STORM, b2n r.storm)]
        else [(RAS_REC_DATA3_SLICE, r.slice), (RAS_REC_DATA3_POSITION, r.pos), (RAS_REC_DATA3_THREAD, r.thread), (RAS_REC_DATA3_CODE, r.code)])
  else if b = (RAS_BIST_STATE 0).addr then
    let t := (a - 0x901000) / 4
    if d.tested && bistExists t && d.fld (RAS_BIST_STATE t) RAS_BIST_STATE_RESULT == 0 then some [(RAS_BIST_STATE_RESULT, 1), (RAS_BIST_STATE_FIRST_BAD, 0xFFFF)] else none
  else if b = (RAS_BIST_SIG 0).addr then
    let t := (a - 0x902000) / 8
    if t < 0x100 && d.tested && bistExists t && d.fld (RAS_BIST_STATE t) RAS_BIST_STATE_RESULT == 0 then some (whole (goldenSig (bistMeasures t))) else none
  else if 0x200000 ≤ b ∧ b ≤ 0x200030 then (if d.pfPresent ((a - 0x200000) / 0x1000) then none else some (whole 0))
  else d.viewRgm b a

/-- The value that the register at `a` with table `r` reads as: what it holds with what it shows of other state, its write-only and reserved fields 0 (00 R5, R6). -/
def Dev.regValue (d : Dev) (r : RegDesc) (a : Nat) : Word :=
  let own := d.rd ⟨a, r.rst⟩
  let seen := (((if a < 0x1000000 then d.viewHub r.base a else d.viewSlice r.base a)).getD []).foldl (fun v x => x.1.set x.2 v) own
  r.flds.foldl (fun v fa => if fa.2 = .wo then v else fa.1.set (fa.1.get seen) v) 0

/-- The read-to-clear fields of a register are cleared by the read (00 R5). -/
def Dev.readClears (d : Dev) (r : RegDesc) (a : Nat) : Dev :=
  if r.flds.any fun fa => fa.2 == .rc then d.wr ⟨a, r.rst⟩ (r.flds.foldl (fun v fa => if fa.2 = .rc then fa.1.set 0 v else v) (d.rd ⟨a, r.rst⟩)) else d

/-- A doorbell slot as `src` reads it (14 R384): a page that is not live in its BAR2, or a slot beyond RING_COUNT, reads 0. -/
def Dev.slotValue (d : Dev) (src : Src) (own : Bool) (off : Nat) : Nat :=
  match src with
  | .ulyar => 0
  | .pf p _ =>
    let f := if own then 4096 + p.val else off / 4096
    let l := off % 4096 / 8 + (if own then 256 * (off / 4096) else 0)
    let r := d.fnCtl f RGM_FUNC_CTL_RING_BASE + l
    let x := d.ringAt r
    if (!own && (!d.pageLive p.val f || off % 4096 = 0x800)) || !decide (l < d.fnCtl f RGM_FUNC_CTL_RING_COUNT) then 0
    else (if x.kind = 3 then x.head + 2 ^ 16 * x.prod else x.prod + 2 ^ 16 * x.head) + 2 ^ 32 * x.state

/-- The MSI-X table of PF `n` as its host reads it: entry `e`, dword `w`. -/
def Dev.msixDword (d : Dev) (n e w : Nat) : Nat :=
  let x := (d.pf n).msixAt e
  match w with
  | 0 => x.addr % 2 ^ 32
  | 1 => x.addr / 2 ^ 32 % 2 ^ 32
  | 2 => x.data
  | _ => b2n x.masked

/-- 64 bits of PF `n`'s pending bit array. -/
def Dev.pbaWord (d : Dev) (n w : Nat) : Nat := maskOf ((List.range 64).filter fun i => ((d.pf n).pba.look (64 * w + i)).isSome)

/-- A read by `src` of what `x` is, from its first byte `a`: how many bits it returns, their value, and what the read changes. -/
def Dev.readPlace (d : Dev) (src : Src) (a : Nat) (x : RegPlace) : Nat × Nat × Dev :=
  match x with
  | .reg r b =>
    if 2 ^ 32 ≤ b then
      let c := (b - 2 ^ 32) / 0x1000
      if r.base = (MBX_RX_DATA 0).addr then (32, (d.mbPop src c).1, (d.mbPop src c).2)
      else match d.window c src with
        | .open_ => (32, (d.regValue r b).toNat, d)
        | .denied => (32, 0, d.satAdd MBX_NS_DENIED MBX_NS_DENIED_COUNT 1)
        | .none => (32, 0, d)
    else (r.width, (d.regValue r b).toNat, d.readClears r b)
  | .cnt c alt => (64, d.cntAt c, if alt then d.setCnt (d.cnt.put c 0) else d)
  | .rom off => (32, leNat ((d.rom.drop off).take 4), d)
  | .msix e w => (32, match src with | .pf n _ => d.msixDword n.val e w | .ulyar => 0, d)
  | .pba w => (64, match src with | .pf n _ => d.pbaWord n.val w | .ulyar => 0, d)
  | .slot own off => (64, d.slotValue src own off, d)
  | .none => (32, 0, d.missed a false)

/-- A read by `src` of the width of what covers `a`: of one that begins inside it, all ones (00 R4). -/
def Dev.readAt (d : Dev) (src : Src) (a : Nat) : Nat × Nat × Dev :=
  let x := d.placeNow a
  let y := x.span a
  if y.1 = a then d.readPlace src a x else (8 * y.2, 2 ^ (8 * y.2) - 1, d)

/-- The answer of a read at `a` by `src`: a PWR register is read in the always-on domain, the host interface is there in a warm reset (19 R499). -/
def finRead (s : State) (src : Src) (a width v : Nat) (d : Dev) : Host.Outcome State Fault Refusal :=
  if s.srcFrozen src then finA s ((s.inboundDiscard src).emit (.readData (2 ^ width - 1)))
  else if inBlock 10 a then (if s.runs || s.pwrMode == .warm then finA s (d.emit (.readData v)) else .next s)
  else if 2 ^ 28 ≤ a then finK s (d.emit (.readData v))
  else finR s src a width v d

/-- A whole read at `addr` by `src`. -/
def readBy (s : State) (src : Src) (addr : Nat) : Host.Outcome State Fault Refusal :=
  if addr = NTU_TIME_NS.addr then execNtuTimeRead src s
  else if addr = NTU_PPS_IN_NS.addr then execPpsInRead src s
  else finRead s src addr (s.readAt src addr).1 (s.readAt src addr).2.1 (s.readAt src addr).2.2

/-- RC_READ (00 R5, R8): a whole read at `addr`. -/
def execRcRead (src : Src) (addr : Nat) (s : State) : Host.Outcome State Fault Refusal := readBy s src addr

/-- COUNTER_CLEAR_READ (04 R98): a read at a counter's alias returns the count and clears it; at another address, the read there. -/
def execCounterClearRead (src : Src) (addr : Nat) (s : State) : Host.Outcome State Fault Refusal := readBy s src addr

/-- The first of the `n` bytes at `a` that touches anything, and what it touches. -/
def Dev.touched (d : Dev) (a n : Nat) : Option (Nat × RegPlace) := ((List.range n).map fun i => (a + i, d.placeNow (a + i))).find? fun x => x.2 != .none

/-- What an aligned read of `len` bytes at `a` returns where the width is one that the thing there takes beside its own: a doorbell slot or MEDIATE read in 32 bits (14 R384), an MSI-X
table entry in 64 and the pending bit array in 32 (00 R4: as PCI Express has them). -/
def Dev.otherWidth (d : Dev) (src : Src) (a len : Nat) (x : RegPlace) : Option Nat :=
  match x with
  | .slot own off => if len = 4 && a % 8 == 0 then some (d.slotValue src own off % 2 ^ 32) else none
  | .msix e w => match src with
    | .pf n _ => if len = 8 && a % 8 == 0 then some (d.msixDword n.val e w + 2 ^ 32 * d.msixDword n.val e (w + 1)) else none
    | .ulyar => none
  | .pba w => match src with
    | .pf n _ => if len = 4 && a % 4 == 0 then some (d.pbaWord n.val w / 2 ^ (8 * (a % 8)) % 2 ^ 32) else none
    | .ulyar => none
  | _ => none

/-- A write of `len` bytes at `a` that no register takes whole: discarded, and counted in DOORBELL_BAD at a doorbell slot (00 R4; 14 R384), in the counter of pages that are not live at
such a page (13 R349). `none`: nothing changes. -/
def Dev.partialWrite (d : Dev) (src : Src) (a len : Nat) (x : RegPlace) : Option Dev :=
  match x, src with
  | .slot own off, .pf n _ =>
    if (len = 4 || len = 8) && a % 8 == 0 then none
    else some (if own || d.pageLive n.val (off / 4096) then d.count (rgmCnt 10) else d.count (hifCnt n.val 7))
  | _, _ => none

/-- PARTIAL_ACCESS (00 R4): a write is discarded, a read returns all ones. An access of exactly one whole register is no such access: its read is the read there, its write a command of its
own, which carries the value. One of nothing is unmapped (01 R38). The bytes of the capability ROM are read at any width. -/
def execPartialAccess (src : Src) (addr len : Nat) (kind : AccKind) (s : State) : Host.Outcome State Fault Refusal :=
  if kind = .poisoned then s.poisonedWrite src else
  let write := kind == .write
  let out (w : Nat) (d : Dev) : Host.Outcome State Fault Refusal := finRead s src addr (8 * len) w d
  match s.touched addr (min len 4096) with
  | none => if write then finW s src addr (s.missed addr true) else out 0 (s.missed addr false)
  | some (_, .rom off) => if write then finW s src addr (s.missed addr true) else out (leNat ((s.rom.drop off).take len)) s.toDev
  | some (b, x) =>
    if x.span b = (addr, len) then (if write then .next s else readBy s src addr)
    else if write then (if s.srcFrozen src then finA s (s.inboundDiscard src) else ((s.partialWrite src addr len x).map (finK s)).getD (.next s))
    else out ((s.otherWidth src addr len x).getD (2 ^ (8 * len) - 1)) s.toDev

/-- UNMAPPED_ACCESS (01 R38, R39): reads 0 or is discarded, and is recorded; at an address that reaches something nothing happens. Writes to the capability ROM are such accesses (13 R351). -/
def execUnmappedAccess (src : Src) (addr : Nat) (write : Bool) (s : State) : Host.Outcome State Fault Refusal :=
  let go : Host.Outcome State Fault Refusal := if write then finW s src addr (s.missed addr true) else finRead s src addr 32 0 (s.missed addr false)
  match s.placeNow addr with
  | .none => go
  | .rom _ => if write then go else .next s
  | _ => .next s

end Sys2Proof.Machine
end

