-- ==== Sys2Proof/Machine/RegWrite.lean ====
section
/-! DEFINITION. What a whole-register write does (00 R5, R6): by the access codes of the register's fields, or by the rule the register has of its own. -/
namespace Sys2Proof.Machine

/-- The value of a register after a write of `v`, by its access codes (00 R5, R6). -/
def RegDesc.written (r : RegDesc) (old v : Word) : Word :=
  r.flds.foldl (fun w fa =>
    match fa.2 with
    | .rw => fa.1.set (fa.1.get v) w
    | .w1c => fa.1.set (Nat.land (fa.1.get w) (2 ^ fa.1.w - 1 - fa.1.get v)) w
    | .w1s => fa.1.set (Nat.lor (fa.1.get w) (fa.1.get v)) w
    | _ => w) old

/-- A write by the access codes alone. -/
def Dev.plainWrite (d : Dev) (r : RegDesc) (a : Nat) (v : Word) : Dev := d.wr ⟨a, r.rst⟩ (r.written (d.rd ⟨a, r.rst⟩) v)

/-- `v` with field `f` brought into `lo` to `hi`. -/
def clampF (f : Fld) (lo hi : Nat) (v : Word) : Word := f.set (max lo (min hi (f.get v))) v

/-- `v` with its low `n` bits 0. -/
def alignW (n : Nat) (v : Word) : Word := BitVec.ofNat 64 (v.toNat / 2 ^ n * 2 ^ n)

/-! Selecting registers and their snapshots (00 R535; 14 R536). -/

/-- The table of a register that stands in no array. -/
def regDescAt (a : Nat) : RegDesc := ((regAt a).map Prod.fst).getD ⟨a, [], 64, 0, []⟩

/-- The bits of a register that its fields cover. -/
def RegDesc.used (r : RegDesc) : Word := r.flds.foldl (fun v fa => v ||| fa.1.mask) 0

/-- The data register at `a` holds no defined value: a free one in its fields (R535). -/
def Dev.undefAt (d : Dev) (a : Nat) : Dev :=
  let (x, d) := d.fresh
  d.wr ⟨a, (regDescAt a).rst⟩ (BitVec.ofNat 64 x &&& (regDescAt a).used)

/-- A write that selects an item: VALID clears, the data registers `data` hold no defined value, and a snapshot begins, anew if one had begun (R535). -/
def Dev.selectItem (d : Dev) (which : SnapSel) (sel : Reg) (v : Word) (data : List Nat) : Dev :=
  let d := d.wr sel v
  (d.each data Dev.undefAt).setSnapWait (which :: d.snapWait.filter (· != which))

/-- A write of TMG_QSEL of slice `s`. -/
def Dev.qsel (d : Dev) (s : Fin 6) (v : Word) : Dev :=
  d.selectItem (.tmgQ s) (TMG_QSEL s.val) (v &&& TMG_QSEL_QUEUE.mask) ((List.range 4).map fun i => (TMG_QDATA0 s.val).addr + 8 * i)

/-- A write of TMG_PSEL of slice `s`. -/
def Dev.psel (d : Dev) (s : Fin 6) (v : Word) : Dev :=
  d.selectItem (.tmgP s) (TMG_PSEL s.val) (v &&& (TMG_PSEL_SLOT.mask ||| TMG_PSEL_POLICER.mask)) [(TMG_PDATA0 s.val).addr, (TMG_PDATA1 s.val).addr]

/-- A write of KEY_SLOT_SEL. -/
def Dev.slotSel (d : Dev) (v : Word) : Dev :=
  d.selectItem .keySlot KEY_SLOT_SEL (v &&& KEY_SLOT_SEL_SLOT.mask) ((List.range 4).map fun i => KEY_SLOT_DATA0.addr + 8 * i)

/-- A write of MTR_LIVE_SEL. -/
def Dev.liveSel (d : Dev) (v : Word) : Dev :=
  d.selectItem .mtrLive MTR_LIVE_SEL (v &&& MTR_LIVE_SEL_TF.mask) ((List.range 9).map fun i => (MTR_LIVE_DATA i).addr)

/-- A write of RGM_RING_SEL in PF `p`'s window by `src`: it is accepted whatever ring it names (14 R536). -/
def Dev.ringSelect (d : Dev) (src : Src) (p : Fin 4) (v : Word) : Dev :=
  if !srcMayPf src p.val then d.count (rgmCnt 14)
  else d.selectItem (.ring p) (RGM_RING_SEL p.val) (v &&& RGM_RING_SEL_RING.mask)
    [(RGM_RING_BASE p.val).addr, (RGM_RING_PUB p.val).addr, (RGM_RING_CFG p.val).addr, (RGM_RING_MOD p.val).addr]

/-- A shaper bucket in whole bytes: of a negative one with a fraction, one of the two whole numbers beside it. -/
def Dev.wholeTokens (d : Dev) (t : Int) : Int × Dev :=
  let q := Int.fdiv t byteUnits
  if t < 0 && Int.fmod t byteUnits != 0 then
    let (up, d) := d.freshBool
    (if up then q + 1 else q, d)
  else (q, d)

/-- The snapshot of a queue (10 TMG_QDATA0 to 3). -/
def Dev.snapQueue (d : Dev) (s : Nat) : Dev :=
  let q := d.fld (TMG_QSEL s) TMG_QSEL_QUEUE
  let x := d.queueSt s q
  let host := d.queuePort s q == some 16
  let n := d.nodeSt s 3 q
  let t : Int := match (d.sched s).bind fun b => b.rec? 3 q with
    | some r => bucketAt r.rate r.burst n.tokens n.filled d.ntu.peak
    | none => 0
  let (tok, d) := d.wholeTokens t
  (((d.wr (TMG_QDATA0 s) (BitVec.ofNat 64 ((x.on.length + x.ov.length) * 2 ^ 32 + d.lenSum host x.on))).wr (TMG_QDATA1 s)
    (BitVec.ofNat 64 (d.lenSum host x.ov))).wr (TMG_QDATA2 s) (BitVec.ofNat 64 x.tailDrops)).wr (TMG_QDATA3 s)
      (BitVec.ofNat 64 (unsignedOf 32 tok * 2 ^ 32 + n.deficit % 2 ^ 32))

/-- The snapshot of a policer (10 TMG_PDATA0 and 1). -/
def Dev.snapPolicer (d : Dev) (s : Nat) : Dev :=
  let x := d.polSt (d.polKey s (d.fld (TMG_PSEL s) TMG_PSEL_SLOT) (d.fld (TMG_PSEL s) TMG_PSEL_POLICER))
  (d.wr (TMG_PDATA0 s) (BitVec.ofNat 64 x.conform)).wr (TMG_PDATA1 s) (BitVec.ofNat 64 x.dropped)

/-- The snapshot of a key slot (11 KEY_SLOT_DATA0 to 3): an EMPTY slot shows 0. -/
def Dev.snapSlot (d : Dev) : Dev :=
  let w (n v : Nat) (d : Dev) : Dev := d.wr ⟨KEY_SLOT_DATA0.addr + 8 * n, 0⟩ (BitVec.ofNat 64 v)
  match d.keySlot.look (d.fld KEY_SLOT_SEL KEY_SLOT_SEL_SLOT) with
  | none => w 0 0 (w 1 0 (w 2 0 (w 3 0 d)))
  | some x =>
    let ret := maskOf ((List.range 6).filter fun i => x.ret.any fun r => r.1 == i)
    let lea := maskOf ((List.range 6).filter fun i => (x.leases.look i).isSome)
    w 0 (x.attrF KEY_INST_ATTR_OWNER_TF * 2 ^ 48 + lea * 2 ^ 42 + ret * 2 ^ 36 + x.attr.toNat % 2 ^ 16)
      (w 1 x.limit (w 2 x.next (w 3 (x.stranded * 4 + x.state) d)))

/-- The snapshot of a ring's context; VALID stays 0 for a ring that the window's PF does not own (14 R536). -/
def Dev.snapRing (d : Dev) (p : Nat) : Dev :=
  let x := d.ringAt (d.ringSel p)
  if d.windowOwns p (d.ringSel p) then
    ((((d.wr (RGM_RING_BASE p) (BitVec.ofNat 64 x.base)).wr (RGM_RING_PUB p) (BitVec.ofNat 64 x.pub)).wr (RGM_RING_CFG p) x.cfg).wr (RGM_RING_MOD p) x.mod).setF
      (RGM_RING_SEL p) RGM_RING_SEL_VALID 1
  else d

/-- The snapshot of a TF's open-epoch counters (16 MTR_LIVE_DATA). -/
def Dev.snapLive (d : Dev) : Dev :=
  let l := d.mtrLive (d.fld MTR_LIVE_SEL MTR_LIVE_SEL_TF)
  d.each (List.range 9) fun d i => d.wr (MTR_LIVE_DATA i) (BitVec.ofNat 64 (l.getD i 0))

/-- The snapshot that waits for `which` is taken, and VALID sets (R535). -/
def Dev.snapshot (d : Dev) (which : SnapSel) : Dev :=
  if !d.snapWait.contains which then d else
  let d := d.setSnapWait (d.snapWait.filter (· != which))
  match which with
  | .tmgQ s => (d.snapQueue s.val).setF (TMG_QSEL s.val) TMG_QSEL_VALID 1
  | .tmgP s => (d.snapPolicer s.val).setF (TMG_PSEL s.val) TMG_PSEL_VALID 1
  | .keySlot => d.snapSlot.setF KEY_SLOT_SEL KEY_SLOT_SEL_VALID 1
  | .ring p => d.snapRing p.val
  | .mtrLive => d.snapLive.setF MTR_LIVE_SEL MTR_LIVE_SEL_VALID 1

/-! Hub registers. -/

/-- A write to an IMG register (03): by a host only SWITCHED of IMG_STATUS is cleared, any other is counted; the fields that Ulyar sets follow it. -/
def Dev.imgWrite (d : Dev) (src : Src) (r : RegDesc) (a : Nat) (v : Word) : Dev :=
  match src with
  | .pf _ _ => if a = IMG_STATUS.addr then d.w1c IMG_STATUS IMG_STATUS_SWITCHED v else d.satAdd IMG_STATUS IMG_STATUS_HOST_WRITES 1
  | .ulyar => if a = IMG_TREE_MEM.addr then d.setF IMG_TREE_MEM IMG_TREE_MEM_MIB (IMG_TREE_MEM_MIB.get v) else d.plainWrite r a v

/-- A write to a HIF register (13): those of an absent PF discard it. -/
def Dev.hifWrite (d : Dev) (r : RegDesc) (a : Nat) (v : Word) : Dev :=
  let n := (a - 0x200000) / 0x1000
  if 0x208000 ≤ a then d.plainWrite r a v
  else if !d.pfPresent n then d
  else if r.base = (HIF_LINK_CTL 0).addr then (d.plainWrite r a v).onlyIf (HIF_LINK_CTL_FREEZE_NOW.get v == 1) fun d => d.freeze n 5
  else if r.base = (HIF_CTO 0).addr then d.plainWrite r a (clampF HIF_CTO_US 50 64000 v)
  else if r.base = (HIF_RELEASE 0).addr then d.onlyIf (HIF_RELEASE_GO.get v == 1) fun d => d.release n
  else d.plainWrite r a v

/-- A command of RGM_RING_CMD (14 R381). -/
def Dev.ringCmdWrite (d : Dev) (src : Src) (p : Nat) (v : Word) : Dev :=
  if RGM_RING_CMD_GO.get v = 0 || d.flag (RGM_RING_CMD_STATUS p) RGM_RING_CMD_STATUS_BUSY then d
  else d.ringCmd src p fun d fn r =>
    match RGM_RING_CMD_OP.get v with
    | 1 => d.ringWriteCfg p fn r
    | 2 => d.ringEnable p (RGM_RING_CMD_START.get v) fn r
    | 3 => d.ringDisable p fn r
    | 4 => d.ringRestart p fn r
    | _ => d.ringResult p 3

/-- A write of a message store entry through PF `p`'s window (14 R400, R401): an entry that is not of the PF's TFs discards it. -/
def Dev.msgWrite (d : Dev) (p : Nat) (f : MsgEnt → MsgEnt) : Dev :=
  match d.msgSel p with
  | some e => d.setMsg (d.msg.put e (f (d.msgAt e)))
  | none => d

/-- A write in PF `p`'s window of the ring manager, at offset `o` (14). -/
def Dev.winWrite (d : Dev) (src : Src) (p : Fin 4) (o : Nat) (r : RegDesc) (a : Nat) (v : Word) : Dev :=
  if !srcMayPf src p.val then d.count (rgmCnt 14)
  else match o with
    | 0x00 => d.ringSelect src p v
    | 0x08 | 0x10 => d.onlyIf (d.windowOwns p.val (d.ringSel p.val)) fun d => d.plainWrite r a (alignW 6 v)
    | 0x18 | 0x20 => d.onlyIf (d.windowOwns p.val (d.ringSel p.val)) fun d => d.plainWrite r a v
    | 0x30 => d.ringCmdWrite src p.val v
    | 0x48 => d.msgWrite p.val fun m => { m with addr := (alignW 2 v).toNat }
    | 0x50 => d.msgWrite p.val fun m => { m with data := v.toNat % 2 ^ 32 }
    | 0x54 => d.msgWrite p.val fun m => { m with masked := RGM_MSG_CTL_MASK.get v == 1 }
    | 0x58 => d.onlyIf (RGM_MED_NOTIFY_GO.get v == 1) fun d => d.medNotify src p.val (RGM_MED_NOTIFY_TF.get v)
    | _ => d.plainWrite r a v

/-- A write to a register of the ring manager (14). -/
def State.rgmWrite (s : State) (src : Src) (r : RegDesc) (a : Nat) (v : Word) : State :=
  let f := (a - 0x310000) / 0x20
  if a = RGM_MEDIATOR.addr then s.onDev fun d => d.onlyIf (src == .ulyar) fun d => d.plainWrite r a v
  else if r.base = (RGM_FUNC_CTL 0).addr then s.funcCtl src f v
  else if r.base = (RGM_FUNC_MSG 0).addr then s.onDev fun d => d.funcMsg src f v
  else if r.base = (RGM_FUNC_STATUS 0).addr then s.onDev fun d => if d.mayFunc src f then d.plainWrite r a v else d.count (rgmCnt 14)
  else if r.base = (RGM_MED_PENDING 0).addr then s.onDev fun d => (d.plainWrite r a v).medShow
  else if 0x300100 ≤ a ∧ a < 0x300500 then s.onDev fun d => d.winWrite src (Fin.ofNat 4 ((a - 0x300100) / 0x100)) ((a - 0x300100) % 0x100) r a v
  else s.onDev fun d => d.plainWrite r a v

/-- A write to a DMA register (15 R426, R427, R434, R437): ABORT before GO. -/
def State.dmaRegWrite (s : State) (src : Src) (r : RegDesc) (a : Nat) (v : Word) : State :=
  let c := (a - 0x400000) / 0x100
  if r.base = (DMA_CH_CFG 0).addr then s.onDev fun d => d.dmaConfig src c v
  else if r.base = (DMA_CH_CTRL 0).addr then
    let s := if DMA_CH_CTRL_ABORT.get v = 1 then State.dmaAbort c 66 s else s
    if DMA_CH_CTRL_GO.get v = 1 then s.dmaGo src c else s
  else if r.base = (DMA_FIFO_ADJ 0).addr then s.onDev fun d => d.fifoAdd ((a - 0x408000) / 0x20) v.toInt
  else s.onDev fun d => d.plainWrite r a v

/-- A write to a MEM register (15). -/
def Dev.memWrite (d : Dev) (src : Src) (r : RegDesc) (a : Nat) (v : Word) : Dev :=
  if a = MEM_POP.addr then d.onlyIf (src == .ulyar) fun d => d.plainWrite r a (MEM_POP_SETS.set (Nat.land (MEM_POP_SETS.get v) (7 - Nat.land 7 d.setsOut)) v)
  else if a = MEM_GEOM.addr then d.onlyIf (src == .ulyar) fun d => d.plainWrite r a v
  else if a = MEM_MAP.addr then d.mapWrite v
  else if a = MEM_PWR.addr then d.plainWrite r a (clampF MEM_PWR_SR_IDLE_US 1 1000000 v)
  else if r.base = (MEM_GRANULE 0).addr then d.granWrite src ((a - 0x508000) / 4) v
  else d.plainWrite r a v

/-- A write to a KEY register (11 R291): the instruction and command registers only by a commander. -/
def State.keyWrite (s : State) (src : Src) (r : RegDesc) (a : Nat) (v : Word) : State :=
  if a = KEY_CTRL.addr then s.onDev fun d => d.onlyIf (src == .ulyar) fun d => d.plainWrite r a v
  else if a = KEY_STORE_BASE.addr then s.onDev fun d => d.onlyIf d.keySlot.isEmpty fun d => d.plainWrite r a (alignW 27 v)
  else if a = KEY_SLOT_SEL.addr then s.onDev fun d => d.slotSel v
  else if a = KEY_CMD.addr then
    if KEY_CMD_GO.get v = 1 then s.keyCmd src (KEY_CMD_OP.get v) (KEY_CMD_SLOT.get v) else if s.keyCommander src then s else s.onDev Dev.keyDenied
  else if 0x600030 ≤ a ∧ a < 0x6000A0 then
    s.onDev fun d => if d.keyCommander src then d.wr ⟨a, r.rst⟩ (v &&& r.used) else d.keyDenied
  else s.onDev fun d => d.plainWrite r a v

/-- A write to a metering register (16). -/
def Dev.mtrWrite (d : Dev) (src : Src) (r : RegDesc) (a : Nat) (v : Word) : Dev :=
  if a = MTR_BUF.addr then d.onlyIf (src == .ulyar) fun d => d.wr MTR_BUF (v &&& r.used)
  else if a = MTR_RING_BASE.addr then d.plainWrite r a (alignW 6 v)
  else if a = MTR_RING_CFG.addr then d.plainWrite r a (clampF MTR_RING_CFG_SIZE_LOG2 13 15 v)
  else if r.base = (MTR_FR_CFG 0).addr then d.plainWrite r a (clampF MTR_FR_CFG_SIZE_LOG2 6 15 v)
  else if a = MTR_LIVE_SEL.addr then d.liveSel v
  else if r.base = (MTR_SK_QUERY 0).addr then d.sketchQuery ((a - 0x701000) / 0x100) v
  else d.plainWrite r a v

/-- A write to a register of a mailbox window in BAR4 (17 R456 to R459). -/
def Dev.mbxWrite (d : Dev) (src : Src) (r : RegDesc) (a : Nat) (v : Word) : Dev :=
  let c := (a - 2 ^ 32) / 0x1000
  d.mbWrite src c fun d =>
    if r.base = (MBX_TX_DATA 0).addr then d.mbPush c (v.toNat % 2 ^ 32)
    else if r.base = (MBX_CH_CTRL 0).addr then d.mbCtrl c v
    else d.plainWrite r a v

/-- A write to a PWR register (19 R491, R492, R496, R499). -/
def State.pwrWrite (s : State) (r : RegDesc) (a : Nat) (v : Word) : State :=
  if a = PWR_CMD.addr then s.onDev fun d => d.pwrCmd v
  else if a = PWR_ALLOW.addr then s.onDev fun d => d.pwrAllow v
  else if a = PWR_HALF_SLICES.addr then s.onDev fun d => d.pwrHalf v
  else if a = PWR_ENVELOPE.addr then s.onDev fun d => (d.plainWrite r a v).lpiRecheck
  else if a = PWR_RESET.addr then
    if !s.runs then s
    else
      let s := (setBits 6 (PWR_RESET_SLICE.get v)).foldl State.sliceResetBy s
      if PWR_RESET_WARM.get v = 1 then s.warmReset else s
  else s.onDev fun d => d.plainWrite r a v

/-- A write to a hub register. -/
def State.hubWrite (s : State) (src : Src) (r : RegDesc) (a : Nat) (v : Word) : State :=
  if 2 ^ 32 ≤ a then s.onDev fun d => d.mbxWrite src r a v
  else match a / 0x100000 with
    | 1 =>
      if a = NTU_CTRL.addr then s.onDev fun d => d.ntuCtrlWrite src v
      else if a = NTU_STATUS.addr then s.onDev fun d => d.plainWrite r a v
      else if r.flds.any fun fa => fa.2 == .rw || fa.2 == .wo then s.onDev fun d => d.ntuWrite src a v else s
    | 2 => s.onDev fun d => d.hifWrite r a v
    | 3 => s.rgmWrite src r a v
    | 4 => s.dmaRegWrite src r a v
    | 5 => s.onDev fun d => d.memWrite src r a v
    | 6 => s.keyWrite src r a v
    | 7 => s.onDev fun d => d.mtrWrite src r a v
    | 8 => s.onDev fun d => if a = MBX_POLICY.addr && src != .ulyar then d else d.plainWrite r a v
    | 9 => s.onDev fun d => if a = RAS_REC_SEL.addr then d.recSel v else d.plainWrite r a v
    | 10 => s.pwrWrite r a v
    | 11 => s.onDev fun d => d.imgWrite src r a v
    | _ => s.onDev fun d => d.plainWrite r a v

/-! Registers of a slice. -/

/-- A write to a die-level MAC register (04); `a` is that of the die's first slice. -/
def Dev.macWrite (d : Dev) (r : RegDesc) (a : Nat) (v : Word) : Dev :=
  let h := (a / 0x1000000 - 1) / 3
  let p := h * 8 + a % 0x1000000 % 0x800 / 0x100
  if r.base = (MAC_HALF_MODE 0).addr then d.halfModeWrite h v
  else if r.base = (MAC_GROUP_SPARE_A 0).addr then d.groupSpareWrite h 0 v
  else if r.base = (MAC_GROUP_SPARE_B 0).addr then d.groupSpareWrite h 1 v
  else if r.base = (MAC_PORT_CTRL 0 0).addr then (d.portCtrlWrite p v).lpiRecheck
  else if r.base = (MAC_PORT_WAKE 0 0).addr then (d.plainWrite r a v).lpiRecheck
  else d.plainWrite r a v

/-- A write of CLS_UPD_CTRL of slice `s` (06 R139). -/
def Dev.updWrite (d : Dev) (s : Nat) (v : Word) : Dev :=
  if CLS_UPD_CTRL_GO.get v = 0 then d.updFields s v (CLS_UPD_CTRL_OP.get v)
  else match CLS_UPD_CTRL_OP.get v with
    | 1 => d.updInsert s v
    | 2 => d.updModify s v
    | 3 => d.updDelete s v
    | 4 => d.updRead s v
    | 5 => d.updLookup s v
    | 6 => d.updTree s v
    | 7 => d.updFlush s v
    | _ => d.updOther s v

/-- A write of CLS_SKIM_CTRL of slice `s` (06 R161): GO while a pass runs is discarded, ABORT without one does nothing. -/
def Dev.skimWrite (d : Dev) (s : Nat) (v : Word) : Dev :=
  if (d.skim.look s).isSome then (d.skimFields s v).onlyIf (CLS_SKIM_CTRL_ABORT.get v == 1) fun d => d.skimEnds s 3
  else if CLS_SKIM_CTRL_GO.get v = 1 then d.skimGo s v
  else d.skimFields s v

/-- A write of TMG_OVF_BASE or TMG_OVF_SIZE of slice `s` (10): discarded while the region holds a frame. -/
def Dev.ovfWrite (d : Dev) (s : Nat) (r : RegDesc) (a : Nat) (v : Word) : Dev :=
  if d.ovfUsed s = 0 then d.plainWrite r a v else d.setF (TMG_STATUS s) TMG_STATUS_OVF_REFUSED 1

/-- A write of a rate or a burst of slice `s`'s exception limiter `t`: the bucket is filled up to the write, and holds no more than the new burst (05 R115). -/
def Dev.limiterWrite (d : Dev) (s t : Nat) (r : RegDesc) (a : Nat) (v : Word) : Dev :=
  let d := (d.putExc s t (d.excUnits s t)).plainWrite r a v
  d.putExc s t (d.excUnits s t)

/-- A write to a register of a slice. -/
def Dev.sliceWrite (d : Dev) (r : RegDesc) (a : Nat) (v : Word) : Dev :=
  let s : Fin 6 := Fin.ofNat 6 (a / 0x1000000 - 1)
  let o := a % 0x1000000
  let p := (o - 0x800000) / 0x1000
  if o < 0x100000 then d.macWrite r a v
  else if r.base = (PRS_EXC_CFG 0).addr then d.plainWrite r a (clampF PRS_EXC_CFG_SNAP_LEN 64 16384 v)
  else if r.base = (PRS_EXC_HOST_RATE 0).addr ∨ r.base = (PRS_EXC_HOST_BURST 0).addr then d.limiterWrite s.val 0 r a v
  else if r.base = (PRS_EXC_FW_RATE 0).addr ∨ r.base = (PRS_EXC_FW_BURST 0).addr then d.limiterWrite s.val 1 r a v
  else if r.base = (CLS_UPD_CTRL 0).addr then d.updWrite s.val v
  else if r.base = (CLS_LRN_RING_BASE 0).addr then d.plainWrite r a (alignW 6 v)
  else if r.base = (CLS_LRN_RING_CFG 0).addr then d.plainWrite r a (clampF CLS_LRN_RING_CFG_SIZE_LOG2 6 15 v)
  else if r.base = (CLS_SKIM_CTRL 0).addr then d.skimWrite s.val v
  else if r.base = (TMG_OVF_BASE 0).addr then d.ovfWrite s.val r a (alignW 12 v)
  else if r.base = (TMG_OVF_SIZE 0).addr then d.ovfWrite s.val r a v
  else if r.base = (TMG_QSEL 0).addr then d.qsel s v
  else if r.base = (TMG_PSEL 0).addr then d.psel s v
  else if r.base = (ENG_CTRL 0 0).addr then d.engCtrl s.val p v
  else if r.base = (ENG_DBG_CTRL 0 0).addr then d.dbgCtrl s.val p v
  else if r.base = (ENG_TDBG_DATA 0 0).addr then d.tdbgWrite s.val p v
  else if r.base = (ENG_SPARE_CFG 0).addr then d.spareCfg s.val v
  else if r.base = (ENG_BANK_HANDOVER 0 0).addr then d.bankHandover s.val ((o - 0xA20000) / 8) v
  else d.plainWrite r a v

/-! The commands. -/

/-- A write of a dword of the MSI-X table by its own PF's host (13 R361). -/
def MsixEnt.write (x : MsixEnt) (w v : Nat) : MsixEnt :=
  match w with
  | 0 => { x with addr := x.addr / 2 ^ 32 * 2 ^ 32 + v / 4 * 4 }
  | 1 => { x with addr := v * 2 ^ 32 + x.addr % 2 ^ 32 }
  | 2 => { x with data := v }
  | _ => { x with masked := v % 2 == 1 }

/-- A write of `v` at `a` by `src`, of the width of what stands there: discarded where `a` is not its first byte (00 R4); statistics counters, the pending bit array and doorbell slots take none here. -/
def State.writeAt (s : State) (src : Src) (a : Nat) (v : Word) : State :=
  let x := s.placeNow a
  if x != .none && (x.span a).1 != a then s else
  match x with
  | .reg r b => if b < 0x1000000 ∨ 2 ^ 32 ≤ b then s.hubWrite src r b v else s.onDev fun d => d.sliceWrite r b v
  | .msix e w => match src with
    | .pf n _ => s.onDev fun d => d.updPf n.val fun x => { x with msix := x.msix.put e ((x.msixAt e).write w (v.toNat % 2 ^ 32)) }
    | .ulyar => s
  | .none | .rom _ => s.onDev fun d => d.missed a true
  | _ => s

/-- The answer of a write at `a` by `src` that makes the machine `t`: the PWR block lies in the always-on domain, the host interface is there in a warm reset (19 R490, R499). -/
def finWrite (s : State) (src : Src) (a : Nat) (t : State) : Host.Outcome State Fault Refusal :=
  let settled : State := { t with toDev := t.toDev.settle }
  if s.srcFrozen src then
    match src with
    | .pf n _ => if a = (HIF_RELEASE n.val).addr && s.runs then .next settled else finA s (s.inboundDiscard src)
    | .ulyar => .next s
  else if inBlock 10 a || decide (2 ^ 28 ≤ a) then if s.runs || s.pwrMode == .warm then .next settled else .next s
  else finSM s src a t

/-- REGISTER_WRITE (00 R5, R6). -/
def execRegisterWrite (src : Src) (addr : Nat) (v : Word) (s : State) : Host.Outcome State Fault Refusal := finWrite s src addr (s.writeAt src addr v)

/-- A write of a selecting register of slice `s`: as unmapped while the slice is powered down. -/
def execTmgQselWrite (src : Src) (slice : Fin 6) (v : Word) (s : State) : Host.Outcome State Fault Refusal := finSW s src slice.val (TMG_QSEL slice.val) (s.qsel slice v)

/-- TMG_PSEL_WRITE (00 R535). -/
def execTmgPselWrite (src : Src) (slice : Fin 6) (v : Word) (s : State) : Host.Outcome State Fault Refusal := finSW s src slice.val (TMG_PSEL slice.val) (s.psel slice v)

/-- KEY_SLOT_SEL_WRITE (00 R535). -/
def execKeySlotSelWrite (src : Src) (v : Word) (s : State) : Host.Outcome State Fault Refusal := finW s src KEY_SLOT_SEL.addr (s.slotSel v)

/-- RGM_RING_SEL_WRITE (00 R535; 14 R536). -/
def execRgmRingSelWrite (src : Src) (pf : Fin 4) (v : Word) (s : State) : Host.Outcome State Fault Refusal := finW s src (RGM_RING_SEL pf.val).addr (s.ringSelect src pf v)

/-- MTR_LIVE_SEL_WRITE (00 R535). -/
def execMtrLiveSelWrite (src : Src) (v : Word) (s : State) : Host.Outcome State Fault Refusal := finW s src MTR_LIVE_SEL.addr (s.liveSel v)

/-- SNAPSHOT_TAKEN (00 R535; 14 R536): nothing without a snapshot that has begun. -/
def execSnapshotTaken (which : SnapSel) (s : State) : Host.Outcome State Fault Refusal := finK s (s.snapshot which)

end Sys2Proof.Machine
end

