-- ==== Sys2Proof/Machine/Dispatch.lean ====
section
/-! DEFINITION. One arm per command: its meaning. -/
namespace Sys2Proof.Machine

/-- The effect of a command on everything but the queue. -/
def exec (i : Instr) (s : State) : Host.Outcome State Fault Refusal :=
  match i with
  | .registerWrite src addr v => Sys2Proof.Machine.execRegisterWrite src addr v s
  | .partialAccess src addr len kind => Sys2Proof.Machine.execPartialAccess src addr len kind s
  | .unmappedAccess src addr write => Sys2Proof.Machine.execUnmappedAccess src addr write s
  | .rcRead src addr => Sys2Proof.Machine.execRcRead src addr s
  | .counterClearRead src addr => Sys2Proof.Machine.execCounterClearRead src addr s
  | .tmgQselWrite src slice v => Sys2Proof.Machine.execTmgQselWrite src slice v s
  | .tmgPselWrite src slice v => Sys2Proof.Machine.execTmgPselWrite src slice v s
  | .keySlotSelWrite src v => Sys2Proof.Machine.execKeySlotSelWrite src v s
  | .rgmRingSelWrite src pf v => Sys2Proof.Machine.execRgmRingSelWrite src pf v s
  | .mtrLiveSelWrite src v => Sys2Proof.Machine.execMtrLiveSelWrite src v s
  | .snapshotTaken which => Sys2Proof.Machine.execSnapshotTaken which s
  | .ntuTick => Sys2Proof.Machine.execNtuTick s
  | .ntuCtrlWrite src v => Sys2Proof.Machine.execNtuCtrlWrite src v s
  | .ntuTimeRead src => Sys2Proof.Machine.execNtuTimeRead src s
  | .ppsInRead src => Sys2Proof.Machine.execPpsInRead src s
  | .step src => Sys2Proof.Machine.execStep src s
  | .slew src => Sys2Proof.Machine.execSlew src s
  | .abandon src => Sys2Proof.Machine.execAbandon src s
  | .stepApplied => Sys2Proof.Machine.execStepApplied s
  | .slewDone => Sys2Proof.Machine.execSlewDone s
  | .ppsInEdge rising skew => Sys2Proof.Machine.execPpsInEdge rising skew s
  | .ppsOutRise => Sys2Proof.Machine.execPpsOutRise s
  | .ppsOutFall => Sys2Proof.Machine.execPpsOutFall s
  | .epochSwitch => Sys2Proof.Machine.execEpochSwitch s
  | .imageVerified => Sys2Proof.Machine.execImageVerified s
  | .epochDrained => Sys2Proof.Machine.execEpochDrained s
  | .forcedDrain => Sys2Proof.Machine.execForcedDrain s
  | .gateListSwitch port => Sys2Proof.Machine.execGateListSwitch port s
  | .macHalfModeWrite src slice v => Sys2Proof.Machine.execMacHalfModeWrite src slice v s
  | .spareNow src slice groupB v => Sys2Proof.Machine.execSpareNow src slice groupB v s
  | .portCtrlWrite src slice port v => Sys2Proof.Machine.execPortCtrlWrite src slice port v s
  | .fecWindowEnd die lane symbols corrCw uncorrCw => Sys2Proof.Machine.execFecWindowEnd die lane symbols corrCw uncorrCw s
  | .laneLockLoss die lane => Sys2Proof.Machine.execLaneLockLoss die lane s
  | .laneLockRegain die lane => Sys2Proof.Machine.execLaneLockRegain die lane s
  | .portAligned port => Sys2Proof.Machine.execPortAligned port s
  | .alignmentLoss port => Sys2Proof.Machine.execAlignmentLoss port s
  | .sparingTimeout port => Sys2Proof.Machine.execSparingTimeout port s
  | .lpiEntry port => Sys2Proof.Machine.execLpiEntry port s
  | .lpiWakeEnd port => Sys2Proof.Machine.execLpiWakeEnd port s
  | .sliceClockDown slice => Sys2Proof.Machine.execSliceClockDown slice s
  | .sliceClockUp slice => Sys2Proof.Machine.execSliceClockUp slice s
  | .frameStart port skew first => Sys2Proof.Machine.execFrameStart port skew first s
  | .frameEnd port rest symErr fcsOk => Sys2Proof.Machine.execFrameEnd port rest symErr fcsOk s
  | .parserWalk frame ecc => Sys2Proof.Machine.execParserWalk frame ecc s
  | .classify frame c => Sys2Proof.Machine.execClassify frame c s
  | .insert src slice v => Sys2Proof.Machine.execInsert src slice v s
  | .modify src slice v => Sys2Proof.Machine.execModify src slice v s
  | .delete src slice v => Sys2Proof.Machine.execDelete src slice v s
  | .read src slice v => Sys2Proof.Machine.execRead src slice v s
  | .updLookup src slice v => Sys2Proof.Machine.execUpdLookup src slice v s
  | .treeLoad src slice v => Sys2Proof.Machine.execTreeLoad src slice v s
  | .treeLoadDone slice rest => Sys2Proof.Machine.execTreeLoadDone slice rest s
  | .flushLearned src slice v => Sys2Proof.Machine.execFlushLearned src slice v s
  | .ageSweep slice slot table => Sys2Proof.Machine.execAgeSweep slice slot table s
  | .skimGo src slice v => Sys2Proof.Machine.execSkimGo src slice v s
  | .skimChunk slice => Sys2Proof.Machine.execSkimChunk slice s
  | .skimAbort src slice v => Sys2Proof.Machine.execSkimAbort src slice v s
  | .alwaysIllegal th => Sys2Proof.Machine.execAlwaysIllegal th s
  | .undefinedOpcode th word => Sys2Proof.Machine.execUndefinedOpcode th word s
  | .alu th x => Sys2Proof.Machine.execAlu th x s
  | .addi th x => Sys2Proof.Machine.execAddi th x s
  | .andi th x => Sys2Proof.Machine.execAndi th x s
  | .ori th x => Sys2Proof.Machine.execOri th x s
  | .xori th x => Sys2Proof.Machine.execXori th x s
  | .shli th x => Sys2Proof.Machine.execShli th x s
  | .shri th x => Sys2Proof.Machine.execShri th x s
  | .sari th x => Sys2Proof.Machine.execSari th x s
  | .lims th x => Sys2Proof.Machine.execLims th x s
  | .limu th x => Sys2Proof.Machine.execLimu th x s
  | .cat th x => Sys2Proof.Machine.execCat th x s
  | .bfx th x => Sys2Proof.Machine.execBfx th x s
  | .bfi th x => Sys2Proof.Machine.execBfi th x s
  | .cmp th x => Sys2Proof.Machine.execCmp th x s
  | .cmpi th x => Sys2Proof.Machine.execCmpi th x s
  | .plog th x => Sys2Proof.Machine.execPlog th x s
  | .ld th x => Sys2Proof.Machine.execLd th x s
  | .lds th x => Sys2Proof.Machine.execLds th x s
  | .st th x => Sys2Proof.Machine.execSt th x s
  | .atom th x => Sys2Proof.Machine.execAtom th x s
  | .br th x => Sys2Proof.Machine.execBr th x s
  | .call th x => Sys2Proof.Machine.execCall th x s
  | .jr th x => Sys2Proof.Machine.execJr th x s
  | .adr th x => Sys2Proof.Machine.execAdr th x s
  | .frameWindow th x => Sys2Proof.Machine.execFrameWindow th x s
  | .frameInsert th x => Sys2Proof.Machine.execFrameInsert th x s
  | .frameRemove th x => Sys2Proof.Machine.execFrameRemove th x s
  | .frameTrim th x => Sys2Proof.Machine.execFrameTrim th x s
  | .lookup th x flowMiss ecc => Sys2Proof.Machine.execLookup th x flowMiss ecc s
  | .ciph th x => Sys2Proof.Machine.execCiph th x s
  | .cmpr th x => Sys2Proof.Machine.execCmpr th x s
  | .dmac th x => Sys2Proof.Machine.execDmac th x s
  | .crc th x => Sys2Proof.Machine.execCrc th x s
  | .toep th x => Sys2Proof.Machine.execToep th x s
  | .send th x => Sys2Proof.Machine.execSend th x s
  | .recv th x => Sys2Proof.Machine.execRecv th x s
  | .wait th x => Sys2Proof.Machine.execWait th x s
  | .sprRead th x => Sys2Proof.Machine.execSprRead th x s
  | .sprWrite th x => Sys2Proof.Machine.execSprWrite th x s
  | .tsetg th x => Sys2Proof.Machine.execTsetg th x s
  | .tgetg th x => Sys2Proof.Machine.execTgetg th x s
  | .tsetpc th x => Sys2Proof.Machine.execTsetpc th x s
  | .trelease th x => Sys2Proof.Machine.execTrelease th x s
  | .tstop th x => Sys2Proof.Machine.execTstop th x s
  | .tstate th x => Sys2Proof.Machine.execTstate th x s
  | .trap th x => Sys2Proof.Machine.execTrap th x s
  | .rett th x => Sys2Proof.Machine.execRett th x s
  | .brk th x => Sys2Proof.Machine.execBrk th x s
  | .releaseList th x => Sys2Proof.Machine.execReleaseList th x s
  | .releaseDrop th x => Sys2Proof.Machine.execReleaseDrop th x s
  | .releaseExcHost th x => Sys2Proof.Machine.execReleaseExcHost th x s
  | .releaseExcFw th x => Sys2Proof.Machine.execReleaseExcFw th x s
  | .orderRelease frame => Sys2Proof.Machine.execOrderRelease frame s
  | .dispatchFromQueue slice slot group => Sys2Proof.Machine.execDispatchFromQueue slice slot group s
  | .threadWake th => Sys2Proof.Machine.execThreadWake th s
  | .messageVisible th dst ch => Sys2Proof.Machine.execMessageVisible th dst ch s
  | .stallDetected slice pos => Sys2Proof.Machine.execStallDetected slice pos s
  | .halt src th => Sys2Proof.Machine.execHalt src th s
  | .stepThread src th => Sys2Proof.Machine.execStepThread src th s
  | .kill src th => Sys2Proof.Machine.execKill src th s
  | .resume src th => Sys2Proof.Machine.execResume src th s
  | .tdbgDataAccess src slice pos write v => Sys2Proof.Machine.execTdbgDataAccess src slice pos write v s
  | .coxRestart src slice pos => Sys2Proof.Machine.execCoxRestart src slice pos s
  | .engineReset src slice pos => Sys2Proof.Machine.execEngineReset src slice pos s
  | .migrationGo slice pos why => Sys2Proof.Machine.execMigrationGo slice pos why s
  | .spareTestDone cluster ok => Sys2Proof.Machine.execSpareTestDone cluster ok s
  | .migrationFrozen cluster => Sys2Proof.Machine.execMigrationFrozen cluster s
  | .migrationSwitch cluster => Sys2Proof.Machine.execMigrationSwitch cluster s
  | .migrationTimeout cluster => Sys2Proof.Machine.execMigrationTimeout cluster s
  | .positionOffline slice pos => Sys2Proof.Machine.execPositionOffline slice pos s
  | .bankHandover src slice bank v => Sys2Proof.Machine.execBankHandover src slice bank v s
  | .handoverDone slice bank => Sys2Proof.Machine.execHandoverDone slice bank s
  | .excBankAccess slice bank word write v => Sys2Proof.Machine.execExcBankAccess slice bank word write v s
  | .tmArrival frame => Sys2Proof.Machine.execTmArrival frame s
  | .schedulerChoice slice port => Sys2Proof.Machine.execSchedulerChoice slice port s
  | .wheelSlotRelease slice => Sys2Proof.Machine.execWheelSlotRelease slice s
  | .coarseSlotRelease slice => Sys2Proof.Machine.execCoarseSlotRelease slice s
  | .gateTransition port => Sys2Proof.Machine.execGateTransition port s
  | .overflowReadback slice queue bad => Sys2Proof.Machine.execOverflowReadback slice queue bad s
  | .frameTransmitted port skew => Sys2Proof.Machine.execFrameTransmitted port skew s
  | .install src slot => Sys2Proof.Machine.execInstall src slot s
  | .revoke src slot => Sys2Proof.Machine.execRevoke src slot s
  | .erase src slot => Sys2Proof.Machine.execErase src slot s
  | .recallDone => Sys2Proof.Machine.execRecallDone s
  | .leaseGrant slice slot miss => Sys2Proof.Machine.execLeaseGrant slice slot miss s
  | .leaseExpiry slice slot => Sys2Proof.Machine.execLeaseExpiry slice slot s
  | .keyDebugClear unit => Sys2Proof.Machine.execKeyDebugClear unit s
  | .espEnc w x => Sys2Proof.Machine.execEspEnc w x s
  | .espDec w x => Sys2Proof.Machine.execEspDec w x s
  | .macsecEnc w x => Sys2Proof.Machine.execMacsecEnc w x s
  | .macsecDec w x => Sys2Proof.Machine.execMacsecDec w x s
  | .tlsEnc w x => Sys2Proof.Machine.execTlsEnc w x s
  | .tlsDec w x => Sys2Proof.Machine.execTlsDec w x s
  | .xtsEnc w x => Sys2Proof.Machine.execXtsEnc w x s
  | .xtsDec w x => Sys2Proof.Machine.execXtsDec w x s
  | .gcmEnc w x => Sys2Proof.Machine.execGcmEnc w x s
  | .gcmDec w x => Sys2Proof.Machine.execGcmDec w x s
  | .deflateComp op x => Sys2Proof.Machine.execDeflateComp op x s
  | .deflateDecomp op x => Sys2Proof.Machine.execDeflateDecomp op x s
  | .pduRx op x => Sys2Proof.Machine.execPduRx op x s
  | .pduTx op x => Sys2Proof.Machine.execPduTx op x s
  | .configRequest pf reg data => Sys2Proof.Machine.execConfigRequest pf reg data s
  | .linkUp pf speed width flit => Sys2Proof.Machine.execLinkUp pf speed width flit s
  | .linkDown pf => Sys2Proof.Machine.execLinkDown pf s
  | .completionReceived pf tag data error poisoned => Sys2Proof.Machine.execCompletionReceived pf tag data error poisoned s
  | .ctoCheck => Sys2Proof.Machine.execCtoCheck s
  | .linkError pf => Sys2Proof.Machine.execLinkError pf s
  | .viral pf => Sys2Proof.Machine.execViral pf s
  | .freezeNow src pf => Sys2Proof.Machine.execFreezeNow src pf s
  | .hifRelease src pf => Sys2Proof.Machine.execHifRelease src pf s
  | .bmeClear pf => Sys2Proof.Machine.execBmeClear pf s
  | .bmeSet pf => Sys2Proof.Machine.execBmeSet pf s
  | .hotReset hp => Sys2Proof.Machine.execHotReset hp s
  | .flr pf => Sys2Proof.Machine.execFlr pf s
  | .doorbell pf page off width v => Sys2Proof.Machine.execDoorbell pf page off width v s
  | .mediate pf tf width => Sys2Proof.Machine.execMediate pf tf width s
  | .ringWriteCfg src pf => Sys2Proof.Machine.execRingWriteCfg src pf s
  | .ringEnable src pf start => Sys2Proof.Machine.execRingEnable src pf start s
  | .ringDisable src pf => Sys2Proof.Machine.execRingDisable src pf s
  | .ringRestart src pf => Sys2Proof.Machine.execRingRestart src pf s
  | .ringStopped ring => Sys2Proof.Machine.execRingStopped ring s
  | .descriptorFetch ring => Sys2Proof.Machine.execDescriptorFetch ring s
  | .descriptorArrival ring lines => Sys2Proof.Machine.execDescriptorArrival ring lines s
  | .snoop pf addr => Sys2Proof.Machine.execSnoop pf addr s
  | .txDataReadDone ring => Sys2Proof.Machine.execTxDataReadDone ring s
  | .rxDelivery ring => Sys2Proof.Machine.execRxDelivery ring s
  | .headPublish ring => Sys2Proof.Machine.execHeadPublish ring s
  | .moderationTimeout ring => Sys2Proof.Machine.execModerationTimeout ring s
  | .funcCtlWrite src fn v => Sys2Proof.Machine.execFuncCtlWrite src fn v s
  | .tfReset src tf => Sys2Proof.Machine.execTfReset src tf s
  | .resetDrainDone fn => Sys2Proof.Machine.execResetDrainDone fn s
  | .medNotify src pf tf => Sys2Proof.Machine.execMedNotify src pf tf s
  | .dmaChCfgWrite src ch v => Sys2Proof.Machine.execDmaChCfgWrite src ch v s
  | .dmaGo src ch => Sys2Proof.Machine.execDmaGo src ch s
  | .dmaAbort src ch => Sys2Proof.Machine.execDmaAbort src ch s
  | .copy ch bursts => Sys2Proof.Machine.execCopy ch bursts s
  | .interleave ch bursts => Sys2Proof.Machine.execInterleave ch bursts s
  | .deinterleave ch bursts => Sys2Proof.Machine.execDeinterleave ch bursts s
  | .fill ch bursts => Sys2Proof.Machine.execFill ch bursts s
  | .compare ch bursts => Sys2Proof.Machine.execCompare ch bursts s
  | .fifoAdj src fifo delta => Sys2Proof.Machine.execFifoAdj src fifo delta s
  | .granuleWrite src g v => Sys2Proof.Machine.execGranuleWrite src g v s
  | .granuleZeroed g => Sys2Proof.Machine.execGranuleZeroed g s
  | .memMapWrite src v => Sys2Proof.Machine.execMemMapWrite src v s
  | .dramRefresh channel rank => Sys2Proof.Machine.execDramRefresh channel rank s
  | .selfRefreshEntry set => Sys2Proof.Machine.execSelfRefreshEntry set s
  | .patrolScrub addr found => Sys2Proof.Machine.execPatrolScrub addr found s
  | .dramRowRepair addr left => Sys2Proof.Machine.execDramRowRepair addr left s
  | .cxlMemAccess pf hpa len data => Sys2Proof.Machine.execCxlMemAccess pf hpa len data s
  | .hdmCommit pf dec base size dpa ways => Sys2Proof.Machine.execHdmCommit pf dec base size dpa ways s
  | .meteringEpochEnd => Sys2Proof.Machine.execMeteringEpochEnd s
  | .graceEnd => Sys2Proof.Machine.execGraceEnd s
  | .blockSigned => Sys2Proof.Machine.execBlockSigned s
  | .blockPublish => Sys2Proof.Machine.execBlockPublish s
  | .sketchQuery src slice v => Sys2Proof.Machine.execSketchQuery src slice v s
  | .mbxTxPush src ch v => Sys2Proof.Machine.execMbxTxPush src ch v s
  | .mbxRxPop src ch => Sys2Proof.Machine.execMbxRxPop src ch s
  | .mbxAbort src ch v => Sys2Proof.Machine.execMbxAbort src ch v s
  | .getInfo ch => Sys2Proof.Machine.execGetInfo ch s
  | .imageLoad ch data => Sys2Proof.Machine.execImageLoad ch data s
  | .imageQuery ch => Sys2Proof.Machine.execImageQuery ch s
  | .getCert ch => Sys2Proof.Machine.execGetCert ch s
  | .certWrite ch data => Sys2Proof.Machine.execCertWrite ch data s
  | .fwUpdate ch data => Sys2Proof.Machine.execFwUpdate ch data s
  | .lifecycle ch => Sys2Proof.Machine.execLifecycle ch s
  | .lifecycleBurn b => Sys2Proof.Machine.execLifecycleBurn b s
  | .setMinVersion ch => Sys2Proof.Machine.execSetMinVersion ch s
  | .keyRevoke ch => Sys2Proof.Machine.execKeyRevoke ch s
  | .seal ch => Sys2Proof.Machine.execSeal ch s
  | .watchdogExpiry => Sys2Proof.Machine.execWatchdogExpiry s
  | .mctpVendorMessage words => Sys2Proof.Machine.execMctpVendorMessage words s
  | .pldmMessage m => Sys2Proof.Machine.execPldmMessage m s
  | .getVersion => Sys2Proof.Machine.execGetVersion s
  | .getCapabilities => Sys2Proof.Machine.execGetCapabilities s
  | .negotiateAlgorithms => Sys2Proof.Machine.execNegotiateAlgorithms s
  | .getDigests => Sys2Proof.Machine.execGetDigests s
  | .getCertificate slot off len => Sys2Proof.Machine.execGetCertificate slot off len s
  | .challenge slot => Sys2Proof.Machine.execChallenge slot s
  | .getMeasurements index signed => Sys2Proof.Machine.execGetMeasurements index signed s
  | .agingMeasure element driftPpm => Sys2Proof.Machine.execAgingMeasure element driftPpm s
  | .sramScrub mem row word found => Sys2Proof.Machine.execSramScrub mem row word found s
  | .sramRowRepair mem row left => Sys2Proof.Machine.execSramRowRepair mem row left s
  | .stormWindowEnd => Sys2Proof.Machine.execStormWindowEnd s
  | .recordClear src v => Sys2Proof.Machine.execRecordClear src v s
  | .pllLockLoss pll => Sys2Proof.Machine.execPllLockLoss pll s
  | .railFault rail => Sys2Proof.Machine.execRailFault rail s
  | .thermalRead die sensor celsius => Sys2Proof.Machine.execThermalRead die sensor celsius s
  | .pwrCmdWrite src v => Sys2Proof.Machine.execPwrCmdWrite src v s
  | .pwrAllowWrite src v => Sys2Proof.Machine.execPwrAllowWrite src v s
  | .pwrHalfSlicesWrite src v => Sys2Proof.Machine.execPwrHalfSlicesWrite src v s
  | .dStateChange change => Sys2Proof.Machine.execDStateChange change s
  | .transitionDone => Sys2Proof.Machine.execTransitionDone s
  | .easyEntry => Sys2Proof.Machine.execEasyEntry s
  | .easyExit b => Sys2Proof.Machine.execEasyExit b s
  | .coldReset b => Sys2Proof.Machine.execColdReset b s
  | .powerGoodLoss ns => Sys2Proof.Machine.execPowerGoodLoss ns s
  | .warmReset src => Sys2Proof.Machine.execWarmReset src s
  | .warmResetDone => Sys2Proof.Machine.execWarmResetDone s
  | .sliceReset src slice => Sys2Proof.Machine.execSliceReset src slice s
  | .sliceResetDone slice => Sys2Proof.Machine.execSliceResetDone slice s
  | .dramWipeDone g => Sys2Proof.Machine.execDramWipeDone g s
  | .functionReady => Sys2Proof.Machine.execFunctionReady s
  | .powerAverage deciwatt => Sys2Proof.Machine.execPowerAverage deciwatt s
  | .clockGate slice pos => Sys2Proof.Machine.execClockGate slice pos s
  | .rxLpiEntry port => Sys2Proof.Machine.execRxLpiEntry port s
  | .rxLpiWake port => Sys2Proof.Machine.execRxLpiWake port s
  | .firmwareQueueRead slice => Sys2Proof.Machine.execFirmwareQueueRead slice s
  | .mctpControlMessage eid => Sys2Proof.Machine.execMctpControlMessage eid s
  | .rgmiiFrameReceived data => Sys2Proof.Machine.execRgmiiFrameReceived data s

end Sys2Proof.Machine
end

