-- ==== Sys2Proof/Safety.lean ====
section
/-! DEFINITION. What claims say of states and runs: the canonical form of memory, a run that goes on, the answer that leaves
all but the device as it was, and when a command is heard. -/
namespace Sys2Proof.Machine

/-- The memory of `s` is in its canonical form: rising addresses, no listed byte that an unlisted address reads as. -/
abbrev State.memOk (s : State) : Prop := s.mem.wf = true

/-- `k` steps from `s` meet neither a fault nor a refusal. -/
def State.goesOn (s : State) (k : Nat) : Prop := ∃ t, Host.Core.run Sys2Proof.core k s = .next t

/-- `s` with the device `d` and all that follows of itself from `d` (07 R205; 13 R361): what a command that changes only the device answers. -/
def State.settled (s : State) (d : Dev) : State := { s with toDev := d.settle }

/-- `s` become `t`, settled: what a command that also changes memory answers. -/
def State.became (s t : State) : State := { s with toDev := t.toDev.settle, mem := t.mem }

/-- `t` and all that follows of itself from it where the part runs in it: what a command answers whose effect may also end the running. -/
def State.ended (t : State) : State := if t.runs then { t with toDev := t.toDev.settle } else t

/-- Network time is one that the spec gives behaviour to (02 R43). -/
abbrev State.timeOk (s : State) : Prop := s.ntu.acc < 2 ^ 95

/-- An access by `src` is heard: the part runs, and no frozen link holds the access off (13 R371; 19 R499). -/
abbrev State.hears (s : State) (src : Src) : Prop := s.runs = true ∧ s.srcFrozen src = false

/-- An access by `src` to a unit of slice `sl` is heard: the slice is powered too (01 R38). -/
abbrev State.hearsIn (s : State) (src : Src) (sl : Nat) : Prop := s.hears src ∧ s.sliceOn sl = true

/-- The request at the head of channel `c`, all of whose words are there, is `cmd` with `len` words of payload: its header is `h`, its payload `p` (17 R460, R461). -/
abbrev State.asks (s : State) (c cmd len h : Nat) (p : List Nat) : Prop :=
  (s.mb c).front = some (h, p) ∧ h / 2 ^ 24 = cmd ∧ badCommand h = false ∧ p.length = len

/-- `s` with the slot that thread `th` uses counted and the thread RUNNING: where the effect of an issued instruction begins (07 R176, R207). -/
def State.began (s : State) (th : ThId) : State :=
  s.onDev fun d => (d.updThr (thKey th) fun x => { x with st := .running }).issueCounts (thKey th)

/-- Thread `th` changes by `f` and goes on at the next instruction. -/
def State.goes (s : State) (th : ThId) (f : Thr → Thr) : State :=
  s.onDev fun d => d.updThr (thKey th) fun x => { f x with pc := x.pc + 4 }

/-- Thread `th` traps at its instruction with `cause` and the address `addr`, if one caused it (07 R209 to R211). -/
def State.traps (s : State) (th : ThId) (cause : Nat) (addr : Option Nat) : State :=
  s.onDev fun d => d.trap (thKey th) cause (d.thrAt (thKey th)).pc addr none

/-- Thread `th` issues the instruction at its PC: the part runs, the thread may issue and is RUNNING, no halt of it waits, and the fetch meets neither a bad PC nor an error (07 R168, R170, R173;
08 R214, R241). -/
abbrev State.fetches (s : State) (th : ThId) : Prop :=
  s.runs = true ∧ s.canIssueThr (thKey th) = true ∧ (s.thrAt (thKey th)).st = .running ∧ (s.thrAt (thKey th)).haltNext = false ∧ s.fetchTrap (thKey th) = none ∧
  s.poisonIn (localAt (s.physOf th.slice.val th.pos.val) (s.thrAt (thKey th)).pc) 4 = none

/-- Thread `th` issues an instruction that its predicate lets execute (07 R176). -/
abbrev State.issues (s : State) (th : ThId) (pred : Fin 8) (pn : Bool) : Prop :=
  s.fetches th ∧ ((s.thrAt (thKey th)).pred pred.val != pn) = true

end Sys2Proof.Machine
end

