-- ==== Sys2Proof/Laws/Answer.lean ====
section
/-! SUPPORT. What the answering operations of Machine/Answer.lean can answer, said once: every one answers a next state; where the part runs and the access is heard it is the
device given, settled. -/
namespace Sys2Proof.Machine

theorem fin_eq_of_runs {s : State} (h : s.runs = true) (d : Dev) : fin s d = .next (s.settled d) := by
  simp [fin, finA, h, State.settled]

theorem finA_eq (s : State) (d : Dev) : finA s d = .next (s.settled d) := rfl

/-- A meaning that answers by `fin` answers the state as it was or the settled device. -/
theorem fin_cases (s : State) (d : Dev) : fin s d = .next s ∨ fin s d = .next (s.settled d) := by
  unfold fin; split
  · exact .inr rfl
  · exact .inl rfl

theorem finK_eq_of_runs {s : State} (h : s.runs = true) (d : Dev) : finK s d = .next (s.settled d) := by
  simp [finK, finA, h, State.settled]

theorem finK_cases (s : State) (d : Dev) : finK s d = .next s ∨ finK s d = .next (s.settled d) := by
  unfold finK; split
  · exact .inr rfl
  · exact .inl rfl

theorem finM_eq_of_runs {s : State} (h : s.runs = true) (d : Dev) (m : Memory) : finM s d m = .next { s.settled d with mem := m } := by
  simp [finM, h, State.settled]

theorem finM_cases (s : State) (d : Dev) (m : Memory) : finM s d m = .next s ∨ finM s d m = .next { s.settled d with mem := m } := by
  unfold finM; split
  · exact .inr rfl
  · exact .inl rfl

/-- A part that runs is in no warm reset. -/
theorem mode_of_runs {s : State} (h : s.runs = true) : s.pwrMode = .running := by
  simpa [Dev.runs] using h

theorem finW_eq_of_hears {s : State} {src : Src} (h : s.hears src) (a : Nat) (d : Dev) : finW s src a d = .next (s.settled d) := by
  have hm := mode_of_runs h.1
  simp [finW, h.2, hm, fin_eq_of_runs h.1]

theorem finR_eq_of_hears {s : State} {src : Src} (h : s.hears src) (a w v : Nat) (d : Dev) :
    finR s src a w v d = .next (s.settled (d.emit (.readData v))) := by
  have hm := mode_of_runs h.1
  simp [finR, h.2, hm, fin_eq_of_runs h.1]

/-- Whatever happens to a write, it answers a next state that keeps memory and queue. -/
theorem finW_next (s : State) (src : Src) (a : Nat) (d : Dev) : ∃ t, finW s src a d = .next t ∧ t.mem = s.mem ∧ t.pending = s.pending := by
  unfold finW
  split
  · exact ⟨_, rfl, rfl, rfl⟩
  · split
    · exact ⟨_, rfl, rfl, rfl⟩
    · rcases fin_cases s d with h | h <;> rw [h] <;> exact ⟨_, rfl, rfl, rfl⟩

/-- Whatever happens to a read, it answers a next state that keeps memory and queue. -/
theorem finR_next (s : State) (src : Src) (a w v : Nat) (d : Dev) : ∃ t, finR s src a w v d = .next t ∧ t.mem = s.mem ∧ t.pending = s.pending := by
  unfold finR
  split
  · exact ⟨_, rfl, rfl, rfl⟩
  · split
    · exact ⟨_, rfl, rfl, rfl⟩
    · rcases fin_cases s (d.emit (.readData v)) with h | h <;> rw [h] <;> exact ⟨_, rfl, rfl, rfl⟩

theorem finSW_eq_of_hears {s : State} {src : Src} {sl : Nat} (h : s.hearsIn src sl) (r : Reg) (d : Dev) :
    finSW s src sl r d = .next (s.settled d) := by
  rw [finSW, finW_eq_of_hears h.1, if_pos h.2]

theorem finSR_eq_of_hears {s : State} {src : Src} {sl : Nat} (h : s.hearsIn src sl) (r : Reg) (w v : Nat) (d : Dev) :
    finSR s src sl r w v d = .next (s.settled (d.emit (.readData v))) := by
  rw [finSR, if_pos h.2, finR_eq_of_hears h.1]

theorem finSM_eq_of_hears {s : State} {src : Src} (h : s.hears src) (a : Nat) {t : State} (ht : t.runs = true) :
    finSM s src a t = .next (t.settled t.toDev) := by
  have hm := mode_of_runs h.1
  simp [finSM, h.2, hm, h.1, finM_eq_of_runs ht, State.settled]

/-- A meaning that answers the state `t` it came to. -/
theorem finM_ended (t : State) : finM t t.toDev t.mem = .next t.ended := by
  unfold finM State.ended; split <;> rfl

/-- A meaning that answers `t` where the part runs. -/
theorem finM_became {s : State} (h : s.runs = true) (t : State) : finM s t.toDev t.mem = .next (s.became t) := by
  rw [finM_eq_of_runs h]; rfl

@[simp] theorem State.settled_mem (s : State) (d : Dev) : (s.settled d).mem = s.mem := rfl
@[simp] theorem State.settled_pending (s : State) (d : Dev) : (s.settled d).pending = s.pending := rfl
@[simp] theorem State.settled_toDev (s : State) (d : Dev) : (s.settled d).toDev = d.settle := rfl

end Sys2Proof.Machine
end

