-- ==== Sys2Proof/WellFormed.lean ====
section
/-! DEFINITION. Which commands are well formed: operands in the ranges of the spec's fields and addresses, where their types do not say it already. The step does not
ask it: a command outside these ranges is one that no sender can send (log entry 34). -/
namespace Sys2Proof

/-- The opcodes of 07 R179. -/
def definedOpcodes : List Nat :=
  [0x01, 0x02, 0x03, 0x04, 0x05, 0x06, 0x07, 0x08, 0x0A, 0x0B, 0x0C, 0x0E, 0x0F, 0x10, 0x11, 0x12, 0x14, 0x15, 0x16, 0x18, 0x1C, 0x1D, 0x1E, 0x1F,
   0x20, 0x24, 0x25, 0x26, 0x27, 0x28, 0x29, 0x2C, 0x2D, 0x2E, 0x30, 0x31, 0x32, 0x33, 0x34, 0x36]

/-- How many values of FN the opcodes whose rows give the FN define (07 R192, R193, R208). -/
def fnCount (opcode : Nat) : Nat := if opcode = 0x20 then 4 else if opcode = 0x31 then 6 else if opcode = 0x34 then 4 else 128

/-- Whether an instruction word has no row of its own: its opcode is neither 0x00 nor listed, or its FN is none of those its opcode has rows for (07 R176 to R179). -/
def undefinedWord (word : BitVec 32) : Bool :=
  let op := (word.extractLsb' 22 6).toNat
  op != 0 && (!definedOpcodes.contains op || decide (fnCount op ≤ (word.extractLsb' 0 7).toNat))

/-- An address of the register file: BAR0, the PF windows, BAR4 or BAR2 as the model numbers them. -/
def regAddrOk (a : Nat) : Bool := decide (a < 2 ^ 34)

/-- What a boot meets: numbers of tests that exist, once each, twelve channels, and granules and an address there may be. -/
def BootIn.ok (b : BootIn) : Bool :=
  decide (b.untrained < 2 ^ 12) && decide (b.sealLow ≤ 6144) && decide (b.fwBase < 2 ^ 44) && b.tests.all (fun r => decide (r.test < 1024)) && decide (b.tests.map BistRun.test).Nodup

/-- The number of a frame or of an offload command is no operand of the part's: any number is one. -/
def Instr.wellFormed : Instr → Bool
  | .registerWrite _ a _ => regAddrOk a
  | .partialAccess _ a len _ => regAddrOk a && decide (0 < len)
  | .unmappedAccess _ a _ => regAddrOk a
  | .rcRead _ a => regAddrOk a
  | .counterClearRead _ a => regAddrOk a
  | .frameStart _ _ first => decide (first.length ≤ 64)
  | .undefinedOpcode _ w => undefinedWord w
  | .configRequest _ (.other off) data => decide (off < 4096) && decide (off % 4 = 0) && data.all (fun v => decide (v < 2 ^ 32))
  | .configRequest _ _ data => data.all fun v => decide (v < 2 ^ 32)
  | .linkUp _ speed _ _ => decide (1 ≤ speed.val)
  | .completionReceived _ tag _ _ _ => decide (tag < 4096)
  | .doorbell _ _ off width _ => decide (off < 4096) && [8, 16, 32, 64].contains width
  | .mediate _ _ width => [8, 16, 32, 64].contains width
  | .descriptorArrival _ lines => decide (lines.length % 64 = 0)
  | .snoop _ a => decide (a < 2 ^ 64)
  | .patrolScrub a _ => decide (a < 2 ^ 48)
  | .dramRowRepair a _ => decide (a < 2 ^ 48)
  | .cxlMemAccess _ hpa len data => decide (hpa < 2 ^ 64) && (match data with
    | .read => true
    | .write b _ => b.length == len)
  | .hdmCommit _ _ base size dpa _ => decide (base < 2 ^ 64) && decide (size < 2 ^ 64) && decide (dpa < 2 ^ 64)
  | .getCertificate slot off len => decide (slot < 256) && decide (off < 65536) && decide (len < 65536)
  | .challenge slot => decide (slot < 256)
  | .getMeasurements index _ => decide (index < 256)
  | .mctpVendorMessage words => words.all fun w => decide (w < 2 ^ 32)
  | .mctpControlMessage eid => eid.all fun e => decide (e < 256)
  | .lifecycleBurn b => b.ok
  | .easyExit b => b.ok
  | .coldReset b => b.ok
  | _ => true

end Sys2Proof
end

