-- ==== Sys2Proof/Certificates/Slice0/Obligations.lean ====
section
/-! DEFINITION. The statements of this model, from the numbered rules of spec/. In a statement about a command, `s` is the state without the command, and
`s.settled d` is `s` with the device `d` and what follows of itself from `d` (Machine/Answer.lean; Obligations.SettleFrame says what that leaves alone). -/
open Sys2Proof Sys2Proof.Machine

/-- For every command c, list of commands rest and state s: when the queue of s is c followed by rest, one step of s is exec of c on s with the queue rest; when the queue is empty, one step answers s itself (the model's own choice, log entry 5). -/
def Obligations.StepTakesFront : Prop :=
(∀ (c : Instr) (rest : List Instr) (s : State), s.pending = c :: rest → step s = exec c { s with pending := rest }) ∧
  ∀ s : State, s.pending = [] → step s = .next s

/-- For every command c and states s and t: when exec of c at s answers next t, the queue of t is the queue of s. Only the step takes from the queue. -/
def Obligations.QueueUntouched : Prop :=
∀ (c : Instr) (s t : State), exec c s = .next t → t.pending = s.pending

/-- For every state s and number k at least the length of the queue of s, and every state t: when k steps of the machine from s answer next t, the queue of t is empty. Nothing in the part puts a command into the queue. -/
def Obligations.QueueDrains : Prop :=
∀ (s t : State) (k : Nat), s.pending.length ≤ k → Host.Core.run Sys2Proof.core k s = .next t → t.pending = []

/-- For every command c and state s: when c is none of NTU_TICK, STEP_APPLIED and SLEW_DONE, exec of c at s answers a next state. Where exec of any c answers no next state, it answers the fault networkTimeRange, and the network time that the tick would come to is below 0 or at least 2^63 ns, where R43 of 02_network_time.md leaves the behaviour undefined. The case below 0 is the model's reading (it is outside the range too). -/
def Obligations.OnlyTimeStops : Prop :=
(∀ (c : Instr) (s : State), c ≠ .ntuTick → c ≠ .stepApplied → c ≠ .slewDone → ∃ t, exec c s = .next t) ∧
  ∀ (c : Instr) (s : State), (∃ t, exec c s = .next t) ∨ (exec c s = .fault .networkTimeRange ∧ ¬ (0 ≤ s.nextAcc ∧ s.nextAcc < 2 ^ 95))

/-- For all states s and t: when the memory of s is in its canonical form (addresses strictly rising, no listed byte equal to 0, what an unlisted address reads as) and one step of s answers next t, the memory of t is in its canonical form. So two memories that read alike are equal data, whatever commands have run. -/
def Obligations.MemoryCanonical : Prop :=
∀ s t : State, s.memOk → step s = .next t → t.memOk

/-- State.reset has no memory byte listed and memory in canonical form, no command waiting, network time 0, and the part runs. NTU_CTRL reads 8 (Ulyar owns network time), NTU_INCR 4.0 ns, NTU_SLEW_RATE 50,000 ppb, GLB_IDENT 0x32001E7A, the unmapped access records 0. That no engine thread, no frame and no ring is held, and that State.reset stands after the undercoat wipe, is the model's own reading (log entries 1 and 36). -/
def Obligations.ResetInvariants : Prop :=
State.reset.memOk ∧ State.reset.mem = [] ∧ State.reset.pending = [] ∧ State.reset.timeOk ∧ State.reset.now = 0 ∧ State.reset.runs = true ∧
  State.reset.rd NTU_CTRL = 8 ∧ State.reset.rd NTU_INCR = 0x400000000 ∧ State.reset.rd NTU_SLEW_RATE = 0xC350 ∧ State.reset.rd GLB_IDENT = 0x32001E7A ∧
  State.reset.rd GLB_UNMAPPED_ADDR = 0 ∧ State.reset.rd GLB_UNMAPPED_COUNT = 0 ∧ State.reset.thr = [] ∧ State.reset.frames = [] ∧ State.reset.ring = []

/-- For every device d: settling d (the waits that an event satisfies return, rising interrupt sources send their messages, held messages whose causes of waiting have ended are sent, the power state follows the D-states) leaves alone network time, images, ports, frames, classifiers, traffic managers, keys, DMA and device memory, metering, management, reliability, snapshots in progress and the free values drawn; of the engines the channels, offload commands, dispatch queues, order, rounds, held accesses of the exception path, migrations and poison; the records that wait for Bus Master Enable; of the rings everything but the message store; how the part runs; every register but PWR_STATUS, MEM_PWR and the status of DMA channel 63; every counter but the count of sent messages. -/
def Obligations.SettleFrame : Prop :=
∀ d : Dev, d.settle.ntu = d.ntu ∧ d.settle.img = d.img ∧ d.settle.mac = d.mac ∧ d.settle.frm = d.frm ∧ d.settle.cls = d.cls ∧ d.settle.tm = d.tm ∧
  d.settle.key = d.key ∧ d.settle.dma = d.dma ∧ d.settle.mtr = d.mtr ∧ d.settle.mgt = d.mgt ∧ d.settle.rel = d.rel ∧ d.settle.snapWait = d.snapWait ∧
  d.settle.freeCtr = d.freeCtr ∧ d.settle.chan = d.chan ∧ d.settle.ops = d.ops ∧ d.settle.nextOp = d.nextOp ∧ d.settle.dspq = d.dspq ∧
  d.settle.order = d.order ∧ d.settle.round = d.round ∧ d.settle.excHeld = d.excHeld ∧ d.settle.recWait = d.recWait ∧ d.settle.mig = d.mig ∧ d.settle.phys = d.phys ∧ d.settle.poison = d.poison ∧ d.settle.ring = d.ring ∧
  d.settle.pfReset = d.pfReset ∧ d.settle.arrived = d.arrived ∧ d.settle.pwrMode = d.pwrMode ∧
  (∀ r : Reg, r.addr ≠ PWR_STATUS.addr → r.addr ≠ MEM_PWR.addr → r.addr ≠ (DMA_CH_STATUS 63).addr → d.settle.rd r = d.rd r) ∧
  ∀ a, a ≠ rgmCnt 12 → d.settle.cntAt a = d.cntAt a

/-- For fields f and g that lie within 64 bits, every number x and every register value v: reading f after setting f to x gives x modulo 2 to the width of f; when f and g do not overlap, reading g after setting f gives what g read before. -/
def Obligations.FieldReadBack : Prop :=
∀ (f g : Fld) (x : Nat) (v : Word), f.lo + f.w ≤ 64 → g.lo + g.w ≤ 64 →
  f.get (f.set x v) = x % 2 ^ f.w ∧ ((f.lo + f.w ≤ g.lo ∨ g.lo + g.w ≤ f.lo) → g.get (f.set x v) = g.get v)

/-- For every register table r, address a and device d: the bits that no field of r covers are 0 in the value that the register reads as. Two written values that agree on the bits that fields of r cover give the register the same value, and the write leaves the bits that no field covers as they were. The sentence of R6 on what software must write is about software, not about the part. -/
def Obligations.ReservedFields : Prop :=
∀ (d : Dev) (r : RegDesc) (a : Nat) (old v w : Word), d.regValue r a &&& ~~~ r.used = 0 ∧
  (v &&& r.used = w &&& r.used → r.written old v = r.written old w) ∧ r.written old v &&& ~~~ r.used = old &&& ~~~ r.used

/-- What REGISTER_WRITE, RC_READ, COUNTER_CLEAR_READ, PARTIAL_ACCESS and UNMAPPED_ACCESS come to when the access is heard -/
def Obligations.RegisterAccess : Prop :=
((∀ (s : State) (src : Src) (a : Nat) (r : RegDesc) (v : Word), s.hears src → a / 0x100000 = 9 → placeAt a = .reg r a → a ≠ RAS_REC_SEL.addr →
    exec (.registerWrite src a v) s = .next (s.settled (s.toDev.wr ⟨a, r.rst⟩ (r.written (s.toDev.rd ⟨a, r.rst⟩) v)))) ∧
  (∀ (s : State) (src : Src), s.hears src →
    exec (.rcRead src GLB_UNMAPPED_COUNT.addr) s = .next (s.settled ((s.toDev.setF GLB_UNMAPPED_COUNT GLB_UNMAPPED_COUNT_COUNT 0).emit
      (.readData (s.fld GLB_UNMAPPED_COUNT GLB_UNMAPPED_COUNT_COUNT))))) ∧
  (∀ (s : State) (src : Src) (a c : Nat), s.hears src → a < 2 ^ 28 → a / 0x100000 ≠ 10 → s.placeNow a = .cnt c true → a ≠ NTU_TIME_NS.addr → a ≠ NTU_PPS_IN_NS.addr →
    exec (.counterClearRead src a) s = .next (s.settled ((s.toDev.setCnt (s.cnt.put c 0)).emit (.readData (s.cntAt c))))) ∧
  (∀ (s : State) (src : Src) (a len i b : Nat) (r : RegDesc), s.hears src → a < 2 ^ 28 → a / 0x100000 ≠ 10 → s.touched a (min len 4096) = some (i, .reg r b) →
    (RegPlace.reg r b).span i ≠ (a, len) →
    exec (.partialAccess src a len .write) s = .next s ∧
    exec (.partialAccess src a len .read) s = .next (s.settled (s.toDev.emit (.readData (2 ^ (8 * len) - 1))))) ∧
  (∀ (s : State) (n : Fin 4) (tee : Bool) (a len : Nat), s.hears (.pf n tee) → exec (.partialAccess (.pf n tee) a len .poisoned) s = .next (s.settled (s.aerLog n.val 12 false "Poisoned TLP Received"))) ∧
  (∀ (s : State) (src : Src) (a : Nat), s.hears src → a < 2 ^ 28 → a / 0x100000 ≠ 10 → s.placeNow a = .none →
    exec (.unmappedAccess src a true) s = .next (s.settled (s.toDev.unmapped a true)) ∧
    exec (.unmappedAccess src a false) s = .next (s.settled ((s.toDev.unmapped a false).emit (.readData 0))))) ∧
  (∀ (d : Dev) (a : Nat) (w : Bool), a < 2 ^ 28 →
  (d.unmapped a w).fld GLB_UNMAPPED_COUNT GLB_UNMAPPED_COUNT_COUNT =
    min (d.fld GLB_UNMAPPED_COUNT GLB_UNMAPPED_COUNT_COUNT + 1) (2 ^ GLB_UNMAPPED_COUNT_COUNT.w - 1) ∧
  (d.flag GLB_UNMAPPED_ADDR GLB_UNMAPPED_ADDR_VALID = false → (d.unmapped a w).fld GLB_UNMAPPED_ADDR GLB_UNMAPPED_ADDR_VALID = 1 ∧
    (d.unmapped a w).fld GLB_UNMAPPED_ADDR GLB_UNMAPPED_ADDR_WRITE = b2n w ∧ (d.unmapped a w).fld GLB_UNMAPPED_ADDR GLB_UNMAPPED_ADDR_OFFSET = a) ∧
  (d.flag GLB_UNMAPPED_ADDR GLB_UNMAPPED_ADDR_VALID = true → (d.unmapped a w).rd GLB_UNMAPPED_ADDR = d.rd GLB_UNMAPPED_ADDR) ∧
  ∀ r : Reg, r.addr ≠ GLB_UNMAPPED_ADDR.addr → r.addr ≠ GLB_UNMAPPED_COUNT.addr → (d.unmapped a w).rd r = d.rd r)

/-- Each clause holds where the part runs and the access is heard. A write of a selecting register leaves VALID 0 and the named item selected, its data registers with no defined value, and a snapshot waiting (R535); in a PF's ring window it does so for a source that may use the window, whatever ring is named (R536), and any other source's write only counts. SNAPSHOT_TAKEN, for a snapshot that waits, ends the wait: the policer's counts stand in its data registers and VALID is 1; an EMPTY key slot shows 0 with VALID 1; a ring that the window's PF does not own leaves VALID 0 and the registers as they were. -/
def Obligations.Snapshots : Prop :=
(∀ (s : State) (src : Src) (sl : Fin 6) (v : Word), s.hearsIn src sl.val →
    exec (.tmgQselWrite src sl v) s = .next (s.settled (s.toDev.selectItem (.tmgQ sl) (TMG_QSEL sl.val) (v &&& TMG_QSEL_QUEUE.mask)
      ((List.range 4).map fun i => (TMG_QDATA0 sl.val).addr + 8 * i))) ∧
    exec (.tmgPselWrite src sl v) s = .next (s.settled (s.toDev.selectItem (.tmgP sl) (TMG_PSEL sl.val) (v &&& (TMG_PSEL_SLOT.mask ||| TMG_PSEL_POLICER.mask))
      [(TMG_PDATA0 sl.val).addr, (TMG_PDATA1 sl.val).addr]))) ∧
  (∀ (s : State) (src : Src) (v : Word), s.hears src →
    exec (.keySlotSelWrite src v) s = .next (s.settled (s.toDev.selectItem .keySlot KEY_SLOT_SEL (v &&& KEY_SLOT_SEL_SLOT.mask)
      ((List.range 4).map fun i => KEY_SLOT_DATA0.addr + 8 * i))) ∧
    exec (.mtrLiveSelWrite src v) s = .next (s.settled (s.toDev.selectItem .mtrLive MTR_LIVE_SEL (v &&& MTR_LIVE_SEL_TF.mask) ((List.range 9).map fun i => (MTR_LIVE_DATA i).addr)))) ∧
  (∀ (s : State) (src : Src) (p : Fin 4) (v : Word), s.hears src →
    (srcMayPf src p.val = true → exec (.rgmRingSelWrite src p v) s = .next (s.settled (s.toDev.selectItem (.ring p) (RGM_RING_SEL p.val) (v &&& RGM_RING_SEL_RING.mask)
      [(RGM_RING_BASE p.val).addr, (RGM_RING_PUB p.val).addr, (RGM_RING_CFG p.val).addr, (RGM_RING_MOD p.val).addr]))) ∧
    (srcMayPf src p.val = false → exec (.rgmRingSelWrite src p v) s = .next (s.settled (s.toDev.count (rgmCnt 14))))) ∧
  (∀ (s : State) (sl : Fin 6), s.runs = true → s.snapWait.contains (.tmgP sl) = true →
    let x := s.polSt (s.polKey sl.val (s.fld (TMG_PSEL sl.val) TMG_PSEL_SLOT) (s.fld (TMG_PSEL sl.val) TMG_PSEL_POLICER))
    exec (.snapshotTaken (.tmgP sl)) s = .next (s.settled ((((s.toDev.setSnapWait (s.snapWait.filter (· != .tmgP sl))).wr (TMG_PDATA0 sl.val) (BitVec.ofNat 64 x.conform)).wr
      (TMG_PDATA1 sl.val) (BitVec.ofNat 64 x.dropped)).setF (TMG_PSEL sl.val) TMG_PSEL_VALID 1))) ∧
  (∀ s : State, s.runs = true → s.snapWait.contains .keySlot = true → s.keySlot.look (s.fld KEY_SLOT_SEL KEY_SLOT_SEL_SLOT) = none →
    ∃ t, exec (.snapshotTaken .keySlot) s = .next t ∧ t.rd KEY_SLOT_DATA0 = 0 ∧ t.fld KEY_SLOT_SEL KEY_SLOT_SEL_VALID = 1 ∧ t.snapWait = s.snapWait.filter (· != .keySlot)) ∧
  ∀ (s : State) (p : Fin 4), s.runs = true → s.snapWait.contains (.ring p) = true → s.windowOwns p.val (s.ringSel p.val) = false →
    exec (.snapshotTaken (.ring p)) s = .next (s.settled (s.toDev.setSnapWait (s.snapWait.filter (· != .ring p))))

/-- For every device d, snapshot kind k, selecting register r that is none of the data registers, and value v: after the selection r holds v, k is among the waiting snapshots exactly once, every register that is neither r nor a data register is as it was, and counters, frames, rings, threads and network time are as they were. -/
def Obligations.SelectClearsValid : Prop :=
∀ (d : Dev) (k : SnapSel) (r : Reg) (v : Word) (l : List Nat), r.addr ∉ l →
  (d.selectItem k r v l).rd r = v ∧ (d.selectItem k r v l).snapWait.count k = 1 ∧
  (∀ q : Reg, q.addr ≠ r.addr → q.addr ∉ l → (d.selectItem k r v l).rd q = d.rd q) ∧ (d.selectItem k r v l).cnt = d.cnt ∧
  (d.selectItem k r v l).frames = d.frames ∧ (d.selectItem k r v l).ring = d.ring ∧ (d.selectItem k r v l).thr = d.thr ∧ (d.selectItem k r v l).ntu = d.ntu

/-- NTU_TICK, where the part is not held in reset and the new time is within [0, 2^63) ns: the next state is the tick's, whose network time is the old one plus NTU_INCR, the part of a slew in progress that falls to this tick and the steps commanded; no command of NTU_CMD waits any more; memory is unchanged. With no slew in progress and no command waiting the new time is the old one plus NTU_INCR. STEP_APPLIED is that tick when a step waits, SLEW_DONE that tick when the slew's last part falls to it. Where one of the three answers a next state from a time in range, the time is in range afterwards. Outside the range the spec leaves the behaviour undefined: a tick stops with the fault networkTimeRange (below 0: the model's reading, log entry 35). -/
def Obligations.TickAdvancesTime : Prop :=
(∀ s : State, s.pwrMode ≠ .held → 0 ≤ s.nextAcc → s.nextAcc < 2 ^ 95 →
    exec .ntuTick s = .next (s.settled s.toDev.tick) ∧ (s.settled s.toDev.tick).ntu.acc = s.nextAcc.toNat ∧ (s.settled s.toDev.tick).ntu.ops = [] ∧
    (s.flag NTU_STATUS NTU_STATUS_SLEWING = false → s.ntu.ops = [] → (s.settled s.toDev.tick).ntu.acc = s.ntu.acc + s.fld NTU_INCR NTU_INCR_INCR) ∧
    (s.stepWaits = true → exec .stepApplied s = .next (s.settled s.toDev.tick)) ∧
    (s.flag NTU_STATUS NTU_STATUS_SLEWING = true → s.ntu.slewRem = s.slewPart → exec .slewDone s = .next (s.settled s.toDev.tick))) ∧
  (∀ (c : Instr) (s t : State), c = .ntuTick ∨ c = .stepApplied ∨ c = .slewDone → s.timeOk → exec c s = .next t → t.timeOk) ∧
  ∀ s : State, s.pwrMode ≠ .held → ¬ (0 ≤ s.nextAcc ∧ s.nextAcc < 2 ^ 95) → exec .ntuTick s = .fault .networkTimeRange

/-- NTU_CMD commands a step, a slew or its abandonment for the next tick; NTU_CTRL changes only where its source may change it -/
def Obligations.NtuCommandsAndOwnership : Prop :=
((∀ (s : State) (src : Src), s.hears src → s.ntuOwner src = true →
    exec (.step src) s = .next (s.settled (s.toDev.setNtu { s.ntu with ops := s.ntu.ops ++ [.step s.ntuAdj] })) ∧
    exec (.slew src) s = .next (s.settled (s.toDev.setNtu { s.ntu with ops := s.ntu.ops ++ [.slew s.ntuAdj] })) ∧
    exec (.abandon src) s = .next (s.settled (s.toDev.setNtu { s.ntu with ops := s.ntu.ops ++ [.abandon] }))) ∧
  (∀ (s : State) (src : Src), s.hears src → s.ntuOwner src = false →
    exec (.step src) s = .next (s.settled (s.toDev.satAdd NTU_STATUS NTU_STATUS_FOREIGN_WRITES 1)) ∧
    exec (.slew src) s = .next (s.settled (s.toDev.satAdd NTU_STATUS NTU_STATUS_FOREIGN_WRITES 1)) ∧
    exec (.abandon src) s = .next (s.settled (s.toDev.satAdd NTU_STATUS NTU_STATUS_FOREIGN_WRITES 1))) ∧
  ∀ (d : Dev) (x : Int), (d.ntuApply (.step x)).fld NTU_STATUS NTU_STATUS_STEP_GEN = (d.fld NTU_STATUS NTU_STATUS_STEP_GEN + 1) % 2 ^ NTU_STATUS_STEP_GEN.w ∧
    (d.ntuApply (.step x)).flag NTU_STATUS NTU_STATUS_STEPPED = true ∧ (d.ntuApply (.step x)).flag NTU_STATUS NTU_STATUS_SLEWING = false ∧
    (d.ntuApply (.slew x)).ntu.slewRem = x ∧ (d.ntuApply (.slew x)).flag NTU_STATUS NTU_STATUS_SLEWING = (x != 0) ∧
    (d.ntuApply .abandon).flag NTU_STATUS NTU_STATUS_SLEWING = false ∧ (d.ntuApply .abandon).ntu.slewRem = d.ntu.slewRem) ∧
  (∀ (s : State) (src : Src) (v : Word), s.hears src → s.ntu.ppsHigh = false →
  let pps := if s.ntuOwner src then v.toNat % 8 else (s.rd NTU_CTRL).toNat % 8
  let own := if src = .ulyar then NTU_CTRL_OWNER.get v else s.fld NTU_CTRL NTU_CTRL_OWNER
  let foreign := (s.ntuOwner src = false ∧ v.toNat % 8 ≠ (s.rd NTU_CTRL).toNat % 8) ∨ (src ≠ .ulyar ∧ NTU_CTRL_OWNER.get v ≠ s.fld NTU_CTRL NTU_CTRL_OWNER)
  (foreign → exec (.ntuCtrlWrite src v) s = .next (s.settled ((s.toDev.wr NTU_CTRL (BitVec.ofNat 64 (own * 8 + pps))).satAdd NTU_STATUS NTU_STATUS_FOREIGN_WRITES 1))) ∧
  (¬ foreign → exec (.ntuCtrlWrite src v) s = .next (s.settled (s.toDev.wr NTU_CTRL (BitVec.ofNat 64 (own * 8 + pps))))))

/-- Where the access is heard: NTU_TIME_READ returns network time in ns and latches in NTU_TIME_FRAC the fraction of that same instant; PPS_IN_READ does so for the last capture. PPS_IN_EDGE, enabled and of the polarity PPS_IN_EDGE names, captures its time, from 1 ns before the tick's network time to 5 ns after it, with its fraction, and sets PPS_IN_SEEN; else nothing. PPS_OUT_RISE, when a second boundary b was reached and PPS_OUT_EN is 1 and the pin is low, drives the pin high until WIDTH_US microseconds after b; PPS_OUT_FALL, once that time is reached, drives it low. -/
def Obligations.NtuReadsAndPps : Prop :=
(∀ (s : State) (src : Src), s.hears src →
    exec (.ntuTimeRead src) s = .next (s.settled ((s.toDev.setF NTU_TIME_FRAC NTU_TIME_FRAC_FRAC (s.ntu.acc / 2 ^ 16)).emit (.readData (s.ntu.acc / 2 ^ 32)))) ∧
    exec (.ppsInRead src) s = .next (s.settled ((s.toDev.setF NTU_PPS_IN_FRAC NTU_PPS_IN_FRAC_FRAC s.ntu.ppsFrac).emit (.readData (s.rd NTU_PPS_IN_NS).toNat)))) ∧
  (∀ (s : State) (rising : Bool) (k : Fin 393217), let t := s.stampAt 1 k.val
    Int.ofNat s.ntu.acc - 2 ^ 32 - 2 ^ 16 < Int.ofNat t * 2 ^ 16 ∧ t * 2 ^ 16 ≤ s.ntu.acc + 5 * 2 ^ 32 ∧
    (s.flag NTU_CTRL NTU_CTRL_PPS_IN_EN = true → s.flag NTU_CTRL NTU_CTRL_PPS_IN_EDGE = !rising →
      exec (.ppsInEdge rising k) s = .next (s.settled (((s.toDev.setNtu { s.ntu with ppsFrac := t % 2 ^ 16 }).wr NTU_PPS_IN_NS (BitVec.ofNat 64 (t / 2 ^ 16))).setF
        NTU_STATUS NTU_STATUS_PPS_IN_SEEN 1))) ∧
    (s.flag NTU_CTRL NTU_CTRL_PPS_IN_EN = false → exec (.ppsInEdge rising k) s = .next (s.settled s.toDev))) ∧
  (∀ (s : State) (b : Nat), s.ntu.ppsDue = some b → s.flag NTU_CTRL NTU_CTRL_PPS_OUT_EN = true → s.ntu.ppsHigh = false →
    exec .ppsOutRise s = .next (s.settled ((s.toDev.setNtu { s.ntu with ppsDue := none, ppsHigh := true, ppsEnd := b + s.fld NTU_PPS_OUT_CFG NTU_PPS_OUT_CFG_WIDTH_US * 1000 }).emit
      (.pin "PPS_OUT" true)))) ∧
  ∀ s : State, s.ntu.ppsHigh = true → s.ntu.ppsEnd ≤ s.now → exec .ppsOutFall s = .next (s.settled ((s.toDev.setNtu { s.ntu with ppsHigh := false }).emit (.pin "PPS_OUT" false)))

/-- IMAGE_LOAD stages an image, answering nothing yet; IMAGE_VERIFIED refuses it with the first failing check or moves it to WAIT_DRAIN or to a slot and WAIT_SWITCH -/
def Obligations.ImageLoading : Prop :=
(∀ (s : State) (ch : Fin 8) (data : HostData) (h : Nat) (p : List Nat), s.runs = true → s.asks ch.val 2 6 h p → s.mayLoad ch.val = true → s.life ≠ 4 →
    s.fld IMG_STATUS IMG_STATUS_LOAD_STATE = 0 →
    (s.reqWaits ch.val 2 true true 6 = true → exec (.imageLoad ch data) s = .next (s.settled s.toDev)) ∧
    ((s.mbTake ch.val).argOk ch.val p (p.getD 3 0) = true → ∀ bs, s.argBytes ch.val p (p.getD 3 0) data = some bs →
      exec (.imageLoad ch data) s = .next (s.settled (((s.mbTake ch.val).loadStart ch.val h (word64 p 4) bs).mbRefuse ch.val 32)))) ∧
  (∀ (s : State) (ch : Fin 8) (data : HostData) (h len : Nat) (p : List Nat), s.runs = true → s.asks ch.val 2 len h p → s.mayLoad ch.val = true → s.life ≠ 4 →
    s.fld IMG_STATUS IMG_STATUS_LOAD_STATE ≠ 0 →
      exec (.imageLoad ch data) s = .next (s.settled ((((s.mbTake ch.val).setF IMG_STATUS IMG_STATUS_LAST_ERROR 8).mbReply ch.val h 5 [8]).mbRefuse ch.val 32))) ∧
  (∀ (s : State) (l : Load), s.runs = true → s.load = some l → s.fld IMG_STATUS IMG_STATUS_LOAD_STATE = 1 →
    let d := s.toDev.setFreeCtr (s.freeCtr + 1)
    exec .imageVerified s = match d.checkImage l.bytes (Config.free s.freeCtr) with
      | .inl code => .next (s.settled (d.loadRefused l code))
      | .inr i =>
        let d := d.setLoad (some { l with bytes := [], image := some i, waitSince := d.refNs })
        if d.draining then .next (s.settled (d.loadState 2)) else .next (s.became (State.slotEnter { s with toDev := d } i))) ∧
  ∀ (d : Dev) (l : Load) (code : Nat), 8 ≤ l.chan → (d.loadRefused l code).load = none ∧ (d.loadRefused l code).fld IMG_STATUS IMG_STATUS_LOAD_STATE = 0 ∧
    (d.loadRefused l code).fld IMG_STATUS IMG_STATUS_LAST_ERROR = code % 2 ^ IMG_STATUS_LAST_ERROR.w

/-- Where the part runs. EPOCH_SWITCH, with an image in the free slot, LOAD_STATE WAIT_SWITCH and its time reached, the load having no asker: the device after the switch, its load ended. The switch makes the slot current, counts its epoch as the last, and asks the metering definitions of the image for the next boundary. EPOCH_DRAINED, while an epoch drains with no frame left in flight: the slot is freed, and a load that waits enters it. FORCED_DRAIN, a load in WAIT_DRAIN past a limit that is not 0: the frames and threads of the older epoch are taken out, and the drain ends. GATE_LIST_SWITCH, a list waiting whose time has come: it becomes the list in force, the lists behind it wait, and its longest open spans are those of the list. -/
def Obligations.EpochChange : Prop :=
(∀ (s : State) (x : EpochSlot), s.runs = true → s.slot? s.freeSlot = some x → s.fld IMG_STATUS IMG_STATUS_LOAD_STATE = 3 → (s.rd IMG_SWITCH_AT).toNat ≤ s.now → s.load = none →
    exec .epochSwitch s = .next (s.settled ((s.epochSwitch s.freeSlot x).setLoad none)) ∧ (s.epochSwitch s.freeSlot x).lastEpoch = x.epoch ∧
    (s.epochSwitch s.freeSlot x).mtrNext = some x.img.mtr ∧ (s.epochSwitch s.freeSlot x).lrnTok = []) ∧
  (∀ s : State, s.runs = true → s.draining = true → s.inflight (1 - s.curSlot) = 0 → exec .epochDrained s = .next (s.became s.drainEnds)) ∧
  (∀ (s : State) (l : Load), s.runs = true → s.load = some l → s.fld IMG_STATUS IMG_STATUS_LOAD_STATE = 2 → s.fld IMG_DRAIN_LIMIT IMG_DRAIN_LIMIT_LIMIT_MS ≠ 0 →
    l.waitSince + s.fld IMG_DRAIN_LIMIT IMG_DRAIN_LIMIT_LIMIT_MS * 1000000 ≤ s.refNs →
    exec .forcedDrain s = .next (s.became (State.drainEnds { s with toDev := s.forceDrain }))) ∧
  ∀ (s : State) (p : Fin 16) (g : GateList) (at_ : Nat) (rest : List (GateList × Nat)), s.runs = true → (s.gateSt p.val).next = (g, at_) :: rest → at_ ≤ s.now →
    ∃ t, exec (.gateListSwitch p) s = .next t ∧ (t.gateSt p.val).cur = some g ∧ (t.gateSt p.val).next = rest ∧
      (t.gateSt p.val).longest = (List.range 8).map g.longestOpen ∧ t.mem = s.mem ∧ t.frames = s.frames

/-- How port modes, enabling, alignment and its loss move the state of a port, and how ports and slice clocks enter and leave low-power idle -/
def Obligations.PortStatesAndIdle : Prop :=
((∀ (s : State) (src : Src) (sl : Fin 6) (v : Word), s.hearsIn src sl.val →
    exec (.macHalfModeWrite src sl v) s = .next (s.settled (s.toDev.halfModeWrite (sl.val / 3) v)) ∧
    (s.toDev.halfModeWrite (sl.val / 3) v).rd (halfMode (sl.val / 3)) = BitVec.ofNat 64 (v.toNat % 32)) ∧
  (∀ (s : State) (src : Src) (sl : Fin 6) (port : Fin 8) (v : Word), s.hearsIn src sl.val →
    let p := sl.val / 3 * 8 + port.val
    let d := s.toDev.wr (portCtrl p) (MAC_PORT_CTRL_MAX_FRAME.set (min (max (MAC_PORT_CTRL_MAX_FRAME.get v) 1518) 16384) (v &&& 0xFFFFFF0F))
    (s.portState p = 0 → exec (.portCtrlWrite src sl port v) s = .next (s.settled d.lpiRecheck)) ∧
    (s.portState p = 5 → d.flag (portCtrl p) MAC_PORT_CTRL_ENABLE = false → exec (.portCtrlWrite src sl port v) s = .next (s.settled d.lpiRecheck)) ∧
    (2 ≤ s.portState p → s.portState p ≠ 5 → d.flag (portCtrl p) MAC_PORT_CTRL_ENABLE = false → exec (.portCtrlWrite src sl port v) s = .next (s.settled (d.portTo p 1).lpiRecheck)) ∧
    (s.portState p = 1 → d.flag (portCtrl p) MAC_PORT_CTRL_ENABLE = true → s.life ≠ 4 → exec (.portCtrlWrite src sl port v) s = .next (s.settled (d.portTrain p).lpiRecheck))) ∧
  (∀ (s : State) (p : Fin 16), s.runs = true →
    (s.portState p.val = 2 → ((s.positions (p.val / 8) (p.val % 8)).all fun q => s.laneState (p.val / 8) (s.laneOf (p.val / 8) q) != 2) = true →
      exec (.portAligned p) s = .next (s.settled (((s.toDev.each (s.positions (p.val / 8) (p.val % 8)) fun d q =>
        d.setF (laneStatus (p.val / 8) (d.laneOf (p.val / 8) q)) MAC_LANE_STATUS_CDR_LOCK 1).portTo p.val 3).sparingLeft p.val))) ∧
    (s.portState p.val = 3 → exec (.alignmentLoss p) s = .next (s.settled (s.toDev.portTo p.val 4))) ∧
    (s.portState p.val ≠ 3 → exec (.alignmentLoss p) s = .next (s.settled s.toDev)) ∧
    (∀ l at_, (s.portSt p.val).sparing = some (l, at_) → s.portState p.val = 5 → at_ + 40000000 ≤ s.refNs →
      exec (.sparingTimeout p) s = .next (s.settled (((s.toDev.portTo p.val 4).setF (portStatus p.val) MAC_PORT_STATUS_SPARE_FAILED 1).sparingLeft p.val))) ∧
    ((s.portSt p.val).sparing = none → exec (.sparingTimeout p) s = .next (s.settled s.toDev)))) ∧
  ((∀ (s : State) (p : Fin 16), s.runs = true → s.portState p.val = 3 → s.lpiAllowed p.val = true → s.flag (portStatus p.val) MAC_PORT_STATUS_TX_LPI = false →
    (s.portSt p.val).onWire = none → (s.portSt p.val).wakeEnd = none →
    (s.portSt p.val).idleSince + max (s.fld (portCtrl p.val) MAC_PORT_CTRL_LPI_IDLE_US) 1 * 1000 ≤ s.refNs → s.portReady p.val = false →
    exec (.lpiEntry p) s = .next (s.settled (((s.toDev.setF (portStatus p.val) MAC_PORT_STATUS_TX_LPI 1).macCount p.val 3 0).updPort p.val fun x => { x with txLpiAt := s.refNs }))) ∧
  (∀ (s : State) (p : Fin 16), s.runs = true → s.lpiAllowed p.val = false → exec (.lpiEntry p) s = .next (s.settled s.toDev)) ∧
  (∀ (s : State) (p : Fin 16) (w : Nat), s.runs = true → (s.portSt p.val).wakeEnd = some w → w ≤ s.refNs →
    exec (.lpiWakeEnd p) s = .next (s.settled (s.toDev.updPort p.val fun x => { x with wakeEnd := none, idleSince := s.refNs }))) ∧
  (∀ (s : State) (p : Fin 16), s.runs = true → s.portState p.val = 3 → s.flag (portStatus p.val) MAC_PORT_STATUS_RX_LPI = false →
    exec (.rxLpiEntry p) s = .next (s.settled (((s.toDev.setF (portStatus p.val) MAC_PORT_STATUS_RX_LPI 1).macCount p.val 3 2).updPort p.val fun x => { x with rxLpiAt := s.refNs }))) ∧
  (∀ (s : State) (p : Fin 16), s.runs = true → s.flag (portStatus p.val) MAC_PORT_STATUS_RX_LPI = true →
    exec (.rxLpiWake p) s = .next (s.settled ((s.toDev.setF (portStatus p.val) MAC_PORT_STATUS_RX_LPI 0).macCount p.val 3 3 (s.refNs - (s.portSt p.val).rxLpiAt)))) ∧
  ∀ (s : State) (sl : Fin 6), s.runs = true →
    (s.sliceIdle sl.val = true → exec (.sliceClockDown sl) s = .next (s.settled (s.toDev.setSlowClk (setBit s.slowClk sl.val true)))) ∧
    (s.sliceIdle sl.val = false → exec (.sliceClockUp sl) s = .next (s.settled (s.toDev.setSlowClk (setBit s.slowClk sl.val false)))) ∧
    (s.sliceIdle sl.val = true → exec (.sliceClockUp sl) s = .next (s.settled s.toDev)))

/-- Where the part runs. SPARE_NOW, heard: a write without the SPARE_NOW bit only stores the group's fields, SPARE_USED kept; with it the lane that carries the position LANE_SEL fails with the written fields in force, and one that has failed before is spared now. FEC_WINDOW_END on a lane that carries a position of a port counts the code words and symbols for that port; the lane fails when the limit is not 0 and is reached, else nothing more happens. LANE_LOCK_LOSS clears the lock, and fails a lane that is IN_USE or an idle SPARE. LANE_LOCK_REGAIN of a lane that carries no position only sets its lock, and makes a spare that failed idle again usable. A lane that fails reads FAILED; one that has failed already is not reported again. -/
def Obligations.LaneSparing : Prop :=
(∀ (s : State) (src : Src) (sl : Fin 6) (b : Bool) (v : Word), s.hearsIn src sl.val →
    let r := groupSpare (sl.val / 3) (b2n b)
    let d := s.toDev.wr r ((v &&& 0xFFFF0063) ||| (s.rd r &&& 0x8))
    (MAC_GROUP_SPARE_A_SPARE_NOW.get v = 0 → exec (.spareNow src sl b v) s = .next (s.settled d)) ∧
    (MAC_GROUP_SPARE_A_SPARE_NOW.get v = 1 → exec (.spareNow src sl b v) s = .next (s.settled
      (let l := d.laneOf (sl.val / 3) (4 * b2n b + MAC_GROUP_SPARE_A_LANE_SEL.get v)
       if d.laneState (sl.val / 3) l = 2 then d.laneSpare (sl.val / 3) l true else d.laneFail (sl.val / 3) l 3 true)))) ∧
  (∀ (s : State) (die : Fin 2) (lane : Fin 10) (q j sym corr unc : Nat), s.runs = true → s.posOf die.val lane.val = some q → portAt (s.groupMode die.val (q / 4)) q = some j →
    let d := ((s.toDev.macCount (8 * die.val + j) 1 5 corr).macCount (8 * die.val + j) 1 6 unc).macCount (8 * die.val + j) 1 7 sym
    let k := d.fld (groupSpare die.val (lane.val / 5)) MAC_GROUP_SPARE_A_SER_LIMIT_K
    (k = 0 ∨ sym < k * 1000 → exec (.fecWindowEnd die lane sym corr unc) s = .next (s.settled d)) ∧
    (k ≠ 0 ∧ k * 1000 ≤ sym → exec (.fecWindowEnd die lane sym corr unc) s = .next (s.settled (d.laneFail die.val lane.val 1 (d.autoSpare die.val lane.val))))) ∧
  (∀ (s : State) (die : Fin 2) (lane : Fin 10), s.runs = true →
    let d := s.toDev.setF (laneStatus die.val lane.val) MAC_LANE_STATUS_CDR_LOCK 0
    (s.laneState die.val lane.val ≤ 1 →
      exec (.laneLockLoss die lane) s = .next (s.settled (d.laneFail die.val lane.val 3 (d.autoSpare die.val lane.val)))) ∧
    (1 < s.laneState die.val lane.val → exec (.laneLockLoss die lane) s = .next (s.settled d))) ∧
  (∀ (s : State) (die : Fin 2) (lane : Fin 10), s.runs = true →
    let d := s.toDev.setF (laneStatus die.val lane.val) MAC_LANE_STATUS_CDR_LOCK 1
    d.posOf die.val lane.val = none → exec (.laneLockRegain die lane) s = .next (s.settled
      (if lane.val % 5 = 4 ∧ d.laneState die.val lane.val = 2 ∧ d.flag (groupSpare die.val (lane.val / 5)) MAC_GROUP_SPARE_A_SPARE_USED = false then
        (d.setF (laneStatus die.val lane.val) MAC_LANE_STATUS_LANE_STATE 3).refreshLanes die.val else d))) ∧
  (∀ (s : State) (die : Fin 2) (lane : Fin 10) (q j : Nat), s.runs = true →
    let d := ((s.toDev.setF (laneStatus die.val lane.val) MAC_LANE_STATUS_CDR_LOCK 1).setF (laneStatus die.val lane.val) MAC_LANE_STATUS_LANE_STATE 3).refreshLanes die.val
    let c := s.toDev.setF (laneStatus die.val lane.val) MAC_LANE_STATUS_CDR_LOCK 1
    c.posOf die.val lane.val = some q → c.laneState die.val lane.val = 2 → portAt (d.groupMode die.val (q / 4)) q = some j →
    exec (.laneLockRegain die lane) s = .next (s.settled
      (if d.portState (8 * die.val + j) = 4 ∧ d.lanesLocked die.val j = true then
        if (d.actingOf (8 * die.val + j)).isSome then d.portTo (8 * die.val + j) 2 else d.updPort (8 * die.val + j) fun x => { x with noSlice := true }
      else d))) ∧
  ∀ (d : Dev) (h l k : Nat) (b : Bool), d.laneState h l = 2 → d.laneFail h l k b = d

/-- A frame begins and ends at a port, leaves by one, and firmware takes exception frames: each with the counts of its chapter -/
def Obligations.FramesOnThePorts : Prop :=
(∀ (s : State) (p : Fin 16) (skew : Fin 524289) (first : List Byte), s.runs = true → s.portState p.val = 3 → s.receivingOf p.val = none →
    (s.loopback p.val = 1 → exec (.frameStart p skew first) s = .next (s.settled s.toDev)) ∧
    (s.loopback p.val = 2 → exec (.frameStart p skew first) s = .next (s.settled (s.toDev.emit (.loopBack p.val first))))) ∧
  (∀ (s : State) (p : Fin 16) (skew : Fin 524289) (first : List Byte), s.runs = true → s.portState p.val = 3 → s.receivingOf p.val = none → s.loopback p.val = 0 →
    let stamp := s.stampAt 2 skew.val
    (first.length < 64 → exec (.frameStart p skew first) s = .next (s.settled (s.toDev.macCount p.val 1 0))) ∧
    (64 ≤ first.length → s.flag IMG_STATUS IMG_STATUS_NO_IMAGE = false →
      exec (.frameStart p skew first) s = .next (s.settled (if s.held (s.processing p.val first).1 + s.maxFrame p.val ≤ bufferBytes then
        s.toDev.newFrame ⟨first, (s.processing p.val first).1, .net p.val, stamp, s.slotFor (stamp / 2 ^ 16), 1, 0xFFFF, s.facts (s.processing p.val first).1, (s.processing p.val first).2, false, List.replicate 8 0, ParseMeta.none,
          [], [], none, .receiving (s.maxFrame p.val) false⟩
        else s.toDev.macCount p.val 1 4)))) ∧
  (∀ (s : State) (p : Fin 16) (id r : Nat) (f : Frame) (rest : List Byte) (sym fcs broken : Bool), s.runs = true → s.receivingOf p.val = some (id, f) → f.stage = .receiving r broken → s.loopback p.val ≠ 1 →
    let n := (f.data ++ rest).length
    let m := f.facts.maxFrames.getD p.val 0
    (m < n → exec (.frameEnd p rest sym fcs) s = .next (s.settled ((s.toDev.frameGone id).macCount p.val 1 2))) ∧
    (n ≤ m → (sym || broken) = true → exec (.frameEnd p rest sym fcs) s = .next (s.settled ((s.toDev.frameGone id).macCount p.val 1 3))) ∧
    (n ≤ m → (sym || broken) = false → fcs = false → exec (.frameEnd p rest sym fcs) s = .next (s.settled ((s.toDev.frameGone id).macCount p.val 1 1))) ∧
    (n ≤ m → (sym || broken) = false → fcs = true → f.slot ≠ noEpoch →
      exec (.frameEnd p rest sym fcs) s = .next (s.settled ((s.toDev.countGood p.val 0 n (f.data ++ rest)).putFrame id
        { f with data := (f.data ++ rest).take (n - 4), stage := .stored ((s.toDev.countGood p.val 0 n (f.data ++ rest)).portRoot f.slot f.slice p.val) })))) ∧
  (∀ (s : State) (p : Fin 16) (skew : Fin 262145), s.runs = true →
    ((s.portSt p.val).onWire = none → exec (.frameTransmitted p skew) s = .next (s.settled s.toDev)) ∧
    (∀ id f, Tab.rising s.frames = true → (s.portSt p.val).onWire = some id → s.frame? id = some f → s.loopback p.val ≠ 1 →
      ∃ t, exec (.frameTransmitted p skew) s = .next t ∧ (t.portSt p.val).onWire = none ∧ t.frame? id = none ∧ t.mem = s.mem)) ∧
  ∀ (s : State) (sl : Fin 6) (k : Nat) (x : List Byte) (q : List (Nat × List Byte)), s.runs = true → s.fwq.lookD sl.val [] = (k, x) :: q →
    let r := (s.toDev.setFwq (s.fwq.put sl.val q)).sealedCheck (s.fwBase + sl.val * 4210688 + k * 16448) 16448
    exec (.firmwareQueueRead sl) s = .next (s.settled (if r.2 = true then r.1.emit (.ulyarFrame x) else r.1))

/-- Where the part runs and frame id waits for the parser with root index root, next in its order, and, on its first pass, with no recirculated frame of its slice ready; a frame on a later pass also counts as recirculated. One that is not next does nothing. With no tree in its slice's image (a frame that is not a host frame): counted as parsed and as having no parse tree, and dropped. With a tree and no bad entry met, the walk w ends: a frame of class PARSE_OK keeps the walk's metadata and waits for the classifier; any other class is counted and its disposition taken. A walk that meets the bad entry named drops the frame and logs the entry. LAST_NODE of a walk that read no node is a free value (log entry 37). -/
def Obligations.ParserWalks : Prop :=
let counted (s : State) (f : Frame) : Dev := if 2 ≤ f.pass then (s.toDev.count (prsCnt f.slice 0)).count (prsCnt f.slice 12) else s.toDev.count (prsCnt f.slice 0)
(∀ (s : State) (id root : Nat) (f : Frame) (e : Option TreeEcc), s.runs = true → s.frame? id = some f → f.stage = .stored root →
    s.behind id f = true ∨ (f.pass = 1 ∧ s.recircReady f.slice = true) → exec (.parserWalk id e) s = .next (s.settled s.toDev)) ∧
  (∀ (s : State) (id root : Nat) (f : Frame), s.runs = true → s.frame? id = some f → f.stage = .stored root → s.behind id f = false → (f.pass = 1 → s.recircReady f.slice = false) →
    (∀ r c, f.origin ≠ .ring r c) → (s.bodies f.slot f.slice).parse = none →
    exec (.parserWalk id none) s = .next (s.settled (((counted s f).count (prsCnt f.slice 4)).frameOut id))) ∧
  (∀ (s : State) (id root : Nat) (f : Frame) (b : ParseBody) (w : Walk), s.runs = true → s.frame? id = some f → f.stage = .stored root → s.behind id f = false →
    (f.pass = 1 → s.recircReady f.slice = false) →
    (s.bodies f.slot f.slice).parse = some b → b.walk f.data none (b.maxDepth + 1) (b.roots.getD root 0) (Walk.start f.len) = some w →
    let d := (counted s f).setFreeCtr (s.freeCtr + 1)
    let g := { f with pmeta := w.toMeta f.len root (Config.free s.freeCtr % 65536) }
    exec (.parserWalk id none) s = .next (s.settled (if w.cls = 0 then (d.count (prsCnt f.slice 1)).putFrame id { g with stage := .parsed }
      else (((d.count (prsCnt f.slice (1 + w.cls))).putFrame id g).dispose id g (b.disp.getD (w.cls - 1) ⟨0, 0, 0⟩))))) ∧
  (∀ (s : State) (id root : Nat) (f : Frame) (b : ParseBody) (e : TreeEcc), s.runs = true → s.frame? id = some f → f.stage = .stored root → s.behind id f = false →
    (f.pass = 1 → s.recircReady f.slice = false) →
    (s.bodies f.slot f.slice).parse = some b → b.walk f.data (some e) (b.maxDepth + 1) (b.roots.getD root 0) (Walk.start f.len) = none →
    exec (.parserWalk id (some e)) s = .next (s.settled ((counted s f).parserEcc id f e)))

/-- For every tree, frame of F bytes, bad entry, node, and amount of fuel: a walk from the frame's start that ends leaves a header stack no deeper than MAX_DEPTH, a position and a bound of at most F with the position at most the bound and at most 1,024, every stacked header ending at or before the position, and class PARSE_OK exactly when no conflict, depth limit or reject was met. -/
def Obligations.WalkWithinBounds : Prop :=
∀ (b : ParseBody) (data : List Byte) (bad : Option TreeEcc) (fuel n F : Nat) (w : Walk), b.walk data bad fuel n (Walk.start F) = some w →
  w.stack.length ≤ b.maxDepth ∧ w.pos ≤ w.bound ∧ w.bound ≤ F ∧ w.pos ≤ 1024 ∧ (∀ e ∈ w.stack, e.off + e.len ≤ w.pos) ∧
  (w.cls = 0 ↔ w.conflict = false ∧ w.depthLimit = false ∧ w.rejected = false)

/-- Each clause is of a heard write of CLS_UPD_CTRL of a powered slice with no command running, whose SLOT and TABLE name the stored table t, and whose record is well formed where the command takes one; d is the device with the register's fields written, OP that of the command. INSERT: the record's entry installed, RESULT 0 and its INDEX, or the result code that refuses it; where R139 gives no index it is a free one. MODIFY and DELETE: the entry with the record's key changed or removed, RESULT 0, or RESULT 2. READ: the entry at INDEX as a record. LOOKUP: the entry hit as a record, its INDEX, RESULT 0, or RESULT 9. FLUSH_LEARNED: the learned entries the filter names removed, RESULT 0. A record that is not well formed gives RESULT 6; a SLOT and TABLE that name no table RESULT 5. -/
def Obligations.TableUpdates : Prop :=
∀ (s : State) (src : Src) (sl : Fin 6) (v : Word), s.hearsIn src sl.val → s.flag (CLS_UPD_STATUS sl.val) CLS_UPD_STATUS_BUSY = false →
  let d (op : Nat) : Dev := s.toDev.updFields sl.val v op
  let at_ := s.table? sl.val (CLS_UPD_CTRL_SLOT.get v) (CLS_UPD_CTRL_TABLE.get v)
  (∀ n t, at_ = some (n, t) →
    let r (op : Nat) : List Byte := (d op).updRec sl.val
    let ent (op : Nat) : Entry := recEntry t.decl.kind t.decl.keyBytes (r op)
    (recOk t.decl.kind t.decl.keyBytes true (r 1) = true → exec (.insert src sl v) s = .next (s.settled
      (let e := (d 1).setFreeCtr (s.freeCtr + 1)
       match t.install (ent 1) (Config.free s.freeCtr) with
        | .inl (u, i) => (((e.putTable n u).updIndex sl.val i).updResult sl.val 0).skimTouched sl.val n i
        | .inr c => e.updResult sl.val c))) ∧
    (recOk t.decl.kind t.decl.keyBytes true (r 2) = true → exec (.modify src sl v) s = .next (s.settled
      (match t.find (ent 2) with
        | some (i, x) => (((d 2).putTable n { t with entries := t.entries.put i { x with list := (ent 2).list, param := (ent 2).param, bad := false } }).updResult sl.val 0).skimTouched sl.val n i
        | none => (d 2).updResult sl.val 2))) ∧
    (recOk t.decl.kind t.decl.keyBytes true (r 3) = true → exec (.delete src sl v) s = .next (s.settled
      (match t.find (ent 3) with
        | some (i, _) => (((d 3).putTable n (t.remove i)).updResult sl.val 0).skimTouched sl.val n i
        | none => (d 3).updResult sl.val 2))) ∧
    ((d 4).fld (CLS_UPD_STATUS sl.val) CLS_UPD_STATUS_INDEX < t.decl.capacity → exec (.read src sl v) s = .next (s.settled
      (((d 4).setUpdRec sl.val (((t.entries.look ((d 4).fld (CLS_UPD_STATUS sl.val) CLS_UPD_STATUS_INDEX)).map fun e => e.toRec t.decl.kind).getD [])).updResult sl.val 0))) ∧
    (recOk t.decl.kind t.decl.keyBytes false (r 5) = true → exec (.updLookup src sl v) s = .next (s.settled
      (match t.hit? (recKey t.decl.kind t.decl.keyBytes (r 5)) with
        | some (i, e) => (((d 5).setUpdRec sl.val (e.toRec t.decl.kind)).updIndex sl.val i).updResult sl.val 0
        | none => (d 5).updResult sl.val 9))) ∧
    exec (.flushLearned src sl v) s = .next (s.settled
      (let ids := (t.entries.filter fun e => e.2.learned && (CLS_UPD_CTRL_PORT_FILTER.get v == 0 || e.2.param % 65536 == CLS_UPD_CTRL_PORT.get v)).map Prod.fst
       ((((d 7).putTable n (ids.foldl Table.remove t)).each ids fun d i => d.skimTouched sl.val n i).updResult sl.val 0))) ∧
    (recOk t.decl.kind t.decl.keyBytes true (r 1) = false → exec (.insert src sl v) s = .next (s.settled ((d 1).updResult sl.val 6)))) ∧
  (at_ = none → exec (.insert src sl v) s = .next (s.settled ((d 1).updResult sl.val 5)) ∧ exec (.delete src sl v) s = .next (s.settled ((d 3).updResult sl.val 5)))

/-- For every table, entry e that has no entry with its key in the table, and free value v: where the install accepts e, it accepts it at an index below CAPACITY that no entry held, the table then holds e there as an installed entry, and every other index holds what it held; where CAPACITY entries are held it is refused with FULL. -/
def Obligations.InsertTakesFreeIndex : Prop :=
∀ (t : Table) (e : Entry) (v : Nat), t.find { e with learned := false, hit := false, bad := false } = none →
  (∀ u i, t.install e v = .inl (u, i) → i < t.decl.capacity ∧ t.entries.look i = none ∧ u.entries.look i = some { e with learned := false, hit := false, bad := false } ∧
    ∀ j, j ≠ i → u.entries.look j = t.entries.look j) ∧
  (t.decl.capacity ≤ t.entries.length → t.install e v = .inr 3)

/-- TREE_LOAD and its end, the sweep of learned entries, and a skim pass from GO to its end -/
def Obligations.TreesSweepsAndSkims : Prop :=
(∀ (s : State) (src : Src) (sl : Fin 6) (v : Word) (n : Nat) (t : Table), s.hearsIn src sl.val → s.flag (CLS_UPD_STATUS sl.val) CLS_UPD_STATUS_BUSY = false →
    s.table? sl.val (CLS_UPD_CTRL_SLOT.get v) (CLS_UPD_CTRL_TABLE.get v) = some (n, t) → t.decl.kind = 5 →
    let d := s.toDev.updFields sl.val v 6
    let a := (d.rd (CLS_UPD_TREE_ADDR sl.val)).toNat
    exec (.treeLoad src sl v) s = .next (s.settled (match d.fnRead (4096 + a / 2 ^ 62) (treeUnit sl.val) false (a % 2 ^ 62) 16 with
      | some e => (e.setTreeLoad (e.treeLoad.put sl.val (n, CLS_UPD_CTRL_SLOT.get v))).setF (CLS_UPD_STATUS sl.val) CLS_UPD_STATUS_BUSY 1
      | none => (d.setFreeCtr (d.freeCtr + 1)).updResult sl.val (Config.free d.freeCtr)))) ∧
  (∀ (s : State) (sl : Fin 6) (rest head : List Byte) (n o : Nat) (t : Table), s.runs = true → s.treeLoad.look sl.val = some (n, o) → s.arrived.look (treeUnit sl.val) = some (some head) →
    s.tbl.look n = some t →
    let d := s.toDev.treeStops sl.val
    d.fld (CLS_UPD_STATUS sl.val) CLS_UPD_STATUS_BUSY = 0 ∧ d.treeLoad.look sl.val = none ∧
    exec (.treeLoadDone sl rest) s = .next (s.settled (match t.withBank (head ++ rest) with
      | some u => (d.putTable n u).updResult sl.val 0
      | none => d.updResult sl.val 7))) ∧
  (∀ (s : State) (sl : Fin 6) (slot : Fin 2) (id : Fin 64) (n : Nat) (t : Table) (x : TblDecl), s.runs = true → s.table? sl.val slot.val id.val = some (n, t) →
    s.declOf sl.val slot.val id.val = some x → x.flags % 2 = 1 → x.ageS ≠ 0 → slot.val = s.curSlot →
    let m := s.now / (x.ageS * 500000000) - t.sweptAt / (x.ageS * 500000000)
    (m = 1 → exec (.ageSweep sl slot id) s = .next (s.settled
      (((s.toDev.putTable n { t with entries := t.entries.mapVals fun _ e => if e.learned then { e with hit := false } else e }).each
        (t.entries.filter fun e => e.2.learned && !e.2.hit) fun d ie => d.ageOut sl.val n id.val slot.val 0 ie.1 ie.2).sweptNow n))) ∧
    (2 ≤ m → exec (.ageSweep sl slot id) s = .next (s.settled (((s.toDev.sweepOnce sl.val slot.val id.val n).sweepOnce sl.val slot.val id.val n).sweptNow n))) ∧
    (m = 0 → exec (.ageSweep sl slot id) s = .next (s.settled s.toDev))) ∧
  (∀ (s : State) (src : Src) (sl : Fin 6) (v : Word) (n : Nat) (t : Table), s.hearsIn src sl.val → s.skim.look sl.val = none →
    let d := (s.toDev.skimFields sl.val v).wr (CLS_SKIM_STATUS sl.val) 1
    (s.toDev.skimFields sl.val v).skim.look sl.val = none → d.table? sl.val (d.skimF sl.val CLS_SKIM_CFG_SLOT) (d.skimF sl.val CLS_SKIM_CFG_TABLE) = some (n, t) → t.decl.kind ≤ 2 →
    exec (.skimGo src sl v) s = .next (s.settled ((d.setSkim (d.skim.put sl.val ⟨n, d.skimF sl.val CLS_SKIM_CFG_START, [], 0, 0⟩)).skimFetch sl.val))) ∧
  (∀ (s : State) (src : Src) (sl : Fin 6) (v : Word), s.hearsIn src sl.val →
    (s.skim.look sl.val).isSome = true → exec (.skimAbort src sl v) s = .next (s.settled ((s.toDev.skimFields sl.val v).skimEnds sl.val 3))) ∧
  ∀ (s : State) (sl : Fin 6), s.runs = true →
    (s.skim.look sl.val = none → exec (.skimChunk sl) s = .next (s.settled s.toDev)) ∧
    (∀ k, s.skim.look sl.val = some k → s.arrived.look (skimUnit sl.val) = some none →
      exec (.skimChunk sl) s = .next (s.settled ((s.toDev.setArrived (s.arrived.del (skimUnit sl.val))).skimEnds sl.val 4))) ∧
    (∀ k data t, s.skim.look sl.val = some k → s.arrived.look (skimUnit sl.val) = some (some data) → s.tbl.look k.tab = some t →
      let rate := s.fld (CLS_SKIM_CTRL sl.val) CLS_SKIM_CTRL_RATE_K
      (rate = 0 ∨ s.refNs < k.rest ∨ s.fnHeld (4096 + s.skimF sl.val CLS_SKIM_CFG_PF) = true → exec (.skimChunk sl) s = .next (s.settled s.toDev)) ∧
      (rate ≠ 0 → k.rest ≤ s.refNs → s.fnHeld (4096 + s.skimF sl.val CLS_SKIM_CFG_PF) = false →
      let d := s.toDev.setArrived (s.arrived.del (skimUnit sl.val))
      let m := d.skimLen sl.val k.next
      let e := d.each (List.range m) fun d i => d.skimOne sl.val (d.skimF sl.val CLS_SKIM_CFG_TABLE) t (k.next + i) (bytesAt data (i * shadowSize t.decl.kind) (shadowSize t.decl.kind))
      exec (.skimChunk sl) s = .next (s.settled (match e.skim.look sl.val with
        | some k => (e.setSkim (e.skim.put sl.val { k with next := k.next + m, rest := e.refNs + m * 1000 / rate })).skimFetch sl.val
        | none => e))))

/-- Where the part runs and frame id is parsed, not a host frame; one that an earlier frame of its order is not past waits, and nothing happens. Else d is the device after the counts of the frame and of its flow-cache misses and the named bad entry. With no classifier body the frame is dropped for want of a verdict. With a body, where the program's steps end with the actions acts and the terminal action term, and applying them leaves the frame to go on, it goes on as the terminal action says; where the steps or the actions take the frame away, the device is what they leave. -/
def Obligations.Classifying : Prop :=
(∀ (s : State) (id : Nat) (f : Frame) (c : ClsFacts), s.runs = true → s.frame? id = some f → f.stage = .parsed → (∀ r k, f.origin ≠ .ring r k) →
    (s.behind id f = true → exec (.classify id c) s = .next (s.settled s.toDev)) ∧
    (s.behind id f = false →
    let d := ((s.toDev.count (clsCnt f.slice 0)).count (clsCnt f.slice 10) c.flowMiss).markBad f.slice f.slot c.ecc
    ((d.bodies f.slot f.slice).cls = none → exec (.classify id c) s = .next (s.settled (d.dropAt id (clsCnt f.slice 1)))) ∧
    (∀ b, (d.bodies f.slot f.slice).cls = some b →
      (∀ e, d.runSteps id f b c (b.program f.pmeta.root) [] = (e, none) → exec (.classify id c) s = .next (s.settled e)) ∧
      (∀ e g acts term, d.runSteps id f b c (b.program f.pmeta.root) [] = (e, some (acts, term)) → e.applyActs id f b acts term false = (g, none) →
        exec (.classify id c) s = .next (s.settled g)) ∧
      (∀ e g acts term o, d.runSteps id f b c (b.program f.pmeta.root) [] = (e, some (acts, term)) → e.applyActs id f b acts term false = (g, some o) →
        exec (.classify id c) s = .next (s.settled (g.goOn id 1 o)))))) ∧
  (∀ (d : Dev) (id : Nat) (f : Frame) (q : QTarget), d.targetDown q = false → d.takeTerminal id f 1 (.queue q) = d.putFrame id { f with stage := .toQueue q }) ∧
  (∀ (d : Dev) (id r : Nat) (f : Frame), f.pass < 4 → d.takeTerminal id f 1 (.recirc r) = (d.putFrame id { f with pass := f.pass + 1, stage := .stored r }).count (clsCnt f.slice 3)) ∧
  ∀ (d : Dev) (id r : Nat) (f : Frame), 4 ≤ f.pass → d.takeTerminal id f 1 (.recirc r) = (d.count (clsCnt f.slice 3)).dropAt id (clsCnt f.slice 4)

/-- For every thread state: g0 reads 0, writing it changes nothing, p0 reads 1, writing it changes nothing. For every register n other than g0, g31 included, and every value v: after writing n with v, n reads v and every other register reads what it read; so for predicates. A CALL that issues to a target within its code region leaves the address after it in g31 of its thread and goes to the target. -/
def Obligations.HardwiredRegisters : Prop :=
(∀ (x : Thr) (v : Word) (b : Bool), x.rg 0 = 0 ∧ x.setG 0 v = x ∧ x.pred 0 = true ∧ x.setP 0 b = x) ∧
  (∀ (x : Thr) (n m : Nat) (v : Word), n ≠ 0 → (x.setG n v).rg n = v ∧ (m ≠ n → (x.setG n v).rg m = x.rg m)) ∧
  (∀ (x : Thr) (n m : Nat) (b : Bool), n ≠ 0 → (x.setP n b).pred n = b ∧ (m ≠ n → (x.setP n b).pred m = x.pred m)) ∧
  ∀ (s : State) (th : ThId) (x : FmtB), s.issues th x.pred x.pn →
    let a := pcRel 22 x.disp.val (s.thrAt (thKey th))
    a % 4 = 0 → codeBase (s.thrAt (thKey th)).slot ≤ a → a < codeBase (s.thrAt (thKey th)).slot + 0x10000 →
    ∃ t, exec (.call th x) s = .next (s.became t) ∧ (t.thrAt (thKey th)).rg 31 = BitVec.ofNat 64 ((s.thrAt (thKey th)).pc + 4) ∧ (t.thrAt (thKey th)).pc = a

/-- Instruction words decode to what they encode; a held-back instruction only takes its slot; a thread that may not issue does nothing; a bad fetch traps -/
def Obligations.Issuing : Prop :=
(∀ (s : State) (th : ThId) (pred : Fin 8) (pn always : Bool) (m : Meaning), s.runs = true → s.canIssueThr (thKey th) = false → issue th pred pn always s m = .next (s.settled s.toDev)) ∧
  (∀ (s : State) (th : ThId) (pred : Fin 8) (pn : Bool) (m : Meaning), s.fetches th → ((s.thrAt (thKey th)).pred pred.val != pn) = false →
    issue th pred pn false s m = .next (s.became ((s.began th).goes th id))) ∧
  (∀ (s : State) (th : ThId) (pred : Fin 8) (pn always : Bool) (m : Meaning), s.fetches th → ((s.thrAt (thKey th)).pred pred.val != pn || always) = true →
    issue th pred pn always s m = match m (thKey th) (s.began th) with | some t => .next (s.became t) | none => .next (s.settled s.toDev)) ∧
  (∀ (s : State) (th : ThId) (pred : Fin 8) (pn always : Bool) (m : Meaning), s.runs = true → s.canIssueThr (thKey th) = true → (s.thrAt (thKey th)).st = .running →
    (s.thrAt (thKey th)).haltNext = false → ∀ c, s.fetchTrap (thKey th) = some c → issue th pred pn always s m = .next (s.became ((s.began th).onDev fun d =>
      d.trap (thKey th) c (s.thrAt (thKey th)).pc (some (s.thrAt (thKey th)).pc) none))) ∧
  (∀ (d : Dev) (k : Nat), let x := d.thrAt k
    (x.pc < codeBase x.slot ∨ codeBase x.slot + 0x10000 ≤ x.pc → d.fetchTrap k = some causeAccess) ∧
    (codeBase x.slot ≤ x.pc → x.pc < codeBase x.slot + 0x10000 →
      (∀ b, d.code x.slot (thrSlice k) = some b →
        let named : Prop := b.entry[thrNo k]? = some (x.pc - codeBase x.slot) ∨ b.trapv[thrNo k]? = some (x.pc - codeBase x.slot)
        let poor : Prop := (x.pc - codeBase x.slot) % 4 ≠ 0 ∨ b.code.length ≤ x.pc - codeBase x.slot
        (named ∧ poor → d.fetchTrap k = some causePcRange) ∧ (¬ (named ∧ poor) → d.fetchTrap k = if x.pc % 4 ≠ 0 then some causeAlign else none)) ∧
      (d.code x.slot (thrSlice k) = none → d.fetchTrap k = if x.pc % 4 ≠ 0 then some causeAlign else none))) ∧
  (∀ (th : ThId) (x : FmtR), cloigDecode th (x.word 0x01) = .alu th x ∧ cloigDecode th (x.word 0x1E) = .jr th x ∧ cloigDecode th (x.word 0x28) = .crc th x ∧ cloigDecode th (x.word 0x29) = .toep th x) ∧
  (∀ (th : ThId) (x : FmtN), cloigDecode th (x.word 0x20 0) = .frameWindow th x ∧ cloigDecode th (x.word 0x20 1) = .frameInsert th x ∧ cloigDecode th (x.word 0x20 2) = .frameRemove th x ∧ cloigDecode th (x.word 0x20 3) = .frameTrim th x ∧ cloigDecode th (x.word 0x31 0) = .tsetg th x ∧ cloigDecode th (x.word 0x31 1) = .tgetg th x ∧ cloigDecode th (x.word 0x31 2) = .tsetpc th x ∧ cloigDecode th (x.word 0x31 3) = .trelease th x ∧ cloigDecode th (x.word 0x31 4) = .tstop th x ∧ cloigDecode th (x.word 0x31 5) = .tstate th x ∧ cloigDecode th (x.word 0x34 0) = .releaseList th x ∧ cloigDecode th (x.word 0x34 1) = .releaseDrop th x ∧ cloigDecode th (x.word 0x34 2) = .releaseExcHost th x ∧ cloigDecode th (x.word 0x34 3) = .releaseExcFw th x) ∧
  (∀ (th : ThId) (x : FmtI), cloigDecode th (x.word 0x02) = .addi th x ∧ cloigDecode th (x.word 0x03) = .andi th x ∧ cloigDecode th (x.word 0x04) = .ori th x ∧ cloigDecode th (x.word 0x05) = .xori th x ∧ cloigDecode th (x.word 0x06) = .shli th x ∧ cloigDecode th (x.word 0x07) = .shri th x ∧ cloigDecode th (x.word 0x08) = .sari th x) ∧
  (∀ (th : ThId) (x : FmtW), cloigDecode th (x.word 0x0A) = .lims th x ∧ cloigDecode th (x.word 0x0B) = .limu th x ∧ cloigDecode th (x.word 0x0C) = .cat th x) ∧
  (∀ (th : ThId) (x : FmtF), cloigDecode th (x.word 0x0E) = .bfx th x ∧ cloigDecode th (x.word 0x0F) = .bfi th x) ∧
  (∀ (th : ThId) (x : FmtC), cloigDecode th (x.word 0x10) = .cmp th x) ∧
  (∀ (th : ThId) (x : FmtCI), cloigDecode th (x.word 0x11) = .cmpi th x) ∧
  (∀ (th : ThId) (x : FmtP), cloigDecode th (x.word 0x12) = .plog th x) ∧
  (∀ (th : ThId) (x : FmtM), cloigDecode th (x.word 0x14) = .ld th x ∧ cloigDecode th (x.word 0x15) = .lds th x ∧ cloigDecode th (x.word 0x16) = .st th x) ∧
  (∀ (th : ThId) (x : FmtA), cloigDecode th (x.word 0x18) = .atom th x) ∧
  (∀ (th : ThId) (x : FmtB), cloigDecode th (x.word 0x1C) = .br th x ∧ cloigDecode th (x.word 0x1D) = .call th x) ∧
  (∀ (th : ThId) (x : FmtD), cloigDecode th (x.word 0x1F) = .adr th x) ∧
  (∀ (th : ThId) (x : FmtX), cloigDecode th (x.word 0x24) = .lookup th x 0 none) ∧
  (∀ (th : ThId) (x : FmtO), cloigDecode th (x.word 0x25) = .ciph th x ∧ cloigDecode th (x.word 0x26) = .cmpr th x ∧ cloigDecode th (x.word 0x27) = .dmac th x) ∧
  (∀ (th : ThId) (x : FmtS), cloigDecode th (x.word 0x2C) = .send th x) ∧
  (∀ (th : ThId) (x : FmtV), cloigDecode th (x.word 0x2D) = .recv th x) ∧
  (∀ (th : ThId) (x : FmtT), cloigDecode th (x.word 0x2E) = .wait th x) ∧
  (∀ (th : ThId) (x : FmtY), cloigDecode th (x.word 0x30 false) = .sprRead th x ∧ cloigDecode th (x.word 0x30 true) = .sprWrite th x) ∧
  (∀ (th : ThId) (x : FmtK), cloigDecode th (x.word 0x32) = .trap th x ∧ cloigDecode th (x.word 0x33) = .rett th x ∧ cloigDecode th (x.word 0x36) = .brk th x) ∧
  (∀ (th : ThId) (w : BitVec 32), wordOpcode w = 0 → cloigDecode th w = .alwaysIllegal th) ∧ (∀ (th : ThId) (w : BitVec 32), wordOpcode w ∈ [0x09, 0x0D, 0x13, 0x17, 0x19, 0x1A, 0x1B, 0x21, 0x22, 0x23, 0x2A, 0x2B, 0x2F, 0x35] ∨ 0x37 ≤ wordOpcode w → cloigDecode th w = .undefinedOpcode th w) ∧
  ∀ (s : State) (th : ThId), (s.thrAt (thKey th)).st = .running → let y := (s.began th).thrAt (thKey th)
    let x := s.thrAt (thKey th)
    y.g = x.g ∧ y.p = x.p ∧ y.pc = x.pc ∧ y.busy = x.busy ∧ y.done = x.done ∧ y.frame = x.frame ∧ y.slot = x.slot ∧ y.st = .running ∧ (s.began th).mem = s.mem ∧
    (s.began th).frames = s.frames ∧ ∀ k, k ≠ thKey th → (s.began th).thrAt k = s.thrAt k

/-- For every state in which thread th issues the instruction and its predicate lets it execute. ALU with a defined FN (and RB g0 for a one-operand FN): RD := the operation of RA and RB. ADDI, ANDI, ORI, XORI with the immediate sign- or zero-extended; SHLI, SHRI, SARI by an immediate below 64; LIMS, LIMU; CAT with an immediate of 16 bits; BFX, BFI; ADR: RD := PC + 4 DISP17. CMP and PLOG with their reserved bits 0, and CMPI: PD := the result. The thread goes on at the next instruction; nothing but it and the slot's counts changes. The other forms trap ILLEGAL at the instruction. -/
def Obligations.RegisterInstructions : Prop :=
∀ (s : State) (th : ThId),
  (∀ x : FmtR, s.issues th x.pred x.pn →
    (∀ v, aluOp x.fn.val ((s.began th |>.thrAt (thKey th)).rg x.ra.val) ((s.began th |>.thrAt (thKey th)).rg x.rb.val) = some v → (aluUnary x.fn.val = true → x.rb.val = 0) →
      exec (.alu th x) s = .next (s.became ((s.began th).goes th fun t => t.setG x.rd.val v))) ∧
    (aluOp x.fn.val 0 0 = none ∨ (aluUnary x.fn.val = true ∧ x.rb.val ≠ 0) → exec (.alu th x) s = .next (s.became ((s.began th).traps th causeIllegal none)))) ∧
  (∀ x : FmtI, s.issues th x.pred x.pn →
    exec (.addi th x) s = .next (s.became ((s.began th).goes th fun t => t.setG x.rd.val (t.rg x.ra.val + sext 12 x.imm.val))) ∧
    exec (.andi th x) s = .next (s.became ((s.began th).goes th fun t => t.setG x.rd.val (t.rg x.ra.val &&& BitVec.ofNat 64 x.imm.val))) ∧
    exec (.ori th x) s = .next (s.became ((s.began th).goes th fun t => t.setG x.rd.val (t.rg x.ra.val ||| BitVec.ofNat 64 x.imm.val))) ∧
    exec (.xori th x) s = .next (s.became ((s.began th).goes th fun t => t.setG x.rd.val (t.rg x.ra.val ^^^ BitVec.ofNat 64 x.imm.val))) ∧
    (x.imm.val < 64 →
      exec (.shli th x) s = .next (s.became ((s.began th).goes th fun t => t.setG x.rd.val (t.rg x.ra.val <<< x.imm.val))) ∧
      exec (.shri th x) s = .next (s.became ((s.began th).goes th fun t => t.setG x.rd.val (t.rg x.ra.val >>> x.imm.val))) ∧
      exec (.sari th x) s = .next (s.became ((s.began th).goes th fun t => t.setG x.rd.val ((t.rg x.ra.val).sshiftRight x.imm.val)))) ∧
    (64 ≤ x.imm.val → exec (.shli th x) s = .next (s.became ((s.began th).traps th causeIllegal none)))) ∧
  (∀ x : FmtW, s.issues th x.pred x.pn →
    exec (.lims th x) s = .next (s.became ((s.began th).goes th fun t => t.setG x.rd.val (sext 17 x.imm.val))) ∧
    exec (.limu th x) s = .next (s.became ((s.began th).goes th fun t => t.setG x.rd.val (BitVec.ofNat 64 x.imm.val))) ∧
    (x.imm.val < 65536 → exec (.cat th x) s = .next (s.became ((s.began th).goes th fun t => t.setG x.rd.val ((t.rg x.rd.val <<< 16) ||| BitVec.ofNat 64 x.imm.val))))) ∧
  (∀ x : FmtF, s.issues th x.pred x.pn →
    exec (.bfx th x) s = .next (s.became ((s.began th).goes th fun t => t.setG x.rd.val (bitExtract (t.rg x.ra.val) x.at_.val x.wm1.val))) ∧
    exec (.bfi th x) s = .next (s.became ((s.began th).goes th fun t => t.setG x.rd.val (bitInsert (t.rg x.rd.val) (t.rg x.ra.val) x.at_.val x.wm1.val)))) ∧
  (∀ x : FmtC, s.issues th x.pred x.pn → x.rsv.val = 0 →
    exec (.cmp th x) s = .next (s.became ((s.began th).goes th fun t => t.setP x.pd.val (condHolds x.cc.val (t.rg x.ra.val) (t.rg x.rb.val))))) ∧
  (∀ x : FmtCI, s.issues th x.pred x.pn →
    exec (.cmpi th x) s = .next (s.became ((s.began th).goes th fun t => t.setP x.pd.val (condHolds x.cc.val (t.rg x.ra.val) (sext 11 x.imm.val))))) ∧
  (∀ x : FmtP, s.issues th x.pred x.pn → x.rsv.val = 0 →
    exec (.plog th x) s = .next (s.became ((s.began th).goes th fun t => t.setP x.pd.val (plogOp x.fn.val (t.pred x.pa.val) (t.pred x.pb.val))))) ∧
  ∀ x : FmtD, s.issues th x.pred x.pn →
    exec (.adr th x) s = .next (s.became ((s.began th).goes th fun t => t.setG x.rd.val (BitVec.ofNat 64 (pcRel 17 x.disp.val t))))

/-- For all operands a and b: CSFOLD of them is below 65,536, is congruent modulo 65,535 to the sum of a and b as unsigned numbers, and is 0 exactly when both are 0: the ones' complement sum that R180 describes, carries folded in. For every RD and RA, and every field of POS and WM1 that lies within 64 bits: extracting the field after inserting RA gives the low WM1 + 1 bits of RA, and every bit of RD outside the field is unchanged. -/
def Obligations.FoldsAndBitfields : Prop :=
(∀ a b : Word, (csfold a b).toNat < 65536 ∧ (csfold a b).toNat % 65535 = (a.toNat + b.toNat) % 65535 ∧ (csfold a b = 0 ↔ a = 0 ∧ b = 0)) ∧
  ∀ (rd v : Word) (p w : Nat), p + w < 64 →
    bitExtract (bitInsert rd v p w) p w = BitVec.ofNat 64 (v.toNat % 2 ^ (w + 1)) ∧ ∀ i, i < 64 → (i < p ∨ p + w < i) → (bitInsert rd v p w).getLsbD i = rd.getLsbD i

/-- For every state in which thread th issues the instruction. For a target a that is a multiple of 4 within the 64 KiB code region of the thread's epoch slot: BR continues at a; CALL too, the address after it in g31; JR with FN 0 at RA, the address after it in RD. For any other target the thread traps PC_RANGE at the transfer with the target as TRAP_ADDR, and writes no return address. -/
def Obligations.ControlTransfers : Prop :=
∀ (s : State) (th : ThId),
  let x0 := (s.began th).thrAt (thKey th)
  let ok (a : Nat) : Prop := a % 4 = 0 ∧ codeBase x0.slot ≤ a ∧ a < codeBase x0.slot + 0x10000
  let go (a : Nat) (f : Thr → Thr) : State := (s.began th).onDev fun d => d.updThr (thKey th) fun t => { f t with pc := a }
  (∀ x : FmtB, s.issues th x.pred x.pn →
    (ok (pcRel 22 x.disp.val x0) → exec (.br th x) s = .next (s.became (go (pcRel 22 x.disp.val x0) id)) ∧
      exec (.call th x) s = .next (s.became (go (pcRel 22 x.disp.val x0) fun t => t.setG 31 (BitVec.ofNat 64 (t.pc + 4))))) ∧
    (¬ ok (pcRel 22 x.disp.val x0) → exec (.br th x) s = .next (s.became ((s.began th).traps th causePcRange (some (pcRel 22 x.disp.val x0)))) ∧
      exec (.call th x) s = .next (s.became ((s.began th).traps th causePcRange (some (pcRel 22 x.disp.val x0)))))) ∧
  ∀ x : FmtR, s.issues th x.pred x.pn → x.fn.val = 0 →
    (ok (x0.rg x.ra.val).toNat → exec (.jr th x) s = .next (s.became (go (x0.rg x.ra.val).toNat fun t => t.setG x.rd.val (BitVec.ofNat 64 (t.pc + 4))))) ∧
    (¬ ok (x0.rg x.ra.val).toNat → exec (.jr th x) s = .next (s.became ((s.began th).traps th causePcRange (some (x0.rg x.ra.val).toNat))))

/-- For every state in which thread th issues the instruction, with e the state at its effect. LD and LDS of an address that reaches place p with SZ bytes: RD := the bytes at p in the order BE names, zero- or sign-extended. ST: the low bytes of RD stand at p; a store to the deck of a locked frame is not ready, and nothing happens. ATOM with reserved bits 0 and FN up to 9: the operation's value stands at p, little-endian, and RD := the old value. CRC of RB bytes (1 to 16,384) at RA, FN 0: RD := the CRC32C of the low half of RD over them. TOEP of FN bytes (1 to 64) at RA with the FN + 4 bytes of key at RB: RD := the Toeplitz hash. An access that meets a trap traps with that cause and the address, changing neither memory nor RD; one that meets a poisoned word reports its fault source too, and one whose bank is being handed over to its engine, or has earlier accesses held on it, is held. -/
def Obligations.MemoryInstructions : Prop :=
∀ (s : State) (th : ThId),
  let k := thKey th
  let e := s.began th
  let t := e.thrAt k
  (∀ x : FmtM, s.issues th x.pred x.pn →
    (∀ p, e.reach k (memAddr x t) (szBytes x.sz) false false true = .at_ p →
      exec (.ld th x) s = .next (s.became (e.goes th fun t => t.setG x.rd.val (BitVec.ofNat 64 (ordNat x.be (e.bytesOf k p (szBytes x.sz)))))) ∧
      exec (.lds th x) s = .next (s.became (e.goes th fun t => t.setG x.rd.val (sext (8 * szBytes x.sz) (ordNat x.be (e.bytesOf k p (szBytes x.sz))))))) ∧
    (∀ p, e.reach k (memAddr x t) (szBytes x.sz) true false true = .at_ p → deckFree t (e.spot? (thrSlice k) (thrPos k) (memAddr x t) (szBytes x.sz)) = true →
      exec (.st th x) s = .next (s.became ((e.putBytes k p (ordBytes x.be (szBytes x.sz) (t.rg x.rd.val).toNat)).goes th id))) ∧
    (∀ c, e.reach k (memAddr x t) (szBytes x.sz) true false true = .trap c none → deckFree t (e.spot? (thrSlice k) (thrPos k) (memAddr x t) (szBytes x.sz)) = true → exec (.st th x) s = .next (s.became (e.traps th c (some (memAddr x t))))) ∧
    (∀ c, e.reach k (memAddr x t) (szBytes x.sz) false false true = .trap c none → exec (.ld th x) s = .next (s.became (e.traps th c (some (memAddr x t))))) ∧
    (deckFree t (e.spot? (thrSlice k) (thrPos k) (memAddr x t) (szBytes x.sz)) = false → exec (.st th x) s = .next (s.settled s.toDev)) ∧
    (∀ c f, e.reach k (memAddr x t) (szBytes x.sz) false false true = .trap c (some f) → exec (.ld th x) s = .next (s.became (e.onDev fun d =>
      d.trap k c (d.thrAt k).pc (some (memAddr x t)) (some f)))) ∧
    (∀ i, e.reach k (memAddr x t) (szBytes x.sz) false false true = .held i → exec (.ld th x) s = .next (s.became (e.onDev fun d => d.holds k i)))) ∧
  (∀ x : FmtA, s.issues th x.pred x.pn → x.rsv.val = 0 → x.fn.val ≤ 9 →
    let n := if x.w then 8 else 4
    let lo (r : Fin 32) : Nat := (t.rg r.val).toNat % 2 ^ (8 * n)
    ∀ p, e.reach k (t.rg x.ra.val).toNat n true true true = .at_ p →
      exec (.atom th x) s = .next (s.became ((e.putBytes k p (leBytes n (atomOp x.fn.val (8 * n) (leNat (e.bytesOf k p n)) (lo x.rb) (lo x.rd)))).goes th fun t =>
        t.setG x.rd.val (BitVec.ofNat 64 (leNat (e.bytesOf k p n)))))) ∧
  (∀ x : FmtR, s.issues th x.pred x.pn →
    (∀ p, x.fn.val = 0 → 1 ≤ (t.rg x.rb.val).toNat → (t.rg x.rb.val).toNat ≤ 16384 → e.reach k (t.rg x.ra.val).toNat (t.rg x.rb.val).toNat false false false = .at_ p →
      exec (.crc th x) s = .next (s.became (e.goes th fun t => t.setG x.rd.val (BitVec.ofNat 64 (crc32c ((t.rg x.rd.val).toNat % 2 ^ 32) (e.bytesOf k p (t.rg x.rb.val).toNat)))))) ∧
    (∀ p q, 1 ≤ x.fn.val → x.fn.val ≤ 64 → e.reach k (t.rg x.ra.val).toNat x.fn.val false false false = .at_ p → e.reach k (t.rg x.rb.val).toNat (x.fn.val + 4) false false false = .at_ q →
      exec (.toep th x) s = .next (s.became (e.goes th fun y => y.setG x.rd.val (BitVec.ofNat 64 (toeplitz (msbBits (e.bytesOf k q (x.fn.val + 4))) (msbBits (e.bytesOf k p x.fn.val))))))))

/-- For every state whose memory is in canonical form, every thread k, place and byte list: putting the bytes at a memory place makes those bytes read back from it, leaves every byte at any other address as it was, and keeps the canonical form; putting bytes in the header deck or the metadata window changes no byte of memory. -/
def Obligations.StoredBytes : Prop :=
∀ (s : State) (k : Nat) (bs : List Byte), s.memOk →
  (∀ a b, (s.putBytes k (.mem a b) bs).mem.readN a bs.length = bs ∧ (s.putBytes k (.mem a b) bs).memOk ∧
    ∀ c, c < a ∨ a + bs.length ≤ c → (s.putBytes k (.mem a b) bs).mem.read c = s.mem.read c) ∧
  ∀ o, (s.putBytes k (.deck o) bs).mem = s.mem ∧ (s.putBytes k (.window o) bs).mem = s.mem

/-- For every state in which thread th issues the instruction and holds frame id, which is there and not locked, with a and b the values of RA and RB and n the frame's length at the effect e. WINDOW with a below n moves the deck to a. INSERT of b (1 to 256) bytes at a up to n, within 16,384, puts zeros there; REMOVE of b (1 to 256) bytes at a within the frame, 14 or more left, takes them out; TRIM to a from 14 to n cuts the frame; out of these ranges the instruction traps FRAME_BOUND. RELEASE_LIST applies the list and ends the hold; RELEASE_DROP drops the frame; RELEASE_EXC_HOST and _FW release it to the exception path with the reason of RB. Without a frame each traps NO_FRAME. -/
def Obligations.HeldFrameInstructions : Prop :=
∀ (s : State) (th : ThId) (x : FmtN), s.issues th x.pred x.pn →
  let k := thKey th
  let e := s.began th
  let a := ((e.thrAt k).rg x.ra.val).toNat
  let b := ((e.thrAt k).rg x.rb.val).toNat
  let does (f : Dev → Dev) : State := e.onDev fun d => (f d).updThr k fun t => { t with pc := t.pc + 4 }
  (∀ id fr, (e.thrAt k).frame = some id → e.frame? id = some fr → (e.thrAt k).locked = false →
    let n := fr.len
    (a < n → exec (.frameWindow th x) s = .next (s.became (does fun d => (d.updFrame id fun f => f).updThr k fun t => { t with win := a }))) ∧
    (n ≤ a → exec (.frameWindow th x) s = .next (s.became (e.traps th causeFrameBound none))) ∧
    (a ≤ n → 1 ≤ b → b ≤ 256 → n + b ≤ 16384 → exec (.frameInsert th x) s = .next (s.became (does fun d =>
      d.updFrame id fun f => { f with data := f.data.take a ++ List.replicate b 0 ++ f.data.drop a }))) ∧
    (1 ≤ b → b ≤ 256 → a + b ≤ n → b + 14 ≤ n → exec (.frameRemove th x) s = .next (s.became (does fun d => d.updFrame id fun f => { f with data := f.data.take a ++ f.data.drop (a + b) }))) ∧
    (14 ≤ a → a ≤ n → exec (.frameTrim th x) s = .next (s.became (does fun d => d.updFrame id fun f => { f with data := f.data.take a }))) ∧
    (a < 14 ∨ n < a → exec (.frameTrim th x) s = .next (s.became (e.traps th causeFrameBound none))) ∧
    exec (.releaseList th x) s = .next (s.became (does fun d => d.releaseList k id fr (a % 65536) b)) ∧
    exec (.releaseDrop th x) s = .next (s.became (does fun d => (d.frameOut id).updThr k fun t => { t with frame := none })) ∧
    exec (.releaseExcHost th x) s = .next (s.became (does fun d => d.releaseTo k id ⟨none, .exception false (b % 64)⟩)) ∧
    exec (.releaseExcFw th x) s = .next (s.became (does fun d => d.releaseTo k id ⟨none, .exception true (b % 64)⟩))) ∧
  ((e.thrAt k).frame = none → exec (.frameWindow th x) s = .next (s.became (e.traps th causeNoFrame none)) ∧
    exec (.releaseDrop th x) s = .next (s.became (e.traps th causeNoFrame none)))

/-- For every state in which thread th issues the instruction, e the state at its effect. LOOKUP with reserved bits 0, RD neither g0 nor g31, its registers within g31, of a table of the thread's slice and epoch slot whose key the registers cover: with d the device after the named bad entry, a hit on a good entry puts PARAM and the hit's status word in RD and RD + 1, a miss 0 and 0xFFFF. Without such a table it traps TABLE. CIPH, CMPR and DMAC with reserved bits 0, of a descriptor of 64 aligned bytes in data or quad memory, with a ticket free and the queue not full: the descriptor is submitted with one of the free tickets, which is busy and in RD; which one is a free value (log entry 21). -/
def Obligations.LookupsAndOffloads : Prop :=
∀ (s : State) (th : ThId),
  let k := thKey th
  let e := s.began th
  let t := e.thrAt k
  (∀ (x : FmtX) (fm : Nat) (n : Nat) (tab : Table), s.issues th x.pred x.pn → x.rsv.val = 0 → x.rd.val ≠ 0 → x.rd.val ≠ 31 → x.ra.val + cntOf x.cnt ≤ 32 →
    e.table? (thrSlice k) (e.thrSlot t) x.table.val = some (n, tab) → tab.decl.keyBytes ≤ cntOf x.cnt * 8 →
    let key := (t.regBytes x.ra.val (cntOf x.cnt)).take tab.decl.keyBytes
    let d := e.onDev fun d => d.count (clsCnt (thrSlice k) 10) fm
    (tab.hit? key = none → exec (.lookup th x fm none) s = .next (s.became (d.goes th fun y => (y.setG x.rd.val 0).setG (x.rd.val + 1) 0xFFFF))) ∧
    (∀ i en, tab.hit? key = some (i, en) → en.bad = false → exec (.lookup th x fm none) s = .next (s.became (d.goes th fun y =>
      (y.setG x.rd.val (BitVec.ofNat 64 en.param)).setG (x.rd.val + 1) (BitVec.ofNat 64 (lookStatus i en)))))) ∧
  (∀ (x : FmtX) (fm : Nat) (ecc : Option EntryRef), s.issues th x.pred x.pn → x.rsv.val = 0 → x.rd.val ≠ 0 → x.rd.val ≠ 31 → x.ra.val + cntOf x.cnt ≤ 32 →
    e.table? (thrSlice k) (e.thrSlot t) x.table.val = none → exec (.lookup th x fm ecc) s = .next (s.became (e.traps th causeTable none))) ∧
  ∀ (x : FmtO) (p : Spot), s.issues th x.pred x.pn → x.rsv.val = 0 →
    let a := (t.rg x.ra.val).toNat
    (0x20000 ≤ a ∧ a + 64 ≤ 0x40000) ∨ (0x100000 ≤ a ∧ a + 64 ≤ 0x200000) → e.reach k a 64 false false true = .at_ p → t.freeTickets ≠ [] →
    let desc := e.bytesOf k p 64
    let sub (unit : Nat) : State := (e.onDev fun d => (d.submit k unit x.rd.val a desc).updThr k fun t => { t with pc := t.pc + 4 }).dmaRefused e.nextOp
    (e.opQueueFull (thrSlice k) 0 desc = false → exec (.ciph th x) s = .next (s.became (sub 0))) ∧
    (e.opQueueFull (thrSlice k) 1 desc = false → exec (.cmpr th x) s = .next (s.became (sub 1))) ∧
    (e.opQueueFull (thrSlice k) 2 desc = false → exec (.dmac th x) s = .next (s.became (sub 2)))

/-- For every state in which thread th issues the instruction, e the state at its effect. SEND with reserved bits 0, registers within g31, to a channel of a position that has code and is in service: a channel that holds four messages gives PD 0; else the message is reserved there, PD 1, and the thread is sending while more than one word is to be written. RECV with reserved bits 0 and RD from g1 to g23: no visible message gives PD 0; else the oldest is taken, its header in RD and its words after it, PD 1. WAIT that is legal: the thread waits with its enables, its deadline armed unless NODL, due at once when the deadline has passed; where an enabled event holds it returns at once. SPR_READ of a listed register: RD := its value. SPR_WRITE of a writable one: it is written. A register not listed, or not writable, traps ILLEGAL. -/
def Obligations.ChannelsWaitsAndSpecials : Prop :=
∀ (s : State) (th : ThId),
  let k := thKey th
  let e := s.began th
  let t := e.thrAt k
  (∀ x : FmtS, s.issues th x.pred x.pn → x.rsv.val = 0 → x.ra.val + cntOf x.cnt ≤ 32 →
    let dst := (t.rg x.rd.val).toNat
    let p := dst % 32
    let c := dst / 256 % 16
    dst = p + 256 * c → (e.code t.slot (thrSlice k)).any (fun b => b.runs p) = true → e.offline (thrSlice k) p = false →
    let ch := e.chanAt (thrSlice k) p c
    (4 ≤ ch.vis.length + ch.res.length → exec (.send th x) s = .next (s.became (e.goes th fun y => y.setP x.pd.val false))) ∧
    (ch.vis.length + ch.res.length < 4 → exec (.send th x) s = .next (s.became (e.onDev fun d => ((d.setChan (d.chan.put (chanKey (thrSlice k) p c)
      { ch with res := ch.res ++ [⟨thrPos k, thrNo k, (List.range (cntOf x.cnt)).map fun i => t.rg (x.ra.val + i)⟩] })).updThr k fun y =>
        { (y.setP x.pd.val true) with sending := if cntOf x.cnt = 1 then none else some ⟨p, c, t.pc, t.p⟩ }).updThr k fun y => { y with pc := y.pc + 4 })))) ∧
  (∀ x : FmtV, s.issues th x.pred x.pn → x.rsv.val = 0 → 1 ≤ x.rd.val → x.rd.val ≤ 23 →
    let ch := e.chanAt (thrSlice k) (thrPos k) x.ch.val
    (ch.vis = [] → exec (.recv th x) s = .next (s.became (e.goes th fun y => y.setP x.pd.val false))) ∧
    (∀ m rest, ch.vis = m :: rest → exec (.recv th x) s = .next (s.became (e.onDev fun d =>
      ((d.setChan (d.chan.put (chanKey (thrSlice k) (thrPos k) x.ch.val) { ch with vis := rest })).updThr k fun y =>
        (List.range m.words.length).foldl (fun y i => y.setG (x.rd.val + 1 + i) (m.words.getD i 0)) ((y.setG x.rd.val m.header).setP x.pd.val true)).updThr k fun y => { y with pc := y.pc + 4 })))) ∧
  (∀ x : FmtT, s.issues th x.pred x.pn → x.rsv.val = 0 → (x.frame && t.frame.isSome) = false → (x.nodl = true → x.ra.val = 0 ∧ e.nodlOk k = true) →
    let d := e.updThr k fun y => { y with st := .waiting, wait := some ⟨x.rd.val, x.frame, x.chan, x.ticket, x.ext, x.nodl⟩, wakeAt := (t.rg x.ra.val).toNat, armed := !x.nodl, fired := !x.nodl && decide ((t.rg x.ra.val).toNat ≤ e.now) }
    exec (.wait th x) s = .next (s.became (e.onDev fun _ => match d.waitReason k with | some r => d.waitReturns k r | none => d))) ∧
  ∀ x : FmtY, s.issues th x.pred x.pn →
    (∀ v, e.spr k x.spr.val = some v → x.rsv.val = 0 → exec (.sprRead th x) s = .next (s.became (e.goes th fun y => y.setG x.rd.val (BitVec.ofNat 64 v)))) ∧
    (e.spr k x.spr.val = none → exec (.sprRead th x) s = .next (s.became (e.traps th causeIllegal none))) ∧
    (∀ u, t.sprWrite x.spr.val (t.rg x.ra.val).toNat = some u → x.rsv.val = 0 → x.rd.val = 0 → exec (.sprWrite th x) s = .next (s.became (e.goes th fun _ => u))) ∧
    (t.sprWrite x.spr.val (t.rg x.ra.val).toNat = none → exec (.sprWrite th x) s = .next (s.became (e.traps th causeIllegal none)))

/-- For every state in which thread th issues the instruction, e the state at its effect, q the target that RA[2:0] names, r the register that RA[12:8] names. From T0 with a target other than T0 and the target STOPPED or TRAPPED: TSETG writes RB to register r of the target, TGETG reads it into RD, TSETPC within the current epoch's code region sets its PC. TRELEASE and TSTOP, without an engine fault, release and stop the target by their rules; TSTATE puts the target's state word in RD. From another thread each traps PRIVILEGED; a target of 0 traps ILLEGAL; a target that is neither STOPPED nor TRAPPED makes TSETG, TGETG and TSETPC trap NOT_STOPPED. -/
def Obligations.CoxInstructions : Prop :=
∀ (s : State) (th : ThId) (x : FmtN), s.issues th x.pred x.pn →
  let k := thKey th
  let e := s.began th
  let t := e.thrAt k
  let n := (t.rg x.ra.val).toNat % 8
  let q := k / 8 * 8 + n
  let r := coxReg x t
  let does (f : Dev → Dev) : State := e.onDev fun d => (f d).updThr k fun y => { y with pc := y.pc + 4 }
  (thrNo k = 0 → n ≠ 0 →
    ((e.thrAt q).st = .stopped ∨ (e.thrAt q).st = .trapped →
      exec (.tsetg th x) s = .next (s.became (does fun d => d.updThr q fun y => y.setG r (t.rg x.rb.val))) ∧
      exec (.tgetg th x) s = .next (s.became (e.goes th fun y => y.setG x.rd.val ((e.thrAt q).rg (coxReg x y)))) ∧
      (codeBase e.curSlot ≤ (t.rg x.rb.val).toNat → (t.rg x.rb.val).toNat < codeBase e.curSlot + 0x10000 →
        exec (.tsetpc th x) s = .next (s.became (does fun d => d.updThr q fun y => { y with pc := (t.rg x.rb.val).toNat })))) ∧
    ((e.thrAt q).st ≠ .stopped → (e.thrAt q).st ≠ .trapped → exec (.tsetg th x) s = .next (s.became (e.traps th causeNotStopped none)) ∧
      exec (.tgetg th x) s = .next (s.became (e.traps th causeNotStopped none)) ∧ exec (.tsetpc th x) s = .next (s.became (e.traps th causeNotStopped none))) ∧
    (e.engFaulty k = false →
      exec (.trelease th x) s = .next (s.became (does fun d => d.updThr q Thr.released)) ∧ exec (.tstop th x) s = .next (s.became (does fun d => d.updThr q Thr.stops))) ∧
    exec (.tstate th x) s = .next (s.became (e.goes th fun y => y.setG x.rd.val (BitVec.ofNat 64 (e.thrAt q).stateWord)))) ∧
  (thrNo k ≠ 0 → exec (.tsetg th x) s = .next (s.became (e.traps th causePrivileged none)) ∧ exec (.tgetg th x) s = .next (s.became (e.traps th causePrivileged none)) ∧
    exec (.tsetpc th x) s = .next (s.became (e.traps th causePrivileged none)) ∧ exec (.trelease th x) s = .next (s.became (e.traps th causePrivileged none)) ∧
    exec (.tstop th x) s = .next (s.became (e.traps th causePrivileged none)) ∧ exec (.tstate th x) s = .next (s.became (e.traps th causePrivileged none))) ∧
  (thrNo k = 0 → n = 0 → exec (.tstate th x) s = .next (s.became (e.traps th causeIllegal none)))

/-- For every state in which thread th issues the instruction, e the state at its effect. Opcode 0x00 traps ILLEGAL whatever its predicate; a word with no defined opcode or FN traps ILLEGAL where its predicate lets it execute. TRAP with reserved bits 0 traps with cause 0x80 + IMM7 and the next instruction as TRAP_PC. RETT with reserved bits 0 in a handler goes to TRAP_PC and leaves the handler; outside one it traps ILLEGAL. BRK with reserved bits 0 halts a thread whose DBG_EN bit is 1 at the next instruction, and else traps BREAK. A trap of a thread outside a handler with an even trap vector: cause and TRAP_PC are saved, IN_HANDLER sets, the PC is the vector, and no other thread and no memory changes. -/
def Obligations.TrapsAndReturns : Prop :=
(∀ (s : State) (th : ThId), s.fetches th → exec (.alwaysIllegal th) s = .next (s.became ((s.began th).traps th causeIllegal none))) ∧
  (∀ (s : State) (th : ThId) (w : BitVec 32), s.issues th ⟨w.toNat / 2 ^ 29 % 8, Nat.mod_lt _ (by decide)⟩ (w.getLsbD 28) →
    exec (.undefinedOpcode th w) s = .next (s.became ((s.began th).traps th causeIllegal none))) ∧
  (∀ (s : State) (th : ThId) (x : FmtK), s.issues th x.pred x.pn → x.rsv.val = 0 →
    let k := thKey th
    let e := s.began th
    exec (.trap th x) s = .next (s.became (e.onDev fun d => d.trap k (0x80 + x.imm.val) ((d.thrAt k).pc + 4) none none)) ∧
    ((e.thrAt k).inHandler = true → exec (.rett th x) s = .next (s.became (e.onDev fun d => d.updThr k fun t => { t with pc := t.tpc, inHandler := false }))) ∧
    ((e.thrAt k).inHandler = false → exec (.rett th x) s = .next (s.became (e.traps th causeIllegal none))) ∧
    exec (.brk th x) s = .next (s.became (e.onDev fun d => if (d.fld (ENG_CTRL (thrSlice k) (thrPos k)) ENG_CTRL_DBG_EN).testBit (thrNo k) then
      d.updThr k fun t => { t with st := .halted, prev := .running, pc := t.pc + 4 } else d.trap k causeBreak ((d.thrAt k).pc + 4) none none))) ∧
  ∀ (d : Dev) (k cause ret : Nat) (a : Nat), (d.thrAt k).inHandler = false → (d.thrAt k).tvec % 2 = 0 →
    let y := (d.trap k cause ret (some a) none).thrAt k
    y.cause = cause ∧ y.tpc = ret ∧ y.taddr = a ∧ y.inHandler = true ∧ y.pc = (d.thrAt k).tvec ∧ y.g = (d.thrAt k).g ∧ y.p = (d.thrAt k).p ∧
    ∀ j, j ≠ k → (d.trap k cause ret (some a) none).thrAt j = d.thrAt j

/-- Where the access is heard and the slice powered. HALT of a RUNNING, WAITING or TRAPPED thread makes it HALTED and keeps its state to go back to, one whose access a bank's handover holds once that access has completed; STEP_THREAD lets a HALTED one issue once; RESUME gives it its state back; KILL of a HALTED or TRAPPED thread stops it where it stands, a SEND between words undone, and of T0 is an engine fault. A request in another state only leaves the thread as it is. TDBG_DATA_ACCESS reads or writes the selected item of a HALTED or STOPPED thread; for any other state it reads all ones and a write does nothing. COX_RESTART restarts T0 at the entry of its epoch and clears FAULT. ENGINE_RESET clears the position's frames, messages and tickets, and starts it in the current epoch. -/
def Obligations.ThreadControl : Prop :=
∀ (s : State) (src : Src) (th : ThId), s.hearsIn src th.slice.val →
  let k := thKey th
  let x := s.thrAt k
  let sl := th.slice.val
  let p := th.pos.val
  let upd (y : Thr) : State := s.settled (s.updThr k fun _ => y)
  ((x.st = .running ∧ x.heldAcc = false) ∨ x.st = .waiting ∨ x.st = .trapped → exec (.halt src th) s = .next (upd { x with haltNext := false, prev := x.st, st := .halted, stepOnce := false })) ∧
  (x.st = .running → x.heldAcc = true → exec (.halt src th) s = .next (upd { x with haltNext := true })) ∧
  (x.st = .stopped ∨ x.st = .stopping ∨ x.st = .halted → exec (.halt src th) s = .next (upd { x with haltNext := false })) ∧
  (x.st = .halted → exec (.stepThread src th) s = .next (upd { x with stepOnce := true }) ∧ exec (.resume src th) s = .next (upd { x with st := x.prev, stepOnce := false })) ∧
  (x.st ≠ .halted → exec (.stepThread src th) s = .next (upd x) ∧ exec (.resume src th) s = .next (upd { x with haltNext := false })) ∧
  (x.st ≠ .halted → x.st ≠ .trapped → exec (.kill src th) s = .next (s.settled s.toDev)) ∧
  (x.st = .halted ∨ x.st = .trapped → th.thread.val ≠ 0 → thrNo k ≠ 0 →
    let y := match x.sending with | some z => { x with pc := z.pc, p := z.p } | none => x
    exec (.kill src th) s = .next (s.settled ((s.unstage k).updThr k fun _ =>
      { y with st := .stopped, sending := none, wait := none, armed := false, fired := false, stepOnce := false, heldAcc := false, heldSeq := 0, haltNext := false }))) ∧
  (∀ w v, let q := thrKey sl p (s.fld (ENG_TDBG_SEL sl p) ENG_TDBG_SEL_THREAD)
    let i := s.fld (ENG_TDBG_SEL sl p) ENG_TDBG_SEL_ITEM
    ((s.thrAt q).st = .halted ∨ (s.thrAt q).st = .stopped → exec (.tdbgDataAccess src th.slice th.pos w v) s = .next (s.settled
      (if w then s.updThr q fun z => z.setItem i v.toNat else s.emit (.readData ((s.thrAt q).item i))))) ∧
    ((s.thrAt q).st ≠ .halted → (s.thrAt q).st ≠ .stopped → exec (.tdbgDataAccess src th.slice th.pos w v) s = .next (s.settled
      (if w then s.toDev else s.emit (.readData (2 ^ 64 - 1)))))) ∧
  (let q := thrKey sl p 0
    let d := ((s.dropHeld q).unstage q).dropTickets q
    ∀ b, d.code (s.thrAt q).slot sl = some b → exec (.coxRestart src th.slice th.pos) s = .next (s.settled
      ((d.updThr q (Thr.enter b (s.thrAt q).slot 0 .running)).setF (ENG_STATUS sl p) ENG_STATUS_FAULT 0))) ∧
  let d := s.toDev.clearPos sl p
  ∀ b, d.code d.curSlot sl = some b → b.runs p = true → exec (.engineReset src th.slice th.pos) s = .next (s.settled
    ((d.startPos b sl p d.curSlot).setF (ENG_STATUS sl p) ENG_STATUS_FAULT 0))

/-- Where the part runs. ORDER_RELEASE of a released frame that is the first of its order key leaves the engine stage for its list; of one that is not, nothing happens. DISPATCH_FROM_QUEUE gives the head of a group's queue to the candidate that there is, and without one does nothing. THREAD_WAKE of the deadline next in firing order fires it; of any other does nothing. MESSAGE_VISIBLE moves the oldest staged message of the thread into the channel, and ends its SEND with the last one; with no such message it does nothing. STALL_DETECTED of an episode not told yet, T1 to T7 quiescent: T0 in a quiet wait is an engine fault STALLED, else STALL is pending where a thread waits; it is told once. -/
def Obligations.EngineEvents : Prop :=
∀ s : State, s.runs = true →
  (∀ (id : Nat) (c : Option CiphAct) (n : Terminal) (f : Frame), s.frame? id = some f → f.stage = .released c n →
    (s.orderFirst f.slice id f.orderKey = true → exec (.orderRelease id) s = .next (s.settled ((s.toDev.orderLeave f.slice id).goOn id 2 ⟨c, n⟩))) ∧
    (s.orderFirst f.slice id f.orderKey = false → exec (.orderRelease id) s = .next (s.settled s.toDev))) ∧
  (∀ (sl : Fin 6) (e : Fin 2) (g : Fin 256) (id : Nat) (rest : List Nat) (x : Group), s.dspq.lookD (groupKey sl.val e.val g.val) [] = id :: rest → s.group? sl.val e.val g.val = some x →
    (∀ p t, s.candidate sl.val e.val g.val x = some (p, t) → exec (.dispatchFromQueue sl e g) s = .next (s.settled
      ((s.setDspq (s.dspq.put (groupKey sl.val e.val g.val) rest)).dispatchTo id sl.val e.val g.val p t))) ∧
    (s.candidate sl.val e.val g.val x = none → exec (.dispatchFromQueue sl e g) s = .next (s.settled s.toDev))) ∧
  (∀ th : ThId, (s.dueFirst .wake (thKey th) = true → exec (.threadWake th) s = .next (s.settled ((s.toDev.dueFired none).updThr (thKey th) fun x => { x with fired := x.wait.isSome }))) ∧
    (s.dueFirst .wake (thKey th) = false → exec (.threadWake th) s = .next (s.settled s.toDev))) ∧
  (∀ (th : ThId) (dst : Fin 32) (ch : Fin 16),
    let k := thKey th
    let c := s.chanAt th.slice.val dst.val ch.val
    let mine (m : Msg) : Bool := m.pos == th.pos.val && m.thread == th.thread.val
    let shown (m : Msg) (rest : List Msg) : Dev := s.setChan (s.chan.put (chanKey th.slice.val dst.val ch.val) ⟨c.vis ++ [m], rest⟩)
    (∀ m rest, takeFirst mine c.res = some (m, rest) → 2 ≤ (c.res.filter mine).length → exec (.messageVisible th dst ch) s = .next (s.settled (shown m rest))) ∧
    (∀ m rest, takeFirst mine c.res = some (m, rest) → (c.res.filter mine).length = 1 → ((s.thrAt k).sending.any fun x => x.pos == dst.val && x.chan == ch.val) = true →
      (s.thrAt k).st ≠ .halted → exec (.messageVisible th dst ch) s = .next (s.settled ((shown m rest).updThr k Thr.sent))) ∧
    (takeFirst mine c.res = none → exec (.messageVisible th dst ch) s = .next (s.settled s.toDev))) ∧
  ∀ (sl : Fin 6) (p : Fin 32), let k := thrKey sl.val p.val 0
    let st := s.stallAt k
    let d := s.setStall (s.stall.put (k / 8) { st with told := true })
    (st.told = true ∨ s.quiescent sl.val p.val = false → exec (.stallDetected sl p) s = .next (s.settled s.toDev)) ∧
    (st.told = false → s.quiescent sl.val p.val = true →
      ((s.thrAt k).quietWait = true → exec (.stallDetected sl p) s = .next (s.settled (d.fresh.2.engineFault sl.val p.val d.fresh.1 true))) ∧
      ((s.thrAt k).quietWait = false → ((List.range 7).any fun i => (s.thrAt (k + i + 1)).st == .waiting) = true →
        exec (.stallDetected sl p) s = .next (s.settled (d.setStall (d.stall.put (k / 8) ⟨true, true⟩)))))

/-- A migration tests the spare, freezes the position, copies it and switches; a position that goes OFFLINE ends its threads and its banks' ownership -/
def Obligations.EngineSparing : Prop :=
(∀ (s : State) (src : Src) (sl : Fin 6) (p : Fin 32) (v : Word), s.hearsIn src sl.val →
    let d := s.toDev.wr (ENG_SPARE_CFG sl.val) (v &&& 0x1F01)
    let q := ENG_SPARE_CFG_POSITION.get v
    let c := clusterOf sl.val q
    (ENG_SPARE_CFG_GO.get v = 0 → exec (.migrationGo sl p (.go src v)) s = .next (s.settled d)) ∧
    (ENG_SPARE_CFG_GO.get v = 1 → d.spare c = 0 → exec (.migrationGo sl p (.go src v)) s = .next (s.settled
      (((d.setSpare c 1).setF (ENG_SPARE_STATUS sl.val) (sparePos c) q).setMig (d.mig.put c ⟨q, d.refNs, false⟩)))) ∧
    (ENG_SPARE_CFG_GO.get v = 1 → d.spare c ≠ 0 → exec (.migrationGo sl p (.go src v)) s = .next (s.settled (d.spareAborted c)))) ∧
  (∀ (s : State) (sl : Fin 6) (p : Fin 32), s.runs = true →
    let d (kind : Nat) : Dev := s.fresh.2.fresh.2.report (0x0800 + s.physOf sl.val p.val) kind s.fresh.1 ⟨sl.val, p.val, 0xFF⟩ s.fresh.2.fresh.1
    let e (kind : Nat) : Dev := if (d kind).flag (ENG_SPARE_CFG sl.val) ENG_SPARE_CFG_AUTO = true ∨ (d kind).spare (clusterOf sl.val p.val) ≠ 0 then (d kind).migStart sl.val p.val else d kind
    exec (.migrationGo sl p .aging) s = .next (s.settled (e 4)) ∧ exec (.migrationGo sl p .sram) s = .next (s.settled (e 2))) ∧
  (∀ (s : State) (c : Fin 12) (m : Mig), s.runs = true → s.mig.look c.val = some m →
    (s.spare c.val = 1 → m.frozen = false →
      exec (.spareTestDone c true) s = .next (s.settled (s.setMig (s.mig.put c.val { m with frozen := true }))) ∧
      exec (.spareTestDone c false) s = .next (s.settled (((s.setMig (s.mig.del c.val)).setSpare c.val 4).spareAborted c.val))) ∧
    (s.spare c.val = 1 → m.frozen = true → s.posIdle (c.val / 2) m.pos = true → exec (.migrationFrozen c) s = .next (s.settled (s.toDev.setSpare c.val 2))) ∧
    (s.spare c.val = 2 → m.start + 200000 < s.refNs → exec (.migrationSwitch c) s = .next (s.settled (((s.setMig (s.mig.del c.val)).setSpare c.val 0).spareAborted c.val))) ∧
    (s.spare c.val = 2 → s.refNs ≤ m.start + 200000 → ∃ t, exec (.migrationSwitch c) s = .next (s.became t) ∧
      t.mem = s.mem.copy (localAt (s.physOf (c.val / 2) m.pos) 0) (localAt (192 + c.val) 0) 0x40000 ∧ t.phys = s.phys.put (posKey (c.val / 2) m.pos) (192 + c.val) ∧
      t.mig = s.mig.del c.val ∧ t.frames = s.frames ∧ t.ntu = s.ntu) ∧
    (m.start + 200000 ≤ s.refNs → exec (.migrationTimeout c) s = .next (s.settled (((s.setMig (s.mig.del c.val)).setSpare c.val 0).spareAborted c.val))) ∧
    (s.refNs < m.start + 200000 → exec (.migrationTimeout c) s = .next (s.settled s.toDev))) ∧
  (∀ (s : State) (sl : Fin 6) (p : Fin 32), s.runs = true → exec (.positionOffline sl p) s = .next (s.settled (s.toDev.offlinePos sl.val p.val))) ∧
  ∀ (d : Dev) (sl : Fin 6) (p : Fin 32) (t : Fin 8), ((d.offlinePos sl.val p.val).thrAt (thrKey sl.val p.val t.val)).st = .stopped

/-- A bank has one owner: a handover drains and then names it, an invalid or second one is refused, and only the exception path's own bank answers its port -/
def Obligations.BankOwnership : Prop :=
(∀ (s : State) (src : Src) (sl : Fin 6) (b : Fin 32) (v : Word), s.hearsIn src sl.val →
    let r := ENG_BANK_STATUS sl.val b.val
    let kind := ENG_BANK_HANDOVER_KIND.get v
    let id := ENG_BANK_HANDOVER_ID.get v
    (s.flag r ENG_BANK_STATUS_DRAINING = true ∨ s.ownerOk sl.val b.val kind id = false → exec (.bankHandover src sl b v) s = .next (s.settled
      ((s.toDev.satAdd r ENG_BANK_STATUS_DISCARDED_WRITES 1).setF r ENG_BANK_STATUS_REFUSED 1))) ∧
    (s.flag r ENG_BANK_STATUS_DRAINING = false → s.ownerOk sl.val b.val kind id = true → exec (.bankHandover src sl b v) s = .next (s.settled
      (((s.toDev.setF r ENG_BANK_STATUS_DRAINING 1).setF r ENG_BANK_STATUS_PEND_KIND kind).setF r ENG_BANK_STATUS_PEND_ID id)))) ∧
  (∀ (s : State) (sl : Fin 6) (b : Fin 32), s.runs = true →
    let r := ENG_BANK_STATUS sl.val b.val
    let kind := s.fld r ENG_BANK_STATUS_PEND_KIND
    let id := s.fld r ENG_BANK_STATUS_PEND_ID
    let d := ((s.toDev.setF r ENG_BANK_STATUS_DRAINING 0).setF r ENG_BANK_STATUS_PEND_KIND 0).setF r ENG_BANK_STATUS_PEND_ID 0
    (s.flag r ENG_BANK_STATUS_DRAINING = false → exec (.handoverDone sl b) s = .next (s.settled s.toDev)) ∧
    let goOn (d : Dev) : State := s.became ((s.excOn sl.val b.val).foldl State.excAccess { s with toDev := d.excOff sl.val b.val })
    (s.flag r ENG_BANK_STATUS_DRAINING = true → kind ≠ 1 → exec (.handoverDone sl b) s = .next (goOn ((d.setF r ENG_BANK_STATUS_KIND kind).setF r ENG_BANK_STATUS_ID id))) ∧
    (s.flag r ENG_BANK_STATUS_DRAINING = true → kind = 1 → exec (.handoverDone sl b) s = .next (goOn
      (if d.offline sl.val id then (d.bankNone sl.val b.val).setF r ENG_BANK_STATUS_REFUSED 1 else (d.setF r ENG_BANK_STATUS_KIND kind).setF r ENG_BANK_STATUS_ID id)))) ∧
  (∀ (s : State) (sl : Fin 6) (b : Fin 32) (w : Fin 32768) (v : Word), s.runs = true →
    let r := ENG_BANK_STATUS sl.val b.val
    let a := bankAt (2 * sl.val + b.val / 16) (b.val % 16) (w.val * 8)
    (s.flag r ENG_BANK_STATUS_DRAINING = false → s.fld r ENG_BANK_STATUS_KIND = 3 → s.fld r ENG_BANK_STATUS_ID = 0 →
      exec (.excBankAccess sl b w true v) s = .next { s.settled (s.setPoison (s.poison.del (a / 8))) with mem := s.mem.writeLE a 8 v.toNat } ∧
      exec (.excBankAccess sl b w false v) s = .next (s.settled (if (s.poison.look (a / 8)).isSome then s.fresh.2.emit (.readData (s.fresh.1 % 2 ^ 64)) else s.emit (.readData (s.mem.readLE a 8))))) ∧
    (s.flag r ENG_BANK_STATUS_DRAINING = true → s.fld r ENG_BANK_STATUS_PEND_KIND = 3 → s.fld r ENG_BANK_STATUS_PEND_ID = 0 →
      exec (.excBankAccess sl b w true v) s = .next (s.settled (s.setExcHeld (s.excHeld ++ [⟨sl.val, b.val, w.val, some v⟩]))) ∧
      exec (.excBankAccess sl b w false v) s = .next (s.settled (s.setExcHeld (s.excHeld ++ [⟨sl.val, b.val, w.val, none⟩])))) ∧
    (s.flag r ENG_BANK_STATUS_DRAINING = false → s.fld r ENG_BANK_STATUS_KIND ≠ 3 →
      exec (.excBankAccess sl b w true v) s = .next (s.settled (s.count (ENG_BANK_DENIED sl.val (b.val / 16)).addr)) ∧
      exec (.excBankAccess sl b w false v) s = .next (s.settled ((s.count (ENG_BANK_DENIED sl.val (b.val / 16)).addr).emit (.readData (2 ^ 64 - 1)))))) ∧
  ∀ (d : Dev) (sl b id : Nat), d.ownerOk sl b 1 id = true ↔ d.bankHeld.testBit sl = false ∧ id < 32 ∧ id / 16 = b / 16 ∧ d.offline sl id = false

/-- Frames are policed and admitted to queues, port nodes choose, wheels release, gates move, overflow frames come back -/
def Obligations.TrafficManager : Prop :=
(∀ (s : State) (id : Nat) (f : Frame), s.runs = true → s.frame? id = some f →
    (∀ t, f.stage = .toQueue t → s.behind id f = true → exec (.tmArrival id) s = .next (s.settled s.toDev)) ∧
    (∀ t, f.stage = .toQueue t → s.behind id f = false → let d := s.toDev.count (tmgCnt f.slice 0)
      exec (.tmArrival id) s = .next (s.settled (match d.police id f (f.tmLen t.host) with
        | (some e, _) => e.toQueue id f t (f.tmLen t.host)
        | (none, e) => e))) ∧
    ((∀ t, f.stage ≠ .toQueue t) → exec (.tmArrival id) s = .next (s.settled s.toDev))) ∧
  (∀ (d : Dev) (id sl q len : Nat) (h : Bool) (r : NodeRec), (d.queueSt sl q).ov = [] →
    (d.lenSum h (d.queueSt sl q).on + len ≤ r.onchip * 1024 → d.admitFrame id sl q len h r =
      (d.updQueue sl q fun x => { x with on := x.on ++ [id] }).updFrame id fun f => { f with stage := .queued sl q false }) ∧
    (r.onchip * 1024 < d.lenSum h (d.queueSt sl q).on + len → r.dram = 0 → d.admitFrame id sl q len h r =
      (d.dropAt id (tmgCnt sl 5)).updQueue sl q fun x => { x with tailDrops := (x.tailDrops + 1) % 2 ^ 48 })) ∧
  (∀ (s : State) (sl : Fin 6) (p : Fin 17), s.runs = true →
    let b := (s.sched sl.val).getD SchedBody.portsOnly
    let d := (s.toDev.purgeOversize b sl.val p.val).refreshPort b sl.val p.val
    (d.macFree p.val = false ∨ d.portNodeUp sl.val p.val = false → exec (.schedulerChoice sl p) s = .next (s.settled d)) ∧
    (d.macFree p.val = true → d.portNodeUp sl.val p.val = true →
      (∀ e, d.pathChoice b sl.val p.val = (none, e) → exec (.schedulerChoice sl p) s = .next (s.settled e)) ∧
      (∀ e q path id rest, d.pathChoice b sl.val p.val = (some (q, path), e) → (e.queueSt sl.val q).on = id :: rest →
        p.val = 16 ∨ (e.flag (portStatus p.val) MAC_PORT_STATUS_TX_LPI = false ∧ (e.portSt p.val).wakeEnd = none) →
        let n := e.headLen sl.val q p.val
        let paid : Dev := match path with
          | some (c, t) => (((e.nodePays b sl.val 3 q p.val n).nodePays b sl.val 2 t p.val n).nodePays b sl.val 1 c p.val n).nodePays b sl.val 0 p.val p.val n
          | none => e
        exec (.schedulerChoice sl p) s = .next (s.settled ((paid.sendFrom sl.val p.val q (path.map Prod.fst) id n).refreshPort b sl.val p.val))))) ∧
  (∀ (s : State) (sl : Fin 6), s.runs = true →
    (s.dueFirst .wheel sl.val = false → exec (.wheelSlotRelease sl) s = .next (s.settled s.toDev)) ∧
    (s.dueFirst .wheel (sl.val + 8) = false → exec (.coarseSlotRelease sl) s = .next (s.settled s.toDev)) ∧
    (∀ j, s.wheelNext sl.val false = some j → s.dueFirst .wheel sl.val = true → j * 64 ≤ s.now →
      let ws := s.wheels.lookD sl.val []
      let out := ws.filter fun w => !w.coarse && w.e / 64 == j
      let d := match s.sched sl.val with | some b => s.toDev.each (List.range b.ports.length) fun d p => d.creditSync b sl.val p | none => s.toDev
      let e := ((d.setWheels (d.wheels.put sl.val (ws.filter fun w => w.coarse || w.e / 64 != j))).count (tmgCnt sl.val 9) (d.lateOf sl.val out.length)).released sl.val out.length
      let g := (e.each out fun d w => d.wheelOut sl.val w).tmRefresh sl.val
      exec (.wheelSlotRelease sl) s = .next (s.settled (g.dueFired (g.wheelDue sl.val false)))) ∧
    ∀ j, s.wheelNext sl.val true = some j → s.dueFirst .wheel (sl.val + 8) = true → j * 4194304 ≤ s.now →
      let ws := (s.wheels.lookD sl.val []).map fun w => if w.coarse && w.e / 4194304 == j then { w with coarse := false } else w
      ∃ d, exec (.coarseSlotRelease sl) s = .next (s.settled d) ∧ d.wheels = s.wheels.put sl.val ws ∧ d.queue = s.queue ∧ d.frames = s.frames ∧ d.node = s.node) ∧
  (∀ (s : State) (p : Fin 16), s.runs = true →
    (s.dueFirst .gate p.val = false → exec (.gateTransition p) s = .next (s.settled s.toDev)) ∧
    ∀ g t, (s.gateSt p.val).cur = some g → (s.gateSt p.val).nextAt = some t → s.dueFirst .gate p.val = true → t ≤ s.now →
      let x := s.gateSt p.val
      let y : GateSt := if g.spans.length ≤ x.entry + 1 then { x with heat := x.heat + 1, entry := 0 } else { x with entry := x.entry + 1 }
      exec (.gateTransition p) s = .next (s.settled ((((s.setGate (s.gate.put p.val y)).gateShow p.val).dueFired (((s.setGate (s.gate.put p.val y)).gateShow p.val).gateDue p.val)).tmRefresh
        (s.actingSlice p.val)))) ∧
  ∀ (s : State) (sl : Fin 6) (q : Fin 65536) (bad : Bool), s.runs = true →
    ((s.queueSt sl.val q.val).ov = [] → exec (.overflowReadback sl q bad) s = .next (s.settled s.toDev)) ∧
    ∀ id rest, (s.queueSt sl.val q.val).ov = id :: rest →
      s.lenSum (s.queuePort sl.val q.val == some 16) (s.queueSt sl.val q.val).on < (((s.sched sl.val).bind fun b => b.rec? 3 q.val).map NodeRec.onchip).getD 24576 * 1024 →
      let d := ((s.toDev.updQueue sl.val q.val fun x => { x with ov := rest }).count (tmgCnt sl.val 7)).ovfReach sl.val
      exec (.overflowReadback sl q bad) s = .next (s.settled (if bad || !d.2 then (d.1.ovfEcc sl.val id).tmRefresh sl.val else
        ((d.1.updQueue sl.val q.val fun x => { x with on := x.on ++ [id] }).updFrame id fun f => { f with stage := .queued sl.val q.val false }).tmRefresh sl.val))

/-- Key commands by those who may give them: install, revoke, erase with their results; leases are granted and expire; a debug access clears keys -/
def Obligations.KeyStore : Prop :=
(∀ (s : State) (src : Src) (k : Fin 1048576), s.hears src →
    let ends (t : State) (r : Nat) : Host.Outcome State Fault Refusal := .next (s.became { t with toDev := t.instCleared.setF KEY_CMD_STATUS KEY_CMD_STATUS_RESULT r })
    (s.keyCommander src = false → exec (.install src k) s = .next (s.settled s.keyDenied) ∧ exec (.revoke src k) s = .next (s.settled s.keyDenied) ∧
      exec (.erase src k) s = .next (s.settled s.keyDenied)) ∧
    (s.keyCommander src = true →
      (s.flag KEY_CMD_STATUS KEY_CMD_STATUS_BUSY = true → exec (.install src k) s = ends s 6 ∧ exec (.erase src k) s = ends s 6) ∧
      (s.flag KEY_STATUS KEY_STATUS_READY = false → exec (.revoke src k) s = ends s 5 ∧ (s.flag KEY_CMD_STATUS KEY_CMD_STATUS_BUSY = false → exec (.install src k) s = ends s 5)) ∧
      (s.flag KEY_CMD_STATUS KEY_CMD_STATUS_BUSY = false → s.flag KEY_STATUS KEY_STATUS_READY = true → s.life = 1 ∨ s.life = 2 →
        (s.keySlot.look k.val = none →
          exec (.revoke src k) s = ends s 2 ∧ exec (.erase src k) s = ends s 2 ∧ (s.instSlot.attrOk = false → exec (.install src k) s = ends s 3) ∧
          (s.instSlot.attrOk = true → s.instSlot.limitOk = false → exec (.install src k) s = ends s 4) ∧
          (s.instSlot.attrOk = true → s.instSlot.limitOk = true → let r := leBytes 128 s.fresh.1
            exec (.install src k) s = ends (({ s with toDev := s.fresh.2.setKeySlot (s.fresh.2.keySlot.put k.val { s.instSlot with record := r }) } : State).writeRecord k.val r) 0)) ∧
        ∀ x, s.keySlot.look k.val = some x → exec (.install src k) s = ends s 1 ∧
          exec (.erase src k) s = ends { s with toDev := (s.recallAll k.val KeySlot.erase).setF KEY_CMD_STATUS KEY_CMD_STATUS_BUSY 1 } 0 ∧
          let e := (s.recallAll k.val KeySlot.revoke).fresh
          exec (.revoke src k) s = ends (({ s with toDev := (e.2.updKey k.val fun x => { x with record := if x.record.isEmpty then [] else leBytes 128 e.1 }).setF KEY_CMD_STATUS KEY_CMD_STATUS_BUSY 1 } : State).writeRecord k.val (leBytes 128 e.1)) 0))) ∧
  (∀ (d : Dev) (n : Fin 8), d.instCleared.rd (KEY_INST_KEY n.val) = 0 ∧ d.instCleared.rd KEY_INST_SALT0 = 0 ∧ d.instCleared.rd KEY_INST_SALT1 = 0) ∧
  ∀ s : State, s.runs = true →
    ((∀ kx ∈ s.keySlot, kx.2.erasing = false) → exec .recallDone s = .next (s.settled (s.toDev.setF KEY_CMD_STATUS KEY_CMD_STATUS_BUSY 0))) ∧
    (∀ k, (s.keySlot.filter fun kx => kx.2.erasing).map Prod.fst = [k] → exec .recallDone s = .next ((s.keyErased k).onDev fun d => d.setF KEY_CMD_STATUS KEY_CMD_STATUS_BUSY 0).ended) ∧
    (∀ (sl : Fin 6) (k : Fin 1048576) (m : Bool), s.hasLease sl.val k.val = true ∨ s.cphEntries sl.val k.val = [] → exec (.leaseGrant sl k m) s = .next (s.settled s.toDev)) ∧
    (∀ (sl : Fin 6) (k : Fin 1048576) (m : Bool) (e : CphEntry), s.hasLease sl.val k.val = false → (s.cphEntries sl.val k.val).find? s.cphFirst = some e →
      exec (.leaseGrant sl k m) s = .next (s.cphWork e.work ⟨m, false⟩).ended) ∧
    (∀ (sl : Fin 6) (k : Fin 1048576), s.dueFirst .lease (leaseId sl.val k.val) = false → exec (.leaseExpiry sl k) s = .next (s.settled s.toDev)) ∧
    (∀ (sl : Fin 6) (k : Fin 1048576) (x : KeySlot) (l : Lease), s.dueFirst .lease (leaseId sl.val k.val) = true → s.keySlot.look k.val = some x → x.leases.look sl.val = some l → l.expiry ≤ s.now →
      exec (.leaseExpiry sl k) s = .next (s.settled (((s.toDev.dueFired none).updKey k.val (KeySlot.giveBack sl.val)).count (cphCnt sl.val 10)))) ∧
    ∀ u : Fin 7, (s.life = 2 ∨ s.life = 4 → exec (.keyDebugClear u) s = .next (s.settled s.toDev)) ∧
      (s.life ≠ 2 → s.life ≠ 4 → exec (.keyDebugClear u) s = .next (s.settled (s.toDev.keyClear u.val)))

/-- For every slot whose leases and returned ranges are listed in rising order, none past its end: a draw takes a range from the returned ones or from those never leased, and the rest of them stays; a lease given back by a slice with no range returned yet moves its unused uses to the returned ones; a lease lost moves them to STRANDED; REVOKE and ERASE move all leased and returned uses to STRANDED, whatever the slot holds; after REVOKE the slot's operations end with KEY_REVOKED, while an ERASE of it runs with KEY_EMPTY. -/
def Obligations.UsesAreNotLost : Prop :=
∀ x : KeySlot, x.leases.rising = true → x.ret.rising = true → x.next ≤ x.limit → (∀ r ∈ x.ret, r.2.1 ≤ r.2.2) → (∀ l ∈ x.leases, l.2.next ≤ l.2.stop) →
  (∀ (sl a b : Nat) (y : KeySlot), x.source sl = some (a, b, y) → a ≤ b ∧ b - a + y.returned + (y.limit - y.next) = x.returned + (x.limit - x.next) ∧ y.leases = x.leases ∧ y.stranded = x.stranded) ∧
  (∀ sl, x.ret.look sl = none → (x.giveBack sl).returned + (x.giveBack sl).leased = x.returned + x.leased ∧ (x.giveBack sl).next = x.next ∧ (x.giveBack sl).stranded = x.stranded) ∧
  (∀ sl, (x.strand sl).stranded + (x.strand sl).leased = x.stranded + x.leased ∧ (x.strand sl).returned = x.returned ∧ (x.strand sl).next = x.next) ∧
  x.revoke.stranded = x.stranded + x.leased + x.returned ∧ x.revoke.leased = 0 ∧ x.revoke.returned = 0 ∧ x.revoke.state = 3 ∧ keyState (some x.revoke) = (if x.erasing then some 1 else some 3) ∧
  x.erase.stranded = x.revoke.stranded ∧ x.erase.leased = 0 ∧ x.erase.returned = 0 ∧ x.erase.state = x.state ∧ keyState (some x.erase) = some 1

/-- Where the part runs. A cipher command that names an operation which is not one of its OPCODE does nothing. One that names it takes place when no operation on its slot entered the slice's block before it, and waits otherwise: a descriptor outside R302 and R303 ends with code 0x10 and no work; else the first of R305's checks that fails gives the code and nothing is worked on; a slot without the uses it needs gives 2. The end writes RESULT, then STATUS with VALID and the code, in the descriptor, and moves the ticket from BUSY to DONE. A CIPHER action on a frame that waits for it takes place when its profile names the operation, and not otherwise. -/
def Obligations.CipherOperations : Prop :=
(∀ (s : State) (n : Nat) (o : OpRec) (x : CphFacts), s.runs = true → s.ops.look n = some o → o.unit = 0 → s.cphFirst ⟨n, o.slice, leAt o.desc 0x10 4, leAt o.desc 4 2, .op n⟩ = true →
    let r := Host.Outcome.next (s.ciphOp n o x).ended
    (leAt o.desc 4 2 = 1 → exec (.espEnc (.op n) x) s = r) ∧ (leAt o.desc 4 2 = 2 → exec (.espDec (.op n) x) s = r) ∧ (leAt o.desc 4 2 = 3 → exec (.macsecEnc (.op n) x) s = r) ∧
    (leAt o.desc 4 2 = 4 → exec (.macsecDec (.op n) x) s = r) ∧ (leAt o.desc 4 2 = 5 → exec (.tlsEnc (.op n) x) s = r) ∧ (leAt o.desc 4 2 = 6 → exec (.tlsDec (.op n) x) s = r) ∧
    (leAt o.desc 4 2 = 7 → exec (.xtsEnc (.op n) x) s = r) ∧ (leAt o.desc 4 2 = 8 → exec (.xtsDec (.op n) x) s = r) ∧ (leAt o.desc 4 2 = 9 → exec (.gcmEnc (.op n) x) s = r) ∧
    (leAt o.desc 4 2 = 10 → exec (.gcmDec (.op n) x) s = r) ∧ (leAt o.desc 4 2 = 9 → exec (.espEnc (.op n) x) s = .next (s.settled s.toDev))) ∧
  (∀ (s : State) (w : Work) (e : CphEntry) (x : CphFacts), s.runs = true → s.cphEntry w = some e → s.cphFirst e = false → exec (.gcmEnc w x) s = .next (s.settled s.toDev)) ∧
  (∀ (s : State) (id : Nat) (f : Frame) (a : CiphAct) (next : Terminal) (x : CphFacts), s.runs = true → s.frame? id = some f → f.stage = .cipher a next →
    (s.cphFirst ⟨a.entered, f.slice, a.slot, bitsOf a.profile 8 4, .frame id⟩ = true →
    (bitsOf a.profile 8 4 = 1 → exec (.espEnc (.frame id) x) s = .next (s.ciphAction id f a next x).ended) ∧
    (bitsOf a.profile 8 4 = 4 → exec (.macsecDec (.frame id) x) s = .next (s.ciphAction id f a next x).ended)) ∧
    (1 < bitsOf a.profile 8 4 → bitsOf a.profile 8 4 ≤ 4 → exec (.espEnc (.frame id) x) s = .next (s.settled s.toDev))) ∧
  (∀ (s : State) (n : Nat) (o : OpRec) (x : CphFacts), cphDescOk o.desc ((leAt o.desc 6 2).testBit 0) = false → s.ciphOp n o x = (s.onDev fun d => d.cphCount o.slice 0x10).opEnds n o 0x10 0) ∧
  (∀ (s : State) (j : CphJob) (act : Bool) (x : CphFacts),
    let e := (s.fetchSlot j.slot x.miss).onDev fun d => d.leaseTick j.slice j.slot
    (∀ c, j.check (e.keySlot.look j.slot) act = some c → c ≠ 2 → (s.cphRun j act x).map (fun r => (r.1, r.2.code, r.2.result, r.2.trap)) = some (e.onDev fun d => d.cphCount j.slice c, c, 0, false)) ∧
    ∀ y, e.keySlot.look j.slot = some y → j.check (some y) act = none → y.hasUses j.slice j.uses = false →
      (s.cphRun j act x).map (fun r => (r.1, r.2.code)) = some (e.onDev fun d => d.cphCount j.slice 2, 2)) ∧
  ∀ (s : State) (n : Nat) (o : OpRec) (c r : Nat) (m : Nat), o.ticket < 8 → s.spot? o.slice o.pos o.addr 16 = some (.mem m none) → s.memOk →
    let t := s.opEnds n o c r
    let k := thrKey o.slice o.pos o.thread
    t.mem.readLE m 4 = 2 ^ 31 + c % 65536 ∧ t.mem.readLE (m + 8) 8 = r % 2 ^ 64 ∧ (t.thrAt k).busy.testBit o.ticket = false ∧ (t.thrAt k).done.testBit o.ticket = true ∧
    t.ops = s.ops.del n ∧ ∀ b, b < m ∨ (m + 4 ≤ b ∧ b < m + 8) ∨ m + 16 ≤ b → t.mem.read b = s.mem.read b

/-- The compression block takes each unit's operations in order, checks them as R319 says, and writes the outputs of DEFLATE, PDU receive and PDU transmit -/
def Obligations.CompressionOperations : Prop :=
(∀ (s : State) (n : Nat) (o : OpRec) (x : CmpFacts), s.runs = true → s.ops.look n = some o → o.unit = 1 →
    let r := Host.Outcome.next (s.cmpRun n (s.cmpJob o) x).ended
    (s.cmpFirst n o = true → (leAt o.desc 4 2 = 1 → exec (.deflateComp n x) s = r) ∧ (leAt o.desc 4 2 = 2 → exec (.deflateDecomp n x) s = r) ∧ (leAt o.desc 4 2 = 3 → exec (.pduRx n x) s = r) ∧
      (leAt o.desc 4 2 = 4 → exec (.pduTx n x) s = r) ∧ (leAt o.desc 4 2 = 4 → exec (.pduRx n x) s = .next (s.settled s.toDev))) ∧
    (s.cmpFirst n o = false → exec (.deflateComp n x) s = .next (s.settled s.toDev))) ∧
  (∀ (s : State) (n : Nat) (j : CmpJob) (x : CmpFacts),
    (j.formOk = false → s.cmpRun n j x = s.cmpEnds n j 0x01 0) ∧
    (j.formOk = true → j.frame = none → j.code ≠ 3 →
      (j.srcPlace s.toDev = .bad → j.dstPlace s.toDev ≠ .held → s.cmpRun n j x = s.cmpEnds n j 0x02 0) ∧
      (∀ a b, j.srcPlace s.toDev = .at_ a → j.dstPlace s.toDev = .at_ b →
        (j.lenOk = false → s.cmpRun n j x = s.cmpEnds n j 0x03 0) ∧
        (j.lenOk = true → j.cap < j.room → s.cmpRun n j x = s.cmpEnds n j 0x04 0) ∧
        (j.lenOk = true → j.room ≤ j.cap → x.ecc = false → s.badIn a j.len = false → let e := s.touchBuf j.src j.len
          (j.code = 1 → s.cmpRun n j x = e.compRun n j b (e.mem.readN a j.len) x.verifyBad) ∧ (j.code = 2 → s.cmpRun n j x = e.decompRun n j b (e.mem.readN a j.len)) ∧
          (j.code = 4 → s.cmpRun n j x = e.txRun n j a (e.mem.readN a j.len)))))) ∧
  (∀ (s : State) (n b : Nat) (j : CmpJob) (bs : List Byte),
    (j.flags.testBit 1 = false ∨ verified (deflate j.level bs).1 bs = true → ∃ d, s.compRun n j b bs false = (({ s with toDev := d } : State).store b (deflate j.level bs).1).cmpEnds n j 0 ((deflate j.level bs).1.length + crc32cFull bs * 2 ^ 32)) ∧
    (∃ d, s.decompRun n j b bs = (({ s with toDev := d } : State).store b (inflate bs j.cap).2.1).cmpEnds n j
      (match (inflate bs j.cap).1 with | .done => 0 | .bad _ => 6 | .truncated => 7 | .full => 5)
      ((inflate bs j.cap).2.1.length + (match (inflate bs j.cap).1 with | .bad k => k | _ => 0) * 2 ^ 32 + min (inflate bs j.cap).2.2 0xFFFFFF * 2 ^ 40))) ∧
  (∀ (s : State) (n a : Nat) (j : CmpJob) (bs : List Byte), let e := s.onDev fun d => d.count (cmpCnt j.op.slice 6) bs.length
    (pduOk bs = false ∨ pduPlen bs ≠ j.len → s.txRun n j a bs = e.cmpEnds n j 0x0A 0) ∧
    (pduOk bs = true → pduPlen bs = j.len → j.frame = none → leAt bs 0 1 ≠ 4 → s.txRun n j a bs = (e.store a (pduSealed bs)).cmpEnds n j 0 j.len)) ∧
  ∀ (s : State) (n a b c : Nat) (j : CmpJob) (x : CmpFacts), j.formOk = true → j.frame = none → j.code = 3 → j.srcPlace s.toDev = .at_ a → j.dstPlace s.toDev = .at_ b →
    s.nearPlace j.op.slice j.op.pos j.ctx 256 64 = some c → s.mem.readLE (c + 0x16) 1 ≤ 12 →
    (s.nearPlace j.op.slice j.op.pos (s.mem.readLE (c + 0x18) 8) (32 * 2 ^ s.mem.readLE (c + 0x16) 1) 32).isSome = true → j.lenOk = true → j.room ≤ j.cap → s.badIn c 256 = false →
    let ctx := s.mem.readN c 256
    (leAt ctx 0 1 = 4 → s.cmpRun n j x = s.cmpEnds n j 0x0C 0) ∧
    (leAt ctx 0 1 ≠ 4 → leAt ctx 4 4 ≠ j.seq → s.cmpRun n j x = s.cmpEnds n j 0x09 0) ∧
    (leAt ctx 0 1 ≠ 4 → leAt ctx 4 4 = j.seq →
      (s.placeHeld j.tf = true → s.cmpRun n j x = s) ∧
      (s.placeHeld j.tf = false → x.ecc = true ∨ s.badIn a j.len = true → s.cmpRun n j x = s.cmpEcc n j j.src j.len 0) ∧
      (s.placeHeld j.tf = false → x.ecc = false → s.badIn a j.len = false →
        s.cmpRun n j x = (s.touchBuf j.src j.len).rxRun n j c b ((s.touchBuf j.src j.len).mem.readN a j.len) x.hostErrors))

/-- Links train and go down; configuration requests are answered or retried; completions end reads, feed quarantined tags or are unexpected; late reads time out -/
def Obligations.LinksAndReads : Prop :=
∀ s : State, s.runs = true →
  (∀ (n : Fin 4) (sp : Fin 8) (w : Fin 17) (fl : Bool),
    let cxl := s.ls n.val HIF_LINK_STATUS_MODE == 1
    let ok := rateOk cxl sp.val && [1, 2, 4, 8, 16].contains w.val && !(s.ls n.val HIF_LINK_STATUS_BIFURCATED == 1 && w.val == 16)
    (s.pfPresent n.val = true → ok = true → exec (.linkUp n sp w fl) s = .next (s.settled
      (((((((s.toDev.setLs n.val HIF_LINK_STATUS_LINK_UP 1).setLs n.val HIF_LINK_STATUS_SPEED sp.val).setLs n.val HIF_LINK_STATUS_WIDTH w.val).setLs n.val HIF_LINK_STATUS_FLIT
        (b2n (if cxl then sp.val == 6 else decide (6 ≤ sp.val) || fl))).setLs n.val HIF_LINK_STATUS_CXL_CM (b2n (cxl && decide (5 ≤ sp.val))))).setBitF HIF_EVENT HIF_EVENT_LINK_UP n.val true))) ∧
    (s.pfPresent n.val = false ∨ ok = false → exec (.linkUp n sp w fl) s = .next (s.settled s.toDev))) ∧
  (∀ n : Fin 4, (s.pfPresent n.val = true → s.ls n.val HIF_LINK_STATUS_LINK_UP = 1 → exec (.linkDown n) s = .next (s.settled (((s.toDev.freeze n.val 3).cfgReset n.val).linkLost n.val))) ∧
    (s.ls n.val HIF_LINK_STATUS_LINK_UP = 0 → exec (.linkDown n) s = .next (s.settled s.toDev))) ∧
  (∀ (n : Fin 4) (r : CfgReg) (x : CfgData),
    (s.ls n.val HIF_LINK_STATUS_LINK_UP = 0 → exec (.configRequest n r x) s = .next (s.settled s.toDev)) ∧
    (s.pfPresent n.val = true → s.ls n.val HIF_LINK_STATUS_LINK_UP = 1 →
      ((s.pf n.val).ready = false → exec (.configRequest n r x) s = .next (s.settled (s.emit .cfgRetry))) ∧
      ((s.pf n.val).ready = true → exec (.configRequest n r none) s = .next (s.settled (s.fresh.2.emit (.cfgData (s.fresh.2.cfgRead n.val s.fresh.1 r)))) ∧
        ∀ v, exec (.configRequest n r (some v)) s = .next { s.cfgWrite n.val v r with toDev := (s.cfgWrite n.val v r).toDev.settle }))) ∧
  (∀ (n : Fin 4) (t : Nat) (bs : List Byte) (err poi : Bool),
    let answers (d : Dev) : Prop := exec (.completionReceived n t bs err poi) s = .next (s.settled d)
    (∀ r, (s.pf n.val).reads.look t = some r → r.dropped = false →
      (poi = true → answers (((s.toDev.freeRead n.val t).readEnds r.unit none).freeze n.val 2)) ∧
      (poi = false → err = true → answers (((s.toDev.freeRead n.val t).readEnds r.unit none).count (hifCnt n.val 8))) ∧
      (poi = false → err = false → r.len ≤ (r.got ++ bs).length → answers ((s.toDev.freeRead n.val t).readEnds r.unit (some ((r.got ++ bs).take r.len)))) ∧
      (poi = false → err = false → (r.got ++ bs).length < r.len → answers (s.toDev.updPf n.val fun p => { p with reads := p.reads.put t { r with got := r.got ++ bs } }))) ∧
    (∀ q, (s.pf n.val).reads.look t = none → (s.pf n.val).quar.look t = some q → let d := s.count (hifCnt n.val 1)
      (q.missing ≤ bs.length → answers ((d.updPf n.val fun p => { p with quar := p.quar.del t }).readsChanged n.val)) ∧
      (bs.length < q.missing → answers (d.updPf n.val fun p => { p with quar := p.quar.put t { q with missing := q.missing - bs.length } }))) ∧
    ((s.pf n.val).reads.look t = none → (s.pf n.val).quar.look t = none → answers ((s.count (hifCnt n.val 2)).aerLog n.val 16 true "Unexpected Completion"))) ∧
  exec .ctoCheck s = .next (s.settled (((((s.toDev.ctoCheck 0 (s.now / 1000 * 1000)).ctoCheck 1 ((s.toDev.ctoCheck 0 (s.now / 1000 * 1000)).now / 1000 * 1000)) |> fun d => (d.ctoCheck 2 (d.now / 1000 * 1000)) |> fun d =>
    d.ctoCheck 3 (d.now / 1000 * 1000))))) ∧
  (∀ (d : Dev) (n t : Nat), (d.pf n).quar = [] → ((d.pf n).reads.all fun r => decide (t < r.2.issued + r.2.cto * 1000)) = true →
    d.ctoCheck n t = (d.updPf n fun p => { p with quar := p.quar.filter fun q => !decide (q.2.stop ≤ t) }).readsChanged n) ∧
  ∀ n : Fin 4, exec (.bmeClear n) s = .next (s.settled (s.toDev.bmeClear n.val)) ∧
    (s.pfPresent n.val = true → exec (.bmeSet n) s = .next (s.settled (s.toDev.setLs n.val HIF_LINK_STATUS_BME 1).recsIssue)) ∧ (s.recWait = [] → s.toDev.recsIssue = s.toDev) ∧ (s.pfPresent n.val = false → exec (.bmeSet n) s = .next (s.settled s.toDev)) ∧
    (s.bme n.val = true → (s.pf n.val).reads = [] → s.toDev.bmeClear n.val = (s.toDev.updPf n.val fun p => { p with reads := [] }).setLs n.val HIF_LINK_STATUS_BME 0)

/-- Where the part runs. LINK_ERROR, VIRAL in CXL mode, and FREEZE_NOW, when heard, freeze the link of a present PF with causes 1, 6 and 5; VIRAL in PCIe mode does nothing. A freeze of a link that is frozen only counts the trigger; of one that is not, with no read outstanding, no ring written, no skim pass running and no record waiting, it sets FROZEN, the cause, the event and, in an empty log, the log. HIF_RELEASE, by Ulyar or the PF's own link, of a frozen link that is up clears FROZEN and CAUSE; of one that is down, frozen or not, it sets REFUSED; of one that is up and not frozen it does nothing. A Function Level Reset of a present PF resets its function and its TFs and clears its MSI-X table; a hot reset does so for both PFs of the host port and takes their links down without a freeze. -/
def Obligations.FreezesAndResets : Prop :=
∀ s : State, s.runs = true →
  (∀ n : Fin 4, (s.pfPresent n.val = true → exec (.linkError n) s = .next (s.settled (s.toDev.freeze n.val 1)) ∧
      (s.ls n.val HIF_LINK_STATUS_MODE = 1 → exec (.viral n) s = .next (s.settled (s.toDev.freeze n.val 6))) ∧
      ∀ src, s.srcFrozen src = false → exec (.freezeNow src n) s = .next (s.settled (s.toDev.freeze n.val 5))) ∧
    (s.pfPresent n.val = false → exec (.linkError n) s = .next (s.settled s.toDev)) ∧
    (s.ls n.val HIF_LINK_STATUS_MODE ≠ 1 → exec (.viral n) s = .next (s.settled s.toDev))) ∧
  (∀ (d : Dev) (n c : Nat), (d.frozen n = true → d.freeze n c = d.satAdd (HIF_FREEZE_LOG n) HIF_FREEZE_LOG_TRIGGERS 1) ∧
    let e := (((d.setLs n HIF_LINK_STATUS_FROZEN 1).setLs n HIF_LINK_STATUS_CAUSE c).count (hifCnt n 6)).setBitF HIF_EVENT HIF_EVENT_FROZE n true
    let f := if e.flag (HIF_FREEZE_LOG n) HIF_FREEZE_LOG_VALID then e
      else ((e.setF (HIF_FREEZE_LOG n) HIF_FREEZE_LOG_VALID 1).setF (HIF_FREEZE_LOG n) HIF_FREEZE_LOG_LAST_CAUSE c).wr (HIF_FREEZE_TIME n) (BitVec.ofNat 64 e.now)
    (d.frozen n = false → (d.pf n).reads = [] → d.ring = [] → d.skim = [] → d.recWait = [] → d.freeze n c = f)) ∧
  (∀ (n : Fin 4) (src : Src), (src = .ulyar ∧ s.srcFrozen src = false) ∨ (∃ b, src = .pf n b) →
    (s.pfPresent n.val = true → s.frozen n.val = true → s.ls n.val HIF_LINK_STATUS_LINK_UP = 1 →
      exec (.hifRelease src n) s = .next (s.settled ((s.toDev.setLs n.val HIF_LINK_STATUS_FROZEN 0).setLs n.val HIF_LINK_STATUS_CAUSE 0))) ∧
    (s.pfPresent n.val = true → s.ls n.val HIF_LINK_STATUS_LINK_UP = 0 → exec (.hifRelease src n) s = .next (s.settled (s.toDev.setF (HIF_FREEZE_LOG n.val) HIF_FREEZE_LOG_REFUSED 1))) ∧
    (s.frozen n.val = false → s.ls n.val HIF_LINK_STATUS_LINK_UP ≠ 0 → exec (.hifRelease src n) s = .next (s.settled s.toDev))) ∧
  (∀ n : Fin 4, exec (.flr n) s = .next { s.flr n.val with toDev := (s.flr n.val).toDev.settle } ∧ (s.pfPresent n.val = false → s.flr n.val = s) ∧
    (s.pfPresent n.val = true → s.flr n.val = let t := (s.tfsOf n.val).foldl State.fnReset (s.fnReset (4096 + n.val))
      t.onDev fun d => (((d.recsLost n.val none).cfgReset n.val).updPf n.val fun x => { x with msix := [], pba := [] }).mbAbandon n.val)) ∧
  ∀ h : Fin 2, exec (.hotReset h) s = .next { s.hotReset h.val with toDev := (s.hotReset h.val).toDev.settle } ∧
    (s.pfPresent (2 * h.val) = true → s.pfPresent (2 * h.val + 1) = false → ((s.flr (2 * h.val)).onDev fun d => d.linkLost (2 * h.val)).pfPresent (2 * h.val + 1) = false →
      s.hotReset h.val = (s.flr (2 * h.val)).onDev fun d => d.linkLost (2 * h.val))

/-- Where the access is heard. A ring command for a ring of another PF gives NOT_OWNED, for a function in reset BUSY. RING_WRITE_CFG puts the staged configuration into a DISABLED ring, RING_ENABLE starts one whose configuration R382 accepts at START, RING_DISABLE makes a live one STOPPING, RING_RESTART runs one in ERROR, or FROZEN with its link free; in other states each gives STATE, and a bad configuration CFG. RING_STOPPED disables a STOPPING ring with nothing in progress. A doorbell of a TF that is not the PF's is counted; of a wrong width, slot or value it is bad; of a running ring a valid index takes effect and an invalid one puts the ring in ERROR; of a ring in ERROR or FROZEN a valid one is recorded. MEDIATE sets the TF's pending bit and the event. -/
def Obligations.RingCommands : Prop :=
(∀ (s : State) (src : Src) (p : Fin 4), s.hears src → srcMayPf src p.val = true → let r := s.ringSel p.val
    ((∀ f, s.ringOwner r = some f → s.fnPf f ≠ p.val) → exec (.ringDisable src p) s = .next (s.settled (s.ringResult p.val 1)) ∧ exec (.ringWriteCfg src p) s = .next (s.settled (s.ringResult p.val 1))) ∧
    ∀ f, s.ringOwner r = some f → s.fnPf f = p.val → let x := s.ringAt r
      (s.fnResetting f = true → exec (.ringDisable src p) s = .next (s.settled (s.ringResult p.val 4)) ∧ exec (.ringRestart src p) s = .next (s.settled (s.ringResult p.val 4))) ∧
      (s.fnResetting f = false →
        (x.state = 0 → exec (.ringWriteCfg src p) s = .next (s.settled ((s.updRing r fun x => { x with base := (s.rd (RGM_RING_BASE p.val)).toNat, pub := (s.rd (RGM_RING_PUB p.val)).toNat, cfg := s.rd (RGM_RING_CFG p.val), mod := s.rd (RGM_RING_MOD p.val) }).ringResult p.val 0))) ∧
        (x.state ≠ 0 → ∀ st, exec (.ringWriteCfg src p) s = .next (s.settled (s.ringResult p.val 2)) ∧ exec (.ringEnable src p st) s = .next (s.settled (s.ringResult p.val 2))) ∧
        (x.state = 0 → s.fnState f = 2 → s.life ≠ 4 → ∀ st,
          (s.ringCfgOk f r = false → exec (.ringEnable src p st) s = .next (s.settled (s.ringResult p.val 3))) ∧
          (s.ringCfgOk f r = true → exec (.ringEnable src p st) s = .next (s.settled
            ((s.updRing r fun x => { RingSt.reset with base := x.base, pub := x.pub, cfg := x.cfg, mod := x.mod, state := 1, head := st.val, prod := st.val, nextFetch := st.val }).ringResult p.val 0)))) ∧
        (x.state ≠ 0 → x.state ≠ 4 → exec (.ringDisable src p) s = .next (s.settled
          ((s.updRing r fun x => { x with state := 4, captured := [], held := [], capWait := [], pendDb := [], chains := x.chains.filter fun c => c.stage != 0 }).ringResult p.val 0))) ∧
        (x.state = 0 ∨ x.state = 4 → exec (.ringDisable src p) s = .next (s.settled (s.ringResult p.val 2)) ∧ exec (.ringRestart src p) s = .next (s.settled (s.ringResult p.val 2))) ∧
        (x.state = 2 → x.pendDb = [] → x.chains = [] → exec (.ringRestart src p) s = .next (s.settled ((((s.updRing r fun x => { x with state := 1, errReason := 0, errIndex := 0, captured := [], fetching := none, pendDb := [], chains := [], nextFetch := (x.head + 0) % 65536 }).pubWaits r 0).publish r).ringResult p.val 0))))) ∧
  (∀ (s : State) (r : Fin 131072), s.runs = true → let x := s.ringAt r.val
    (x.state = 4 → x.fetching = none → x.chains = [] → exec (.ringStopped r) s = .next (s.settled ((((s.updRing r.val fun x => { x with state := 0, chains := [] }).pubWaits r.val 3).publish r.val).ringDropFrames r.val 13))) ∧
    (x.state ≠ 4 → exec (.ringStopped r) s = .next (s.settled s.toDev))) ∧
  (∀ (s : State) (p : Fin 4) (n : Fin 4096), s.hears (.pf p false) →
    (s.pageLive p.val n.val = false → ∀ o w v, exec (.doorbell p (.tf n) o w v) s = .next (s.settled (s.count (hifCnt p.val 7)))) ∧
    (s.pageLive p.val n.val = true → (∀ w, w = 32 ∨ w = 64 → exec (.mediate p n w) s = .next (s.settled
        ((s.toDev.setBitF (RGM_MED_PENDING (n.val / 64)) RGM_MED_PENDING_PENDING (n.val % 64) true).setF RGM_EVENT RGM_EVENT_MEDIATE 1))) ∧
      ∀ (l : Nat) (v : Word), l < 256 → exec (.doorbell p (.tf n) (8 * l) 64 v) s = .next (s.settled (s.ringDoorbell n.val l 64 v.toNat)))) ∧
  (∀ (s : State) (p : Fin 4) (k : Fin 16) (l : Nat) (v : Word), s.hears (.pf p false) → l < 256 → exec (.doorbell p (.own k) (8 * l) 64 v) s = .next (s.settled (s.ringDoorbell (4096 + p.val) (256 * k.val + l) 64 v.toNat))) ∧
  ∀ (d : Dev) (f l v : Nat), let r := d.fnCtl f RGM_FUNC_CTL_RING_BASE + l
    let x := d.ringAt r
    d.fnResetting f = false → l < d.fnCtl f RGM_FUNC_CTL_RING_COUNT →
    (x.state = 0 ∨ x.state = 4 ∨ 2 ^ 34 ≤ v → d.ringDoorbell f l 64 v = d.count (rgmCnt 10)) ∧
    (x.kind ≠ 3 → v < 65536 → (x.state = 1 → x.dbValid v = true → d.ringDoorbell f l 64 v = d.doorbellApply f r v) ∧
      (x.state = 1 → x.dbValid v = false → d.ringDoorbell f l 64 v = d.ringError r 1 v) ∧
      (x.state = 2 ∨ x.state = 3 → x.dbValid v = true → d.ringDoorbell f l 64 v = d.updRing r fun x => { x with pendDb := x.pendDb ++ [v] }))

/-- Entries are fetched, captured, delivered and published; snooped lines lose their mark; functions are assigned, enabled, reset and notified -/
def Obligations.RingsAndFunctions : Prop :=
∀ s : State, s.runs = true →
  (∀ (r : Fin 131072) (f : Nat), s.ringOwner r.val = some f → let x := s.ringAt r.val
    let n := min (idxSub x.prod x.nextFetch) (x.size - x.nextFetch % x.size)
    (x.state = 1 → x.kind ≠ 3 → x.fetching = none → n ≠ 0 → s.flag IMG_STATUS IMG_STATUS_NO_IMAGE = false → s.fnCan f = true → x.coherent = false →
      ∀ d, s.fnRead f (descUnit r.val) x.roDefault (x.slot x.nextFetch) (32 * n) = some d →
        exec (.descriptorFetch r) s = .next (s.settled (d.updRing r.val fun x => { x with fetching := some (x.nextFetch, n), nextFetch := (x.nextFetch + n) % 65536 }))) ∧
    (x.state ≠ 1 ∨ n = 0 ∨ s.fnCan f = false → exec (.descriptorFetch r) s = .next (s.settled s.toDev)) ∧
    (∀ i n ls, x.fetching = some (i, n) → x.coherent = false → let d := (s.setArrived (s.arrived.del (descUnit r.val))).updRing r.val fun x => { x with fetching := none }
      (s.arrived.look (descUnit r.val) = none → exec (.descriptorArrival r ls) s = .next (s.settled s.toDev)) ∧
      (x.state = 1 → x.captured = [] → s.arrived.look (descUnit r.val) = some none → exec (.descriptorArrival r ls) s = .next (s.settled (d.ringError r.val 5 i))) ∧
      (∀ b, x.state = 1 → x.kind ≠ 1 → s.arrived.look (descUnit r.val) = some (some b) → let es := (List.range n).map fun k => ((i + k) % 65536, bytesAt b (32 * k) 32)
        (es.all fun e => rxReservedOk e.2) = true → exec (.descriptorArrival r ls) s = .next (s.settled ((d.count (rgmCnt 0) n).updRing r.val fun x => { x with captured := x.captured ++ es })))) ∧
    (x.chains = [] → exec (.txDataReadDone r) s = .next (s.settled s.toDev)) ∧
    (∀ c, (x.chains.find? fun c => decide (c.stage ≤ 1)) = some c →
      (c.stage = 0 → exec (.txDataReadDone r) s = .next (s.settled (s.issueData f r.val))) ∧
      (c.stage = 1 →
        let clear : Dev := s.toDev.each (List.range c.bufs.length) fun d k => d.setArrived (d.arrived.del (dataUnit c.id k))
        let put (st : Nat) (d : Dev) : Dev := d.updRing r.val fun x => { x with chains := x.chains.map fun y => if y.id = c.id then { y with stage := st } else y }
        (∀ p : Nat → List Byte, (∀ k, k < c.bufs.length → s.arrived.look (dataUnit c.id k) = some (some (p k))) → s.sliceOn (s.ringSlice (s.slotFor c.fetched) r.val) = true →
          let d := (clear.count (rgmCnt 1)).newFrame (hostFrame s.toDev f r.val c ((List.range c.bufs.length).flatMap p))
          exec (.txDataReadDone r) s = .next (s.settled ((if c.ts then put 2 d else (put 3 d).headMoves r.val).issueData f r.val))) ∧
        ((∀ k, k < c.bufs.length → (s.arrived.look (dataUnit c.id k)).isSome = true) → (∃ k, k < c.bufs.length ∧ s.arrived.look (dataUnit c.id k) = some none) →
          exec (.txDataReadDone r) s = .next (s.settled (if c.ts then (put 2 (clear.count (rgmCnt 3))).txWriteback r.val c.id 2 0 else (put 3 (clear.count (rgmCnt 3))).headMoves r.val))) ∧
        ((∃ k, k < c.bufs.length ∧ s.arrived.look (dataUnit c.id k) = none) → exec (.txDataReadDone r) s = .next (s.settled s.toDev)))) ∧ (x.rxq = [] → exec (.rxDelivery r) s = .next (s.settled s.toDev)) ∧
    (∀ q rest, x.rxq = q :: rest → q.frame = none → x.state = 1 → let n := max 1 ((q.bytes.length + x.bufBytes - 1) / max 1 x.bufBytes)
      (x.captured.length < n → exec (.rxDelivery r) s = .next (s.settled s.toDev)) ∧
      (n ≤ x.captured.length → s.fnCan f = true → ∃ d, exec (.rxDelivery r) s = .next (s.settled d) ∧ (d.ringAt r.val).head = (x.head + n) % 65536 ∧ (d.ringAt r.val).captured = x.captured.drop n ∧
        (d.ringAt r.val).rxq = rest)) ∧
    ((x.chains.all fun c => c.wb.isNone) = true →
      (x.pubWait = false ∨ s.fnCan f = false → exec (.headPublish r) s = .next (s.settled s.toDev)) ∧
      (x.pubWait = true → s.fnCan f = true →
        let d := (s.updRing r.val fun x => { x with pubWait := false, evWait := 0 }).fnWrite f false x.pub (s.pubBlock f r.val)
        let d := if x.evWait.testBit 2 then d.postEvent f r.val 2 else d
        let d := if x.evWait.testBit 3 then d.postEvent f r.val 3 else d
        exec (.headPublish r) s = .next (s.settled (if x.evWait.testBit 1 && d.progressFree r.val then d.postEvent f r.val 1 else d)))) ∧
    (s.fnCan f = true → exec (.moderationTimeout r) s = .next (s.settled (if x.evDue s.now then s.evMessage f r.val else s.toDev)))) ∧
  (∀ (p : Fin 4) (a : Nat) (r : Nat), ∃ t, exec (.snoop p a) s = .next (s.settled (s.setRing t)) ∧ t.look r = (s.ring.look r).map fun x =>
    if s.flag (HIF_LINK_STATUS p.val) HIF_LINK_STATUS_CXL_CM && (s.ringOwner r).map s.fnPf == some p.val then { x with held := x.held.map fun h => if h.addr = a / 64 * 64 then { h with marked := false } else h } else x) ∧
  (∀ (src : Src) (tf : Fin 4096) (v : Word) (h : tf.val < 4100), s.srcFrozen src = false →
    (s.mayFunc src tf.val = false → exec (.funcCtlWrite src ⟨tf.val, h⟩ v) s = .next (s.settled (s.count (rgmCnt 14))) ∧ exec (.tfReset src tf) s = .next (s.settled (s.count (rgmCnt 14)))) ∧
    (s.mayFunc src tf.val = true → (RGM_FUNC_CTL_RESET.get v = 0 → exec (.funcCtlWrite src ⟨tf.val, h⟩ v) s = .next (s.settled (s.tfCtl tf.val v))) ∧
      (s.fnState tf.val = 0 ∨ s.fnState tf.val = 3 → exec (.tfReset src tf) s = .next (s.settled s.toDev)) ∧
      (s.fnState tf.val = 2 → let e := s.onDev fun d => (d.setFnState tf.val 3).setF (RGM_FUNC_CTL tf.val) RGM_FUNC_CTL_ENABLE 0
        exec (.tfReset src tf) s = .next ((e.onDev fun d => (d.each (d.ringsOf tf.val) Dev.ringSquash).fnReadsLost tf.val).dmaSquash tf.val).ended))) ∧
  (∀ (d : Dev) (f : Nat) (v : Word),
    (RGM_FUNC_CTL_ENABLE.get v ≠ 1 → d.liveRings f ≠ [] → d.tfCtl f v = d.fnRefuse f) ∧ (RGM_FUNC_CTL_ASSIGNED.get v ≠ 1 → 1 < d.fnState f → d.tfCtl f v = d.fnRefuse f) ∧
    (d.ctlMoves f v = true → 1 < d.fnState f → d.tfCtl f v = d.fnRefuse f) ∧
    (RGM_FUNC_CTL_RESET.get v = 0 → d.ctlMoves f v = true →
      (d.pfFixed f = false → d.ringsFit f (RGM_FUNC_CTL_RING_BASE.get v) (RGM_FUNC_CTL_RING_COUNT.get v) = true → d.pfCtl f v = d.setCtl f v) ∧
      (d.pfFixed f = true ∨ d.ringsFit f (RGM_FUNC_CTL_RING_BASE.get v) (RGM_FUNC_CTL_RING_COUNT.get v) = false → d.pfCtl f v = d.fnRefuse f))) ∧
  (∀ fn : Fin 4100, (s.fnResetting fn.val = false ∨ s.fnDrained fn.val = false → exec (.resetDrainDone fn) s = .next (s.settled s.toDev)) ∧
    (s.fnResetting fn.val = true → s.fnDrained fn.val = true → exec (.resetDrainDone fn) s = .next (s.settled (s.toDev.fnWipe fn.val)))) ∧
  ∀ (src : Src) (p : Fin 4) (tf : Fin 4096), s.srcFrozen src = false → (srcMayPf src p.val = false ∨ s.fnPf tf.val ≠ p.val → exec (.medNotify src p tf) s = .next (s.settled (s.count (rgmCnt 14)))) ∧
    (srcMayPf src p.val = true → s.fnState tf.val ≠ 0 → s.fnPf tf.val = p.val → s.fld (RGM_FUNC_MSG tf.val) RGM_FUNC_MSG_MSG_COUNT ≠ 0 →
      exec (.medNotify src p tf) s = .next (s.settled (s.msgDue tf.val (s.fld (RGM_FUNC_MSG tf.val) RGM_FUNC_MSG_MSG_BASE))))

/-- Where the access is heard. DMA_CH_CFG_WRITE by another than Ulyar, of a channel that is not IDLE, or with an invalid binding, does nothing; else the fields are written. DMA_GO of a BUSY channel does nothing; by a source the channel is not bound to, or while it is HELD, it ends with CHANNEL (7); else the descriptor in the registers is current. DMA_ABORT of an IDLE channel does nothing; of one with a descriptor of its binding's own and an empty queue it ends that with ABORTED (8). A DMA command of an IDLE channel, or of another OPCODE than the current descriptor's, does nothing; a bad descriptor ends with BAD_DESC (1); a good one moves on by bursts. A burst of FILL writes the pattern, one of COPY what is at its source, at its destination in granules or banks the channel reaches. FIFO_ADJ adds to the level. -/
def Obligations.DmaEngine : Prop :=
(∀ (s : State) (src : Src) (c : Fin 64) (v : Word), s.hears src →
    let kind := DMA_CH_CFG_BIND_KIND.get v
    let id := DMA_CH_CFG_BIND_ID.get v
    (src ≠ .ulyar ∨ s.dmaState c.val ≠ 0 ∨ (kind = 1 ∧ 5 < id) ∨ (kind = 2 ∧ 3 < id) → exec (.dmaChCfgWrite src c v) s = .next (s.settled s.toDev)) ∧
    (src = .ulyar → s.dmaState c.val = 0 → kind = 2 → id ≤ 3 → ∃ d, exec (.dmaChCfgWrite src c v) s = .next (s.settled d) ∧ d.fld (DMA_CH_CFG c.val) DMA_CH_CFG_BIND_KIND = 2 ∧
      d.fld (DMA_CH_CFG c.val) DMA_CH_CFG_BIND_ID = id ∧ d.fld (DMA_CH_CFG c.val) DMA_CH_CFG_PACE_EN = DMA_CH_CFG_PACE_EN.get v ∧ d.fld (DMA_CH_CFG c.val) DMA_CH_CFG_PACE_FIFO = DMA_CH_CFG_PACE_FIFO.get v ∧ d.dmaCh = s.dmaCh)) ∧
  (∀ (s : State) (src : Src) (c : Fin 64), s.hears src →
    ((s.dmaCurrent c.val).isSome = true → exec (.dmaGo src c) s = .next (s.settled s.toDev)) ∧
    (s.dmaCurrent c.val = none → s.dmaOf src c.val = false ∨ s.dmaState c.val = 3 → exec (.dmaGo src c) s = .next (s.became (s.dmaEnds c.val .ulyar (s.dmaDesc c.val) 0x07 0))) ∧
    (s.dmaCurrent c.val = none → s.dmaOf src c.val = true → s.dmaState c.val ≠ 3 → exec (.dmaGo src c) s = .next (s.settled (s.updDma c.val fun _ => ⟨some (s.dmaDesc c.val), 0, 0, [], false⟩))) ∧
    (s.dmaCurrent c.val = none → exec (.dmaAbort src c) s = .next (s.settled s.toDev)) ∧
    (∀ b w, (s.dmaAt c.val).host = some b → s.dmaQueue c.val = [] → s.dmaCurrent c.val = some (w, b) → exec (.dmaAbort src c) s = .next (s.became (s.dmaEnds c.val w b 0x08 (if leAt b 4 2 = 5 then 0 else (s.dmaAt c.val).wrote)))) ∧
    ∀ (f : Fin 16) (v : Word), exec (.fifoAdj src f v) s = .next (s.settled (s.setF (DMA_FIFO_LEVEL f.val) DMA_FIFO_LEVEL_BYTES
      (min (Int.ofNat (s.fld (DMA_FIFO_LEVEL f.val) DMA_FIFO_LEVEL_BYTES) + v.toInt).toNat (2 ^ 48 - 1))))) ∧
  (∀ (s : State) (c : Fin 64) (k : Nat), s.runs = true →
    (s.dmaCurrent c.val = none → exec (.copy c k) s = .next (s.settled s.toDev) ∧ exec (.fill c k) s = .next (s.settled s.toDev)) ∧
    ∀ w b, s.dmaCurrent c.val = some (w, b) → let v := leAt b 4 2
      let good := (dmaJob b).formOk b w.isEngine
      let r := Host.Outcome.next (State.dmaBursts c.val w b k s).ended
      (v = 2 → exec (.copy c k) s = .next (s.settled s.toDev)) ∧
      (good = true → (v = 1 → exec (.copy c k) s = r) ∧ (v = 2 → exec (.interleave c k) s = r) ∧ (v = 3 → exec (.deinterleave c k) s = r) ∧ (v = 4 → exec (.fill c k) s = r) ∧ (v = 5 → exec (.compare c k) s = r)) ∧
      (good = false → v = 0 ∨ v = 1 ∨ 5 < v → exec (.copy c k) s = .next (s.dmaEnds c.val w b 0x01 0).ended)) ∧
  (∀ (s : State) (c : Nat) (b : List Byte), let j := dmaJob b
    let p := (s.dmaAt c).pos
    s.pacePaused c = false → j.dstSpace = 1 → j.dstFixed = false →
    (j.code = 4 → ∀ m, s.dmaDevice c (j.dst + p) (j.burst p) = .ok m → (s.dmaBurst c .ulyar b).1.mem = s.mem.writeN m (patternAt j.src p (j.burst p))) ∧
    (j.code = 1 → j.srcSpace = 1 → j.srcFixed = false → ∀ m n, s.dmaDevice c (j.src + p) (j.burst p) = .ok m → s.dmaDevice c (j.dst + p) (j.burst p) = .ok n → s.badIn m (j.burst p) = false →
      (s.dmaBurst c .ulyar b).1.mem = s.mem.writeN n (s.mem.readN m (j.burst p)))) ∧
  ∀ (d : Dev) (c a n : Nat), a < 0xFF0000000000 → d.dmaDevice c a n = if d.dramIn [1, 2] a n then .ok a else .fails 0x02

/-- GRANULE_WRITE, heard, of a class that the source may give makes the granule PENDING unless it is or has what is asked; by another source it does nothing. GRANULE_ZEROED of a PENDING granule leaves all its bytes 0 and gives it what it was to take; of another does nothing. MEM_MAP_WRITE changes a set's order only where the set is FREE, and else sets MAP_REFUSED. DRAM_REFRESH latches the rank's interval. SELF_REFRESH_ENTRY needs what R417 asks. PATROL_SCRUB of a set in self-refresh does nothing, else records what it finds. DRAM_ROW_REPAIR of a row that is not due does nothing; with a repair left the row's counts are cleared and the repair counted. HDM_COMMIT, on a CXL link that is up, commits a decoder that fits and no other. CXL_MEM_ACCESS outside TENANT granules reads all ones and writes nothing, counted; else it reads or writes the bytes; a poisoned write is discarded and logged in AER. -/
def Obligations.DeviceMemory : Prop :=
(∀ (s : State) (src : Src) (g : Fin 6144) (v : Word), s.hears src →
    (s.granWriter src (s.granClass g.val) (MEM_GRANULE_CLASS.get v) = false → exec (.granuleWrite src g v) s = .next (s.settled s.toDev)) ∧
    (s.granPending g.val = true → exec (.granuleWrite src g v) s = .next (s.settled s.toDev)) ∧
    (s.granWriter src (s.granClass g.val) (MEM_GRANULE_CLASS.get v) = true → s.granPending g.val = false → s.granClass g.val ≠ MEM_GRANULE_CLASS.get v → exec (.granuleWrite src g v) s = .next (s.settled
      (((s.cxlSync s.now).setF (MEM_GRANULE g.val) MEM_GRANULE_PENDING 1).setGranNext (s.granNext.put g.val (MEM_GRANULE_CLASS.get v, MEM_GRANULE_TF.get v)))))) ∧
  (∀ (s : State) (src : Src) (v : Word), s.hears src → exec (.memMapWrite src v) s = .next (s.settled (s.toDev.mapWrite v)) ∧
    ∀ t : Fin 3, s.setFree t.val = false → (s.toDev.mapWrite v).fld MEM_MAP (orderFld t.val) = s.fld MEM_MAP (orderFld t.val)) ∧
  ∀ s : State, s.runs = true →
  (∀ g : Fin 6144, (s.flag (MEM_GRANULE g.val) MEM_GRANULE_PENDING = false → exec (.granuleZeroed g) s = .next (s.settled s.toDev)) ∧
    (s.flag (MEM_GRANULE g.val) MEM_GRANULE_PENDING = true → exec (.granuleZeroed g) s = .next (s.granZeroed g.val).ended ∧ (s.granZeroed g.val).mem = s.mem.zero (g.val * 2 ^ 28) (2 ^ 28))) ∧
  (∀ (c : Fin 12) (r : Fin 4), exec (.dramRefresh c r) s = .next (s.settled (s.setFastRanks (setBit s.fastRanks (4 * c.val + r.val) (s.flag MEM_REFRESH MEM_REFRESH_REFRESH_2X))))) ∧
  (∀ t : Fin 3, (s.selfRefreshOk t.val = true → exec (.selfRefreshEntry t) s = .next (s.settled (s.setBitF MEM_PWR MEM_PWR_SR_STATE t.val true))) ∧
    (s.selfRefreshOk t.val = false → exec (.selfRefreshEntry t) s = .next (s.settled s.toDev))) ∧
  (∀ (a t : Nat) (e : EccFound), s.setOf a = some t → ((s.fld MEM_PWR MEM_PWR_SR_STATE).testBit t = true → exec (.patrolScrub a e) s = .next (s.settled s.toDev)) ∧
    ((s.fld MEM_PWR MEM_PWR_SR_STATE).testBit t = false → exec (.patrolScrub a e) s = .next (s.settled (s.dramFound a e)))) ∧
  (∀ (a : Nat) (x : Nat × Nat × Nat × Nat), s.dramSpot a = some x → (s.rowDue (rowNo x) = false → ∀ l, exec (.dramRowRepair a l) s = .next (s.settled s.toDev)) ∧
    (s.rowDue (rowNo x) = true → exec (.dramRowRepair a true) s = .next (s.settled (((((s.setRowErr (s.rowErr.del (rowNo x))).setRowBad (s.rowBad.del (rowNo x))).satAdd (MEM_PPR_STATUS x.1) MEM_PPR_STATUS_SOFT_ACTIVE 1).count
      (memCnt 26)).setF MEM_EVENT MEM_EVENT_PPR_DONE 1)))) ∧
  (∀ (p : Fin 4) (i : Fin 8) (b z a w : Nat), s.flag (HIF_LINK_STATUS p.val) HIF_LINK_STATUS_MODE = true → s.flag (HIF_LINK_STATUS p.val) HIF_LINK_STATUS_LINK_UP = true → s.frozen p.val = false →
    let fits := w == 1 && b % 2 ^ 28 == 0 && z % 2 ^ 28 == 0 && decide (a + z ≤ s.capacity) && (s.hdm.filter fun x => x.1 != p.val * 8 + i.val && x.2.committed).all fun x => !overlap a z x.2.dpa x.2.size
    exec (.hdmCommit p i b z a w) s = .next (s.settled (s.setHdm (s.hdm.put (p.val * 8 + i.val) ⟨b, z, a, fits, !fits⟩)))) ∧
  ∀ (p : Fin 4) (h a n : Nat), s.flag (HIF_LINK_STATUS p.val) HIF_LINK_STATUS_CXL_CM = true → s.frozen p.val = false → s.hdmDpa p.val h = some a →
    let refused := (s.count (memCnt 24)).setF MEM_EVENT MEM_EVENT_CXL_REFUSED 1
    (s.cxlServed a n = false → exec (.cxlMemAccess p h n .read) s = .next (s.settled (refused.emit (.cxlData p.val (List.replicate n 0xFF) false))) ∧
      ∀ bs, bs.length = n → exec (.cxlMemAccess p h n (.write bs false)) s = .next (s.settled refused)) ∧
    (s.cxlServed a n = true → exec (.cxlMemAccess p h n .read) s = .next (s.settled ((s.touchDram a n).emit (.cxlData p.val (s.mem.readN a n) (s.badIn a n)))) ∧
      ∀ bs, bs.length = n → exec (.cxlMemAccess p h n (.write bs false)) s = .next (s.became (s.store a bs))) ∧
    ∀ bs, exec (.cxlMemAccess p h n (.write bs true)) s = .next (s.settled (s.aerLog p.val 12 false "Poisoned TLP Received"))

/-- Where the part runs. METERING_EPOCH_END that is not next in firing order does nothing; the one that is ends the open epoch: where no later boundary has passed, the epoch is kept for its grace, a new one with no counts opens at its boundary, and no block closes. GRACE_END before 1,000,000 ns after the boundary, or with no epoch in grace, does nothing; after, the epoch closes. Closing with room in the buffer adds one block, unsigned, and the chain goes on from it; without room the counts are held and BUF_FULL set. BLOCK_SIGNED gives the oldest unsigned block its signature. BLOCK_PUBLISH with no block, an unsigned oldest block, a ring not enabled or without room does nothing; else the block leaves the buffer and PROD moves by its slots. SKETCH_QUERY, heard, without GO only stores BANK; with GO it gives the least of the key's four counters and the bank's total. -/
def Obligations.Metering : Prop :=
∀ s : State, s.runs = true →
  (s.dueFirst .epochStop 0 = false → exec .meteringEpochEnd s = .next (s.settled s.toDev)) ∧
  (s.dueFirst .epochStop 0 = true → exec .meteringEpochEnd s = .next (s.settled (s.toDev.epochEnds.dueFired none))) ∧
  (∀ d : Dev, let e := (d.cxlSync d.mtrOpen.stop).graceEnd
    ((e.epochPlan e.mtrOpen).passed e.now).1 = 0 → d.epochEnds.mtrOld = some e.mtrOpen ∧ d.epochEnds.mtrOpen.start = e.mtrOpen.stop ∧ d.epochEnds.mtrOpen.cnt = [] ∧ d.epochEnds.mtrBlocks = e.mtrBlocks) ∧
  (s.mtrOld = none → exec .graceEnd s = .next (s.settled s.toDev)) ∧
  (∀ o, s.mtrOld = some o → (s.now < o.stop + 1000000 → exec .graceEnd s = .next (s.settled s.toDev)) ∧
    (o.stop + 1000000 ≤ s.now → exec .graceEnd s = .next (s.settled ((s.setMtrOld none).mtrClose 1 o)))) ∧
  (∀ (d e : Dev) (o : MtrEpoch), d.mtrHeld = none →
    (d.mtrRoom (o.tfs.length + 64) = (e, true) → d.mtrClose 1 o = (((e.setMtrBlocks (e.mtrBlocks ++ [⟨(e.mtrBlockOf 1 o).1, none⟩])).setMtrRoot (some (e.mtrBlockOf 1 o).2)).setMtrHeld none).mtrShow) ∧
    (d.mtrRoom (o.tfs.length + 64) = (e, false) → d.mtrClose 1 o = ((e.setMtrHeld (some ⟨1, o⟩)).setF MTR_STATUS MTR_STATUS_BUF_FULL 1).mtrShow)) ∧
  (∀ (a : List MtrBlock) (b : MtrBlock) (c : List MtrBlock), s.mtrBlocks = a ++ b :: c → (∀ x ∈ a, x.sig.isSome = true) → b.sig = none →
    exec .blockSigned s = .next (s.settled ((s.setMtrBlocks (a ++ { b with sig := some (s.toDev.signed (b.recs.getLastD [])) } :: c)).mtrShow))) ∧
  (s.mtrBlocks = [] → exec .blockPublish s = .next (s.settled s.toDev)) ∧
  (∀ b rest, s.mtrBlocks = b :: rest →
    (b.sig = none ∨ s.flag MTR_RING_CFG MTR_RING_CFG_EN = false → exec .blockPublish s = .next (s.settled s.toDev)) ∧
    (∀ g, b.sig = some g → s.flag MTR_RING_CFG MTR_RING_CFG_EN = true → s.fnCan (4096 + s.fld MTR_RING_CFG MTR_RING_CFG_PF) = true →
      idxSub (s.fld MTR_RING_PROD MTR_RING_PROD_PROD) (s.fld MTR_RING_CONS MTR_RING_CONS_CONS) + b.slots ≤ 2 ^ s.fld MTR_RING_CFG MTR_RING_CFG_SIZE_LOG2 →
      ∃ d, exec .blockPublish s = .next (s.settled d) ∧ d.mtrBlocks = rest ∧ d.fld MTR_RING_PROD MTR_RING_PROD_PROD = (s.fld MTR_RING_PROD MTR_RING_PROD_PROD + b.slots) % 65536)) ∧
  ∀ (src : Src) (sl : Fin 6) (v : Word), s.srcFrozen src = false → s.sliceOn sl.val = true → let r := MTR_SK_QUERY sl.val
    let d := s.toDev.setF r MTR_SK_QUERY_BANK (MTR_SK_QUERY_BANK.get v)
    let t := if MTR_SK_QUERY_BANK.get v = 1 then (d.sketchAt sl.val).prev else (d.sketchAt sl.val).cur
    let n := if MTR_SK_QUERY_BANK.get v = 1 then (d.sketchAt sl.val).prevN else (d.sketchAt sl.val).curN
    let col (i : Nat) : Nat := t.lookD (i * 65536 + d.sketchCol i (d.queryKey sl.val)) 0
    (MTR_SK_QUERY_GO.get v = 0 → exec (.sketchQuery src sl v) s = .next (s.settled d)) ∧
    (MTR_SK_QUERY_GO.get v = 1 → exec (.sketchQuery src sl v) s = .next (s.settled
      (((d.wr (MTR_SK_EST sl.val) (BitVec.ofNat 64 (min (min (col 0) (col 1)) (min (col 2) (col 3))))).wr (MTR_SK_TOTAL sl.val) (BitVec.ofNat 64 n)).setF r MTR_SK_QUERY_VALID 1)))

/-- Request words enter the FIFO of a channel that its requester reaches, reply words leave it, a reply enters whole or waits, and ABORT empties both FIFOs -/
def Obligations.MailboxChannels : Prop :=
(∀ (d : Dev) (c : Nat) (n : Fin 4) (tee : Bool), d.window c .ulyar = .none ∧ (c < 4 → d.window c (.pf n tee) = if n.val = c then .open_ else .none) ∧
    (4 ≤ c → d.window c (.pf n tee) = if tee = true ∧ d.ls n.val HIF_LINK_STATUS_FLIT = 1 then .open_ else .denied)) ∧
  (∀ (s : State) (src : Src) (ch : Fin 6) (v : Word), s.hears src → let c := ch.val
    (s.window c src = .open_ →
      (32 ≤ (s.mb c).tx.length → exec (.mbxTxPush src ch v) s = .next (s.settled (s.toDev.setF (MBX_CH_STATUS c) MBX_CH_STATUS_OVERRUN 1))) ∧
      ((s.mb c).tx.length < 32 → exec (.mbxTxPush src ch v) s = .next (s.settled ((s.updMb c fun m => { m with tx := m.tx ++ [v.toNat % 2 ^ 32] }).mbRefuse c 32))) ∧
      (∀ w t, (s.mb c).rx = w :: t → exec (.mbxRxPop src ch) s = .next (s.settled ((((s.updMb c fun m => { m with rx := t }).mbFlush c).mbRefuse c 32).emit (.readData w)))) ∧
      ((s.mb c).rx = [] → exec (.mbxRxPop src ch) s = .next (s.settled ((s.toDev.setF (MBX_CH_STATUS c) MBX_CH_STATUS_UNDERRUN 1).emit (.readData 0)))) ∧
      exec (.mbxAbort src ch v) s = .next (s.settled (s.mbCtrl c v))) ∧
    (s.window c src = .denied → let d := s.toDev.satAdd MBX_NS_DENIED MBX_NS_DENIED_COUNT 1
      exec (.mbxTxPush src ch v) s = .next (s.settled d) ∧ exec (.mbxRxPop src ch) s = .next (s.settled (d.emit (.readData 0))) ∧ exec (.mbxAbort src ch v) s = .next (s.settled d)) ∧
    (s.window c src = .none → exec (.mbxTxPush src ch v) s = .next (s.settled s.toDev) ∧ exec (.mbxRxPop src ch) s = .next (s.settled (s.toDev.emit (.readData 0))) ∧
      exec (.mbxAbort src ch v) s = .next (s.settled s.toDev))) ∧
  (∀ (d : Dev) (ch : Fin 6) (v : Word), (MBX_CH_CTRL_ABORT.get v = 1 → (d.mbCtrl ch.val v).mb ch.val = ⟨[], [], [], false⟩) ∧
    (MBX_CH_CTRL_ABORT.get v = 0 → d.mbCtrl ch.val v = d.wr (MBX_CH_CTRL ch.val) (v &&& 3))) ∧
  (∀ (d : Dev) (ch : Fin 6) (h st : Nat) (p : List Nat), (d.mb ch.val).out = [] → let c := ch.val
    let w := (h / 2 ^ 16 * 2 ^ 16 + st * 256 + p.length) :: p
    ((d.mb c).rx.length + w.length ≤ 32 → ((d.mbReply c h st p).mb c).rx = (d.mb c).rx ++ w ∧ ((d.mbReply c h st p).mb c).out = [] ∧
      (d.mbReply c h st p).flag (MBX_CH_STATUS c) MBX_CH_STATUS_RX_READY = true ∧ (d.mbReply c h st p).fld (MBX_CH_STATUS c) MBX_CH_STATUS_RX_COUNT = (d.mb c).rx.length + w.length) ∧
    (32 < (d.mb c).rx.length + w.length → ((d.mbReply c h st p).mb c).rx = (d.mb c).rx ∧ ((d.mbReply c h st p).mb c).out = [w])) ∧
  ∀ s : State, s.runs = true → let n := min (s.fld MBX_BOOT_STATUS MBX_BOOT_STATUS_RESTARTS + 1) 255
    ∃ d, exec .watchdogExpiry s = .next (s.settled d) ∧ ((∀ c, c < 8 → ∀ h p, ({ s.mb c with busy := false, out := [] } : Mbx).front = some (h, p) → badCommand h = false) →
      d.fld MBX_BOOT_STATUS MBX_BOOT_STATUS_RESTARTS = n ∧ d.sealWait = [] ∧
      ∀ c, c < 8 → (d.mb c).busy = false ∧ (d.mb c).tx = (s.mb c).tx ∧ (c < 6 → (s.mb c).rx = [] → (d.mb c).rx = [0xFF000001, n]))

/-- What the mailbox commands beside IMAGE_LOAD are answered, and what they do -/
def Obligations.MailboxCommands : Prop :=
(∀ (s : State) (ch : Fin 8) (h : Nat) (p : List Nat) (data : HostData), s.runs = true → let c := ch.val
    let k := s.mbTake c
    let waits (cmd : Nat) : Prop := s.reqWaits c cmd true true 4 = true
    let re (d : Dev) (st : Nat) (pl : List Nat) : Host.Outcome State Fault Refusal := .next (s.settled ((d.mbReply c h st pl).mbRefuse c 32))
    (s.asks c 1 0 h p → exec (.getInfo ch) s = re k 0 [ulyarVersion k.ulyar, k.life, k.bootCount % 2 ^ 32]) ∧
    (s.asks c 3 0 h p → exec (.imageQuery ch) s = re k 0 [(k.rd IMG_STATUS).toNat % 2 ^ 32, k.imgEpochView]) ∧
    (s.asks c 4 4 h p → (6 ≤ c → exec (.getCert ch) s = re k 2 []) ∧ (c < 6 → waits 4 → exec (.getCert ch) s = .next (s.settled s.toDev)) ∧ (c < 6 → ¬ waits 4 →
      let t := s.onDev fun d => d.mbTake c
      let bs := t.chain.take (p.getD 3 0)
      exec (.getCert ch) s = if t.argOk c p bs.length then .next (State.ended (match t.argWrite c p bs with
        | some u => u.onDev fun d => (d.mbReply c h 0 [bs.length]).mbRefuse c 32
        | none => t.onDev fun d => (d.mbReply c h 6 []).mbRefuse c 32)) else .next (State.ended (t.onDev fun d => (d.mbReply c h 3 []).mbRefuse c 32)))) ∧
    (s.asks c 5 4 h p → (c < 4 ∨ c = 7 → exec (.certWrite ch data) s = re k 2 []) ∧ (4 ≤ c → c ≤ 6 →
      (s.life ≠ 1 → exec (.certWrite ch data) s = re k 4 []) ∧ (s.life = 1 → (k.argOk c p (p.getD 3 0) = false ∨ 0x100000 < p.getD 3 0 → exec (.certWrite ch data) s = re k 3 []) ∧
      (k.argOk c p (p.getD 3 0) = true → p.getD 3 0 ≤ 0x100000 → waits 5 → exec (.certWrite ch data) s = .next (s.settled s.toDev)) ∧
      (k.argOk c p (p.getD 3 0) = true → p.getD 3 0 ≤ 0x100000 → ¬ waits 5 → exec (.certWrite ch data) s = match s.argBytes c p (p.getD 3 0) data with
        | some bs => re (k.setChain bs) 0 []
        | none => re k 6 [])))) ∧
    (s.asks c 6 4 h p → (c < 4 ∨ 5 < c → exec (.fwUpdate ch data) s = re k 2 []) ∧ (c = 4 ∨ c = 5 →
      (k.argOk c p (p.getD 3 0) = false ∨ 16777216 < p.getD 3 0 → exec (.fwUpdate ch data) s = re k 3 []) ∧
      (k.argOk c p (p.getD 3 0) = true → p.getD 3 0 ≤ 16777216 → waits 6 → exec (.fwUpdate ch data) s = .next (s.settled s.toDev)) ∧
      (k.argOk c p (p.getD 3 0) = true → p.getD 3 0 ≤ 16777216 → ¬ waits 6 → exec (.fwUpdate ch data) s = match s.argBytes c p (p.getD 3 0) data with
        | some bs =>
          let b := 1 - k.bankSel
          let u := if b = 0 then k.setBankA bs else k.setBankB bs
          match u.ulyarCheck bs with
          | some e => re u 5 [e]
          | none => re (u.setBankSel b) 0 [b]
        | none => re k 6 []))) ∧
    (s.asks c 7 2 h p → (c < 4 ∨ c = 7 → exec (.lifecycle ch) s = re k 2 []) ∧ (4 ≤ c → c ≤ 6 →
      (p.getD 0 0 ≠ k.life + 1 ∨ 4 < p.getD 0 0 ∨ p.getD 1 0 ≠ 2 ^ 32 - 1 - p.getD 0 0 → exec (.lifecycle ch) s = re k 3 []) ∧
      (p.getD 0 0 = k.life + 1 → p.getD 0 0 ≤ 4 → p.getD 1 0 = 2 ^ 32 - 1 - p.getD 0 0 →
        (k.life ≠ 0 → exec (.lifecycle ch) s = re (k.setLifeNext (some ⟨p.getD 0 0, c, k.refNs, []⟩)) 0 []) ∧
        (k.life = 0 → let key := leBytes 32 (Config.free k.freeCtr)
          exec (.lifecycle ch) s = re ((k.setFreeCtr (k.freeCtr + 1)).setLifeNext (some ⟨p.getD 0 0, c, k.refNs, key⟩)) 0 ((List.range 8).map fun i => leAt key (4 * i) 4))))) ∧
    (s.asks c 8 2 h p → (c < 4 ∨ 5 < c → exec (.setMinVersion ch) s = re k 2 []) ∧ (c = 4 ∨ c = 5 → ∀ f top, (p.getD 0 0 = 0 ∧ f = MBX_FUSE_IMAGE_MIN ∧ top = k.imageVersion) ∨
        (p.getD 0 0 = 1 ∧ f = MBX_FUSE_ULYAR_MIN ∧ top = ulyarVersion k.ulyar) →
      exec (.setMinVersion ch) s = if k.fld MBX_FUSE f ≤ p.getD 1 0 ∧ p.getD 1 0 ≤ 64 ∧ p.getD 1 0 ≤ top then re (k.setF MBX_FUSE f (p.getD 1 0)) 0 [] else re k 3 [])) ∧
    (s.asks c 9 1 h p → (c < 4 ∨ 5 < c → exec (.keyRevoke ch) s = re k 2 []) ∧ (c = 4 ∨ c = 5 →
      let r := setBit (k.fld MBX_FUSE MBX_FUSE_REVOKED) (p.getD 0 0) true
      exec (.keyRevoke ch) s = if p.getD 0 0 ≤ 3 ∧ p.getD 0 0 ≠ ulyarKey k.ulyar ∧ r ≠ 15 then re (k.setF MBX_FUSE MBX_FUSE_REVOKED r) 0 [] else re k 3 [])) ∧
    (s.asks c 10 3 h p → (c = 4 ∨ c = 5 ∨ (c < 4 ∧ (s.fld RGM_MEDIATOR RGM_MEDIATOR_PF_MASK).testBit c = true) →
      let l := (List.range (min (p.getD 1 0) granules)).map fun i => p.getD 0 0 + i
      (p.getD 1 0 = 0 ∨ 1 < p.getD 2 0 ∨ k.capacity < (p.getD 0 0 + p.getD 1 0) * 2 ^ 28 → exec (.seal ch) s = re k 3 []) ∧
      (p.getD 2 0 = 1 → (l.any fun g => k.granClass g != 0 || k.granPending g) = true → exec (.seal ch) s = re k 3 []) ∧
      (p.getD 1 0 ≠ 0 → p.getD 2 0 = 1 → (p.getD 0 0 + p.getD 1 0) * 2 ^ 28 ≤ k.capacity → (l.any fun g => k.granClass g != 0 || k.granPending g) = false →
        let d := k.each l fun d g => d.granChange g 3 0
        exec (.seal ch) s = .next (s.settled ((((d.setSeals (d.seals ++ l)).setSealWait (d.sealWait ++ [⟨c, h, p.getD 0 0, p.getD 1 0⟩])).sealReplies).mbRefuse c 32))) ∧
      (p.getD 1 0 ≠ 0 → p.getD 2 0 = 0 → (p.getD 0 0 + p.getD 1 0) * 2 ^ 28 ≤ k.capacity → (l.any fun g => !k.unsealOk g) = false →
        let d := k.each l fun d g => d.granChange g 0 0
        exec (.seal ch) s = .next (s.settled ((((d.setSeals (d.seals.filter fun g => !l.contains g)).setSealWait (d.sealWait ++ [⟨c, h, p.getD 0 0, p.getD 1 0⟩])).sealReplies).mbRefuse c 32))) ∧
      (p.getD 2 0 = 0 → (l.any fun g => !k.unsealOk g) = true → exec (.seal ch) s = re k 3 [])))) ∧
  ∀ (s : State) (h : Nat) (p : List Nat), s.pwrMode = .safe → s.asks 6 1 0 h p →
    exec (.getInfo 6) s = .next (s.settled (((s.mbTake 6).mbReply 6 h 0 [((s.mbTake 6).rd MBX_BOOT_STATUS).toNat]).mbRefuse 6 32))

/-- What MCTP, PLDM, SPDM and RGMII messages come to -/
def Obligations.BmcTransports : Prop :=
(∀ (s : State) (m : PldmMsg) (data : Bytes), s.runs = true →
    (∀ h t, (s.mb 6).busy = false → (s.mb 6).tx = [] → h % 32 = t.length → ((h :: t).all fun w => decide (w < 2 ^ 32)) = true →
      exec (.mctpVendorMessage (h :: t)) s = .next (s.settled ((s.updMb 6 fun m => { m with tx := h :: t }).mbRefuse 6 32))) ∧
    (∀ l, (s.mb 6).busy = true ∨ (s.mb 6).tx ≠ [] → exec (.mctpVendorMessage l) s = .next (s.settled s.toDev)) ∧
    (let d : Dev := (match m with
        | .query _ => s.toDev
        | .update n b => if n = 1 then (s.ulyarUpdate b).1 else if n = 2 then s.setDefImage b else s.toDev);
      exec (.pldmMessage m) s = .next (s.settled ((d.setFreeCtr (d.freeCtr + 1)).emit (.reply 7 (anyBytes (Config.free d.freeCtr)))))) ∧
    exec .getVersion s = .next (s.settled ((s.setSpdm 1).emit (.spdm "VERSION" [0x13]))) ∧
    (1 ≤ s.spdm → exec .getCapabilities s = .next (s.settled ((s.setSpdm 2).emit (.spdm "CAPABILITIES" ([19] ++ leBytes 4 0x16))))) ∧
    (2 ≤ s.spdm → exec .negotiateAlgorithms s = .next (s.settled ((s.setSpdm 3).emit (.spdm "ALGORITHMS" (leBytes 4 1 ++ [0x03] ++ leBytes 2 0x1E7A ++ leBytes 2 1))))) ∧
    (3 ≤ s.spdm → let ok (name : String) (bs : List Byte) : Host.Outcome State Fault Refusal := .next (s.settled ((s.setSpdm 3).emit (.spdm name bs)))
      exec .getDigests s = ok "DIGESTS" (sha256 s.chain) ∧ (∀ off len, exec (.getCertificate 0 off len) s = ok "CERTIFICATE" ((s.chain.drop off).take len)) ∧
      exec (.challenge 0) s = .next (s.settled (((s.toDev.setFreeCtr (s.freeCtr + 1)).setSpdm 3).emit (.spdm "CHALLENGE_AUTH" (s.toDev.signed (anyBytes (Config.free s.freeCtr)))))) ∧
      (∀ i b, s.measurement i = some b → exec (.getMeasurements i false) s = ok "MEASUREMENTS" (BitVec.ofNat 8 i :: b) ∧
        exec (.getMeasurements i true) s = ok "MEASUREMENTS" (BitVec.ofNat 8 i :: b ++ s.signed (BitVec.ofNat 8 i :: b))) ∧
      exec (.getMeasurements 0xFF false) s = ok "MEASUREMENTS" ([1, 2, 3, 4, 5].flatMap fun i => BitVec.ofNat 8 i :: (s.measurement i).getD [])) ∧
    (let no : Host.Outcome State Fault Refusal := .next (s.settled (s.toDev.emit (.spdm "ERROR" [])));
      (s.spdm = 0 → exec .getCapabilities s = no) ∧ (s.spdm < 2 → exec .negotiateAlgorithms s = no) ∧ (s.spdm < 3 → exec .getDigests s = no) ∧
      (∀ slot off len, slot ≠ 0 ∨ s.spdm < 3 → exec (.getCertificate slot off len) s = no) ∧ (∀ slot, slot ≠ 0 → exec (.challenge slot) s = no) ∧
      ∀ i sg, i = 0 ∨ (5 < i ∧ i ≠ 0xFF) ∨ s.spdm < 3 → exec (.getMeasurements i sg) s = no) ∧
    exec (.rgmiiFrameReceived data) s = .next (s.settled (s.toDev.emit (.ulyarFrame data)))) ∧
  ∀ (s : State) (e : Nat), s.pwrMode ≠ .held → let d := s.toDev.setFreeCtr (s.freeCtr + 1)
    exec (.mctpControlMessage none) s = .next (s.settled (d.emit (.reply 8 (anyBytes (Config.free s.freeCtr))))) ∧
    exec (.mctpControlMessage (some e)) s = .next (s.settled ((d.setEid (e % 256)).emit (.reply 8 (anyBytes (Config.free s.freeCtr)))))

/-- Aging, SRAM errors and their repair, lost locks and rail faults, and how reports gather in fault records -/
def Obligations.Reliability : Prop :=
(∀ (s : State) (e : Fin 236) (ppm : Nat), s.runs = true → let d := s.toDev.setF (RAS_AGING e.val) RAS_AGING_DRIFT_PPM (min ppm 0xFFFFF)
    (ppm < d.fld RAS_SRAM_CFG RAS_SRAM_CFG_WARN_PPM ∨ d.flag (RAS_AGING e.val) RAS_AGING_WARN = true → exec (.agingMeasure e ppm) s = .next (s.settled d)) ∧
    (d.fld RAS_SRAM_CFG RAS_SRAM_CFG_WARN_PPM ≤ ppm → d.flag (RAS_AGING e.val) RAS_AGING_WARN = false →
      exec (.agingMeasure e ppm) s = .next (s.settled (d.agingWarn e.val)) ∧
      (224 ≤ e.val → d.agingWarn e.val = (d.setF (RAS_AGING e.val) RAS_AGING_WARN 1).reportOpen (0x0C00 + (e.val - 224)) 4 hubUnit))) ∧
  (∀ (s : State) (m : Sram) (row w : Nat), s.runs = true → let k := sramRow m row
    exec (.sramScrub m row w .clean) s = .next (s.settled s.toDev) ∧
    (let old := s.sramErr.lookD k (0, 0)
     let n := if old.1 = s.scrubPeriod then old.2 + 1 else 1
     let d := s.toDev.setSramErr (s.sramErr.put k (s.scrubPeriod, n))
     let top := max 1 (d.fld RAS_SRAM_CFG RAS_SRAM_CFG_CE_LIMIT)
     (n ≠ top → exec (.sramScrub m row w .corrected) s = .next (s.settled d)) ∧
     (n = top → exec (.sramScrub m row w .corrected) s = .next (s.settled ((d.setSramBad (d.sramBad.put k ())).reportOpen (sramSource m) 1 (sramReporter m))))) ∧
    ((∀ sl, m = .buffer sl ∨ m = .tables sl ∨ m = .hub → (s.sramFixed.look k).isNone = true →
        exec (.sramScrub m row w .uncorrectable) s = .next (s.settled ((s.toDev.setSramBad (s.sramBad.put k ())).reportOpen (sramSource m) 2 (sramReporter m)))) ∧
      (∀ sl, m = .buffer sl ∨ m = .tables sl ∨ m = .hub → (s.sramFixed.look k).isSome = true →
        exec (.sramScrub m row w .uncorrectable) s = .next (s.settled (s.toDev.reportOpen (sramSource m) 2 (sramReporter m)))) ∧
      (∀ q, m = .quad q → (s.sramFixed.look k).isNone = true → exec (.sramScrub m row w .uncorrectable) s = .next (s.settled
        (((s.toDev.setPoison (s.poison.put (quadAt q.val (w % 131072 * 8) / 8) 0)).setSramBad (s.sramBad.put k ())).reportOpen (sramSource m) 2 (sramReporter m)))) ∧
      (∀ q b, m = .bank q b → (s.sramFixed.look k).isNone = true → exec (.sramScrub m row w .uncorrectable) s = .next (s.settled
        (((s.toDev.setPoison (s.poison.put (bankAt q.val b.val (w % 32768 * 8) / 8) 0)).setSramBad (s.sramBad.put k ())).reportOpen (sramSource m) 2 (sramReporter m)))) ∧
      ∀ n, m = .engineLocal n → (s.sramFixed.look k).isNone = true → exec (.sramScrub m row w .uncorrectable) s = .next (s.settled
        (((s.toDev.setPoison (s.poison.put (localAt n.val (w % 32768 * 8) / 8) 0)).setSramBad (s.sramBad.put k ())).reportOpen (sramSource m) 2 (sramReporter m)))) ∧
    (∀ left, s.sramBad.look k = none → exec (.sramRowRepair m row left) s = .next (s.settled s.toDev)) ∧
    ((s.sramBad.look k).isSome = true → exec (.sramRowRepair m row true) s =
      .next (s.settled (((s.toDev.setSramBad (s.sramBad.del k)).setSramErr (s.sramErr.del k)).setSramFixed (s.sramFixed.put k ()))))) ∧
  (∀ (s : State) (rail : Fin 10), s.runs = true → exec (.railFault rail) s = .next (s.settled (s.toDev.reportOpen (0x0F20 + rail.val) 5 hubUnit)) ∧
    exec .stormWindowEnd s = .next (s.settled (s.toDev.setRas (s.ras.mapVals fun _ r => { r with window := 0 })))) ∧
  (∀ (s : State) (src : Src) (v : Word), s.hears src → let d := s.toDev.setF RAS_REC_SEL RAS_REC_SEL_INDEX (RAS_REC_SEL_INDEX.get v)
    exec (.recordClear src v) s = .next (s.settled (if RAS_REC_SEL_CLEAR.get v = 1 then (d.setRas (d.ras.del (RAS_REC_SEL_INDEX.get v))).rasCount else d))) ∧
  (∀ (s : State) (p : Fin 8), s.runs = true → let t := s.onDev fun d => d.reportOpen (0x0F00 + p.val) 5 hubUnit
    (p.val = 0 ∨ p.val = 3 → exec (.pllLockLoss p) s = .next (s.became (t.dieDown 0))) ∧ (p.val = 1 ∨ p.val = 4 → exec (.pllLockLoss p) s = .next (s.became (t.dieDown 1))) ∧
    (p.val = 5 ∨ p.val = 6 → exec (.pllLockLoss p) s = .next (s.settled (t.toDev.each ([2 * (p.val - 5), 2 * (p.val - 5) + 1].filter t.pfPresent) fun d n =>
      ((d.freeze n 3).cfgReset n).linkLost n))) ∧
    (p.val = 2 ∨ p.val = 7 → exec (.pllLockLoss p) s = .next (s.settled (t.toDev.enterSafe (0x050 + p.val) 0)))) ∧
  ∀ (d : Dev) (id kind detail code : Nat) (who : Reporter), (d.rasFind id = none →
    (d.ras.firstFree 256 = 256 → (d.report id kind detail who code).ras = d.ras ∧ (d.report id kind detail who code).flag RAS_STATUS RAS_STATUS_OVERFLOW = true ∧
      (d.report id kind detail who code).fld RAS_LOST RAS_LOST_COUNT = min (d.fld RAS_LOST RAS_LOST_COUNT + 1) (2 ^ 32 - 1)) ∧
    (d.ras.firstFree 256 ≠ 256 → (d.report id kind detail who code).flag RAS_STATUS RAS_STATUS_NEW = true ∧ ∃ r, (d.report id kind detail who code).ras.look (d.ras.firstFree 256) = some r ∧
      r.firstNs = d.now ∧ r.detail = detail ∧ r.id = id ∧ r.count = 1 ∧ r.window = 1 ∧ r.kind = kind ∧ r.slice = who.slice ∧ r.pos = who.pos ∧ r.thread = who.thread ∧ r.code = code)) ∧
    ∀ k r, d.rasFind id = some (k, r) → ∃ r', (d.report id kind detail who code).ras = d.ras.put k r' ∧ r'.id = r.id ∧ r'.firstNs = r.firstNs ∧ r'.count = min (r.count + 1) 0xFFFF

/-- How the commanded state, the permissions and the D-states give the effective state, how transitions and EASY go, and what the envelope does -/
def Obligations.PressureStates : Prop :=
(∀ (s : State) (src : Src) (v : Word), s.hears src → let no := s.toDev.setPs PWR_STATUS_REFUSED 1
    (let t := PWR_CMD_TARGET.get v
     exec (.pwrCmdWrite src v) s = .next (s.settled (if (s.rd PWR_ALLOW).toNat.testBit t then (s.toDev.setF PWR_CMD PWR_CMD_TARGET t).pwrEval else no))) ∧
    (let a := PWR_ALLOW_ALLOW.get v
     exec (.pwrAllowWrite src v) s = .next (s.settled (if a.testBit 2 = true ∧ s.allFree = false then no else (s.toDev.setF PWR_ALLOW PWR_ALLOW_ALLOW a).pwrEval))) ∧
    (let m := PWR_HALF_SLICES_MASK.get v
     exec (.pwrHalfSlicesWrite src v) s = .next (s.settled (if (setBits 6 m).length = 3 then (s.toDev.setF PWR_HALF_SLICES PWR_HALF_SLICES_MASK m).pwrEval else no)))) ∧
  (∀ (s : State) (n st : Fin 4) (hp : Fin 2), s.runs = true →
    (s.pfPresent n.val = true → st.val = 0 ∨ st.val = 3 → exec (.dStateChange (.pf n st)) s = .next (s.settled (s.updPf n.val fun p => { p with dstate := st.val }).pwrEval)) ∧
    (s.pfPresent n.val = false ∨ st.val = 1 ∨ st.val = 2 → exec (.dStateChange (.pf n st)) s = .next (s.settled s.toDev)) ∧
    (hp.val = b2n s.straps.perstSel → s.ps PWR_STATUS_STATE = 2 → exec (.dStateChange (.perst hp true)) s = .next (s.settled (s.toDev.setPerst true).pwrEval)) ∧
    (hp.val ≠ b2n s.straps.perstSel ∨ s.ps PWR_STATUS_STATE ≠ 2 → exec (.dStateChange (.perst hp true)) s = .next (s.settled s.toDev)) ∧
    exec (.dStateChange (.perst hp false)) s = .next (s.settled s.toDev)) ∧
  (∀ d : Dev, let want := max (d.fld PWR_CMD PWR_CMD_TARGET) d.implied
    d.effective ≤ want ∧ (d.effective = 0 ∨ (d.rd PWR_ALLOW).toNat.testBit d.effective = true) ∧
    (∀ x, d.effective < x → x ≤ want → x ≤ 3 → (d.rd PWR_ALLOW).toNat.testBit x = false) ∧
    (d.perst = true → d.implied = 3) ∧ (d.perst = false → (d.implied = 2 ↔ ∀ n, n < 4 → d.pfPresent n = true → (d.pf n).dstate = 3))) ∧
  (∀ s : State, s.runs = true → (s.flag PWR_STATUS PWR_STATUS_IN_TRANSITION = false → exec .transitionDone s = .next (s.settled s.toDev)) ∧
    (s.flag PWR_STATUS PWR_STATUS_IN_TRANSITION = true → exec .transitionDone s = .next (s.became s.transitionDone) ∧ (s.transitionDone.pwrMode ≠ .safe → s.transitionDone.flag PWR_STATUS PWR_STATUS_CHANGED = true) ∧
      ((∀ i, i < 6 → s.pwrNext.2.testBit i = true → s.sliceOn i = true) → s.transitionDone.flag PWR_STATUS PWR_STATUS_CHANGED = true)) ∧
    (∀ e, s.easyEpoch = some e → s.flag PWR_STATUS PWR_STATUS_EASY_WAIT = true → s.allFree = true → s.publishedTo e = true →
      exec .easyEntry s = .next (s.became s.easyEnter) ∧ s.easyEnter.mem = [] ∧ s.easyEnter.ntu = s.ntu ∧ s.easyEnter.pwrMode = .easy ∧ s.easyEnter.ps PWR_STATUS_STATE = 3) ∧
    (s.easyEpoch = none ∨ s.flag PWR_STATUS PWR_STATUS_EASY_WAIT = false → exec .easyEntry s = .next s)) ∧
  (∀ (s : State) (b : BootIn), (s.pwrMode = .easy →
      exec (.easyExit b) s = .next (s.became ((s.onDev fun d => (d.setPs PWR_STATUS_STATE 0).emit (.pin "PWR_EASY_N" true)).coldReset b true))) ∧
    (s.pwrMode ≠ .easy → exec (.easyExit b) s = .next s)) ∧
  (∀ (s : State) (dw : Nat), s.runs = true → let cap := s.fld PWR_ENVELOPE PWR_ENVELOPE_CAP_W * 10
    let d := (s.toDev.setF PWR_MEASURE PWR_MEASURE_AVG_DW dw).setF PWR_MEASURE PWR_MEASURE_MAX_DW (max dw (s.fld PWR_MEASURE PWR_MEASURE_MAX_DW))
    dw < 65536 → (cap ≠ 0 → cap < dw → s.flag PWR_ENVELOPE PWR_ENVELOPE_CLK_GATE = true → exec (.powerAverage dw) s = .next (s.settled ((d.setPs PWR_STATUS_CAP_EXCEEDED 1).setGateShort true))) ∧
      (cap = 0 ∨ dw < cap → exec (.powerAverage dw) s = .next (s.settled (d.setGateShort false))) ∧ (cap ≠ 0 → dw = cap → exec (.powerAverage dw) s = .next (s.settled d))) ∧
  (∀ (s : State) (sl : Fin 6) (pos : Fin 32), s.runs = true → let g := posKey sl.val pos.val
    exec (.clockGate sl pos) s = .next (s.settled (if s.sliceOn sl.val = true ∧ s.gateCan g = true ∧ s.gated.contains g = false then s.toDev.setGated (s.gated ++ [g]) else s.toDev))) ∧
  ∀ (s : State) (die : Fin 3) (i : Fin 4) (c : Int), s.runs = true → let d := s.toDev.reportOpen (0x0F10 + 4 * die.val + i.val) 5 hubUnit
    (c < 105 → exec (.thermalRead die i c) s = .next (s.settled s.toDev)) ∧ (105 ≤ c → c < 120 → exec (.thermalRead die i c) s = .next (s.settled d)) ∧
    (120 ≤ c → exec (.thermalRead die i c) s = .next (s.settled ((d.emit (.pin "MGT_THERMTRIP_N" false)).setPwrMode .tripped)))

/-- What cold, warm and slice resets come to, what they keep, and what ends them; the life cycle burnt; the wipe of DRAM; functions ready -/
def Obligations.ResetsAndBoot : Prop :=
(∀ (s : State) (b : BootIn), (s.pwrMode ≠ .easy → exec (.coldReset b) s = .next (s.became (s.coldReset b false))) ∧ (s.pwrMode = .easy → exec (.coldReset b) s = .next s) ∧
    (∀ easy, (s.coldReset b easy).mem = [] ∧ (s.coldReset b easy).pending = s.pending) ∧
    (∀ l, s.lifeNext = some l → s.pwrMode ≠ .held →
      (s.lifeRead l = true ∨ l.since + 1000000000 ≤ s.refNs → exec (.lifecycleBurn b) s = .next (s.became ((s.onDev fun d => d.lifeBurn l).coldReset b false))) ∧
      (s.lifeRead l = false → s.refNs < l.since + 1000000000 → exec (.lifecycleBurn b) s = .next s)) ∧
    (s.lifeNext = none → exec (.lifecycleBurn b) s = .next s)) ∧
  (∀ (d : Dev) (x : Straps) (easy : Bool), let c := d.cold x easy
    c.chain = d.chain ∧ c.pubKey = d.pubKey ∧ c.bankSel = d.bankSel ∧ c.bankA = d.bankA ∧ c.bankB = d.bankB ∧ c.defImage = d.defImage ∧ c.bootCount = d.bootCount ∧ c.straps = x ∧ c.thr = [] ∧
    c.keySlot = [] ∧ c.ntu = (if easy then d.ntu else Dev.reset.ntu) ∧ ∀ kv ∈ d.regs, kv.1 = MBX_FUSE.addr ∨ kv.1 = MBX_LIFECYCLE.addr → kv ∈ d.coldRegs easy) ∧
  (∀ (d k : Dev) (b : BootIn) (easy : Bool) (t : Nat), let e := (d.cold b.straps easy).onlyIf (decide (1 ≤ (d.cold b.straps easy).life)) fun d => d.setBootCount (d.bootCount + 1)
    ((e.avsWrite b.avsAck).bist b = (k, some t) → d.boot b easy = k.enterSafe t 0) ∧
    ((e.avsWrite b.avsAck).bist b = (k, none) → d.boot b easy = (((((k.setF KEY_STATUS KEY_STATUS_READY 1).setPs PWR_STATUS_SLICES k.availSlices).ulyarStart).boardOwner).ulyarPlaces b).pwrEval) ∧
    (e.avsWrite true = (e.emit (.avsWrite e.avsFuse)).setVddCmp e.avsFuse ∧ e.avsWrite false = (e.emit (.avsWrite e.avsFuse)).reportOpen 0x0F20 5 hubUnit)) ∧
  (∀ (d : Dev) (t e : Nat), (d.enterSafe t e).pwrMode = .safe ∧ (d.enterSafe t e).fld MBX_BOOT_STATUS MBX_BOOT_STATUS_PHASE = 15 ∧ (d.enterSafe t e).fld PWR_STATUS PWR_STATUS_SLICES = 0 ∧
    (d.enterSafe t e).fld MBX_BOOT_STATUS MBX_BOOT_STATUS_TEST = t % 4096 ∧ (d.enterSafe t e).fld MBX_BOOT_STATUS MBX_BOOT_STATUS_ERROR = e % 256) ∧
  (∀ (s : State) (ns : Nat), let held (d : Dev) : Dev := ((d.setPwrMode .held).emit (.pin "MGT_THERMTRIP_N" true)).emit (.pin "MGT_FAULT_N" true)
    let d := s.toDev.setFreeCtr (s.freeCtr + 1)
    (ns < 1000 → exec (.powerGoodLoss ns) s = .next (s.settled s.toDev)) ∧ (10000 ≤ ns → s.pwrMode ≠ .easy → exec (.powerGoodLoss ns) s = .next (s.settled (held s.toDev))) ∧
    (1000 ≤ ns → ns < 10000 → s.pwrMode ≠ .easy → exec (.powerGoodLoss ns) s = .next (s.settled (if Config.free s.freeCtr % 2 = 1 then held d else d)))) ∧
  (∀ (s : State) (src : Src) (sl : Fin 6), s.runs = true → (s.srcFrozen src = false → exec (.warmReset src) s = .next (s.became s.warmReset) ∧
      exec (.sliceReset src sl) s = .next (s.became (s.sliceResetBy sl.val)) ∧ (s.sliceOn sl.val = false → s.sliceResetBy sl.val = s) ∧
      (s.sliceOn sl.val = true → s.sliceResetBy sl.val = (s.sliceReset sl.val).onDev fun d => d.setBitF PWR_RESET_STATUS PWR_RESET_STATUS_SLICE_BUSY sl.val true)) ∧
    (s.srcFrozen src = true → exec (.warmReset src) s = .next (s.settled (s.inboundDiscard src)) ∧ exec (.sliceReset src sl) s = .next (s.settled (s.inboundDiscard src))) ∧
    ((s.fld PWR_RESET_STATUS PWR_RESET_STATUS_SLICE_BUSY).testBit sl.val = true → exec (.sliceResetDone sl) s = .next (s.settled
      ((s.setBitF PWR_RESET_STATUS PWR_RESET_STATUS_SLICE_BUSY sl.val false).setBitF PWR_RESET_STATUS PWR_RESET_STATUS_SLICE_DONE sl.val true))) ∧
    ((s.fld PWR_RESET_STATUS PWR_RESET_STATUS_SLICE_BUSY).testBit sl.val = false → exec (.sliceResetDone sl) s = .next (s.settled s.toDev))) ∧
  (∀ s : State, (∀ c, c ∈ s.warmReset.mem ↔ c ∈ s.mem ∧ c.1 < 0xFF0000000000) ∧ s.warmReset.ntu = s.ntu ∧ s.warmReset.ras = s.ras ∧ s.warmReset.pwrMode = .warm ∧ s.warmReset.thr = [] ∧
    (s.pwrMode = .warm → exec .warmResetDone s = .next (s.settled s.warmDone)) ∧ (s.pwrMode ≠ .warm → exec .warmResetDone s = .next s)) ∧
  ∀ (s : State) (g : Fin 6144), s.runs = true → (g.val = s.wipeFrom → exec (.dramWipeDone g) s = .next (s.settled (s.setWipeFrom (g.val + 1)).sealReplies)) ∧
    (g.val ≠ s.wipeFrom → exec (.dramWipeDone g) s = .next (s.settled s.toDev)) ∧
    exec .functionReady s = .next (s.settled (if s.bootReady then s.toDev.each ((List.range 4).filter s.pfPresent) fun d n => d.updPf n fun p => { p with ready := true } else s.toDev))
end

