-- ==== Sys2Proof/Laws/Issue.lean ====
section
/-! SUPPORT. The issue of an instruction, said once: what it answers when its thread issues it, and that it always answers a next state. -/
namespace Sys2Proof.Machine

/-- An instruction that its thread issues has its meaning's effect, or leaves all as it was while its thread is not ready. -/
theorem issue_eq (s : State) (th : ThId) (pred : Fin 8) (pn always : Bool) (m : Meaning) (h : s.fetches th)
    (h2 : ((s.thrAt (thKey th)).pred pred.val != pn || always) = true) :
    issue th pred pn always s m = match m (thKey th) (s.began th) with | some t => .next (s.became t) | none => .next (s.settled s.toDev) := by
  obtain ⟨h1, h3, h4, h7, h5, h6⟩ := h
  simp only [issue, h3, h5, h6, h2, fin_eq_of_runs h1]
  simp only [State.began, finM, h1, Dev.issueEnds, h4, h7, State.became]
  rfl

/-- An instruction that its predicate lets execute has its meaning's effect. -/
theorem issue_some {s : State} {th : ThId} {pred : Fin 8} {pn : Bool} {m : Meaning} {t : State} (h : s.issues th pred pn)
    (h2 : m (thKey th) (s.began th) = some t) : issue th pred pn false s m = .next (s.became t) := by
  rw [issue_eq s th pred pn false m h.1 (by simp [h.2]), h2]

/-- An instruction whose predicate does not let it execute only passes (07 R176). -/
theorem issue_skipped {s : State} {th : ThId} {pred : Fin 8} {pn : Bool} (m : Meaning) (h : s.fetches th)
    (h2 : ((s.thrAt (thKey th)).pred pred.val != pn) = false) : issue th pred pn false s m = .next (s.became ((s.began th).goes th id)) := by
  obtain ⟨h1, h3, h4, h7, h5, h6⟩ := h
  simp only [issue, h3, h5, h6, h2]
  simp only [State.began, finM, h1, Dev.issueEnds, h4, h7, State.became]
  rfl

/-- Whatever the thread's state, an instruction answers a next state: the one before, settled or not, or one that differs in the device and in memory alone. -/
theorem issue_next (th : ThId) (pred : Fin 8) (pn always : Bool) (s : State) (m : Meaning) : ∃ t, issue th pred pn always s m = .next t ∧ t.pending = s.pending := by
  have hf : ∀ d, ∃ t, fin s d = .next t ∧ t.pending = s.pending := fun d => by
    rcases fin_cases s d with h | h <;> exact ⟨_, h, rfl⟩
  have hm : ∀ d x, ∃ t, finM s d x = .next t ∧ t.pending = s.pending := fun d x => by
    rcases finM_cases s d x with h | h <;> exact ⟨_, h, rfl⟩
  unfold issue
  simp only
  split
  · exact hf _
  · split
    · exact hm _ _
    · split
      · exact hm _ _
      · split
        · split
          · exact hm _ _
          · exact hf _
        · exact hm _ _

end Sys2Proof.Machine
end

