-- ==== Sys2Proof/Laws/Mem.lean ====
section
/-! SUPPORT. The laws of sparse tables and of byte memory: what a write leaves readable, and that every operation keeps the canonical form. -/
namespace Sys2Proof.Machine

/-! Sparse tables. -/

/-- Every key of a table that rises from `lo` is above `lo`. -/
theorem Tab.risesFrom_lt {α : Type} : ∀ (t : Tab α) (lo : Nat), Tab.risesFrom lo t = true → ∀ c ∈ t, lo < c.1
  | [], _, _, _, h => by cases h
  | (k, v) :: t, lo, h, c, hc => by
    simp only [Tab.risesFrom, Bool.and_eq_true, decide_eq_true_eq] at h
    rcases List.mem_cons.1 hc with rfl | hc
    · exact h.1
    · exact Nat.lt_trans h.1 (Tab.risesFrom_lt t k h.2 c hc)

/-- A lower bound may be lowered. -/
theorem Tab.risesFrom_mono {α : Type} : ∀ (t : Tab α) (lo lo' : Nat), lo' ≤ lo → Tab.risesFrom lo t = true → Tab.risesFrom lo' t = true
  | [], _, _, _, _ => rfl
  | (k, v) :: t, lo, lo', h, ht => by
    simp only [Tab.risesFrom, Bool.and_eq_true, decide_eq_true_eq] at ht ⊢
    exact ⟨by omega, ht.2⟩

/-- A table whose keys rise from some bound rises. -/
theorem Tab.rising_of_risesFrom {α : Type} (t : Tab α) (lo : Nat) (h : Tab.risesFrom lo t = true) : Tab.rising t = true := by
  cases t with
  | nil => rfl
  | cons c t => simp only [Tab.risesFrom, Bool.and_eq_true] at h; exact h.2

/-- Listing a value keeps a rising table rising, from any bound below its key. -/
theorem Tab.risesFrom_put {α : Type} : ∀ (t : Tab α) (lo n : Nat) (v : α), lo < n → Tab.risesFrom lo t = true → Tab.risesFrom lo (Tab.put t n v) = true
  | [], lo, n, v, hn, _ => by simp [Tab.put, Tab.risesFrom, hn]
  | (k, w) :: t, lo, n, v, hn, h => by
    simp only [Tab.risesFrom, Bool.and_eq_true, decide_eq_true_eq] at h
    unfold Tab.put
    split
    · subst_vars; simp [Tab.risesFrom, h.2, hn]
    · split
      · simp [Tab.risesFrom, h.2, hn, *]
      · simp only [Tab.risesFrom, Bool.and_eq_true, decide_eq_true_eq]
        exact ⟨h.1, Tab.risesFrom_put t k n v (by omega) h.2⟩

/-- Listing a value keeps a rising table rising. -/
theorem Tab.rising_put {α : Type} (t : Tab α) (n : Nat) (v : α) (h : Tab.rising t = true) : Tab.rising (Tab.put t n v) = true := by
  cases t with
  | nil => rfl
  | cons c t =>
    obtain ⟨k, w⟩ := c
    simp only [Tab.rising] at h
    unfold Tab.put
    split
    · subst_vars; exact h
    · split
      · simp [Tab.rising, Tab.risesFrom, h, *]
      · exact Tab.risesFrom_put t k n v (by omega) h

/-- Taking keys out keeps a rising table rising. -/
theorem Tab.risesFrom_filter {α : Type} (p : Nat × α → Bool) : ∀ (t : Tab α) (lo : Nat), Tab.risesFrom lo t = true → Tab.risesFrom lo (t.filter p) = true
  | [], _, _ => rfl
  | (k, w) :: t, lo, h => by
    simp only [Tab.risesFrom, Bool.and_eq_true, decide_eq_true_eq] at h
    rw [List.filter_cons]
    split
    · simp only [Tab.risesFrom, Bool.and_eq_true, decide_eq_true_eq]
      exact ⟨h.1, Tab.risesFrom_filter p t k h.2⟩
    · exact Tab.risesFrom_filter p t lo (Tab.risesFrom_mono t k lo (by omega) h.2)

/-- Taking keys out keeps a rising table rising. -/
theorem Tab.rising_filter {α : Type} (p : Nat × α → Bool) (t : Tab α) (h : Tab.rising t = true) : Tab.rising (t.filter p) = true := by
  cases t with
  | nil => rfl
  | cons c t =>
    obtain ⟨k, w⟩ := c
    simp only [Tab.rising] at h
    rw [List.filter_cons]
    split
    · exact Tab.risesFrom_filter p t k h
    · exact Tab.rising_of_risesFrom _ _ (Tab.risesFrom_filter p t k h)

/-- Deletion is taking one key out of a rising table. -/
theorem Tab.del_eq_filter {α : Type} : ∀ (t : Tab α) (n : Nat), Tab.rising t = true → Tab.del t n = t.filter fun c => c.1 != n
  | [], _, _ => rfl
  | (k, w) :: t, n, h => by
    simp only [Tab.rising] at h
    have hk := Tab.risesFrom_lt t k h
    unfold Tab.del
    split
    · subst_vars
      rw [List.filter_cons_of_neg (by simp)]
      exact (List.filter_eq_self.2 fun c hc => by have := hk c hc; simp; omega).symm
    · split
      · rw [List.filter_eq_self.2]
        intro c hc
        rcases List.mem_cons.1 hc with rfl | hc
        · simp; omega
        · have := hk c hc; simp; omega
      · rw [List.filter_cons_of_pos (by simp; omega), Tab.del_eq_filter t n (Tab.rising_of_risesFrom t k h)]

/-- What a table lists after `put`. -/
theorem Tab.mem_put {α : Type} (c : Nat × α) : ∀ (t : Tab α) (n : Nat) (v : α), c ∈ Tab.put t n v → c = (n, v) ∨ c ∈ t
  | [], n, v, h => by simpa [Tab.put] using h
  | (k, w) :: t, n, v, h => by
    unfold Tab.put at h
    split at h
    · rcases List.mem_cons.1 h with h | h
      · exact .inl h
      · exact .inr (List.mem_cons_of_mem _ h)
    · split at h
      · rcases List.mem_cons.1 h with h | h
        · exact .inl h
        · exact .inr h
      · rcases List.mem_cons.1 h with h | h
        · exact .inr (h ▸ List.mem_cons_self)
        · rcases Tab.mem_put c t n v h with h | h
          · exact .inl h
          · exact .inr (List.mem_cons_of_mem _ h)

/-- What `put` lists is read back. -/
@[simp] theorem Tab.look_put_same {α : Type} : ∀ (t : Tab α) (n : Nat) (v : α), (Tab.put t n v).look n = some v
  | [], n, v => by simp [Tab.put, Tab.look]
  | (k, w) :: t, n, v => by
    unfold Tab.put
    split
    · simp [Tab.look]
    · split
      · simp [Tab.look]
      · simp only [Tab.look, *, if_false]; exact Tab.look_put_same t n v

/-- `put` leaves every other key. -/
theorem Tab.look_put_other {α : Type} : ∀ (t : Tab α) (n m : Nat) (v : α), m ≠ n → (Tab.put t n v).look m = t.look m
  | [], n, m, v, h => by simp [Tab.put, Tab.look, h]
  | (k, w) :: t, n, m, v, h => by
    unfold Tab.put
    split
    · subst_vars; simp [Tab.look, h]
    · split
      · rename_i h1 h2
        rw [Tab.look, if_neg h]
        split
        · simp only [Tab.look]
          rw [if_neg (by omega), if_pos (by omega)]
        · rfl
      · simp only [Tab.look]
        split
        · rfl
        · split
          · rfl
          · exact Tab.look_put_other t n m v h

/-- What `put` lists is read back, whatever an unlisted key reads as. -/
@[simp] theorem Tab.lookD_put_same {α : Type} (t : Tab α) (n : Nat) (v d : α) : (Tab.put t n v).lookD n d = v := by simp [Tab.lookD]

/-- `put` leaves the reading of every other key. -/
theorem Tab.lookD_put_other {α : Type} (t : Tab α) (n m : Nat) (v d : α) (h : m ≠ n) : (Tab.put t n v).lookD m d = t.lookD m d := by
  simp [Tab.lookD, Tab.look_put_other t n m v h]

/-- A key below a rising table's bound is not listed. -/
theorem Tab.look_none_of_risesFrom {α : Type} : ∀ (t : Tab α) (lo n : Nat), Tab.risesFrom lo t = true → n ≤ lo → t.look n = none
  | [], _, _, _, _ => rfl
  | (k, w) :: t, lo, n, h, hn => by
    simp only [Tab.risesFrom, Bool.and_eq_true, decide_eq_true_eq] at h
    simp only [Tab.look]
    rw [if_neg (by omega), if_pos (by omega)]

/-- A key that a filter takes out is not listed; every other key reads as before. -/
theorem Tab.look_filter {α : Type} (p : Nat → Bool) : ∀ (t : Tab α) (n : Nat), Tab.rising t = true →
    Tab.look (t.filter fun c => p c.1) n = if p n then t.look n else none
  | [], n, _ => by simp [Tab.look]
  | (k, w) :: t, n, h => by
    simp only [Tab.rising] at h
    have ih := Tab.look_filter p t n (Tab.rising_of_risesFrom t k h)
    have hf := Tab.risesFrom_filter (fun c => p c.1) t k h
    rw [List.filter_cons]
    by_cases hk : p k
    · simp only [hk, if_true, Tab.look]
      split
      · subst_vars; simp [hk]
      · split
        · split <;> rfl
        · exact ih
    · simp only [hk]
      by_cases hn : n = k
      · subst hn; simp only [hk, Bool.false_eq_true, if_false]
        exact Tab.look_none_of_risesFrom _ _ _ hf (Nat.le_refl _)
      · simp only [Bool.false_eq_true, if_false, Tab.look, if_neg hn]
        rw [ih]
        split
        · split
          · rename_i h1 h2; exact Tab.look_none_of_risesFrom _ _ _ h (by omega)
          · rfl
        · rfl

/-! Byte memory. -/

/-- Empty memory is canonical. -/
theorem Memory.wf_nil : Memory.wf [] = true := rfl

/-- Taking cells out keeps the form. -/
theorem Memory.wf_filter (m : Memory) (p : Host.Cell → Bool) (h : m.wf = true) : Memory.wf (m.filter p) = true := by
  simp only [Memory.wf, Bool.and_eq_true, List.all_eq_true] at h ⊢
  exact ⟨Tab.rising_filter p m h.1, fun c hc => h.2 c (List.mem_filter.1 hc).1⟩

/-- A write keeps the form. -/
theorem Memory.wf_write (m : Memory) (a : Nat) (b : Byte) (h : m.wf = true) : (m.write a b).wf = true := by
  unfold Memory.write
  split
  · rw [Tab.del_eq_filter m a (by simp only [Memory.wf, Bool.and_eq_true] at h; exact h.1)]
    exact Memory.wf_filter m _ h
  · simp only [Memory.wf, Bool.and_eq_true, List.all_eq_true] at h ⊢
    refine ⟨Tab.rising_put m a b h.1, fun c hc => ?_⟩
    rcases Tab.mem_put c m a b hc with rfl | hc
    · simpa using ‹¬b = 0›
    · exact h.2 c hc

/-- A write of a byte string keeps the form. -/
theorem Memory.wf_writeN : ∀ (bs : List Byte) (m : Memory) (a : Nat), m.wf = true → (m.writeN a bs).wf = true
  | [], _, _, h => h
  | b :: bs, m, a, h => Memory.wf_writeN bs (m.write a b) (a + 1) (Memory.wf_write m a b h)

/-- A little-endian write keeps the form. -/
theorem Memory.wf_writeLE (m : Memory) (a n v : Nat) (h : m.wf = true) : (m.writeLE a n v).wf = true := Memory.wf_writeN _ m a h

/-- Zeroing keeps the form. -/
theorem Memory.wf_zero (m : Memory) (a n : Nat) (h : m.wf = true) : (m.zero a n).wf = true := Memory.wf_filter m _ h

/-- Copying keeps the form. -/
theorem Memory.wf_copy (m : Memory) (a b n : Nat) (h : m.wf = true) : (m.copy a b n).wf = true := by
  unfold Memory.copy
  generalize m.filter _ = l
  have : ∀ (l : List Host.Cell) (m : Memory), m.wf = true → (l.foldl (fun m c => m.write (c.1 - a + b) c.2) m).wf = true := by
    intro l
    induction l with
    | nil => exact fun _ h => h
    | cons c l ih => exact fun m h => ih _ (Memory.wf_write m _ _ h)
  exact this l _ (Memory.wf_zero m b n h)

/-- A byte just written is read back. -/
theorem Memory.read_write_same (m : Memory) (a : Nat) (b : Byte) (h : m.wf = true) : (m.write a b).read a = b := by
  unfold Memory.write Memory.read
  split
  · have hr : Tab.rising m = true := by simp only [Memory.wf, Bool.and_eq_true] at h; exact h.1
    rw [Tab.del_eq_filter m a hr, Tab.lookD, Tab.look_filter (fun k => k != a) m a hr]
    simp [*]
  · simp

/-- A write leaves every other byte. -/
theorem Memory.read_write_other (m : Memory) (a x : Nat) (b : Byte) (h : m.wf = true) (hx : x ≠ a) : (m.write a b).read x = m.read x := by
  unfold Memory.write Memory.read
  split
  · have hr : Tab.rising m = true := by simp only [Memory.wf, Bool.and_eq_true] at h; exact h.1
    rw [Tab.del_eq_filter m a hr, Tab.lookD, Tab.look_filter (fun k => k != a) m x hr, Tab.lookD]
    simp [hx]
  · exact Tab.lookD_put_other m a x b 0 hx

/-- A write of a byte string leaves every byte outside it. -/
theorem Memory.read_writeN_other : ∀ (bs : List Byte) (m : Memory) (a x : Nat), m.wf = true → (x < a ∨ a + bs.length ≤ x) → (m.writeN a bs).read x = m.read x
  | [], _, _, _, _, _ => rfl
  | b :: bs, m, a, x, h, hx => by
    simp only [List.length_cons] at hx
    rw [Memory.writeN, Memory.read_writeN_other bs _ (a + 1) x (Memory.wf_write m a b h) (by omega), Memory.read_write_other m a x b h (by omega)]

end Sys2Proof.Machine
end

