-- ==== Sys2Proof/Laws/State.lean ====
section
/-! SUPPORT. What each replacement of one unit of the device does to each unit: true by rfl, for simp. -/
namespace Sys2Proof.Machine

@[simp] theorem Dev.setRegs_regs (d : Dev) (x : Tab Word) : (d.setRegs x).regs = x := rfl
@[simp] theorem Dev.setRegs_cnt (d : Dev) (x : Tab Word) : (d.setRegs x).cnt = d.cnt := rfl
@[simp] theorem Dev.setRegs_out (d : Dev) (x : Tab Word) : (d.setRegs x).out = d.out := rfl
@[simp] theorem Dev.setRegs_freeCtr (d : Dev) (x : Tab Word) : (d.setRegs x).freeCtr = d.freeCtr := rfl
@[simp] theorem Dev.setRegs_due (d : Dev) (x : Tab Word) : (d.setRegs x).due = d.due := rfl
@[simp] theorem Dev.setRegs_snapWait (d : Dev) (x : Tab Word) : (d.setRegs x).snapWait = d.snapWait := rfl
@[simp] theorem Dev.setRegs_ntu (d : Dev) (x : Tab Word) : (d.setRegs x).ntu = d.ntu := rfl
@[simp] theorem Dev.setRegs_img (d : Dev) (x : Tab Word) : (d.setRegs x).img = d.img := rfl
@[simp] theorem Dev.setRegs_mac (d : Dev) (x : Tab Word) : (d.setRegs x).mac = d.mac := rfl
@[simp] theorem Dev.setRegs_frm (d : Dev) (x : Tab Word) : (d.setRegs x).frm = d.frm := rfl
@[simp] theorem Dev.setRegs_cls (d : Dev) (x : Tab Word) : (d.setRegs x).cls = d.cls := rfl
@[simp] theorem Dev.setRegs_eng (d : Dev) (x : Tab Word) : (d.setRegs x).eng = d.eng := rfl
@[simp] theorem Dev.setRegs_tm (d : Dev) (x : Tab Word) : (d.setRegs x).tm = d.tm := rfl
@[simp] theorem Dev.setRegs_key (d : Dev) (x : Tab Word) : (d.setRegs x).key = d.key := rfl
@[simp] theorem Dev.setRegs_hif (d : Dev) (x : Tab Word) : (d.setRegs x).hif = d.hif := rfl
@[simp] theorem Dev.setRegs_rgm (d : Dev) (x : Tab Word) : (d.setRegs x).rgm = d.rgm := rfl
@[simp] theorem Dev.setRegs_dma (d : Dev) (x : Tab Word) : (d.setRegs x).dma = d.dma := rfl
@[simp] theorem Dev.setRegs_mtr (d : Dev) (x : Tab Word) : (d.setRegs x).mtr = d.mtr := rfl
@[simp] theorem Dev.setRegs_mgt (d : Dev) (x : Tab Word) : (d.setRegs x).mgt = d.mgt := rfl
@[simp] theorem Dev.setRegs_rel (d : Dev) (x : Tab Word) : (d.setRegs x).rel = d.rel := rfl
@[simp] theorem Dev.setRegs_pwr (d : Dev) (x : Tab Word) : (d.setRegs x).pwr = d.pwr := rfl
@[simp] theorem Dev.setCnt_regs (d : Dev) (x : Tab Nat) : (d.setCnt x).regs = d.regs := rfl
@[simp] theorem Dev.setCnt_cnt (d : Dev) (x : Tab Nat) : (d.setCnt x).cnt = x := rfl
@[simp] theorem Dev.setCnt_out (d : Dev) (x : Tab Nat) : (d.setCnt x).out = d.out := rfl
@[simp] theorem Dev.setCnt_freeCtr (d : Dev) (x : Tab Nat) : (d.setCnt x).freeCtr = d.freeCtr := rfl
@[simp] theorem Dev.setCnt_due (d : Dev) (x : Tab Nat) : (d.setCnt x).due = d.due := rfl
@[simp] theorem Dev.setCnt_snapWait (d : Dev) (x : Tab Nat) : (d.setCnt x).snapWait = d.snapWait := rfl
@[simp] theorem Dev.setCnt_ntu (d : Dev) (x : Tab Nat) : (d.setCnt x).ntu = d.ntu := rfl
@[simp] theorem Dev.setCnt_img (d : Dev) (x : Tab Nat) : (d.setCnt x).img = d.img := rfl
@[simp] theorem Dev.setCnt_mac (d : Dev) (x : Tab Nat) : (d.setCnt x).mac = d.mac := rfl
@[simp] theorem Dev.setCnt_frm (d : Dev) (x : Tab Nat) : (d.setCnt x).frm = d.frm := rfl
@[simp] theorem Dev.setCnt_cls (d : Dev) (x : Tab Nat) : (d.setCnt x).cls = d.cls := rfl
@[simp] theorem Dev.setCnt_eng (d : Dev) (x : Tab Nat) : (d.setCnt x).eng = d.eng := rfl
@[simp] theorem Dev.setCnt_tm (d : Dev) (x : Tab Nat) : (d.setCnt x).tm = d.tm := rfl
@[simp] theorem Dev.setCnt_key (d : Dev) (x : Tab Nat) : (d.setCnt x).key = d.key := rfl
@[simp] theorem Dev.setCnt_hif (d : Dev) (x : Tab Nat) : (d.setCnt x).hif = d.hif := rfl
@[simp] theorem Dev.setCnt_rgm (d : Dev) (x : Tab Nat) : (d.setCnt x).rgm = d.rgm := rfl
@[simp] theorem Dev.setCnt_dma (d : Dev) (x : Tab Nat) : (d.setCnt x).dma = d.dma := rfl
@[simp] theorem Dev.setCnt_mtr (d : Dev) (x : Tab Nat) : (d.setCnt x).mtr = d.mtr := rfl
@[simp] theorem Dev.setCnt_mgt (d : Dev) (x : Tab Nat) : (d.setCnt x).mgt = d.mgt := rfl
@[simp] theorem Dev.setCnt_rel (d : Dev) (x : Tab Nat) : (d.setCnt x).rel = d.rel := rfl
@[simp] theorem Dev.setCnt_pwr (d : Dev) (x : Tab Nat) : (d.setCnt x).pwr = d.pwr := rfl
@[simp] theorem Dev.setOut_regs (d : Dev) (x : List Emit) : (d.setOut x).regs = d.regs := rfl
@[simp] theorem Dev.setOut_cnt (d : Dev) (x : List Emit) : (d.setOut x).cnt = d.cnt := rfl
@[simp] theorem Dev.setOut_out (d : Dev) (x : List Emit) : (d.setOut x).out = x := rfl
@[simp] theorem Dev.setOut_freeCtr (d : Dev) (x : List Emit) : (d.setOut x).freeCtr = d.freeCtr := rfl
@[simp] theorem Dev.setOut_due (d : Dev) (x : List Emit) : (d.setOut x).due = d.due := rfl
@[simp] theorem Dev.setOut_snapWait (d : Dev) (x : List Emit) : (d.setOut x).snapWait = d.snapWait := rfl
@[simp] theorem Dev.setOut_ntu (d : Dev) (x : List Emit) : (d.setOut x).ntu = d.ntu := rfl
@[simp] theorem Dev.setOut_img (d : Dev) (x : List Emit) : (d.setOut x).img = d.img := rfl
@[simp] theorem Dev.setOut_mac (d : Dev) (x : List Emit) : (d.setOut x).mac = d.mac := rfl
@[simp] theorem Dev.setOut_frm (d : Dev) (x : List Emit) : (d.setOut x).frm = d.frm := rfl
@[simp] theorem Dev.setOut_cls (d : Dev) (x : List Emit) : (d.setOut x).cls = d.cls := rfl
@[simp] theorem Dev.setOut_eng (d : Dev) (x : List Emit) : (d.setOut x).eng = d.eng := rfl
@[simp] theorem Dev.setOut_tm (d : Dev) (x : List Emit) : (d.setOut x).tm = d.tm := rfl
@[simp] theorem Dev.setOut_key (d : Dev) (x : List Emit) : (d.setOut x).key = d.key := rfl
@[simp] theorem Dev.setOut_hif (d : Dev) (x : List Emit) : (d.setOut x).hif = d.hif := rfl
@[simp] theorem Dev.setOut_rgm (d : Dev) (x : List Emit) : (d.setOut x).rgm = d.rgm := rfl
@[simp] theorem Dev.setOut_dma (d : Dev) (x : List Emit) : (d.setOut x).dma = d.dma := rfl
@[simp] theorem Dev.setOut_mtr (d : Dev) (x : List Emit) : (d.setOut x).mtr = d.mtr := rfl
@[simp] theorem Dev.setOut_mgt (d : Dev) (x : List Emit) : (d.setOut x).mgt = d.mgt := rfl
@[simp] theorem Dev.setOut_rel (d : Dev) (x : List Emit) : (d.setOut x).rel = d.rel := rfl
@[simp] theorem Dev.setOut_pwr (d : Dev) (x : List Emit) : (d.setOut x).pwr = d.pwr := rfl
@[simp] theorem Dev.setFreeCtr_regs (d : Dev) (x : Nat) : (d.setFreeCtr x).regs = d.regs := rfl
@[simp] theorem Dev.setFreeCtr_cnt (d : Dev) (x : Nat) : (d.setFreeCtr x).cnt = d.cnt := rfl
@[simp] theorem Dev.setFreeCtr_out (d : Dev) (x : Nat) : (d.setFreeCtr x).out = d.out := rfl
@[simp] theorem Dev.setFreeCtr_freeCtr (d : Dev) (x : Nat) : (d.setFreeCtr x).freeCtr = x := rfl
@[simp] theorem Dev.setFreeCtr_due (d : Dev) (x : Nat) : (d.setFreeCtr x).due = d.due := rfl
@[simp] theorem Dev.setFreeCtr_snapWait (d : Dev) (x : Nat) : (d.setFreeCtr x).snapWait = d.snapWait := rfl
@[simp] theorem Dev.setFreeCtr_ntu (d : Dev) (x : Nat) : (d.setFreeCtr x).ntu = d.ntu := rfl
@[simp] theorem Dev.setFreeCtr_img (d : Dev) (x : Nat) : (d.setFreeCtr x).img = d.img := rfl
@[simp] theorem Dev.setFreeCtr_mac (d : Dev) (x : Nat) : (d.setFreeCtr x).mac = d.mac := rfl
@[simp] theorem Dev.setFreeCtr_frm (d : Dev) (x : Nat) : (d.setFreeCtr x).frm = d.frm := rfl
@[simp] theorem Dev.setFreeCtr_cls (d : Dev) (x : Nat) : (d.setFreeCtr x).cls = d.cls := rfl
@[simp] theorem Dev.setFreeCtr_eng (d : Dev) (x : Nat) : (d.setFreeCtr x).eng = d.eng := rfl
@[simp] theorem Dev.setFreeCtr_tm (d : Dev) (x : Nat) : (d.setFreeCtr x).tm = d.tm := rfl
@[simp] theorem Dev.setFreeCtr_key (d : Dev) (x : Nat) : (d.setFreeCtr x).key = d.key := rfl
@[simp] theorem Dev.setFreeCtr_hif (d : Dev) (x : Nat) : (d.setFreeCtr x).hif = d.hif := rfl
@[simp] theorem Dev.setFreeCtr_rgm (d : Dev) (x : Nat) : (d.setFreeCtr x).rgm = d.rgm := rfl
@[simp] theorem Dev.setFreeCtr_dma (d : Dev) (x : Nat) : (d.setFreeCtr x).dma = d.dma := rfl
@[simp] theorem Dev.setFreeCtr_mtr (d : Dev) (x : Nat) : (d.setFreeCtr x).mtr = d.mtr := rfl
@[simp] theorem Dev.setFreeCtr_mgt (d : Dev) (x : Nat) : (d.setFreeCtr x).mgt = d.mgt := rfl
@[simp] theorem Dev.setFreeCtr_rel (d : Dev) (x : Nat) : (d.setFreeCtr x).rel = d.rel := rfl
@[simp] theorem Dev.setFreeCtr_pwr (d : Dev) (x : Nat) : (d.setFreeCtr x).pwr = d.pwr := rfl
@[simp] theorem Dev.setDue_regs (d : Dev) (x : List Due) : (d.setDue x).regs = d.regs := rfl
@[simp] theorem Dev.setDue_cnt (d : Dev) (x : List Due) : (d.setDue x).cnt = d.cnt := rfl
@[simp] theorem Dev.setDue_out (d : Dev) (x : List Due) : (d.setDue x).out = d.out := rfl
@[simp] theorem Dev.setDue_freeCtr (d : Dev) (x : List Due) : (d.setDue x).freeCtr = d.freeCtr := rfl
@[simp] theorem Dev.setDue_due (d : Dev) (x : List Due) : (d.setDue x).due = x := rfl
@[simp] theorem Dev.setDue_snapWait (d : Dev) (x : List Due) : (d.setDue x).snapWait = d.snapWait := rfl
@[simp] theorem Dev.setDue_ntu (d : Dev) (x : List Due) : (d.setDue x).ntu = d.ntu := rfl
@[simp] theorem Dev.setDue_img (d : Dev) (x : List Due) : (d.setDue x).img = d.img := rfl
@[simp] theorem Dev.setDue_mac (d : Dev) (x : List Due) : (d.setDue x).mac = d.mac := rfl
@[simp] theorem Dev.setDue_frm (d : Dev) (x : List Due) : (d.setDue x).frm = d.frm := rfl
@[simp] theorem Dev.setDue_cls (d : Dev) (x : List Due) : (d.setDue x).cls = d.cls := rfl
@[simp] theorem Dev.setDue_eng (d : Dev) (x : List Due) : (d.setDue x).eng = d.eng := rfl
@[simp] theorem Dev.setDue_tm (d : Dev) (x : List Due) : (d.setDue x).tm = d.tm := rfl
@[simp] theorem Dev.setDue_key (d : Dev) (x : List Due) : (d.setDue x).key = d.key := rfl
@[simp] theorem Dev.setDue_hif (d : Dev) (x : List Due) : (d.setDue x).hif = d.hif := rfl
@[simp] theorem Dev.setDue_rgm (d : Dev) (x : List Due) : (d.setDue x).rgm = d.rgm := rfl
@[simp] theorem Dev.setDue_dma (d : Dev) (x : List Due) : (d.setDue x).dma = d.dma := rfl
@[simp] theorem Dev.setDue_mtr (d : Dev) (x : List Due) : (d.setDue x).mtr = d.mtr := rfl
@[simp] theorem Dev.setDue_mgt (d : Dev) (x : List Due) : (d.setDue x).mgt = d.mgt := rfl
@[simp] theorem Dev.setDue_rel (d : Dev) (x : List Due) : (d.setDue x).rel = d.rel := rfl
@[simp] theorem Dev.setDue_pwr (d : Dev) (x : List Due) : (d.setDue x).pwr = d.pwr := rfl
@[simp] theorem Dev.setSnapWait_regs (d : Dev) (x : List SnapSel) : (d.setSnapWait x).regs = d.regs := rfl
@[simp] theorem Dev.setSnapWait_cnt (d : Dev) (x : List SnapSel) : (d.setSnapWait x).cnt = d.cnt := rfl
@[simp] theorem Dev.setSnapWait_out (d : Dev) (x : List SnapSel) : (d.setSnapWait x).out = d.out := rfl
@[simp] theorem Dev.setSnapWait_freeCtr (d : Dev) (x : List SnapSel) : (d.setSnapWait x).freeCtr = d.freeCtr := rfl
@[simp] theorem Dev.setSnapWait_due (d : Dev) (x : List SnapSel) : (d.setSnapWait x).due = d.due := rfl
@[simp] theorem Dev.setSnapWait_snapWait (d : Dev) (x : List SnapSel) : (d.setSnapWait x).snapWait = x := rfl
@[simp] theorem Dev.setSnapWait_ntu (d : Dev) (x : List SnapSel) : (d.setSnapWait x).ntu = d.ntu := rfl
@[simp] theorem Dev.setSnapWait_img (d : Dev) (x : List SnapSel) : (d.setSnapWait x).img = d.img := rfl
@[simp] theorem Dev.setSnapWait_mac (d : Dev) (x : List SnapSel) : (d.setSnapWait x).mac = d.mac := rfl
@[simp] theorem Dev.setSnapWait_frm (d : Dev) (x : List SnapSel) : (d.setSnapWait x).frm = d.frm := rfl
@[simp] theorem Dev.setSnapWait_cls (d : Dev) (x : List SnapSel) : (d.setSnapWait x).cls = d.cls := rfl
@[simp] theorem Dev.setSnapWait_eng (d : Dev) (x : List SnapSel) : (d.setSnapWait x).eng = d.eng := rfl
@[simp] theorem Dev.setSnapWait_tm (d : Dev) (x : List SnapSel) : (d.setSnapWait x).tm = d.tm := rfl
@[simp] theorem Dev.setSnapWait_key (d : Dev) (x : List SnapSel) : (d.setSnapWait x).key = d.key := rfl
@[simp] theorem Dev.setSnapWait_hif (d : Dev) (x : List SnapSel) : (d.setSnapWait x).hif = d.hif := rfl
@[simp] theorem Dev.setSnapWait_rgm (d : Dev) (x : List SnapSel) : (d.setSnapWait x).rgm = d.rgm := rfl
@[simp] theorem Dev.setSnapWait_dma (d : Dev) (x : List SnapSel) : (d.setSnapWait x).dma = d.dma := rfl
@[simp] theorem Dev.setSnapWait_mtr (d : Dev) (x : List SnapSel) : (d.setSnapWait x).mtr = d.mtr := rfl
@[simp] theorem Dev.setSnapWait_mgt (d : Dev) (x : List SnapSel) : (d.setSnapWait x).mgt = d.mgt := rfl
@[simp] theorem Dev.setSnapWait_rel (d : Dev) (x : List SnapSel) : (d.setSnapWait x).rel = d.rel := rfl
@[simp] theorem Dev.setSnapWait_pwr (d : Dev) (x : List SnapSel) : (d.setSnapWait x).pwr = d.pwr := rfl
@[simp] theorem Dev.setNtu_regs (d : Dev) (x : Ntu) : (d.setNtu x).regs = d.regs := rfl
@[simp] theorem Dev.setNtu_cnt (d : Dev) (x : Ntu) : (d.setNtu x).cnt = d.cnt := rfl
@[simp] theorem Dev.setNtu_out (d : Dev) (x : Ntu) : (d.setNtu x).out = d.out := rfl
@[simp] theorem Dev.setNtu_freeCtr (d : Dev) (x : Ntu) : (d.setNtu x).freeCtr = d.freeCtr := rfl
@[simp] theorem Dev.setNtu_due (d : Dev) (x : Ntu) : (d.setNtu x).due = d.due := rfl
@[simp] theorem Dev.setNtu_snapWait (d : Dev) (x : Ntu) : (d.setNtu x).snapWait = d.snapWait := rfl
@[simp] theorem Dev.setNtu_ntu (d : Dev) (x : Ntu) : (d.setNtu x).ntu = x := rfl
@[simp] theorem Dev.setNtu_img (d : Dev) (x : Ntu) : (d.setNtu x).img = d.img := rfl
@[simp] theorem Dev.setNtu_mac (d : Dev) (x : Ntu) : (d.setNtu x).mac = d.mac := rfl
@[simp] theorem Dev.setNtu_frm (d : Dev) (x : Ntu) : (d.setNtu x).frm = d.frm := rfl
@[simp] theorem Dev.setNtu_cls (d : Dev) (x : Ntu) : (d.setNtu x).cls = d.cls := rfl
@[simp] theorem Dev.setNtu_eng (d : Dev) (x : Ntu) : (d.setNtu x).eng = d.eng := rfl
@[simp] theorem Dev.setNtu_tm (d : Dev) (x : Ntu) : (d.setNtu x).tm = d.tm := rfl
@[simp] theorem Dev.setNtu_key (d : Dev) (x : Ntu) : (d.setNtu x).key = d.key := rfl
@[simp] theorem Dev.setNtu_hif (d : Dev) (x : Ntu) : (d.setNtu x).hif = d.hif := rfl
@[simp] theorem Dev.setNtu_rgm (d : Dev) (x : Ntu) : (d.setNtu x).rgm = d.rgm := rfl
@[simp] theorem Dev.setNtu_dma (d : Dev) (x : Ntu) : (d.setNtu x).dma = d.dma := rfl
@[simp] theorem Dev.setNtu_mtr (d : Dev) (x : Ntu) : (d.setNtu x).mtr = d.mtr := rfl
@[simp] theorem Dev.setNtu_mgt (d : Dev) (x : Ntu) : (d.setNtu x).mgt = d.mgt := rfl
@[simp] theorem Dev.setNtu_rel (d : Dev) (x : Ntu) : (d.setNtu x).rel = d.rel := rfl
@[simp] theorem Dev.setNtu_pwr (d : Dev) (x : Ntu) : (d.setNtu x).pwr = d.pwr := rfl
@[simp] theorem Dev.setImg_regs (d : Dev) (x : ImgU) : (d.setImg x).regs = d.regs := rfl
@[simp] theorem Dev.setImg_cnt (d : Dev) (x : ImgU) : (d.setImg x).cnt = d.cnt := rfl
@[simp] theorem Dev.setImg_out (d : Dev) (x : ImgU) : (d.setImg x).out = d.out := rfl
@[simp] theorem Dev.setImg_freeCtr (d : Dev) (x : ImgU) : (d.setImg x).freeCtr = d.freeCtr := rfl
@[simp] theorem Dev.setImg_due (d : Dev) (x : ImgU) : (d.setImg x).due = d.due := rfl
@[simp] theorem Dev.setImg_snapWait (d : Dev) (x : ImgU) : (d.setImg x).snapWait = d.snapWait := rfl
@[simp] theorem Dev.setImg_ntu (d : Dev) (x : ImgU) : (d.setImg x).ntu = d.ntu := rfl
@[simp] theorem Dev.setImg_img (d : Dev) (x : ImgU) : (d.setImg x).img = x := rfl
@[simp] theorem Dev.setImg_mac (d : Dev) (x : ImgU) : (d.setImg x).mac = d.mac := rfl
@[simp] theorem Dev.setImg_frm (d : Dev) (x : ImgU) : (d.setImg x).frm = d.frm := rfl
@[simp] theorem Dev.setImg_cls (d : Dev) (x : ImgU) : (d.setImg x).cls = d.cls := rfl
@[simp] theorem Dev.setImg_eng (d : Dev) (x : ImgU) : (d.setImg x).eng = d.eng := rfl
@[simp] theorem Dev.setImg_tm (d : Dev) (x : ImgU) : (d.setImg x).tm = d.tm := rfl
@[simp] theorem Dev.setImg_key (d : Dev) (x : ImgU) : (d.setImg x).key = d.key := rfl
@[simp] theorem Dev.setImg_hif (d : Dev) (x : ImgU) : (d.setImg x).hif = d.hif := rfl
@[simp] theorem Dev.setImg_rgm (d : Dev) (x : ImgU) : (d.setImg x).rgm = d.rgm := rfl
@[simp] theorem Dev.setImg_dma (d : Dev) (x : ImgU) : (d.setImg x).dma = d.dma := rfl
@[simp] theorem Dev.setImg_mtr (d : Dev) (x : ImgU) : (d.setImg x).mtr = d.mtr := rfl
@[simp] theorem Dev.setImg_mgt (d : Dev) (x : ImgU) : (d.setImg x).mgt = d.mgt := rfl
@[simp] theorem Dev.setImg_rel (d : Dev) (x : ImgU) : (d.setImg x).rel = d.rel := rfl
@[simp] theorem Dev.setImg_pwr (d : Dev) (x : ImgU) : (d.setImg x).pwr = d.pwr := rfl
@[simp] theorem Dev.setMac_regs (d : Dev) (x : MacU) : (d.setMac x).regs = d.regs := rfl
@[simp] theorem Dev.setMac_cnt (d : Dev) (x : MacU) : (d.setMac x).cnt = d.cnt := rfl
@[simp] theorem Dev.setMac_out (d : Dev) (x : MacU) : (d.setMac x).out = d.out := rfl
@[simp] theorem Dev.setMac_freeCtr (d : Dev) (x : MacU) : (d.setMac x).freeCtr = d.freeCtr := rfl
@[simp] theorem Dev.setMac_due (d : Dev) (x : MacU) : (d.setMac x).due = d.due := rfl
@[simp] theorem Dev.setMac_snapWait (d : Dev) (x : MacU) : (d.setMac x).snapWait = d.snapWait := rfl
@[simp] theorem Dev.setMac_ntu (d : Dev) (x : MacU) : (d.setMac x).ntu = d.ntu := rfl
@[simp] theorem Dev.setMac_img (d : Dev) (x : MacU) : (d.setMac x).img = d.img := rfl
@[simp] theorem Dev.setMac_mac (d : Dev) (x : MacU) : (d.setMac x).mac = x := rfl
@[simp] theorem Dev.setMac_frm (d : Dev) (x : MacU) : (d.setMac x).frm = d.frm := rfl
@[simp] theorem Dev.setMac_cls (d : Dev) (x : MacU) : (d.setMac x).cls = d.cls := rfl
@[simp] theorem Dev.setMac_eng (d : Dev) (x : MacU) : (d.setMac x).eng = d.eng := rfl
@[simp] theorem Dev.setMac_tm (d : Dev) (x : MacU) : (d.setMac x).tm = d.tm := rfl
@[simp] theorem Dev.setMac_key (d : Dev) (x : MacU) : (d.setMac x).key = d.key := rfl
@[simp] theorem Dev.setMac_hif (d : Dev) (x : MacU) : (d.setMac x).hif = d.hif := rfl
@[simp] theorem Dev.setMac_rgm (d : Dev) (x : MacU) : (d.setMac x).rgm = d.rgm := rfl
@[simp] theorem Dev.setMac_dma (d : Dev) (x : MacU) : (d.setMac x).dma = d.dma := rfl
@[simp] theorem Dev.setMac_mtr (d : Dev) (x : MacU) : (d.setMac x).mtr = d.mtr := rfl
@[simp] theorem Dev.setMac_mgt (d : Dev) (x : MacU) : (d.setMac x).mgt = d.mgt := rfl
@[simp] theorem Dev.setMac_rel (d : Dev) (x : MacU) : (d.setMac x).rel = d.rel := rfl
@[simp] theorem Dev.setMac_pwr (d : Dev) (x : MacU) : (d.setMac x).pwr = d.pwr := rfl
@[simp] theorem Dev.setFrm_regs (d : Dev) (x : FrmU) : (d.setFrm x).regs = d.regs := rfl
@[simp] theorem Dev.setFrm_cnt (d : Dev) (x : FrmU) : (d.setFrm x).cnt = d.cnt := rfl
@[simp] theorem Dev.setFrm_out (d : Dev) (x : FrmU) : (d.setFrm x).out = d.out := rfl
@[simp] theorem Dev.setFrm_freeCtr (d : Dev) (x : FrmU) : (d.setFrm x).freeCtr = d.freeCtr := rfl
@[simp] theorem Dev.setFrm_due (d : Dev) (x : FrmU) : (d.setFrm x).due = d.due := rfl
@[simp] theorem Dev.setFrm_snapWait (d : Dev) (x : FrmU) : (d.setFrm x).snapWait = d.snapWait := rfl
@[simp] theorem Dev.setFrm_ntu (d : Dev) (x : FrmU) : (d.setFrm x).ntu = d.ntu := rfl
@[simp] theorem Dev.setFrm_img (d : Dev) (x : FrmU) : (d.setFrm x).img = d.img := rfl
@[simp] theorem Dev.setFrm_mac (d : Dev) (x : FrmU) : (d.setFrm x).mac = d.mac := rfl
@[simp] theorem Dev.setFrm_frm (d : Dev) (x : FrmU) : (d.setFrm x).frm = x := rfl
@[simp] theorem Dev.setFrm_cls (d : Dev) (x : FrmU) : (d.setFrm x).cls = d.cls := rfl
@[simp] theorem Dev.setFrm_eng (d : Dev) (x : FrmU) : (d.setFrm x).eng = d.eng := rfl
@[simp] theorem Dev.setFrm_tm (d : Dev) (x : FrmU) : (d.setFrm x).tm = d.tm := rfl
@[simp] theorem Dev.setFrm_key (d : Dev) (x : FrmU) : (d.setFrm x).key = d.key := rfl
@[simp] theorem Dev.setFrm_hif (d : Dev) (x : FrmU) : (d.setFrm x).hif = d.hif := rfl
@[simp] theorem Dev.setFrm_rgm (d : Dev) (x : FrmU) : (d.setFrm x).rgm = d.rgm := rfl
@[simp] theorem Dev.setFrm_dma (d : Dev) (x : FrmU) : (d.setFrm x).dma = d.dma := rfl
@[simp] theorem Dev.setFrm_mtr (d : Dev) (x : FrmU) : (d.setFrm x).mtr = d.mtr := rfl
@[simp] theorem Dev.setFrm_mgt (d : Dev) (x : FrmU) : (d.setFrm x).mgt = d.mgt := rfl
@[simp] theorem Dev.setFrm_rel (d : Dev) (x : FrmU) : (d.setFrm x).rel = d.rel := rfl
@[simp] theorem Dev.setFrm_pwr (d : Dev) (x : FrmU) : (d.setFrm x).pwr = d.pwr := rfl
@[simp] theorem Dev.setCls_regs (d : Dev) (x : ClsU) : (d.setCls x).regs = d.regs := rfl
@[simp] theorem Dev.setCls_cnt (d : Dev) (x : ClsU) : (d.setCls x).cnt = d.cnt := rfl
@[simp] theorem Dev.setCls_out (d : Dev) (x : ClsU) : (d.setCls x).out = d.out := rfl
@[simp] theorem Dev.setCls_freeCtr (d : Dev) (x : ClsU) : (d.setCls x).freeCtr = d.freeCtr := rfl
@[simp] theorem Dev.setCls_due (d : Dev) (x : ClsU) : (d.setCls x).due = d.due := rfl
@[simp] theorem Dev.setCls_snapWait (d : Dev) (x : ClsU) : (d.setCls x).snapWait = d.snapWait := rfl
@[simp] theorem Dev.setCls_ntu (d : Dev) (x : ClsU) : (d.setCls x).ntu = d.ntu := rfl
@[simp] theorem Dev.setCls_img (d : Dev) (x : ClsU) : (d.setCls x).img = d.img := rfl
@[simp] theorem Dev.setCls_mac (d : Dev) (x : ClsU) : (d.setCls x).mac = d.mac := rfl
@[simp] theorem Dev.setCls_frm (d : Dev) (x : ClsU) : (d.setCls x).frm = d.frm := rfl
@[simp] theorem Dev.setCls_cls (d : Dev) (x : ClsU) : (d.setCls x).cls = x := rfl
@[simp] theorem Dev.setCls_eng (d : Dev) (x : ClsU) : (d.setCls x).eng = d.eng := rfl
@[simp] theorem Dev.setCls_tm (d : Dev) (x : ClsU) : (d.setCls x).tm = d.tm := rfl
@[simp] theorem Dev.setCls_key (d : Dev) (x : ClsU) : (d.setCls x).key = d.key := rfl
@[simp] theorem Dev.setCls_hif (d : Dev) (x : ClsU) : (d.setCls x).hif = d.hif := rfl
@[simp] theorem Dev.setCls_rgm (d : Dev) (x : ClsU) : (d.setCls x).rgm = d.rgm := rfl
@[simp] theorem Dev.setCls_dma (d : Dev) (x : ClsU) : (d.setCls x).dma = d.dma := rfl
@[simp] theorem Dev.setCls_mtr (d : Dev) (x : ClsU) : (d.setCls x).mtr = d.mtr := rfl
@[simp] theorem Dev.setCls_mgt (d : Dev) (x : ClsU) : (d.setCls x).mgt = d.mgt := rfl
@[simp] theorem Dev.setCls_rel (d : Dev) (x : ClsU) : (d.setCls x).rel = d.rel := rfl
@[simp] theorem Dev.setCls_pwr (d : Dev) (x : ClsU) : (d.setCls x).pwr = d.pwr := rfl
@[simp] theorem Dev.setEng_regs (d : Dev) (x : EngU) : (d.setEng x).regs = d.regs := rfl
@[simp] theorem Dev.setEng_cnt (d : Dev) (x : EngU) : (d.setEng x).cnt = d.cnt := rfl
@[simp] theorem Dev.setEng_out (d : Dev) (x : EngU) : (d.setEng x).out = d.out := rfl
@[simp] theorem Dev.setEng_freeCtr (d : Dev) (x : EngU) : (d.setEng x).freeCtr = d.freeCtr := rfl
@[simp] theorem Dev.setEng_due (d : Dev) (x : EngU) : (d.setEng x).due = d.due := rfl
@[simp] theorem Dev.setEng_snapWait (d : Dev) (x : EngU) : (d.setEng x).snapWait = d.snapWait := rfl
@[simp] theorem Dev.setEng_ntu (d : Dev) (x : EngU) : (d.setEng x).ntu = d.ntu := rfl
@[simp] theorem Dev.setEng_img (d : Dev) (x : EngU) : (d.setEng x).img = d.img := rfl
@[simp] theorem Dev.setEng_mac (d : Dev) (x : EngU) : (d.setEng x).mac = d.mac := rfl
@[simp] theorem Dev.setEng_frm (d : Dev) (x : EngU) : (d.setEng x).frm = d.frm := rfl
@[simp] theorem Dev.setEng_cls (d : Dev) (x : EngU) : (d.setEng x).cls = d.cls := rfl
@[simp] theorem Dev.setEng_eng (d : Dev) (x : EngU) : (d.setEng x).eng = x := rfl
@[simp] theorem Dev.setEng_tm (d : Dev) (x : EngU) : (d.setEng x).tm = d.tm := rfl
@[simp] theorem Dev.setEng_key (d : Dev) (x : EngU) : (d.setEng x).key = d.key := rfl
@[simp] theorem Dev.setEng_hif (d : Dev) (x : EngU) : (d.setEng x).hif = d.hif := rfl
@[simp] theorem Dev.setEng_rgm (d : Dev) (x : EngU) : (d.setEng x).rgm = d.rgm := rfl
@[simp] theorem Dev.setEng_dma (d : Dev) (x : EngU) : (d.setEng x).dma = d.dma := rfl
@[simp] theorem Dev.setEng_mtr (d : Dev) (x : EngU) : (d.setEng x).mtr = d.mtr := rfl
@[simp] theorem Dev.setEng_mgt (d : Dev) (x : EngU) : (d.setEng x).mgt = d.mgt := rfl
@[simp] theorem Dev.setEng_rel (d : Dev) (x : EngU) : (d.setEng x).rel = d.rel := rfl
@[simp] theorem Dev.setEng_pwr (d : Dev) (x : EngU) : (d.setEng x).pwr = d.pwr := rfl
@[simp] theorem Dev.setTm_regs (d : Dev) (x : TmU) : (d.setTm x).regs = d.regs := rfl
@[simp] theorem Dev.setTm_cnt (d : Dev) (x : TmU) : (d.setTm x).cnt = d.cnt := rfl
@[simp] theorem Dev.setTm_out (d : Dev) (x : TmU) : (d.setTm x).out = d.out := rfl
@[simp] theorem Dev.setTm_freeCtr (d : Dev) (x : TmU) : (d.setTm x).freeCtr = d.freeCtr := rfl
@[simp] theorem Dev.setTm_due (d : Dev) (x : TmU) : (d.setTm x).due = d.due := rfl
@[simp] theorem Dev.setTm_snapWait (d : Dev) (x : TmU) : (d.setTm x).snapWait = d.snapWait := rfl
@[simp] theorem Dev.setTm_ntu (d : Dev) (x : TmU) : (d.setTm x).ntu = d.ntu := rfl
@[simp] theorem Dev.setTm_img (d : Dev) (x : TmU) : (d.setTm x).img = d.img := rfl
@[simp] theorem Dev.setTm_mac (d : Dev) (x : TmU) : (d.setTm x).mac = d.mac := rfl
@[simp] theorem Dev.setTm_frm (d : Dev) (x : TmU) : (d.setTm x).frm = d.frm := rfl
@[simp] theorem Dev.setTm_cls (d : Dev) (x : TmU) : (d.setTm x).cls = d.cls := rfl
@[simp] theorem Dev.setTm_eng (d : Dev) (x : TmU) : (d.setTm x).eng = d.eng := rfl
@[simp] theorem Dev.setTm_tm (d : Dev) (x : TmU) : (d.setTm x).tm = x := rfl
@[simp] theorem Dev.setTm_key (d : Dev) (x : TmU) : (d.setTm x).key = d.key := rfl
@[simp] theorem Dev.setTm_hif (d : Dev) (x : TmU) : (d.setTm x).hif = d.hif := rfl
@[simp] theorem Dev.setTm_rgm (d : Dev) (x : TmU) : (d.setTm x).rgm = d.rgm := rfl
@[simp] theorem Dev.setTm_dma (d : Dev) (x : TmU) : (d.setTm x).dma = d.dma := rfl
@[simp] theorem Dev.setTm_mtr (d : Dev) (x : TmU) : (d.setTm x).mtr = d.mtr := rfl
@[simp] theorem Dev.setTm_mgt (d : Dev) (x : TmU) : (d.setTm x).mgt = d.mgt := rfl
@[simp] theorem Dev.setTm_rel (d : Dev) (x : TmU) : (d.setTm x).rel = d.rel := rfl
@[simp] theorem Dev.setTm_pwr (d : Dev) (x : TmU) : (d.setTm x).pwr = d.pwr := rfl
@[simp] theorem Dev.setKey_regs (d : Dev) (x : KeyU) : (d.setKey x).regs = d.regs := rfl
@[simp] theorem Dev.setKey_cnt (d : Dev) (x : KeyU) : (d.setKey x).cnt = d.cnt := rfl
@[simp] theorem Dev.setKey_out (d : Dev) (x : KeyU) : (d.setKey x).out = d.out := rfl
@[simp] theorem Dev.setKey_freeCtr (d : Dev) (x : KeyU) : (d.setKey x).freeCtr = d.freeCtr := rfl
@[simp] theorem Dev.setKey_due (d : Dev) (x : KeyU) : (d.setKey x).due = d.due := rfl
@[simp] theorem Dev.setKey_snapWait (d : Dev) (x : KeyU) : (d.setKey x).snapWait = d.snapWait := rfl
@[simp] theorem Dev.setKey_ntu (d : Dev) (x : KeyU) : (d.setKey x).ntu = d.ntu := rfl
@[simp] theorem Dev.setKey_img (d : Dev) (x : KeyU) : (d.setKey x).img = d.img := rfl
@[simp] theorem Dev.setKey_mac (d : Dev) (x : KeyU) : (d.setKey x).mac = d.mac := rfl
@[simp] theorem Dev.setKey_frm (d : Dev) (x : KeyU) : (d.setKey x).frm = d.frm := rfl
@[simp] theorem Dev.setKey_cls (d : Dev) (x : KeyU) : (d.setKey x).cls = d.cls := rfl
@[simp] theorem Dev.setKey_eng (d : Dev) (x : KeyU) : (d.setKey x).eng = d.eng := rfl
@[simp] theorem Dev.setKey_tm (d : Dev) (x : KeyU) : (d.setKey x).tm = d.tm := rfl
@[simp] theorem Dev.setKey_key (d : Dev) (x : KeyU) : (d.setKey x).key = x := rfl
@[simp] theorem Dev.setKey_hif (d : Dev) (x : KeyU) : (d.setKey x).hif = d.hif := rfl
@[simp] theorem Dev.setKey_rgm (d : Dev) (x : KeyU) : (d.setKey x).rgm = d.rgm := rfl
@[simp] theorem Dev.setKey_dma (d : Dev) (x : KeyU) : (d.setKey x).dma = d.dma := rfl
@[simp] theorem Dev.setKey_mtr (d : Dev) (x : KeyU) : (d.setKey x).mtr = d.mtr := rfl
@[simp] theorem Dev.setKey_mgt (d : Dev) (x : KeyU) : (d.setKey x).mgt = d.mgt := rfl
@[simp] theorem Dev.setKey_rel (d : Dev) (x : KeyU) : (d.setKey x).rel = d.rel := rfl
@[simp] theorem Dev.setKey_pwr (d : Dev) (x : KeyU) : (d.setKey x).pwr = d.pwr := rfl
@[simp] theorem Dev.setHif_regs (d : Dev) (x : HifU) : (d.setHif x).regs = d.regs := rfl
@[simp] theorem Dev.setHif_cnt (d : Dev) (x : HifU) : (d.setHif x).cnt = d.cnt := rfl
@[simp] theorem Dev.setHif_out (d : Dev) (x : HifU) : (d.setHif x).out = d.out := rfl
@[simp] theorem Dev.setHif_freeCtr (d : Dev) (x : HifU) : (d.setHif x).freeCtr = d.freeCtr := rfl
@[simp] theorem Dev.setHif_due (d : Dev) (x : HifU) : (d.setHif x).due = d.due := rfl
@[simp] theorem Dev.setHif_snapWait (d : Dev) (x : HifU) : (d.setHif x).snapWait = d.snapWait := rfl
@[simp] theorem Dev.setHif_ntu (d : Dev) (x : HifU) : (d.setHif x).ntu = d.ntu := rfl
@[simp] theorem Dev.setHif_img (d : Dev) (x : HifU) : (d.setHif x).img = d.img := rfl
@[simp] theorem Dev.setHif_mac (d : Dev) (x : HifU) : (d.setHif x).mac = d.mac := rfl
@[simp] theorem Dev.setHif_frm (d : Dev) (x : HifU) : (d.setHif x).frm = d.frm := rfl
@[simp] theorem Dev.setHif_cls (d : Dev) (x : HifU) : (d.setHif x).cls = d.cls := rfl
@[simp] theorem Dev.setHif_eng (d : Dev) (x : HifU) : (d.setHif x).eng = d.eng := rfl
@[simp] theorem Dev.setHif_tm (d : Dev) (x : HifU) : (d.setHif x).tm = d.tm := rfl
@[simp] theorem Dev.setHif_key (d : Dev) (x : HifU) : (d.setHif x).key = d.key := rfl
@[simp] theorem Dev.setHif_hif (d : Dev) (x : HifU) : (d.setHif x).hif = x := rfl
@[simp] theorem Dev.setHif_rgm (d : Dev) (x : HifU) : (d.setHif x).rgm = d.rgm := rfl
@[simp] theorem Dev.setHif_dma (d : Dev) (x : HifU) : (d.setHif x).dma = d.dma := rfl
@[simp] theorem Dev.setHif_mtr (d : Dev) (x : HifU) : (d.setHif x).mtr = d.mtr := rfl
@[simp] theorem Dev.setHif_mgt (d : Dev) (x : HifU) : (d.setHif x).mgt = d.mgt := rfl
@[simp] theorem Dev.setHif_rel (d : Dev) (x : HifU) : (d.setHif x).rel = d.rel := rfl
@[simp] theorem Dev.setHif_pwr (d : Dev) (x : HifU) : (d.setHif x).pwr = d.pwr := rfl
@[simp] theorem Dev.setRgm_regs (d : Dev) (x : RgmU) : (d.setRgm x).regs = d.regs := rfl
@[simp] theorem Dev.setRgm_cnt (d : Dev) (x : RgmU) : (d.setRgm x).cnt = d.cnt := rfl
@[simp] theorem Dev.setRgm_out (d : Dev) (x : RgmU) : (d.setRgm x).out = d.out := rfl
@[simp] theorem Dev.setRgm_freeCtr (d : Dev) (x : RgmU) : (d.setRgm x).freeCtr = d.freeCtr := rfl
@[simp] theorem Dev.setRgm_due (d : Dev) (x : RgmU) : (d.setRgm x).due = d.due := rfl
@[simp] theorem Dev.setRgm_snapWait (d : Dev) (x : RgmU) : (d.setRgm x).snapWait = d.snapWait := rfl
@[simp] theorem Dev.setRgm_ntu (d : Dev) (x : RgmU) : (d.setRgm x).ntu = d.ntu := rfl
@[simp] theorem Dev.setRgm_img (d : Dev) (x : RgmU) : (d.setRgm x).img = d.img := rfl
@[simp] theorem Dev.setRgm_mac (d : Dev) (x : RgmU) : (d.setRgm x).mac = d.mac := rfl
@[simp] theorem Dev.setRgm_frm (d : Dev) (x : RgmU) : (d.setRgm x).frm = d.frm := rfl
@[simp] theorem Dev.setRgm_cls (d : Dev) (x : RgmU) : (d.setRgm x).cls = d.cls := rfl
@[simp] theorem Dev.setRgm_eng (d : Dev) (x : RgmU) : (d.setRgm x).eng = d.eng := rfl
@[simp] theorem Dev.setRgm_tm (d : Dev) (x : RgmU) : (d.setRgm x).tm = d.tm := rfl
@[simp] theorem Dev.setRgm_key (d : Dev) (x : RgmU) : (d.setRgm x).key = d.key := rfl
@[simp] theorem Dev.setRgm_hif (d : Dev) (x : RgmU) : (d.setRgm x).hif = d.hif := rfl
@[simp] theorem Dev.setRgm_rgm (d : Dev) (x : RgmU) : (d.setRgm x).rgm = x := rfl
@[simp] theorem Dev.setRgm_dma (d : Dev) (x : RgmU) : (d.setRgm x).dma = d.dma := rfl
@[simp] theorem Dev.setRgm_mtr (d : Dev) (x : RgmU) : (d.setRgm x).mtr = d.mtr := rfl
@[simp] theorem Dev.setRgm_mgt (d : Dev) (x : RgmU) : (d.setRgm x).mgt = d.mgt := rfl
@[simp] theorem Dev.setRgm_rel (d : Dev) (x : RgmU) : (d.setRgm x).rel = d.rel := rfl
@[simp] theorem Dev.setRgm_pwr (d : Dev) (x : RgmU) : (d.setRgm x).pwr = d.pwr := rfl
@[simp] theorem Dev.setDma_regs (d : Dev) (x : DmaU) : (d.setDma x).regs = d.regs := rfl
@[simp] theorem Dev.setDma_cnt (d : Dev) (x : DmaU) : (d.setDma x).cnt = d.cnt := rfl
@[simp] theorem Dev.setDma_out (d : Dev) (x : DmaU) : (d.setDma x).out = d.out := rfl
@[simp] theorem Dev.setDma_freeCtr (d : Dev) (x : DmaU) : (d.setDma x).freeCtr = d.freeCtr := rfl
@[simp] theorem Dev.setDma_due (d : Dev) (x : DmaU) : (d.setDma x).due = d.due := rfl
@[simp] theorem Dev.setDma_snapWait (d : Dev) (x : DmaU) : (d.setDma x).snapWait = d.snapWait := rfl
@[simp] theorem Dev.setDma_ntu (d : Dev) (x : DmaU) : (d.setDma x).ntu = d.ntu := rfl
@[simp] theorem Dev.setDma_img (d : Dev) (x : DmaU) : (d.setDma x).img = d.img := rfl
@[simp] theorem Dev.setDma_mac (d : Dev) (x : DmaU) : (d.setDma x).mac = d.mac := rfl
@[simp] theorem Dev.setDma_frm (d : Dev) (x : DmaU) : (d.setDma x).frm = d.frm := rfl
@[simp] theorem Dev.setDma_cls (d : Dev) (x : DmaU) : (d.setDma x).cls = d.cls := rfl
@[simp] theorem Dev.setDma_eng (d : Dev) (x : DmaU) : (d.setDma x).eng = d.eng := rfl
@[simp] theorem Dev.setDma_tm (d : Dev) (x : DmaU) : (d.setDma x).tm = d.tm := rfl
@[simp] theorem Dev.setDma_key (d : Dev) (x : DmaU) : (d.setDma x).key = d.key := rfl
@[simp] theorem Dev.setDma_hif (d : Dev) (x : DmaU) : (d.setDma x).hif = d.hif := rfl
@[simp] theorem Dev.setDma_rgm (d : Dev) (x : DmaU) : (d.setDma x).rgm = d.rgm := rfl
@[simp] theorem Dev.setDma_dma (d : Dev) (x : DmaU) : (d.setDma x).dma = x := rfl
@[simp] theorem Dev.setDma_mtr (d : Dev) (x : DmaU) : (d.setDma x).mtr = d.mtr := rfl
@[simp] theorem Dev.setDma_mgt (d : Dev) (x : DmaU) : (d.setDma x).mgt = d.mgt := rfl
@[simp] theorem Dev.setDma_rel (d : Dev) (x : DmaU) : (d.setDma x).rel = d.rel := rfl
@[simp] theorem Dev.setDma_pwr (d : Dev) (x : DmaU) : (d.setDma x).pwr = d.pwr := rfl
@[simp] theorem Dev.setMtr_regs (d : Dev) (x : MtrU) : (d.setMtr x).regs = d.regs := rfl
@[simp] theorem Dev.setMtr_cnt (d : Dev) (x : MtrU) : (d.setMtr x).cnt = d.cnt := rfl
@[simp] theorem Dev.setMtr_out (d : Dev) (x : MtrU) : (d.setMtr x).out = d.out := rfl
@[simp] theorem Dev.setMtr_freeCtr (d : Dev) (x : MtrU) : (d.setMtr x).freeCtr = d.freeCtr := rfl
@[simp] theorem Dev.setMtr_due (d : Dev) (x : MtrU) : (d.setMtr x).due = d.due := rfl
@[simp] theorem Dev.setMtr_snapWait (d : Dev) (x : MtrU) : (d.setMtr x).snapWait = d.snapWait := rfl
@[simp] theorem Dev.setMtr_ntu (d : Dev) (x : MtrU) : (d.setMtr x).ntu = d.ntu := rfl
@[simp] theorem Dev.setMtr_img (d : Dev) (x : MtrU) : (d.setMtr x).img = d.img := rfl
@[simp] theorem Dev.setMtr_mac (d : Dev) (x : MtrU) : (d.setMtr x).mac = d.mac := rfl
@[simp] theorem Dev.setMtr_frm (d : Dev) (x : MtrU) : (d.setMtr x).frm = d.frm := rfl
@[simp] theorem Dev.setMtr_cls (d : Dev) (x : MtrU) : (d.setMtr x).cls = d.cls := rfl
@[simp] theorem Dev.setMtr_eng (d : Dev) (x : MtrU) : (d.setMtr x).eng = d.eng := rfl
@[simp] theorem Dev.setMtr_tm (d : Dev) (x : MtrU) : (d.setMtr x).tm = d.tm := rfl
@[simp] theorem Dev.setMtr_key (d : Dev) (x : MtrU) : (d.setMtr x).key = d.key := rfl
@[simp] theorem Dev.setMtr_hif (d : Dev) (x : MtrU) : (d.setMtr x).hif = d.hif := rfl
@[simp] theorem Dev.setMtr_rgm (d : Dev) (x : MtrU) : (d.setMtr x).rgm = d.rgm := rfl
@[simp] theorem Dev.setMtr_dma (d : Dev) (x : MtrU) : (d.setMtr x).dma = d.dma := rfl
@[simp] theorem Dev.setMtr_mtr (d : Dev) (x : MtrU) : (d.setMtr x).mtr = x := rfl
@[simp] theorem Dev.setMtr_mgt (d : Dev) (x : MtrU) : (d.setMtr x).mgt = d.mgt := rfl
@[simp] theorem Dev.setMtr_rel (d : Dev) (x : MtrU) : (d.setMtr x).rel = d.rel := rfl
@[simp] theorem Dev.setMtr_pwr (d : Dev) (x : MtrU) : (d.setMtr x).pwr = d.pwr := rfl
@[simp] theorem Dev.setMgt_regs (d : Dev) (x : MgtU) : (d.setMgt x).regs = d.regs := rfl
@[simp] theorem Dev.setMgt_cnt (d : Dev) (x : MgtU) : (d.setMgt x).cnt = d.cnt := rfl
@[simp] theorem Dev.setMgt_out (d : Dev) (x : MgtU) : (d.setMgt x).out = d.out := rfl
@[simp] theorem Dev.setMgt_freeCtr (d : Dev) (x : MgtU) : (d.setMgt x).freeCtr = d.freeCtr := rfl
@[simp] theorem Dev.setMgt_due (d : Dev) (x : MgtU) : (d.setMgt x).due = d.due := rfl
@[simp] theorem Dev.setMgt_snapWait (d : Dev) (x : MgtU) : (d.setMgt x).snapWait = d.snapWait := rfl
@[simp] theorem Dev.setMgt_ntu (d : Dev) (x : MgtU) : (d.setMgt x).ntu = d.ntu := rfl
@[simp] theorem Dev.setMgt_img (d : Dev) (x : MgtU) : (d.setMgt x).img = d.img := rfl
@[simp] theorem Dev.setMgt_mac (d : Dev) (x : MgtU) : (d.setMgt x).mac = d.mac := rfl
@[simp] theorem Dev.setMgt_frm (d : Dev) (x : MgtU) : (d.setMgt x).frm = d.frm := rfl
@[simp] theorem Dev.setMgt_cls (d : Dev) (x : MgtU) : (d.setMgt x).cls = d.cls := rfl
@[simp] theorem Dev.setMgt_eng (d : Dev) (x : MgtU) : (d.setMgt x).eng = d.eng := rfl
@[simp] theorem Dev.setMgt_tm (d : Dev) (x : MgtU) : (d.setMgt x).tm = d.tm := rfl
@[simp] theorem Dev.setMgt_key (d : Dev) (x : MgtU) : (d.setMgt x).key = d.key := rfl
@[simp] theorem Dev.setMgt_hif (d : Dev) (x : MgtU) : (d.setMgt x).hif = d.hif := rfl
@[simp] theorem Dev.setMgt_rgm (d : Dev) (x : MgtU) : (d.setMgt x).rgm = d.rgm := rfl
@[simp] theorem Dev.setMgt_dma (d : Dev) (x : MgtU) : (d.setMgt x).dma = d.dma := rfl
@[simp] theorem Dev.setMgt_mtr (d : Dev) (x : MgtU) : (d.setMgt x).mtr = d.mtr := rfl
@[simp] theorem Dev.setMgt_mgt (d : Dev) (x : MgtU) : (d.setMgt x).mgt = x := rfl
@[simp] theorem Dev.setMgt_rel (d : Dev) (x : MgtU) : (d.setMgt x).rel = d.rel := rfl
@[simp] theorem Dev.setMgt_pwr (d : Dev) (x : MgtU) : (d.setMgt x).pwr = d.pwr := rfl
@[simp] theorem Dev.setRel_regs (d : Dev) (x : RelU) : (d.setRel x).regs = d.regs := rfl
@[simp] theorem Dev.setRel_cnt (d : Dev) (x : RelU) : (d.setRel x).cnt = d.cnt := rfl
@[simp] theorem Dev.setRel_out (d : Dev) (x : RelU) : (d.setRel x).out = d.out := rfl
@[simp] theorem Dev.setRel_freeCtr (d : Dev) (x : RelU) : (d.setRel x).freeCtr = d.freeCtr := rfl
@[simp] theorem Dev.setRel_due (d : Dev) (x : RelU) : (d.setRel x).due = d.due := rfl
@[simp] theorem Dev.setRel_snapWait (d : Dev) (x : RelU) : (d.setRel x).snapWait = d.snapWait := rfl
@[simp] theorem Dev.setRel_ntu (d : Dev) (x : RelU) : (d.setRel x).ntu = d.ntu := rfl
@[simp] theorem Dev.setRel_img (d : Dev) (x : RelU) : (d.setRel x).img = d.img := rfl
@[simp] theorem Dev.setRel_mac (d : Dev) (x : RelU) : (d.setRel x).mac = d.mac := rfl
@[simp] theorem Dev.setRel_frm (d : Dev) (x : RelU) : (d.setRel x).frm = d.frm := rfl
@[simp] theorem Dev.setRel_cls (d : Dev) (x : RelU) : (d.setRel x).cls = d.cls := rfl
@[simp] theorem Dev.setRel_eng (d : Dev) (x : RelU) : (d.setRel x).eng = d.eng := rfl
@[simp] theorem Dev.setRel_tm (d : Dev) (x : RelU) : (d.setRel x).tm = d.tm := rfl
@[simp] theorem Dev.setRel_key (d : Dev) (x : RelU) : (d.setRel x).key = d.key := rfl
@[simp] theorem Dev.setRel_hif (d : Dev) (x : RelU) : (d.setRel x).hif = d.hif := rfl
@[simp] theorem Dev.setRel_rgm (d : Dev) (x : RelU) : (d.setRel x).rgm = d.rgm := rfl
@[simp] theorem Dev.setRel_dma (d : Dev) (x : RelU) : (d.setRel x).dma = d.dma := rfl
@[simp] theorem Dev.setRel_mtr (d : Dev) (x : RelU) : (d.setRel x).mtr = d.mtr := rfl
@[simp] theorem Dev.setRel_mgt (d : Dev) (x : RelU) : (d.setRel x).mgt = d.mgt := rfl
@[simp] theorem Dev.setRel_rel (d : Dev) (x : RelU) : (d.setRel x).rel = x := rfl
@[simp] theorem Dev.setRel_pwr (d : Dev) (x : RelU) : (d.setRel x).pwr = d.pwr := rfl
@[simp] theorem Dev.setPwr_regs (d : Dev) (x : PwrU) : (d.setPwr x).regs = d.regs := rfl
@[simp] theorem Dev.setPwr_cnt (d : Dev) (x : PwrU) : (d.setPwr x).cnt = d.cnt := rfl
@[simp] theorem Dev.setPwr_out (d : Dev) (x : PwrU) : (d.setPwr x).out = d.out := rfl
@[simp] theorem Dev.setPwr_freeCtr (d : Dev) (x : PwrU) : (d.setPwr x).freeCtr = d.freeCtr := rfl
@[simp] theorem Dev.setPwr_due (d : Dev) (x : PwrU) : (d.setPwr x).due = d.due := rfl
@[simp] theorem Dev.setPwr_snapWait (d : Dev) (x : PwrU) : (d.setPwr x).snapWait = d.snapWait := rfl
@[simp] theorem Dev.setPwr_ntu (d : Dev) (x : PwrU) : (d.setPwr x).ntu = d.ntu := rfl
@[simp] theorem Dev.setPwr_img (d : Dev) (x : PwrU) : (d.setPwr x).img = d.img := rfl
@[simp] theorem Dev.setPwr_mac (d : Dev) (x : PwrU) : (d.setPwr x).mac = d.mac := rfl
@[simp] theorem Dev.setPwr_frm (d : Dev) (x : PwrU) : (d.setPwr x).frm = d.frm := rfl
@[simp] theorem Dev.setPwr_cls (d : Dev) (x : PwrU) : (d.setPwr x).cls = d.cls := rfl
@[simp] theorem Dev.setPwr_eng (d : Dev) (x : PwrU) : (d.setPwr x).eng = d.eng := rfl
@[simp] theorem Dev.setPwr_tm (d : Dev) (x : PwrU) : (d.setPwr x).tm = d.tm := rfl
@[simp] theorem Dev.setPwr_key (d : Dev) (x : PwrU) : (d.setPwr x).key = d.key := rfl
@[simp] theorem Dev.setPwr_hif (d : Dev) (x : PwrU) : (d.setPwr x).hif = d.hif := rfl
@[simp] theorem Dev.setPwr_rgm (d : Dev) (x : PwrU) : (d.setPwr x).rgm = d.rgm := rfl
@[simp] theorem Dev.setPwr_dma (d : Dev) (x : PwrU) : (d.setPwr x).dma = d.dma := rfl
@[simp] theorem Dev.setPwr_mtr (d : Dev) (x : PwrU) : (d.setPwr x).mtr = d.mtr := rfl
@[simp] theorem Dev.setPwr_mgt (d : Dev) (x : PwrU) : (d.setPwr x).mgt = d.mgt := rfl
@[simp] theorem Dev.setPwr_rel (d : Dev) (x : PwrU) : (d.setPwr x).rel = d.rel := rfl
@[simp] theorem Dev.setPwr_pwr (d : Dev) (x : PwrU) : (d.setPwr x).pwr = x := rfl

/-! Fields within a unit. -/

@[simp] theorem Dev.setSlots_slots (d : Dev) (x : Tab EpochSlot) : (d.setSlots x).slots = x := rfl
@[simp] theorem Dev.setSlots_load (d : Dev) (x : Tab EpochSlot) : (d.setSlots x).load = d.load := rfl
@[simp] theorem Dev.setSlots_lastEpoch (d : Dev) (x : Tab EpochSlot) : (d.setSlots x).lastEpoch = d.lastEpoch := rfl
@[simp] theorem Dev.setLoad_slots (d : Dev) (x : Option Load) : (d.setLoad x).slots = d.slots := rfl
@[simp] theorem Dev.setLoad_load (d : Dev) (x : Option Load) : (d.setLoad x).load = x := rfl
@[simp] theorem Dev.setLoad_lastEpoch (d : Dev) (x : Option Load) : (d.setLoad x).lastEpoch = d.lastEpoch := rfl
@[simp] theorem Dev.setLastEpoch_slots (d : Dev) (x : Nat) : (d.setLastEpoch x).slots = d.slots := rfl
@[simp] theorem Dev.setLastEpoch_load (d : Dev) (x : Nat) : (d.setLastEpoch x).load = d.load := rfl
@[simp] theorem Dev.setLastEpoch_lastEpoch (d : Dev) (x : Nat) : (d.setLastEpoch x).lastEpoch = x := rfl
@[simp] theorem Dev.setPort_port (d : Dev) (x : Tab PortSt) : (d.setPort x).port = x := rfl
@[simp] theorem Dev.setPort_slowClk (d : Dev) (x : Tab PortSt) : (d.setPort x).slowClk = d.slowClk := rfl
@[simp] theorem Dev.setSlowClk_port (d : Dev) (x : Nat) : (d.setSlowClk x).port = d.port := rfl
@[simp] theorem Dev.setSlowClk_slowClk (d : Dev) (x : Nat) : (d.setSlowClk x).slowClk = x := rfl
@[simp] theorem Dev.setFrames_frames (d : Dev) (x : Tab Frame) : (d.setFrames x).frames = x := rfl
@[simp] theorem Dev.setFrames_nextFrame (d : Dev) (x : Tab Frame) : (d.setFrames x).nextFrame = d.nextFrame := rfl
@[simp] theorem Dev.setFrames_exc (d : Dev) (x : Tab Frame) : (d.setFrames x).exc = d.exc := rfl
@[simp] theorem Dev.setFrames_dropBefore (d : Dev) (x : Tab Frame) : (d.setFrames x).dropBefore = d.dropBefore := rfl
@[simp] theorem Dev.setFrames_fwq (d : Dev) (x : Tab Frame) : (d.setFrames x).fwq = d.fwq := rfl
@[simp] theorem Dev.setFrames_fwBase (d : Dev) (x : Tab Frame) : (d.setFrames x).fwBase = d.fwBase := rfl
@[simp] theorem Dev.setNextFrame_frames (d : Dev) (x : Nat) : (d.setNextFrame x).frames = d.frames := rfl
@[simp] theorem Dev.setNextFrame_nextFrame (d : Dev) (x : Nat) : (d.setNextFrame x).nextFrame = x := rfl
@[simp] theorem Dev.setNextFrame_exc (d : Dev) (x : Nat) : (d.setNextFrame x).exc = d.exc := rfl
@[simp] theorem Dev.setNextFrame_dropBefore (d : Dev) (x : Nat) : (d.setNextFrame x).dropBefore = d.dropBefore := rfl
@[simp] theorem Dev.setNextFrame_fwq (d : Dev) (x : Nat) : (d.setNextFrame x).fwq = d.fwq := rfl
@[simp] theorem Dev.setNextFrame_fwBase (d : Dev) (x : Nat) : (d.setNextFrame x).fwBase = d.fwBase := rfl
@[simp] theorem Dev.setExc_frames (d : Dev) (x : Tab TickBucket) : (d.setExc x).frames = d.frames := rfl
@[simp] theorem Dev.setExc_nextFrame (d : Dev) (x : Tab TickBucket) : (d.setExc x).nextFrame = d.nextFrame := rfl
@[simp] theorem Dev.setExc_exc (d : Dev) (x : Tab TickBucket) : (d.setExc x).exc = x := rfl
@[simp] theorem Dev.setExc_dropBefore (d : Dev) (x : Tab TickBucket) : (d.setExc x).dropBefore = d.dropBefore := rfl
@[simp] theorem Dev.setExc_fwq (d : Dev) (x : Tab TickBucket) : (d.setExc x).fwq = d.fwq := rfl
@[simp] theorem Dev.setExc_fwBase (d : Dev) (x : Tab TickBucket) : (d.setExc x).fwBase = d.fwBase := rfl
@[simp] theorem Dev.setDropBefore_frames (d : Dev) (x : Tab Nat) : (d.setDropBefore x).frames = d.frames := rfl
@[simp] theorem Dev.setDropBefore_nextFrame (d : Dev) (x : Tab Nat) : (d.setDropBefore x).nextFrame = d.nextFrame := rfl
@[simp] theorem Dev.setDropBefore_exc (d : Dev) (x : Tab Nat) : (d.setDropBefore x).exc = d.exc := rfl
@[simp] theorem Dev.setDropBefore_dropBefore (d : Dev) (x : Tab Nat) : (d.setDropBefore x).dropBefore = x := rfl
@[simp] theorem Dev.setDropBefore_fwq (d : Dev) (x : Tab Nat) : (d.setDropBefore x).fwq = d.fwq := rfl
@[simp] theorem Dev.setDropBefore_fwBase (d : Dev) (x : Tab Nat) : (d.setDropBefore x).fwBase = d.fwBase := rfl
@[simp] theorem Dev.setFwq_frames (d : Dev) (x : Tab (List (Nat × List Byte))) : (d.setFwq x).frames = d.frames := rfl
@[simp] theorem Dev.setFwq_nextFrame (d : Dev) (x : Tab (List (Nat × List Byte))) : (d.setFwq x).nextFrame = d.nextFrame := rfl
@[simp] theorem Dev.setFwq_exc (d : Dev) (x : Tab (List (Nat × List Byte))) : (d.setFwq x).exc = d.exc := rfl
@[simp] theorem Dev.setFwq_dropBefore (d : Dev) (x : Tab (List (Nat × List Byte))) : (d.setFwq x).dropBefore = d.dropBefore := rfl
@[simp] theorem Dev.setFwq_fwq (d : Dev) (x : Tab (List (Nat × List Byte))) : (d.setFwq x).fwq = x := rfl
@[simp] theorem Dev.setFwq_fwBase (d : Dev) (x : Tab (List (Nat × List Byte))) : (d.setFwq x).fwBase = d.fwBase := rfl
@[simp] theorem Dev.setFwBase_frames (d : Dev) (x : Nat) : (d.setFwBase x).frames = d.frames := rfl
@[simp] theorem Dev.setFwBase_nextFrame (d : Dev) (x : Nat) : (d.setFwBase x).nextFrame = d.nextFrame := rfl
@[simp] theorem Dev.setFwBase_exc (d : Dev) (x : Nat) : (d.setFwBase x).exc = d.exc := rfl
@[simp] theorem Dev.setFwBase_dropBefore (d : Dev) (x : Nat) : (d.setFwBase x).dropBefore = d.dropBefore := rfl
@[simp] theorem Dev.setFwBase_fwq (d : Dev) (x : Nat) : (d.setFwBase x).fwq = d.fwq := rfl
@[simp] theorem Dev.setFwBase_fwBase (d : Dev) (x : Nat) : (d.setFwBase x).fwBase = x := rfl
@[simp] theorem Dev.setTbl_tbl (d : Dev) (x : Tab Table) : (d.setTbl x).tbl = x := rfl
@[simp] theorem Dev.setTbl_tblMap (d : Dev) (x : Tab Table) : (d.setTbl x).tblMap = d.tblMap := rfl
@[simp] theorem Dev.setTbl_lrnTok (d : Dev) (x : Tab Table) : (d.setTbl x).lrnTok = d.lrnTok := rfl
@[simp] theorem Dev.setTbl_lrnRecent (d : Dev) (x : Tab Table) : (d.setTbl x).lrnRecent = d.lrnRecent := rfl
@[simp] theorem Dev.setTbl_lrnSeq (d : Dev) (x : Tab Table) : (d.setTbl x).lrnSeq = d.lrnSeq := rfl
@[simp] theorem Dev.setTbl_skim (d : Dev) (x : Tab Table) : (d.setTbl x).skim = d.skim := rfl
@[simp] theorem Dev.setTbl_treeLoad (d : Dev) (x : Tab Table) : (d.setTbl x).treeLoad = d.treeLoad := rfl
@[simp] theorem Dev.setTblMap_tbl (d : Dev) (x : Tab Nat) : (d.setTblMap x).tbl = d.tbl := rfl
@[simp] theorem Dev.setTblMap_tblMap (d : Dev) (x : Tab Nat) : (d.setTblMap x).tblMap = x := rfl
@[simp] theorem Dev.setTblMap_lrnTok (d : Dev) (x : Tab Nat) : (d.setTblMap x).lrnTok = d.lrnTok := rfl
@[simp] theorem Dev.setTblMap_lrnRecent (d : Dev) (x : Tab Nat) : (d.setTblMap x).lrnRecent = d.lrnRecent := rfl
@[simp] theorem Dev.setTblMap_lrnSeq (d : Dev) (x : Tab Nat) : (d.setTblMap x).lrnSeq = d.lrnSeq := rfl
@[simp] theorem Dev.setTblMap_skim (d : Dev) (x : Tab Nat) : (d.setTblMap x).skim = d.skim := rfl
@[simp] theorem Dev.setTblMap_treeLoad (d : Dev) (x : Tab Nat) : (d.setTblMap x).treeLoad = d.treeLoad := rfl
@[simp] theorem Dev.setLrnTok_tbl (d : Dev) (x : Tab TickBucket) : (d.setLrnTok x).tbl = d.tbl := rfl
@[simp] theorem Dev.setLrnTok_tblMap (d : Dev) (x : Tab TickBucket) : (d.setLrnTok x).tblMap = d.tblMap := rfl
@[simp] theorem Dev.setLrnTok_lrnTok (d : Dev) (x : Tab TickBucket) : (d.setLrnTok x).lrnTok = x := rfl
@[simp] theorem Dev.setLrnTok_lrnRecent (d : Dev) (x : Tab TickBucket) : (d.setLrnTok x).lrnRecent = d.lrnRecent := rfl
@[simp] theorem Dev.setLrnTok_lrnSeq (d : Dev) (x : Tab TickBucket) : (d.setLrnTok x).lrnSeq = d.lrnSeq := rfl
@[simp] theorem Dev.setLrnTok_skim (d : Dev) (x : Tab TickBucket) : (d.setLrnTok x).skim = d.skim := rfl
@[simp] theorem Dev.setLrnTok_treeLoad (d : Dev) (x : Tab TickBucket) : (d.setLrnTok x).treeLoad = d.treeLoad := rfl
@[simp] theorem Dev.setLrnRecent_tbl (d : Dev) (x : Tab (List (Nat × Nat × List Byte))) : (d.setLrnRecent x).tbl = d.tbl := rfl
@[simp] theorem Dev.setLrnRecent_tblMap (d : Dev) (x : Tab (List (Nat × Nat × List Byte))) : (d.setLrnRecent x).tblMap = d.tblMap := rfl
@[simp] theorem Dev.setLrnRecent_lrnTok (d : Dev) (x : Tab (List (Nat × Nat × List Byte))) : (d.setLrnRecent x).lrnTok = d.lrnTok := rfl
@[simp] theorem Dev.setLrnRecent_lrnRecent (d : Dev) (x : Tab (List (Nat × Nat × List Byte))) : (d.setLrnRecent x).lrnRecent = x := rfl
@[simp] theorem Dev.setLrnRecent_lrnSeq (d : Dev) (x : Tab (List (Nat × Nat × List Byte))) : (d.setLrnRecent x).lrnSeq = d.lrnSeq := rfl
@[simp] theorem Dev.setLrnRecent_skim (d : Dev) (x : Tab (List (Nat × Nat × List Byte))) : (d.setLrnRecent x).skim = d.skim := rfl
@[simp] theorem Dev.setLrnRecent_treeLoad (d : Dev) (x : Tab (List (Nat × Nat × List Byte))) : (d.setLrnRecent x).treeLoad = d.treeLoad := rfl
@[simp] theorem Dev.setLrnSeq_tbl (d : Dev) (x : Tab Nat) : (d.setLrnSeq x).tbl = d.tbl := rfl
@[simp] theorem Dev.setLrnSeq_tblMap (d : Dev) (x : Tab Nat) : (d.setLrnSeq x).tblMap = d.tblMap := rfl
@[simp] theorem Dev.setLrnSeq_lrnTok (d : Dev) (x : Tab Nat) : (d.setLrnSeq x).lrnTok = d.lrnTok := rfl
@[simp] theorem Dev.setLrnSeq_lrnRecent (d : Dev) (x : Tab Nat) : (d.setLrnSeq x).lrnRecent = d.lrnRecent := rfl
@[simp] theorem Dev.setLrnSeq_lrnSeq (d : Dev) (x : Tab Nat) : (d.setLrnSeq x).lrnSeq = x := rfl
@[simp] theorem Dev.setLrnSeq_skim (d : Dev) (x : Tab Nat) : (d.setLrnSeq x).skim = d.skim := rfl
@[simp] theorem Dev.setLrnSeq_treeLoad (d : Dev) (x : Tab Nat) : (d.setLrnSeq x).treeLoad = d.treeLoad := rfl
@[simp] theorem Dev.setSkim_tbl (d : Dev) (x : Tab Skim) : (d.setSkim x).tbl = d.tbl := rfl
@[simp] theorem Dev.setSkim_tblMap (d : Dev) (x : Tab Skim) : (d.setSkim x).tblMap = d.tblMap := rfl
@[simp] theorem Dev.setSkim_lrnTok (d : Dev) (x : Tab Skim) : (d.setSkim x).lrnTok = d.lrnTok := rfl
@[simp] theorem Dev.setSkim_lrnRecent (d : Dev) (x : Tab Skim) : (d.setSkim x).lrnRecent = d.lrnRecent := rfl
@[simp] theorem Dev.setSkim_lrnSeq (d : Dev) (x : Tab Skim) : (d.setSkim x).lrnSeq = d.lrnSeq := rfl
@[simp] theorem Dev.setSkim_skim (d : Dev) (x : Tab Skim) : (d.setSkim x).skim = x := rfl
@[simp] theorem Dev.setSkim_treeLoad (d : Dev) (x : Tab Skim) : (d.setSkim x).treeLoad = d.treeLoad := rfl
@[simp] theorem Dev.setTreeLoad_tbl (d : Dev) (x : Tab (Nat × Nat)) : (d.setTreeLoad x).tbl = d.tbl := rfl
@[simp] theorem Dev.setTreeLoad_tblMap (d : Dev) (x : Tab (Nat × Nat)) : (d.setTreeLoad x).tblMap = d.tblMap := rfl
@[simp] theorem Dev.setTreeLoad_lrnTok (d : Dev) (x : Tab (Nat × Nat)) : (d.setTreeLoad x).lrnTok = d.lrnTok := rfl
@[simp] theorem Dev.setTreeLoad_lrnRecent (d : Dev) (x : Tab (Nat × Nat)) : (d.setTreeLoad x).lrnRecent = d.lrnRecent := rfl
@[simp] theorem Dev.setTreeLoad_lrnSeq (d : Dev) (x : Tab (Nat × Nat)) : (d.setTreeLoad x).lrnSeq = d.lrnSeq := rfl
@[simp] theorem Dev.setTreeLoad_skim (d : Dev) (x : Tab (Nat × Nat)) : (d.setTreeLoad x).skim = d.skim := rfl
@[simp] theorem Dev.setTreeLoad_treeLoad (d : Dev) (x : Tab (Nat × Nat)) : (d.setTreeLoad x).treeLoad = x := rfl
@[simp] theorem Dev.setThr_thr (d : Dev) (x : Tab Thr) : (d.setThr x).thr = x := rfl
@[simp] theorem Dev.setThr_chan (d : Dev) (x : Tab Thr) : (d.setThr x).chan = d.chan := rfl
@[simp] theorem Dev.setThr_stall (d : Dev) (x : Tab Thr) : (d.setThr x).stall = d.stall := rfl
@[simp] theorem Dev.setThr_round (d : Dev) (x : Tab Thr) : (d.setThr x).round = d.round := rfl
@[simp] theorem Dev.setThr_mig (d : Dev) (x : Tab Thr) : (d.setThr x).mig = d.mig := rfl
@[simp] theorem Dev.setThr_phys (d : Dev) (x : Tab Thr) : (d.setThr x).phys = d.phys := rfl
@[simp] theorem Dev.setThr_ops (d : Dev) (x : Tab Thr) : (d.setThr x).ops = d.ops := rfl
@[simp] theorem Dev.setThr_pduOpen (d : Dev) (x : Tab Thr) : (d.setThr x).pduOpen = d.pduOpen := rfl
@[simp] theorem Dev.setThr_nextOp (d : Dev) (x : Tab Thr) : (d.setThr x).nextOp = d.nextOp := rfl
@[simp] theorem Dev.setThr_dspLast (d : Dev) (x : Tab Thr) : (d.setThr x).dspLast = d.dspLast := rfl
@[simp] theorem Dev.setThr_dspq (d : Dev) (x : Tab Thr) : (d.setThr x).dspq = d.dspq := rfl
@[simp] theorem Dev.setThr_order (d : Dev) (x : Tab Thr) : (d.setThr x).order = d.order := rfl
@[simp] theorem Dev.setThr_poison (d : Dev) (x : Tab Thr) : (d.setThr x).poison = d.poison := rfl
@[simp] theorem Dev.setThr_excHeld (d : Dev) (x : Tab Thr) : (d.setThr x).excHeld = d.excHeld := rfl
@[simp] theorem Dev.setThr_bankHeld (d : Dev) (x : Tab Thr) : (d.setThr x).bankHeld = d.bankHeld := rfl
@[simp] theorem Dev.setChan_thr (d : Dev) (x : Tab Chan) : (d.setChan x).thr = d.thr := rfl
@[simp] theorem Dev.setChan_chan (d : Dev) (x : Tab Chan) : (d.setChan x).chan = x := rfl
@[simp] theorem Dev.setChan_stall (d : Dev) (x : Tab Chan) : (d.setChan x).stall = d.stall := rfl
@[simp] theorem Dev.setChan_round (d : Dev) (x : Tab Chan) : (d.setChan x).round = d.round := rfl
@[simp] theorem Dev.setChan_mig (d : Dev) (x : Tab Chan) : (d.setChan x).mig = d.mig := rfl
@[simp] theorem Dev.setChan_phys (d : Dev) (x : Tab Chan) : (d.setChan x).phys = d.phys := rfl
@[simp] theorem Dev.setChan_ops (d : Dev) (x : Tab Chan) : (d.setChan x).ops = d.ops := rfl
@[simp] theorem Dev.setChan_pduOpen (d : Dev) (x : Tab Chan) : (d.setChan x).pduOpen = d.pduOpen := rfl
@[simp] theorem Dev.setChan_nextOp (d : Dev) (x : Tab Chan) : (d.setChan x).nextOp = d.nextOp := rfl
@[simp] theorem Dev.setChan_dspLast (d : Dev) (x : Tab Chan) : (d.setChan x).dspLast = d.dspLast := rfl
@[simp] theorem Dev.setChan_dspq (d : Dev) (x : Tab Chan) : (d.setChan x).dspq = d.dspq := rfl
@[simp] theorem Dev.setChan_order (d : Dev) (x : Tab Chan) : (d.setChan x).order = d.order := rfl
@[simp] theorem Dev.setChan_poison (d : Dev) (x : Tab Chan) : (d.setChan x).poison = d.poison := rfl
@[simp] theorem Dev.setChan_excHeld (d : Dev) (x : Tab Chan) : (d.setChan x).excHeld = d.excHeld := rfl
@[simp] theorem Dev.setChan_bankHeld (d : Dev) (x : Tab Chan) : (d.setChan x).bankHeld = d.bankHeld := rfl
@[simp] theorem Dev.setStall_thr (d : Dev) (x : Tab StallSt) : (d.setStall x).thr = d.thr := rfl
@[simp] theorem Dev.setStall_chan (d : Dev) (x : Tab StallSt) : (d.setStall x).chan = d.chan := rfl
@[simp] theorem Dev.setStall_stall (d : Dev) (x : Tab StallSt) : (d.setStall x).stall = x := rfl
@[simp] theorem Dev.setStall_round (d : Dev) (x : Tab StallSt) : (d.setStall x).round = d.round := rfl
@[simp] theorem Dev.setStall_mig (d : Dev) (x : Tab StallSt) : (d.setStall x).mig = d.mig := rfl
@[simp] theorem Dev.setStall_phys (d : Dev) (x : Tab StallSt) : (d.setStall x).phys = d.phys := rfl
@[simp] theorem Dev.setStall_ops (d : Dev) (x : Tab StallSt) : (d.setStall x).ops = d.ops := rfl
@[simp] theorem Dev.setStall_pduOpen (d : Dev) (x : Tab StallSt) : (d.setStall x).pduOpen = d.pduOpen := rfl
@[simp] theorem Dev.setStall_nextOp (d : Dev) (x : Tab StallSt) : (d.setStall x).nextOp = d.nextOp := rfl
@[simp] theorem Dev.setStall_dspLast (d : Dev) (x : Tab StallSt) : (d.setStall x).dspLast = d.dspLast := rfl
@[simp] theorem Dev.setStall_dspq (d : Dev) (x : Tab StallSt) : (d.setStall x).dspq = d.dspq := rfl
@[simp] theorem Dev.setStall_order (d : Dev) (x : Tab StallSt) : (d.setStall x).order = d.order := rfl
@[simp] theorem Dev.setStall_poison (d : Dev) (x : Tab StallSt) : (d.setStall x).poison = d.poison := rfl
@[simp] theorem Dev.setStall_excHeld (d : Dev) (x : Tab StallSt) : (d.setStall x).excHeld = d.excHeld := rfl
@[simp] theorem Dev.setStall_bankHeld (d : Dev) (x : Tab StallSt) : (d.setStall x).bankHeld = d.bankHeld := rfl
@[simp] theorem Dev.setRound_thr (d : Dev) (x : Tab WrrSt) : (d.setRound x).thr = d.thr := rfl
@[simp] theorem Dev.setRound_chan (d : Dev) (x : Tab WrrSt) : (d.setRound x).chan = d.chan := rfl
@[simp] theorem Dev.setRound_stall (d : Dev) (x : Tab WrrSt) : (d.setRound x).stall = d.stall := rfl
@[simp] theorem Dev.setRound_round (d : Dev) (x : Tab WrrSt) : (d.setRound x).round = x := rfl
@[simp] theorem Dev.setRound_mig (d : Dev) (x : Tab WrrSt) : (d.setRound x).mig = d.mig := rfl
@[simp] theorem Dev.setRound_phys (d : Dev) (x : Tab WrrSt) : (d.setRound x).phys = d.phys := rfl
@[simp] theorem Dev.setRound_ops (d : Dev) (x : Tab WrrSt) : (d.setRound x).ops = d.ops := rfl
@[simp] theorem Dev.setRound_pduOpen (d : Dev) (x : Tab WrrSt) : (d.setRound x).pduOpen = d.pduOpen := rfl
@[simp] theorem Dev.setRound_nextOp (d : Dev) (x : Tab WrrSt) : (d.setRound x).nextOp = d.nextOp := rfl
@[simp] theorem Dev.setRound_dspLast (d : Dev) (x : Tab WrrSt) : (d.setRound x).dspLast = d.dspLast := rfl
@[simp] theorem Dev.setRound_dspq (d : Dev) (x : Tab WrrSt) : (d.setRound x).dspq = d.dspq := rfl
@[simp] theorem Dev.setRound_order (d : Dev) (x : Tab WrrSt) : (d.setRound x).order = d.order := rfl
@[simp] theorem Dev.setRound_poison (d : Dev) (x : Tab WrrSt) : (d.setRound x).poison = d.poison := rfl
@[simp] theorem Dev.setRound_excHeld (d : Dev) (x : Tab WrrSt) : (d.setRound x).excHeld = d.excHeld := rfl
@[simp] theorem Dev.setRound_bankHeld (d : Dev) (x : Tab WrrSt) : (d.setRound x).bankHeld = d.bankHeld := rfl
@[simp] theorem Dev.setMig_thr (d : Dev) (x : Tab Mig) : (d.setMig x).thr = d.thr := rfl
@[simp] theorem Dev.setMig_chan (d : Dev) (x : Tab Mig) : (d.setMig x).chan = d.chan := rfl
@[simp] theorem Dev.setMig_stall (d : Dev) (x : Tab Mig) : (d.setMig x).stall = d.stall := rfl
@[simp] theorem Dev.setMig_round (d : Dev) (x : Tab Mig) : (d.setMig x).round = d.round := rfl
@[simp] theorem Dev.setMig_mig (d : Dev) (x : Tab Mig) : (d.setMig x).mig = x := rfl
@[simp] theorem Dev.setMig_phys (d : Dev) (x : Tab Mig) : (d.setMig x).phys = d.phys := rfl
@[simp] theorem Dev.setMig_ops (d : Dev) (x : Tab Mig) : (d.setMig x).ops = d.ops := rfl
@[simp] theorem Dev.setMig_pduOpen (d : Dev) (x : Tab Mig) : (d.setMig x).pduOpen = d.pduOpen := rfl
@[simp] theorem Dev.setMig_nextOp (d : Dev) (x : Tab Mig) : (d.setMig x).nextOp = d.nextOp := rfl
@[simp] theorem Dev.setMig_dspLast (d : Dev) (x : Tab Mig) : (d.setMig x).dspLast = d.dspLast := rfl
@[simp] theorem Dev.setMig_dspq (d : Dev) (x : Tab Mig) : (d.setMig x).dspq = d.dspq := rfl
@[simp] theorem Dev.setMig_order (d : Dev) (x : Tab Mig) : (d.setMig x).order = d.order := rfl
@[simp] theorem Dev.setMig_poison (d : Dev) (x : Tab Mig) : (d.setMig x).poison = d.poison := rfl
@[simp] theorem Dev.setMig_excHeld (d : Dev) (x : Tab Mig) : (d.setMig x).excHeld = d.excHeld := rfl
@[simp] theorem Dev.setMig_bankHeld (d : Dev) (x : Tab Mig) : (d.setMig x).bankHeld = d.bankHeld := rfl
@[simp] theorem Dev.setPhys_thr (d : Dev) (x : Tab Nat) : (d.setPhys x).thr = d.thr := rfl
@[simp] theorem Dev.setPhys_chan (d : Dev) (x : Tab Nat) : (d.setPhys x).chan = d.chan := rfl
@[simp] theorem Dev.setPhys_stall (d : Dev) (x : Tab Nat) : (d.setPhys x).stall = d.stall := rfl
@[simp] theorem Dev.setPhys_round (d : Dev) (x : Tab Nat) : (d.setPhys x).round = d.round := rfl
@[simp] theorem Dev.setPhys_mig (d : Dev) (x : Tab Nat) : (d.setPhys x).mig = d.mig := rfl
@[simp] theorem Dev.setPhys_phys (d : Dev) (x : Tab Nat) : (d.setPhys x).phys = x := rfl
@[simp] theorem Dev.setPhys_ops (d : Dev) (x : Tab Nat) : (d.setPhys x).ops = d.ops := rfl
@[simp] theorem Dev.setPhys_pduOpen (d : Dev) (x : Tab Nat) : (d.setPhys x).pduOpen = d.pduOpen := rfl
@[simp] theorem Dev.setPhys_nextOp (d : Dev) (x : Tab Nat) : (d.setPhys x).nextOp = d.nextOp := rfl
@[simp] theorem Dev.setPhys_dspLast (d : Dev) (x : Tab Nat) : (d.setPhys x).dspLast = d.dspLast := rfl
@[simp] theorem Dev.setPhys_dspq (d : Dev) (x : Tab Nat) : (d.setPhys x).dspq = d.dspq := rfl
@[simp] theorem Dev.setPhys_order (d : Dev) (x : Tab Nat) : (d.setPhys x).order = d.order := rfl
@[simp] theorem Dev.setPhys_poison (d : Dev) (x : Tab Nat) : (d.setPhys x).poison = d.poison := rfl
@[simp] theorem Dev.setPhys_excHeld (d : Dev) (x : Tab Nat) : (d.setPhys x).excHeld = d.excHeld := rfl
@[simp] theorem Dev.setPhys_bankHeld (d : Dev) (x : Tab Nat) : (d.setPhys x).bankHeld = d.bankHeld := rfl
@[simp] theorem Dev.setOps_thr (d : Dev) (x : Tab OpRec) : (d.setOps x).thr = d.thr := rfl
@[simp] theorem Dev.setOps_chan (d : Dev) (x : Tab OpRec) : (d.setOps x).chan = d.chan := rfl
@[simp] theorem Dev.setOps_stall (d : Dev) (x : Tab OpRec) : (d.setOps x).stall = d.stall := rfl
@[simp] theorem Dev.setOps_round (d : Dev) (x : Tab OpRec) : (d.setOps x).round = d.round := rfl
@[simp] theorem Dev.setOps_mig (d : Dev) (x : Tab OpRec) : (d.setOps x).mig = d.mig := rfl
@[simp] theorem Dev.setOps_phys (d : Dev) (x : Tab OpRec) : (d.setOps x).phys = d.phys := rfl
@[simp] theorem Dev.setOps_ops (d : Dev) (x : Tab OpRec) : (d.setOps x).ops = x := rfl
@[simp] theorem Dev.setOps_pduOpen (d : Dev) (x : Tab OpRec) : (d.setOps x).pduOpen = d.pduOpen := rfl
@[simp] theorem Dev.setOps_nextOp (d : Dev) (x : Tab OpRec) : (d.setOps x).nextOp = d.nextOp := rfl
@[simp] theorem Dev.setOps_dspLast (d : Dev) (x : Tab OpRec) : (d.setOps x).dspLast = d.dspLast := rfl
@[simp] theorem Dev.setOps_dspq (d : Dev) (x : Tab OpRec) : (d.setOps x).dspq = d.dspq := rfl
@[simp] theorem Dev.setOps_order (d : Dev) (x : Tab OpRec) : (d.setOps x).order = d.order := rfl
@[simp] theorem Dev.setOps_poison (d : Dev) (x : Tab OpRec) : (d.setOps x).poison = d.poison := rfl
@[simp] theorem Dev.setOps_excHeld (d : Dev) (x : Tab OpRec) : (d.setOps x).excHeld = d.excHeld := rfl
@[simp] theorem Dev.setOps_bankHeld (d : Dev) (x : Tab OpRec) : (d.setOps x).bankHeld = d.bankHeld := rfl
@[simp] theorem Dev.setPduOpen_thr (d : Dev) (x : Tab PduOpen) : (d.setPduOpen x).thr = d.thr := rfl
@[simp] theorem Dev.setPduOpen_chan (d : Dev) (x : Tab PduOpen) : (d.setPduOpen x).chan = d.chan := rfl
@[simp] theorem Dev.setPduOpen_stall (d : Dev) (x : Tab PduOpen) : (d.setPduOpen x).stall = d.stall := rfl
@[simp] theorem Dev.setPduOpen_round (d : Dev) (x : Tab PduOpen) : (d.setPduOpen x).round = d.round := rfl
@[simp] theorem Dev.setPduOpen_mig (d : Dev) (x : Tab PduOpen) : (d.setPduOpen x).mig = d.mig := rfl
@[simp] theorem Dev.setPduOpen_phys (d : Dev) (x : Tab PduOpen) : (d.setPduOpen x).phys = d.phys := rfl
@[simp] theorem Dev.setPduOpen_ops (d : Dev) (x : Tab PduOpen) : (d.setPduOpen x).ops = d.ops := rfl
@[simp] theorem Dev.setPduOpen_pduOpen (d : Dev) (x : Tab PduOpen) : (d.setPduOpen x).pduOpen = x := rfl
@[simp] theorem Dev.setPduOpen_nextOp (d : Dev) (x : Tab PduOpen) : (d.setPduOpen x).nextOp = d.nextOp := rfl
@[simp] theorem Dev.setPduOpen_dspLast (d : Dev) (x : Tab PduOpen) : (d.setPduOpen x).dspLast = d.dspLast := rfl
@[simp] theorem Dev.setPduOpen_dspq (d : Dev) (x : Tab PduOpen) : (d.setPduOpen x).dspq = d.dspq := rfl
@[simp] theorem Dev.setPduOpen_order (d : Dev) (x : Tab PduOpen) : (d.setPduOpen x).order = d.order := rfl
@[simp] theorem Dev.setPduOpen_poison (d : Dev) (x : Tab PduOpen) : (d.setPduOpen x).poison = d.poison := rfl
@[simp] theorem Dev.setPduOpen_excHeld (d : Dev) (x : Tab PduOpen) : (d.setPduOpen x).excHeld = d.excHeld := rfl
@[simp] theorem Dev.setPduOpen_bankHeld (d : Dev) (x : Tab PduOpen) : (d.setPduOpen x).bankHeld = d.bankHeld := rfl
@[simp] theorem Dev.setNextOp_thr (d : Dev) (x : Nat) : (d.setNextOp x).thr = d.thr := rfl
@[simp] theorem Dev.setNextOp_chan (d : Dev) (x : Nat) : (d.setNextOp x).chan = d.chan := rfl
@[simp] theorem Dev.setNextOp_stall (d : Dev) (x : Nat) : (d.setNextOp x).stall = d.stall := rfl
@[simp] theorem Dev.setNextOp_round (d : Dev) (x : Nat) : (d.setNextOp x).round = d.round := rfl
@[simp] theorem Dev.setNextOp_mig (d : Dev) (x : Nat) : (d.setNextOp x).mig = d.mig := rfl
@[simp] theorem Dev.setNextOp_phys (d : Dev) (x : Nat) : (d.setNextOp x).phys = d.phys := rfl
@[simp] theorem Dev.setNextOp_ops (d : Dev) (x : Nat) : (d.setNextOp x).ops = d.ops := rfl
@[simp] theorem Dev.setNextOp_pduOpen (d : Dev) (x : Nat) : (d.setNextOp x).pduOpen = d.pduOpen := rfl
@[simp] theorem Dev.setNextOp_nextOp (d : Dev) (x : Nat) : (d.setNextOp x).nextOp = x := rfl
@[simp] theorem Dev.setNextOp_dspLast (d : Dev) (x : Nat) : (d.setNextOp x).dspLast = d.dspLast := rfl
@[simp] theorem Dev.setNextOp_dspq (d : Dev) (x : Nat) : (d.setNextOp x).dspq = d.dspq := rfl
@[simp] theorem Dev.setNextOp_order (d : Dev) (x : Nat) : (d.setNextOp x).order = d.order := rfl
@[simp] theorem Dev.setNextOp_poison (d : Dev) (x : Nat) : (d.setNextOp x).poison = d.poison := rfl
@[simp] theorem Dev.setNextOp_excHeld (d : Dev) (x : Nat) : (d.setNextOp x).excHeld = d.excHeld := rfl
@[simp] theorem Dev.setNextOp_bankHeld (d : Dev) (x : Nat) : (d.setNextOp x).bankHeld = d.bankHeld := rfl
@[simp] theorem Dev.setDspLast_thr (d : Dev) (x : Tab Nat) : (d.setDspLast x).thr = d.thr := rfl
@[simp] theorem Dev.setDspLast_chan (d : Dev) (x : Tab Nat) : (d.setDspLast x).chan = d.chan := rfl
@[simp] theorem Dev.setDspLast_stall (d : Dev) (x : Tab Nat) : (d.setDspLast x).stall = d.stall := rfl
@[simp] theorem Dev.setDspLast_round (d : Dev) (x : Tab Nat) : (d.setDspLast x).round = d.round := rfl
@[simp] theorem Dev.setDspLast_mig (d : Dev) (x : Tab Nat) : (d.setDspLast x).mig = d.mig := rfl
@[simp] theorem Dev.setDspLast_phys (d : Dev) (x : Tab Nat) : (d.setDspLast x).phys = d.phys := rfl
@[simp] theorem Dev.setDspLast_ops (d : Dev) (x : Tab Nat) : (d.setDspLast x).ops = d.ops := rfl
@[simp] theorem Dev.setDspLast_pduOpen (d : Dev) (x : Tab Nat) : (d.setDspLast x).pduOpen = d.pduOpen := rfl
@[simp] theorem Dev.setDspLast_nextOp (d : Dev) (x : Tab Nat) : (d.setDspLast x).nextOp = d.nextOp := rfl
@[simp] theorem Dev.setDspLast_dspLast (d : Dev) (x : Tab Nat) : (d.setDspLast x).dspLast = x := rfl
@[simp] theorem Dev.setDspLast_dspq (d : Dev) (x : Tab Nat) : (d.setDspLast x).dspq = d.dspq := rfl
@[simp] theorem Dev.setDspLast_order (d : Dev) (x : Tab Nat) : (d.setDspLast x).order = d.order := rfl
@[simp] theorem Dev.setDspLast_poison (d : Dev) (x : Tab Nat) : (d.setDspLast x).poison = d.poison := rfl
@[simp] theorem Dev.setDspLast_excHeld (d : Dev) (x : Tab Nat) : (d.setDspLast x).excHeld = d.excHeld := rfl
@[simp] theorem Dev.setDspLast_bankHeld (d : Dev) (x : Tab Nat) : (d.setDspLast x).bankHeld = d.bankHeld := rfl
@[simp] theorem Dev.setDspq_thr (d : Dev) (x : Tab (List Nat)) : (d.setDspq x).thr = d.thr := rfl
@[simp] theorem Dev.setDspq_chan (d : Dev) (x : Tab (List Nat)) : (d.setDspq x).chan = d.chan := rfl
@[simp] theorem Dev.setDspq_stall (d : Dev) (x : Tab (List Nat)) : (d.setDspq x).stall = d.stall := rfl
@[simp] theorem Dev.setDspq_round (d : Dev) (x : Tab (List Nat)) : (d.setDspq x).round = d.round := rfl
@[simp] theorem Dev.setDspq_mig (d : Dev) (x : Tab (List Nat)) : (d.setDspq x).mig = d.mig := rfl
@[simp] theorem Dev.setDspq_phys (d : Dev) (x : Tab (List Nat)) : (d.setDspq x).phys = d.phys := rfl
@[simp] theorem Dev.setDspq_ops (d : Dev) (x : Tab (List Nat)) : (d.setDspq x).ops = d.ops := rfl
@[simp] theorem Dev.setDspq_pduOpen (d : Dev) (x : Tab (List Nat)) : (d.setDspq x).pduOpen = d.pduOpen := rfl
@[simp] theorem Dev.setDspq_nextOp (d : Dev) (x : Tab (List Nat)) : (d.setDspq x).nextOp = d.nextOp := rfl
@[simp] theorem Dev.setDspq_dspLast (d : Dev) (x : Tab (List Nat)) : (d.setDspq x).dspLast = d.dspLast := rfl
@[simp] theorem Dev.setDspq_dspq (d : Dev) (x : Tab (List Nat)) : (d.setDspq x).dspq = x := rfl
@[simp] theorem Dev.setDspq_order (d : Dev) (x : Tab (List Nat)) : (d.setDspq x).order = d.order := rfl
@[simp] theorem Dev.setDspq_poison (d : Dev) (x : Tab (List Nat)) : (d.setDspq x).poison = d.poison := rfl
@[simp] theorem Dev.setDspq_excHeld (d : Dev) (x : Tab (List Nat)) : (d.setDspq x).excHeld = d.excHeld := rfl
@[simp] theorem Dev.setDspq_bankHeld (d : Dev) (x : Tab (List Nat)) : (d.setDspq x).bankHeld = d.bankHeld := rfl
@[simp] theorem Dev.setOrder_thr (d : Dev) (x : Tab (List Nat)) : (d.setOrder x).thr = d.thr := rfl
@[simp] theorem Dev.setOrder_chan (d : Dev) (x : Tab (List Nat)) : (d.setOrder x).chan = d.chan := rfl
@[simp] theorem Dev.setOrder_stall (d : Dev) (x : Tab (List Nat)) : (d.setOrder x).stall = d.stall := rfl
@[simp] theorem Dev.setOrder_round (d : Dev) (x : Tab (List Nat)) : (d.setOrder x).round = d.round := rfl
@[simp] theorem Dev.setOrder_mig (d : Dev) (x : Tab (List Nat)) : (d.setOrder x).mig = d.mig := rfl
@[simp] theorem Dev.setOrder_phys (d : Dev) (x : Tab (List Nat)) : (d.setOrder x).phys = d.phys := rfl
@[simp] theorem Dev.setOrder_ops (d : Dev) (x : Tab (List Nat)) : (d.setOrder x).ops = d.ops := rfl
@[simp] theorem Dev.setOrder_pduOpen (d : Dev) (x : Tab (List Nat)) : (d.setOrder x).pduOpen = d.pduOpen := rfl
@[simp] theorem Dev.setOrder_nextOp (d : Dev) (x : Tab (List Nat)) : (d.setOrder x).nextOp = d.nextOp := rfl
@[simp] theorem Dev.setOrder_dspLast (d : Dev) (x : Tab (List Nat)) : (d.setOrder x).dspLast = d.dspLast := rfl
@[simp] theorem Dev.setOrder_dspq (d : Dev) (x : Tab (List Nat)) : (d.setOrder x).dspq = d.dspq := rfl
@[simp] theorem Dev.setOrder_order (d : Dev) (x : Tab (List Nat)) : (d.setOrder x).order = x := rfl
@[simp] theorem Dev.setOrder_poison (d : Dev) (x : Tab (List Nat)) : (d.setOrder x).poison = d.poison := rfl
@[simp] theorem Dev.setOrder_excHeld (d : Dev) (x : Tab (List Nat)) : (d.setOrder x).excHeld = d.excHeld := rfl
@[simp] theorem Dev.setOrder_bankHeld (d : Dev) (x : Tab (List Nat)) : (d.setOrder x).bankHeld = d.bankHeld := rfl
@[simp] theorem Dev.setPoison_thr (d : Dev) (x : Tab Nat) : (d.setPoison x).thr = d.thr := rfl
@[simp] theorem Dev.setPoison_chan (d : Dev) (x : Tab Nat) : (d.setPoison x).chan = d.chan := rfl
@[simp] theorem Dev.setPoison_stall (d : Dev) (x : Tab Nat) : (d.setPoison x).stall = d.stall := rfl
@[simp] theorem Dev.setPoison_round (d : Dev) (x : Tab Nat) : (d.setPoison x).round = d.round := rfl
@[simp] theorem Dev.setPoison_mig (d : Dev) (x : Tab Nat) : (d.setPoison x).mig = d.mig := rfl
@[simp] theorem Dev.setPoison_phys (d : Dev) (x : Tab Nat) : (d.setPoison x).phys = d.phys := rfl
@[simp] theorem Dev.setPoison_ops (d : Dev) (x : Tab Nat) : (d.setPoison x).ops = d.ops := rfl
@[simp] theorem Dev.setPoison_pduOpen (d : Dev) (x : Tab Nat) : (d.setPoison x).pduOpen = d.pduOpen := rfl
@[simp] theorem Dev.setPoison_nextOp (d : Dev) (x : Tab Nat) : (d.setPoison x).nextOp = d.nextOp := rfl
@[simp] theorem Dev.setPoison_dspLast (d : Dev) (x : Tab Nat) : (d.setPoison x).dspLast = d.dspLast := rfl
@[simp] theorem Dev.setPoison_dspq (d : Dev) (x : Tab Nat) : (d.setPoison x).dspq = d.dspq := rfl
@[simp] theorem Dev.setPoison_order (d : Dev) (x : Tab Nat) : (d.setPoison x).order = d.order := rfl
@[simp] theorem Dev.setPoison_poison (d : Dev) (x : Tab Nat) : (d.setPoison x).poison = x := rfl
@[simp] theorem Dev.setPoison_excHeld (d : Dev) (x : Tab Nat) : (d.setPoison x).excHeld = d.excHeld := rfl
@[simp] theorem Dev.setPoison_bankHeld (d : Dev) (x : Tab Nat) : (d.setPoison x).bankHeld = d.bankHeld := rfl
@[simp] theorem Dev.setExcHeld_thr (d : Dev) (x : List ExcAcc) : (d.setExcHeld x).thr = d.thr := rfl
@[simp] theorem Dev.setExcHeld_chan (d : Dev) (x : List ExcAcc) : (d.setExcHeld x).chan = d.chan := rfl
@[simp] theorem Dev.setExcHeld_stall (d : Dev) (x : List ExcAcc) : (d.setExcHeld x).stall = d.stall := rfl
@[simp] theorem Dev.setExcHeld_round (d : Dev) (x : List ExcAcc) : (d.setExcHeld x).round = d.round := rfl
@[simp] theorem Dev.setExcHeld_mig (d : Dev) (x : List ExcAcc) : (d.setExcHeld x).mig = d.mig := rfl
@[simp] theorem Dev.setExcHeld_phys (d : Dev) (x : List ExcAcc) : (d.setExcHeld x).phys = d.phys := rfl
@[simp] theorem Dev.setExcHeld_ops (d : Dev) (x : List ExcAcc) : (d.setExcHeld x).ops = d.ops := rfl
@[simp] theorem Dev.setExcHeld_pduOpen (d : Dev) (x : List ExcAcc) : (d.setExcHeld x).pduOpen = d.pduOpen := rfl
@[simp] theorem Dev.setExcHeld_nextOp (d : Dev) (x : List ExcAcc) : (d.setExcHeld x).nextOp = d.nextOp := rfl
@[simp] theorem Dev.setExcHeld_dspLast (d : Dev) (x : List ExcAcc) : (d.setExcHeld x).dspLast = d.dspLast := rfl
@[simp] theorem Dev.setExcHeld_dspq (d : Dev) (x : List ExcAcc) : (d.setExcHeld x).dspq = d.dspq := rfl
@[simp] theorem Dev.setExcHeld_order (d : Dev) (x : List ExcAcc) : (d.setExcHeld x).order = d.order := rfl
@[simp] theorem Dev.setExcHeld_poison (d : Dev) (x : List ExcAcc) : (d.setExcHeld x).poison = d.poison := rfl
@[simp] theorem Dev.setExcHeld_excHeld (d : Dev) (x : List ExcAcc) : (d.setExcHeld x).excHeld = x := rfl
@[simp] theorem Dev.setExcHeld_bankHeld (d : Dev) (x : List ExcAcc) : (d.setExcHeld x).bankHeld = d.bankHeld := rfl
@[simp] theorem Dev.setBankHeld_thr (d : Dev) (x : Nat) : (d.setBankHeld x).thr = d.thr := rfl
@[simp] theorem Dev.setBankHeld_chan (d : Dev) (x : Nat) : (d.setBankHeld x).chan = d.chan := rfl
@[simp] theorem Dev.setBankHeld_stall (d : Dev) (x : Nat) : (d.setBankHeld x).stall = d.stall := rfl
@[simp] theorem Dev.setBankHeld_round (d : Dev) (x : Nat) : (d.setBankHeld x).round = d.round := rfl
@[simp] theorem Dev.setBankHeld_mig (d : Dev) (x : Nat) : (d.setBankHeld x).mig = d.mig := rfl
@[simp] theorem Dev.setBankHeld_phys (d : Dev) (x : Nat) : (d.setBankHeld x).phys = d.phys := rfl
@[simp] theorem Dev.setBankHeld_ops (d : Dev) (x : Nat) : (d.setBankHeld x).ops = d.ops := rfl
@[simp] theorem Dev.setBankHeld_pduOpen (d : Dev) (x : Nat) : (d.setBankHeld x).pduOpen = d.pduOpen := rfl
@[simp] theorem Dev.setBankHeld_nextOp (d : Dev) (x : Nat) : (d.setBankHeld x).nextOp = d.nextOp := rfl
@[simp] theorem Dev.setBankHeld_dspLast (d : Dev) (x : Nat) : (d.setBankHeld x).dspLast = d.dspLast := rfl
@[simp] theorem Dev.setBankHeld_dspq (d : Dev) (x : Nat) : (d.setBankHeld x).dspq = d.dspq := rfl
@[simp] theorem Dev.setBankHeld_order (d : Dev) (x : Nat) : (d.setBankHeld x).order = d.order := rfl
@[simp] theorem Dev.setBankHeld_poison (d : Dev) (x : Nat) : (d.setBankHeld x).poison = d.poison := rfl
@[simp] theorem Dev.setBankHeld_excHeld (d : Dev) (x : Nat) : (d.setBankHeld x).excHeld = d.excHeld := rfl
@[simp] theorem Dev.setBankHeld_bankHeld (d : Dev) (x : Nat) : (d.setBankHeld x).bankHeld = x := rfl
@[simp] theorem Dev.setNode_node (d : Dev) (x : Tab NodeSt) : (d.setNode x).node = x := rfl
@[simp] theorem Dev.setNode_queue (d : Dev) (x : Tab NodeSt) : (d.setNode x).queue = d.queue := rfl
@[simp] theorem Dev.setNode_wheels (d : Dev) (x : Tab NodeSt) : (d.setNode x).wheels = d.wheels := rfl
@[simp] theorem Dev.setNode_pol (d : Dev) (x : Tab NodeSt) : (d.setNode x).pol = d.pol := rfl
@[simp] theorem Dev.setNode_polMap (d : Dev) (x : Tab NodeSt) : (d.setNode x).polMap = d.polMap := rfl
@[simp] theorem Dev.setNode_gate (d : Dev) (x : Tab NodeSt) : (d.setNode x).gate = d.gate := rfl
@[simp] theorem Dev.setNode_wheelRel (d : Dev) (x : Tab NodeSt) : (d.setNode x).wheelRel = d.wheelRel := rfl
@[simp] theorem Dev.setQueue_node (d : Dev) (x : Tab QueueSt) : (d.setQueue x).node = d.node := rfl
@[simp] theorem Dev.setQueue_queue (d : Dev) (x : Tab QueueSt) : (d.setQueue x).queue = x := rfl
@[simp] theorem Dev.setQueue_wheels (d : Dev) (x : Tab QueueSt) : (d.setQueue x).wheels = d.wheels := rfl
@[simp] theorem Dev.setQueue_pol (d : Dev) (x : Tab QueueSt) : (d.setQueue x).pol = d.pol := rfl
@[simp] theorem Dev.setQueue_polMap (d : Dev) (x : Tab QueueSt) : (d.setQueue x).polMap = d.polMap := rfl
@[simp] theorem Dev.setQueue_gate (d : Dev) (x : Tab QueueSt) : (d.setQueue x).gate = d.gate := rfl
@[simp] theorem Dev.setQueue_wheelRel (d : Dev) (x : Tab QueueSt) : (d.setQueue x).wheelRel = d.wheelRel := rfl
@[simp] theorem Dev.setWheels_node (d : Dev) (x : Tab (List WheelEnt)) : (d.setWheels x).node = d.node := rfl
@[simp] theorem Dev.setWheels_queue (d : Dev) (x : Tab (List WheelEnt)) : (d.setWheels x).queue = d.queue := rfl
@[simp] theorem Dev.setWheels_wheels (d : Dev) (x : Tab (List WheelEnt)) : (d.setWheels x).wheels = x := rfl
@[simp] theorem Dev.setWheels_pol (d : Dev) (x : Tab (List WheelEnt)) : (d.setWheels x).pol = d.pol := rfl
@[simp] theorem Dev.setWheels_polMap (d : Dev) (x : Tab (List WheelEnt)) : (d.setWheels x).polMap = d.polMap := rfl
@[simp] theorem Dev.setWheels_gate (d : Dev) (x : Tab (List WheelEnt)) : (d.setWheels x).gate = d.gate := rfl
@[simp] theorem Dev.setWheels_wheelRel (d : Dev) (x : Tab (List WheelEnt)) : (d.setWheels x).wheelRel = d.wheelRel := rfl
@[simp] theorem Dev.setPol_node (d : Dev) (x : Tab PolSt) : (d.setPol x).node = d.node := rfl
@[simp] theorem Dev.setPol_queue (d : Dev) (x : Tab PolSt) : (d.setPol x).queue = d.queue := rfl
@[simp] theorem Dev.setPol_wheels (d : Dev) (x : Tab PolSt) : (d.setPol x).wheels = d.wheels := rfl
@[simp] theorem Dev.setPol_pol (d : Dev) (x : Tab PolSt) : (d.setPol x).pol = x := rfl
@[simp] theorem Dev.setPol_polMap (d : Dev) (x : Tab PolSt) : (d.setPol x).polMap = d.polMap := rfl
@[simp] theorem Dev.setPol_gate (d : Dev) (x : Tab PolSt) : (d.setPol x).gate = d.gate := rfl
@[simp] theorem Dev.setPol_wheelRel (d : Dev) (x : Tab PolSt) : (d.setPol x).wheelRel = d.wheelRel := rfl
@[simp] theorem Dev.setPolMap_node (d : Dev) (x : Tab Nat) : (d.setPolMap x).node = d.node := rfl
@[simp] theorem Dev.setPolMap_queue (d : Dev) (x : Tab Nat) : (d.setPolMap x).queue = d.queue := rfl
@[simp] theorem Dev.setPolMap_wheels (d : Dev) (x : Tab Nat) : (d.setPolMap x).wheels = d.wheels := rfl
@[simp] theorem Dev.setPolMap_pol (d : Dev) (x : Tab Nat) : (d.setPolMap x).pol = d.pol := rfl
@[simp] theorem Dev.setPolMap_polMap (d : Dev) (x : Tab Nat) : (d.setPolMap x).polMap = x := rfl
@[simp] theorem Dev.setPolMap_gate (d : Dev) (x : Tab Nat) : (d.setPolMap x).gate = d.gate := rfl
@[simp] theorem Dev.setPolMap_wheelRel (d : Dev) (x : Tab Nat) : (d.setPolMap x).wheelRel = d.wheelRel := rfl
@[simp] theorem Dev.setGate_node (d : Dev) (x : Tab GateSt) : (d.setGate x).node = d.node := rfl
@[simp] theorem Dev.setGate_queue (d : Dev) (x : Tab GateSt) : (d.setGate x).queue = d.queue := rfl
@[simp] theorem Dev.setGate_wheels (d : Dev) (x : Tab GateSt) : (d.setGate x).wheels = d.wheels := rfl
@[simp] theorem Dev.setGate_pol (d : Dev) (x : Tab GateSt) : (d.setGate x).pol = d.pol := rfl
@[simp] theorem Dev.setGate_polMap (d : Dev) (x : Tab GateSt) : (d.setGate x).polMap = d.polMap := rfl
@[simp] theorem Dev.setGate_gate (d : Dev) (x : Tab GateSt) : (d.setGate x).gate = x := rfl
@[simp] theorem Dev.setGate_wheelRel (d : Dev) (x : Tab GateSt) : (d.setGate x).wheelRel = d.wheelRel := rfl
@[simp] theorem Dev.setWheelRel_node (d : Dev) (x : Tab (Nat × Nat)) : (d.setWheelRel x).node = d.node := rfl
@[simp] theorem Dev.setWheelRel_queue (d : Dev) (x : Tab (Nat × Nat)) : (d.setWheelRel x).queue = d.queue := rfl
@[simp] theorem Dev.setWheelRel_wheels (d : Dev) (x : Tab (Nat × Nat)) : (d.setWheelRel x).wheels = d.wheels := rfl
@[simp] theorem Dev.setWheelRel_pol (d : Dev) (x : Tab (Nat × Nat)) : (d.setWheelRel x).pol = d.pol := rfl
@[simp] theorem Dev.setWheelRel_polMap (d : Dev) (x : Tab (Nat × Nat)) : (d.setWheelRel x).polMap = d.polMap := rfl
@[simp] theorem Dev.setWheelRel_gate (d : Dev) (x : Tab (Nat × Nat)) : (d.setWheelRel x).gate = d.gate := rfl
@[simp] theorem Dev.setWheelRel_wheelRel (d : Dev) (x : Tab (Nat × Nat)) : (d.setWheelRel x).wheelRel = x := rfl
@[simp] theorem Dev.setKeySlot_keySlot (d : Dev) (x : Tab KeySlot) : (d.setKeySlot x).keySlot = x := rfl
@[simp] theorem Dev.setKeySlot_keyOrder (d : Dev) (x : Tab KeySlot) : (d.setKeySlot x).keyOrder = d.keyOrder := rfl
@[simp] theorem Dev.setKeyOrder_keySlot (d : Dev) (x : Nat) : (d.setKeyOrder x).keySlot = d.keySlot := rfl
@[simp] theorem Dev.setKeyOrder_keyOrder (d : Dev) (x : Nat) : (d.setKeyOrder x).keyOrder = x := rfl
@[simp] theorem Dev.setLink_link (d : Dev) (x : Tab PfLink) : (d.setLink x).link = x := rfl
@[simp] theorem Dev.setLink_irq (d : Dev) (x : Tab PfLink) : (d.setLink x).irq = d.irq := rfl
@[simp] theorem Dev.setLink_arrived (d : Dev) (x : Tab PfLink) : (d.setLink x).arrived = d.arrived := rfl
@[simp] theorem Dev.setLink_recWait (d : Dev) (x : Tab PfLink) : (d.setLink x).recWait = d.recWait := rfl
@[simp] theorem Dev.setIrq_link (d : Dev) (x : Nat) : (d.setIrq x).link = d.link := rfl
@[simp] theorem Dev.setIrq_irq (d : Dev) (x : Nat) : (d.setIrq x).irq = x := rfl
@[simp] theorem Dev.setIrq_arrived (d : Dev) (x : Nat) : (d.setIrq x).arrived = d.arrived := rfl
@[simp] theorem Dev.setIrq_recWait (d : Dev) (x : Nat) : (d.setIrq x).recWait = d.recWait := rfl
@[simp] theorem Dev.setArrived_link (d : Dev) (x : Tab (Option (List Byte))) : (d.setArrived x).link = d.link := rfl
@[simp] theorem Dev.setArrived_irq (d : Dev) (x : Tab (Option (List Byte))) : (d.setArrived x).irq = d.irq := rfl
@[simp] theorem Dev.setArrived_arrived (d : Dev) (x : Tab (Option (List Byte))) : (d.setArrived x).arrived = x := rfl
@[simp] theorem Dev.setArrived_recWait (d : Dev) (x : Tab (Option (List Byte))) : (d.setArrived x).recWait = d.recWait := rfl
@[simp] theorem Dev.setRecWait_link (d : Dev) (x : List RecPost) : (d.setRecWait x).link = d.link := rfl
@[simp] theorem Dev.setRecWait_irq (d : Dev) (x : List RecPost) : (d.setRecWait x).irq = d.irq := rfl
@[simp] theorem Dev.setRecWait_arrived (d : Dev) (x : List RecPost) : (d.setRecWait x).arrived = d.arrived := rfl
@[simp] theorem Dev.setRecWait_recWait (d : Dev) (x : List RecPost) : (d.setRecWait x).recWait = x := rfl
@[simp] theorem Dev.setRing_ring (d : Dev) (x : Tab RingSt) : (d.setRing x).ring = x := rfl
@[simp] theorem Dev.setRing_msg (d : Dev) (x : Tab RingSt) : (d.setRing x).msg = d.msg := rfl
@[simp] theorem Dev.setRing_nextChain (d : Dev) (x : Tab RingSt) : (d.setRing x).nextChain = d.nextChain := rfl
@[simp] theorem Dev.setRing_pfReset (d : Dev) (x : Tab RingSt) : (d.setRing x).pfReset = d.pfReset := rfl
@[simp] theorem Dev.setMsg_ring (d : Dev) (x : Tab MsgEnt) : (d.setMsg x).ring = d.ring := rfl
@[simp] theorem Dev.setMsg_msg (d : Dev) (x : Tab MsgEnt) : (d.setMsg x).msg = x := rfl
@[simp] theorem Dev.setMsg_nextChain (d : Dev) (x : Tab MsgEnt) : (d.setMsg x).nextChain = d.nextChain := rfl
@[simp] theorem Dev.setMsg_pfReset (d : Dev) (x : Tab MsgEnt) : (d.setMsg x).pfReset = d.pfReset := rfl
@[simp] theorem Dev.setNextChain_ring (d : Dev) (x : Nat) : (d.setNextChain x).ring = d.ring := rfl
@[simp] theorem Dev.setNextChain_msg (d : Dev) (x : Nat) : (d.setNextChain x).msg = d.msg := rfl
@[simp] theorem Dev.setNextChain_nextChain (d : Dev) (x : Nat) : (d.setNextChain x).nextChain = x := rfl
@[simp] theorem Dev.setNextChain_pfReset (d : Dev) (x : Nat) : (d.setNextChain x).pfReset = d.pfReset := rfl
@[simp] theorem Dev.setPfReset_ring (d : Dev) (x : Nat) : (d.setPfReset x).ring = d.ring := rfl
@[simp] theorem Dev.setPfReset_msg (d : Dev) (x : Nat) : (d.setPfReset x).msg = d.msg := rfl
@[simp] theorem Dev.setPfReset_nextChain (d : Dev) (x : Nat) : (d.setPfReset x).nextChain = d.nextChain := rfl
@[simp] theorem Dev.setPfReset_pfReset (d : Dev) (x : Nat) : (d.setPfReset x).pfReset = x := rfl
@[simp] theorem Dev.setDmaCh_dmaCh (d : Dev) (x : Tab DmaCh) : (d.setDmaCh x).dmaCh = x := rfl
@[simp] theorem Dev.setDmaCh_granNext (d : Dev) (x : Tab DmaCh) : (d.setDmaCh x).granNext = d.granNext := rfl
@[simp] theorem Dev.setDmaCh_fastRanks (d : Dev) (x : Tab DmaCh) : (d.setDmaCh x).fastRanks = d.fastRanks := rfl
@[simp] theorem Dev.setDmaCh_setAt (d : Dev) (x : Tab DmaCh) : (d.setDmaCh x).setAt = d.setAt := rfl
@[simp] theorem Dev.setDmaCh_rowErr (d : Dev) (x : Tab DmaCh) : (d.setDmaCh x).rowErr = d.rowErr := rfl
@[simp] theorem Dev.setDmaCh_rowBad (d : Dev) (x : Tab DmaCh) : (d.setDmaCh x).rowBad = d.rowBad := rfl
@[simp] theorem Dev.setDmaCh_hardUsed (d : Dev) (x : Tab DmaCh) : (d.setDmaCh x).hardUsed = d.hardUsed := rfl
@[simp] theorem Dev.setDmaCh_hdm (d : Dev) (x : Tab DmaCh) : (d.setDmaCh x).hdm = d.hdm := rfl
@[simp] theorem Dev.setGranNext_dmaCh (d : Dev) (x : Tab (Nat × Nat)) : (d.setGranNext x).dmaCh = d.dmaCh := rfl
@[simp] theorem Dev.setGranNext_granNext (d : Dev) (x : Tab (Nat × Nat)) : (d.setGranNext x).granNext = x := rfl
@[simp] theorem Dev.setGranNext_fastRanks (d : Dev) (x : Tab (Nat × Nat)) : (d.setGranNext x).fastRanks = d.fastRanks := rfl
@[simp] theorem Dev.setGranNext_setAt (d : Dev) (x : Tab (Nat × Nat)) : (d.setGranNext x).setAt = d.setAt := rfl
@[simp] theorem Dev.setGranNext_rowErr (d : Dev) (x : Tab (Nat × Nat)) : (d.setGranNext x).rowErr = d.rowErr := rfl
@[simp] theorem Dev.setGranNext_rowBad (d : Dev) (x : Tab (Nat × Nat)) : (d.setGranNext x).rowBad = d.rowBad := rfl
@[simp] theorem Dev.setGranNext_hardUsed (d : Dev) (x : Tab (Nat × Nat)) : (d.setGranNext x).hardUsed = d.hardUsed := rfl
@[simp] theorem Dev.setGranNext_hdm (d : Dev) (x : Tab (Nat × Nat)) : (d.setGranNext x).hdm = d.hdm := rfl
@[simp] theorem Dev.setFastRanks_dmaCh (d : Dev) (x : Nat) : (d.setFastRanks x).dmaCh = d.dmaCh := rfl
@[simp] theorem Dev.setFastRanks_granNext (d : Dev) (x : Nat) : (d.setFastRanks x).granNext = d.granNext := rfl
@[simp] theorem Dev.setFastRanks_fastRanks (d : Dev) (x : Nat) : (d.setFastRanks x).fastRanks = x := rfl
@[simp] theorem Dev.setFastRanks_setAt (d : Dev) (x : Nat) : (d.setFastRanks x).setAt = d.setAt := rfl
@[simp] theorem Dev.setFastRanks_rowErr (d : Dev) (x : Nat) : (d.setFastRanks x).rowErr = d.rowErr := rfl
@[simp] theorem Dev.setFastRanks_rowBad (d : Dev) (x : Nat) : (d.setFastRanks x).rowBad = d.rowBad := rfl
@[simp] theorem Dev.setFastRanks_hardUsed (d : Dev) (x : Nat) : (d.setFastRanks x).hardUsed = d.hardUsed := rfl
@[simp] theorem Dev.setFastRanks_hdm (d : Dev) (x : Nat) : (d.setFastRanks x).hdm = d.hdm := rfl
@[simp] theorem Dev.setSetAt_dmaCh (d : Dev) (x : Tab Nat) : (d.setSetAt x).dmaCh = d.dmaCh := rfl
@[simp] theorem Dev.setSetAt_granNext (d : Dev) (x : Tab Nat) : (d.setSetAt x).granNext = d.granNext := rfl
@[simp] theorem Dev.setSetAt_fastRanks (d : Dev) (x : Tab Nat) : (d.setSetAt x).fastRanks = d.fastRanks := rfl
@[simp] theorem Dev.setSetAt_setAt (d : Dev) (x : Tab Nat) : (d.setSetAt x).setAt = x := rfl
@[simp] theorem Dev.setSetAt_rowErr (d : Dev) (x : Tab Nat) : (d.setSetAt x).rowErr = d.rowErr := rfl
@[simp] theorem Dev.setSetAt_rowBad (d : Dev) (x : Tab Nat) : (d.setSetAt x).rowBad = d.rowBad := rfl
@[simp] theorem Dev.setSetAt_hardUsed (d : Dev) (x : Tab Nat) : (d.setSetAt x).hardUsed = d.hardUsed := rfl
@[simp] theorem Dev.setSetAt_hdm (d : Dev) (x : Tab Nat) : (d.setSetAt x).hdm = d.hdm := rfl
@[simp] theorem Dev.setRowErr_dmaCh (d : Dev) (x : Tab Nat) : (d.setRowErr x).dmaCh = d.dmaCh := rfl
@[simp] theorem Dev.setRowErr_granNext (d : Dev) (x : Tab Nat) : (d.setRowErr x).granNext = d.granNext := rfl
@[simp] theorem Dev.setRowErr_fastRanks (d : Dev) (x : Tab Nat) : (d.setRowErr x).fastRanks = d.fastRanks := rfl
@[simp] theorem Dev.setRowErr_setAt (d : Dev) (x : Tab Nat) : (d.setRowErr x).setAt = d.setAt := rfl
@[simp] theorem Dev.setRowErr_rowErr (d : Dev) (x : Tab Nat) : (d.setRowErr x).rowErr = x := rfl
@[simp] theorem Dev.setRowErr_rowBad (d : Dev) (x : Tab Nat) : (d.setRowErr x).rowBad = d.rowBad := rfl
@[simp] theorem Dev.setRowErr_hardUsed (d : Dev) (x : Tab Nat) : (d.setRowErr x).hardUsed = d.hardUsed := rfl
@[simp] theorem Dev.setRowErr_hdm (d : Dev) (x : Tab Nat) : (d.setRowErr x).hdm = d.hdm := rfl
@[simp] theorem Dev.setRowBad_dmaCh (d : Dev) (x : Tab Unit) : (d.setRowBad x).dmaCh = d.dmaCh := rfl
@[simp] theorem Dev.setRowBad_granNext (d : Dev) (x : Tab Unit) : (d.setRowBad x).granNext = d.granNext := rfl
@[simp] theorem Dev.setRowBad_fastRanks (d : Dev) (x : Tab Unit) : (d.setRowBad x).fastRanks = d.fastRanks := rfl
@[simp] theorem Dev.setRowBad_setAt (d : Dev) (x : Tab Unit) : (d.setRowBad x).setAt = d.setAt := rfl
@[simp] theorem Dev.setRowBad_rowErr (d : Dev) (x : Tab Unit) : (d.setRowBad x).rowErr = d.rowErr := rfl
@[simp] theorem Dev.setRowBad_rowBad (d : Dev) (x : Tab Unit) : (d.setRowBad x).rowBad = x := rfl
@[simp] theorem Dev.setRowBad_hardUsed (d : Dev) (x : Tab Unit) : (d.setRowBad x).hardUsed = d.hardUsed := rfl
@[simp] theorem Dev.setRowBad_hdm (d : Dev) (x : Tab Unit) : (d.setRowBad x).hdm = d.hdm := rfl
@[simp] theorem Dev.setHardUsed_dmaCh (d : Dev) (x : Tab Nat) : (d.setHardUsed x).dmaCh = d.dmaCh := rfl
@[simp] theorem Dev.setHardUsed_granNext (d : Dev) (x : Tab Nat) : (d.setHardUsed x).granNext = d.granNext := rfl
@[simp] theorem Dev.setHardUsed_fastRanks (d : Dev) (x : Tab Nat) : (d.setHardUsed x).fastRanks = d.fastRanks := rfl
@[simp] theorem Dev.setHardUsed_setAt (d : Dev) (x : Tab Nat) : (d.setHardUsed x).setAt = d.setAt := rfl
@[simp] theorem Dev.setHardUsed_rowErr (d : Dev) (x : Tab Nat) : (d.setHardUsed x).rowErr = d.rowErr := rfl
@[simp] theorem Dev.setHardUsed_rowBad (d : Dev) (x : Tab Nat) : (d.setHardUsed x).rowBad = d.rowBad := rfl
@[simp] theorem Dev.setHardUsed_hardUsed (d : Dev) (x : Tab Nat) : (d.setHardUsed x).hardUsed = x := rfl
@[simp] theorem Dev.setHardUsed_hdm (d : Dev) (x : Tab Nat) : (d.setHardUsed x).hdm = d.hdm := rfl
@[simp] theorem Dev.setHdm_dmaCh (d : Dev) (x : Tab Hdm) : (d.setHdm x).dmaCh = d.dmaCh := rfl
@[simp] theorem Dev.setHdm_granNext (d : Dev) (x : Tab Hdm) : (d.setHdm x).granNext = d.granNext := rfl
@[simp] theorem Dev.setHdm_fastRanks (d : Dev) (x : Tab Hdm) : (d.setHdm x).fastRanks = d.fastRanks := rfl
@[simp] theorem Dev.setHdm_setAt (d : Dev) (x : Tab Hdm) : (d.setHdm x).setAt = d.setAt := rfl
@[simp] theorem Dev.setHdm_rowErr (d : Dev) (x : Tab Hdm) : (d.setHdm x).rowErr = d.rowErr := rfl
@[simp] theorem Dev.setHdm_rowBad (d : Dev) (x : Tab Hdm) : (d.setHdm x).rowBad = d.rowBad := rfl
@[simp] theorem Dev.setHdm_hardUsed (d : Dev) (x : Tab Hdm) : (d.setHdm x).hardUsed = d.hardUsed := rfl
@[simp] theorem Dev.setHdm_hdm (d : Dev) (x : Tab Hdm) : (d.setHdm x).hdm = x := rfl
@[simp] theorem Dev.setMtrOpen_mtrOpen (d : Dev) (x : MtrEpoch) : (d.setMtrOpen x).mtrOpen = x := rfl
@[simp] theorem Dev.setMtrOpen_mtrOld (d : Dev) (x : MtrEpoch) : (d.setMtrOpen x).mtrOld = d.mtrOld := rfl
@[simp] theorem Dev.setMtrOpen_mtrHeld (d : Dev) (x : MtrEpoch) : (d.setMtrOpen x).mtrHeld = d.mtrHeld := rfl
@[simp] theorem Dev.setMtrOpen_mtrNext (d : Dev) (x : MtrEpoch) : (d.setMtrOpen x).mtrNext = d.mtrNext := rfl
@[simp] theorem Dev.setMtrOpen_mtrNextFrom (d : Dev) (x : MtrEpoch) : (d.setMtrOpen x).mtrNextFrom = d.mtrNextFrom := rfl
@[simp] theorem Dev.setMtrOpen_mtrBlocks (d : Dev) (x : MtrEpoch) : (d.setMtrOpen x).mtrBlocks = d.mtrBlocks := rfl
@[simp] theorem Dev.setMtrOpen_mtrRoot (d : Dev) (x : MtrEpoch) : (d.setMtrOpen x).mtrRoot = d.mtrRoot := rfl
@[simp] theorem Dev.setMtrOpen_mtrCxlAt (d : Dev) (x : MtrEpoch) : (d.setMtrOpen x).mtrCxlAt = d.mtrCxlAt := rfl
@[simp] theorem Dev.setMtrOpen_sketch (d : Dev) (x : MtrEpoch) : (d.setMtrOpen x).sketch = d.sketch := rfl
@[simp] theorem Dev.setMtrOpen_flowSeq (d : Dev) (x : MtrEpoch) : (d.setMtrOpen x).flowSeq = d.flowSeq := rfl
@[simp] theorem Dev.setMtrOpen_flowCnt (d : Dev) (x : MtrEpoch) : (d.setMtrOpen x).flowCnt = d.flowCnt := rfl
@[simp] theorem Dev.setMtrOld_mtrOpen (d : Dev) (x : Option MtrEpoch) : (d.setMtrOld x).mtrOpen = d.mtrOpen := rfl
@[simp] theorem Dev.setMtrOld_mtrOld (d : Dev) (x : Option MtrEpoch) : (d.setMtrOld x).mtrOld = x := rfl
@[simp] theorem Dev.setMtrOld_mtrHeld (d : Dev) (x : Option MtrEpoch) : (d.setMtrOld x).mtrHeld = d.mtrHeld := rfl
@[simp] theorem Dev.setMtrOld_mtrNext (d : Dev) (x : Option MtrEpoch) : (d.setMtrOld x).mtrNext = d.mtrNext := rfl
@[simp] theorem Dev.setMtrOld_mtrNextFrom (d : Dev) (x : Option MtrEpoch) : (d.setMtrOld x).mtrNextFrom = d.mtrNextFrom := rfl
@[simp] theorem Dev.setMtrOld_mtrBlocks (d : Dev) (x : Option MtrEpoch) : (d.setMtrOld x).mtrBlocks = d.mtrBlocks := rfl
@[simp] theorem Dev.setMtrOld_mtrRoot (d : Dev) (x : Option MtrEpoch) : (d.setMtrOld x).mtrRoot = d.mtrRoot := rfl
@[simp] theorem Dev.setMtrOld_mtrCxlAt (d : Dev) (x : Option MtrEpoch) : (d.setMtrOld x).mtrCxlAt = d.mtrCxlAt := rfl
@[simp] theorem Dev.setMtrOld_sketch (d : Dev) (x : Option MtrEpoch) : (d.setMtrOld x).sketch = d.sketch := rfl
@[simp] theorem Dev.setMtrOld_flowSeq (d : Dev) (x : Option MtrEpoch) : (d.setMtrOld x).flowSeq = d.flowSeq := rfl
@[simp] theorem Dev.setMtrOld_flowCnt (d : Dev) (x : Option MtrEpoch) : (d.setMtrOld x).flowCnt = d.flowCnt := rfl
@[simp] theorem Dev.setMtrHeld_mtrOpen (d : Dev) (x : Option MtrHeld) : (d.setMtrHeld x).mtrOpen = d.mtrOpen := rfl
@[simp] theorem Dev.setMtrHeld_mtrOld (d : Dev) (x : Option MtrHeld) : (d.setMtrHeld x).mtrOld = d.mtrOld := rfl
@[simp] theorem Dev.setMtrHeld_mtrHeld (d : Dev) (x : Option MtrHeld) : (d.setMtrHeld x).mtrHeld = x := rfl
@[simp] theorem Dev.setMtrHeld_mtrNext (d : Dev) (x : Option MtrHeld) : (d.setMtrHeld x).mtrNext = d.mtrNext := rfl
@[simp] theorem Dev.setMtrHeld_mtrNextFrom (d : Dev) (x : Option MtrHeld) : (d.setMtrHeld x).mtrNextFrom = d.mtrNextFrom := rfl
@[simp] theorem Dev.setMtrHeld_mtrBlocks (d : Dev) (x : Option MtrHeld) : (d.setMtrHeld x).mtrBlocks = d.mtrBlocks := rfl
@[simp] theorem Dev.setMtrHeld_mtrRoot (d : Dev) (x : Option MtrHeld) : (d.setMtrHeld x).mtrRoot = d.mtrRoot := rfl
@[simp] theorem Dev.setMtrHeld_mtrCxlAt (d : Dev) (x : Option MtrHeld) : (d.setMtrHeld x).mtrCxlAt = d.mtrCxlAt := rfl
@[simp] theorem Dev.setMtrHeld_sketch (d : Dev) (x : Option MtrHeld) : (d.setMtrHeld x).sketch = d.sketch := rfl
@[simp] theorem Dev.setMtrHeld_flowSeq (d : Dev) (x : Option MtrHeld) : (d.setMtrHeld x).flowSeq = d.flowSeq := rfl
@[simp] theorem Dev.setMtrHeld_flowCnt (d : Dev) (x : Option MtrHeld) : (d.setMtrHeld x).flowCnt = d.flowCnt := rfl
@[simp] theorem Dev.setMtrNext_mtrOpen (d : Dev) (x : Option MtrBody) : (d.setMtrNext x).mtrOpen = d.mtrOpen := rfl
@[simp] theorem Dev.setMtrNext_mtrOld (d : Dev) (x : Option MtrBody) : (d.setMtrNext x).mtrOld = d.mtrOld := rfl
@[simp] theorem Dev.setMtrNext_mtrHeld (d : Dev) (x : Option MtrBody) : (d.setMtrNext x).mtrHeld = d.mtrHeld := rfl
@[simp] theorem Dev.setMtrNext_mtrNext (d : Dev) (x : Option MtrBody) : (d.setMtrNext x).mtrNext = x := rfl
@[simp] theorem Dev.setMtrNext_mtrNextFrom (d : Dev) (x : Option MtrBody) : (d.setMtrNext x).mtrNextFrom = d.mtrNextFrom := rfl
@[simp] theorem Dev.setMtrNext_mtrBlocks (d : Dev) (x : Option MtrBody) : (d.setMtrNext x).mtrBlocks = d.mtrBlocks := rfl
@[simp] theorem Dev.setMtrNext_mtrRoot (d : Dev) (x : Option MtrBody) : (d.setMtrNext x).mtrRoot = d.mtrRoot := rfl
@[simp] theorem Dev.setMtrNext_mtrCxlAt (d : Dev) (x : Option MtrBody) : (d.setMtrNext x).mtrCxlAt = d.mtrCxlAt := rfl
@[simp] theorem Dev.setMtrNext_sketch (d : Dev) (x : Option MtrBody) : (d.setMtrNext x).sketch = d.sketch := rfl
@[simp] theorem Dev.setMtrNext_flowSeq (d : Dev) (x : Option MtrBody) : (d.setMtrNext x).flowSeq = d.flowSeq := rfl
@[simp] theorem Dev.setMtrNext_flowCnt (d : Dev) (x : Option MtrBody) : (d.setMtrNext x).flowCnt = d.flowCnt := rfl
@[simp] theorem Dev.setMtrNextFrom_mtrOpen (d : Dev) (x : Nat) : (d.setMtrNextFrom x).mtrOpen = d.mtrOpen := rfl
@[simp] theorem Dev.setMtrNextFrom_mtrOld (d : Dev) (x : Nat) : (d.setMtrNextFrom x).mtrOld = d.mtrOld := rfl
@[simp] theorem Dev.setMtrNextFrom_mtrHeld (d : Dev) (x : Nat) : (d.setMtrNextFrom x).mtrHeld = d.mtrHeld := rfl
@[simp] theorem Dev.setMtrNextFrom_mtrNext (d : Dev) (x : Nat) : (d.setMtrNextFrom x).mtrNext = d.mtrNext := rfl
@[simp] theorem Dev.setMtrNextFrom_mtrNextFrom (d : Dev) (x : Nat) : (d.setMtrNextFrom x).mtrNextFrom = x := rfl
@[simp] theorem Dev.setMtrNextFrom_mtrBlocks (d : Dev) (x : Nat) : (d.setMtrNextFrom x).mtrBlocks = d.mtrBlocks := rfl
@[simp] theorem Dev.setMtrNextFrom_mtrRoot (d : Dev) (x : Nat) : (d.setMtrNextFrom x).mtrRoot = d.mtrRoot := rfl
@[simp] theorem Dev.setMtrNextFrom_mtrCxlAt (d : Dev) (x : Nat) : (d.setMtrNextFrom x).mtrCxlAt = d.mtrCxlAt := rfl
@[simp] theorem Dev.setMtrNextFrom_sketch (d : Dev) (x : Nat) : (d.setMtrNextFrom x).sketch = d.sketch := rfl
@[simp] theorem Dev.setMtrNextFrom_flowSeq (d : Dev) (x : Nat) : (d.setMtrNextFrom x).flowSeq = d.flowSeq := rfl
@[simp] theorem Dev.setMtrNextFrom_flowCnt (d : Dev) (x : Nat) : (d.setMtrNextFrom x).flowCnt = d.flowCnt := rfl
@[simp] theorem Dev.setMtrBlocks_mtrOpen (d : Dev) (x : List MtrBlock) : (d.setMtrBlocks x).mtrOpen = d.mtrOpen := rfl
@[simp] theorem Dev.setMtrBlocks_mtrOld (d : Dev) (x : List MtrBlock) : (d.setMtrBlocks x).mtrOld = d.mtrOld := rfl
@[simp] theorem Dev.setMtrBlocks_mtrHeld (d : Dev) (x : List MtrBlock) : (d.setMtrBlocks x).mtrHeld = d.mtrHeld := rfl
@[simp] theorem Dev.setMtrBlocks_mtrNext (d : Dev) (x : List MtrBlock) : (d.setMtrBlocks x).mtrNext = d.mtrNext := rfl
@[simp] theorem Dev.setMtrBlocks_mtrNextFrom (d : Dev) (x : List MtrBlock) : (d.setMtrBlocks x).mtrNextFrom = d.mtrNextFrom := rfl
@[simp] theorem Dev.setMtrBlocks_mtrBlocks (d : Dev) (x : List MtrBlock) : (d.setMtrBlocks x).mtrBlocks = x := rfl
@[simp] theorem Dev.setMtrBlocks_mtrRoot (d : Dev) (x : List MtrBlock) : (d.setMtrBlocks x).mtrRoot = d.mtrRoot := rfl
@[simp] theorem Dev.setMtrBlocks_mtrCxlAt (d : Dev) (x : List MtrBlock) : (d.setMtrBlocks x).mtrCxlAt = d.mtrCxlAt := rfl
@[simp] theorem Dev.setMtrBlocks_sketch (d : Dev) (x : List MtrBlock) : (d.setMtrBlocks x).sketch = d.sketch := rfl
@[simp] theorem Dev.setMtrBlocks_flowSeq (d : Dev) (x : List MtrBlock) : (d.setMtrBlocks x).flowSeq = d.flowSeq := rfl
@[simp] theorem Dev.setMtrBlocks_flowCnt (d : Dev) (x : List MtrBlock) : (d.setMtrBlocks x).flowCnt = d.flowCnt := rfl
@[simp] theorem Dev.setMtrRoot_mtrOpen (d : Dev) (x : Option (List Byte)) : (d.setMtrRoot x).mtrOpen = d.mtrOpen := rfl
@[simp] theorem Dev.setMtrRoot_mtrOld (d : Dev) (x : Option (List Byte)) : (d.setMtrRoot x).mtrOld = d.mtrOld := rfl
@[simp] theorem Dev.setMtrRoot_mtrHeld (d : Dev) (x : Option (List Byte)) : (d.setMtrRoot x).mtrHeld = d.mtrHeld := rfl
@[simp] theorem Dev.setMtrRoot_mtrNext (d : Dev) (x : Option (List Byte)) : (d.setMtrRoot x).mtrNext = d.mtrNext := rfl
@[simp] theorem Dev.setMtrRoot_mtrNextFrom (d : Dev) (x : Option (List Byte)) : (d.setMtrRoot x).mtrNextFrom = d.mtrNextFrom := rfl
@[simp] theorem Dev.setMtrRoot_mtrBlocks (d : Dev) (x : Option (List Byte)) : (d.setMtrRoot x).mtrBlocks = d.mtrBlocks := rfl
@[simp] theorem Dev.setMtrRoot_mtrRoot (d : Dev) (x : Option (List Byte)) : (d.setMtrRoot x).mtrRoot = x := rfl
@[simp] theorem Dev.setMtrRoot_mtrCxlAt (d : Dev) (x : Option (List Byte)) : (d.setMtrRoot x).mtrCxlAt = d.mtrCxlAt := rfl
@[simp] theorem Dev.setMtrRoot_sketch (d : Dev) (x : Option (List Byte)) : (d.setMtrRoot x).sketch = d.sketch := rfl
@[simp] theorem Dev.setMtrRoot_flowSeq (d : Dev) (x : Option (List Byte)) : (d.setMtrRoot x).flowSeq = d.flowSeq := rfl
@[simp] theorem Dev.setMtrRoot_flowCnt (d : Dev) (x : Option (List Byte)) : (d.setMtrRoot x).flowCnt = d.flowCnt := rfl
@[simp] theorem Dev.setMtrCxlAt_mtrOpen (d : Dev) (x : Int) : (d.setMtrCxlAt x).mtrOpen = d.mtrOpen := rfl
@[simp] theorem Dev.setMtrCxlAt_mtrOld (d : Dev) (x : Int) : (d.setMtrCxlAt x).mtrOld = d.mtrOld := rfl
@[simp] theorem Dev.setMtrCxlAt_mtrHeld (d : Dev) (x : Int) : (d.setMtrCxlAt x).mtrHeld = d.mtrHeld := rfl
@[simp] theorem Dev.setMtrCxlAt_mtrNext (d : Dev) (x : Int) : (d.setMtrCxlAt x).mtrNext = d.mtrNext := rfl
@[simp] theorem Dev.setMtrCxlAt_mtrNextFrom (d : Dev) (x : Int) : (d.setMtrCxlAt x).mtrNextFrom = d.mtrNextFrom := rfl
@[simp] theorem Dev.setMtrCxlAt_mtrBlocks (d : Dev) (x : Int) : (d.setMtrCxlAt x).mtrBlocks = d.mtrBlocks := rfl
@[simp] theorem Dev.setMtrCxlAt_mtrRoot (d : Dev) (x : Int) : (d.setMtrCxlAt x).mtrRoot = d.mtrRoot := rfl
@[simp] theorem Dev.setMtrCxlAt_mtrCxlAt (d : Dev) (x : Int) : (d.setMtrCxlAt x).mtrCxlAt = x := rfl
@[simp] theorem Dev.setMtrCxlAt_sketch (d : Dev) (x : Int) : (d.setMtrCxlAt x).sketch = d.sketch := rfl
@[simp] theorem Dev.setMtrCxlAt_flowSeq (d : Dev) (x : Int) : (d.setMtrCxlAt x).flowSeq = d.flowSeq := rfl
@[simp] theorem Dev.setMtrCxlAt_flowCnt (d : Dev) (x : Int) : (d.setMtrCxlAt x).flowCnt = d.flowCnt := rfl
@[simp] theorem Dev.setSketch_mtrOpen (d : Dev) (x : Tab Sketch) : (d.setSketch x).mtrOpen = d.mtrOpen := rfl
@[simp] theorem Dev.setSketch_mtrOld (d : Dev) (x : Tab Sketch) : (d.setSketch x).mtrOld = d.mtrOld := rfl
@[simp] theorem Dev.setSketch_mtrHeld (d : Dev) (x : Tab Sketch) : (d.setSketch x).mtrHeld = d.mtrHeld := rfl
@[simp] theorem Dev.setSketch_mtrNext (d : Dev) (x : Tab Sketch) : (d.setSketch x).mtrNext = d.mtrNext := rfl
@[simp] theorem Dev.setSketch_mtrNextFrom (d : Dev) (x : Tab Sketch) : (d.setSketch x).mtrNextFrom = d.mtrNextFrom := rfl
@[simp] theorem Dev.setSketch_mtrBlocks (d : Dev) (x : Tab Sketch) : (d.setSketch x).mtrBlocks = d.mtrBlocks := rfl
@[simp] theorem Dev.setSketch_mtrRoot (d : Dev) (x : Tab Sketch) : (d.setSketch x).mtrRoot = d.mtrRoot := rfl
@[simp] theorem Dev.setSketch_mtrCxlAt (d : Dev) (x : Tab Sketch) : (d.setSketch x).mtrCxlAt = d.mtrCxlAt := rfl
@[simp] theorem Dev.setSketch_sketch (d : Dev) (x : Tab Sketch) : (d.setSketch x).sketch = x := rfl
@[simp] theorem Dev.setSketch_flowSeq (d : Dev) (x : Tab Sketch) : (d.setSketch x).flowSeq = d.flowSeq := rfl
@[simp] theorem Dev.setSketch_flowCnt (d : Dev) (x : Tab Sketch) : (d.setSketch x).flowCnt = d.flowCnt := rfl
@[simp] theorem Dev.setFlowSeq_mtrOpen (d : Dev) (x : Tab Nat) : (d.setFlowSeq x).mtrOpen = d.mtrOpen := rfl
@[simp] theorem Dev.setFlowSeq_mtrOld (d : Dev) (x : Tab Nat) : (d.setFlowSeq x).mtrOld = d.mtrOld := rfl
@[simp] theorem Dev.setFlowSeq_mtrHeld (d : Dev) (x : Tab Nat) : (d.setFlowSeq x).mtrHeld = d.mtrHeld := rfl
@[simp] theorem Dev.setFlowSeq_mtrNext (d : Dev) (x : Tab Nat) : (d.setFlowSeq x).mtrNext = d.mtrNext := rfl
@[simp] theorem Dev.setFlowSeq_mtrNextFrom (d : Dev) (x : Tab Nat) : (d.setFlowSeq x).mtrNextFrom = d.mtrNextFrom := rfl
@[simp] theorem Dev.setFlowSeq_mtrBlocks (d : Dev) (x : Tab Nat) : (d.setFlowSeq x).mtrBlocks = d.mtrBlocks := rfl
@[simp] theorem Dev.setFlowSeq_mtrRoot (d : Dev) (x : Tab Nat) : (d.setFlowSeq x).mtrRoot = d.mtrRoot := rfl
@[simp] theorem Dev.setFlowSeq_mtrCxlAt (d : Dev) (x : Tab Nat) : (d.setFlowSeq x).mtrCxlAt = d.mtrCxlAt := rfl
@[simp] theorem Dev.setFlowSeq_sketch (d : Dev) (x : Tab Nat) : (d.setFlowSeq x).sketch = d.sketch := rfl
@[simp] theorem Dev.setFlowSeq_flowSeq (d : Dev) (x : Tab Nat) : (d.setFlowSeq x).flowSeq = x := rfl
@[simp] theorem Dev.setFlowSeq_flowCnt (d : Dev) (x : Tab Nat) : (d.setFlowSeq x).flowCnt = d.flowCnt := rfl
@[simp] theorem Dev.setFlowCnt_mtrOpen (d : Dev) (x : Tab Nat) : (d.setFlowCnt x).mtrOpen = d.mtrOpen := rfl
@[simp] theorem Dev.setFlowCnt_mtrOld (d : Dev) (x : Tab Nat) : (d.setFlowCnt x).mtrOld = d.mtrOld := rfl
@[simp] theorem Dev.setFlowCnt_mtrHeld (d : Dev) (x : Tab Nat) : (d.setFlowCnt x).mtrHeld = d.mtrHeld := rfl
@[simp] theorem Dev.setFlowCnt_mtrNext (d : Dev) (x : Tab Nat) : (d.setFlowCnt x).mtrNext = d.mtrNext := rfl
@[simp] theorem Dev.setFlowCnt_mtrNextFrom (d : Dev) (x : Tab Nat) : (d.setFlowCnt x).mtrNextFrom = d.mtrNextFrom := rfl
@[simp] theorem Dev.setFlowCnt_mtrBlocks (d : Dev) (x : Tab Nat) : (d.setFlowCnt x).mtrBlocks = d.mtrBlocks := rfl
@[simp] theorem Dev.setFlowCnt_mtrRoot (d : Dev) (x : Tab Nat) : (d.setFlowCnt x).mtrRoot = d.mtrRoot := rfl
@[simp] theorem Dev.setFlowCnt_mtrCxlAt (d : Dev) (x : Tab Nat) : (d.setFlowCnt x).mtrCxlAt = d.mtrCxlAt := rfl
@[simp] theorem Dev.setFlowCnt_sketch (d : Dev) (x : Tab Nat) : (d.setFlowCnt x).sketch = d.sketch := rfl
@[simp] theorem Dev.setFlowCnt_flowSeq (d : Dev) (x : Tab Nat) : (d.setFlowCnt x).flowSeq = d.flowSeq := rfl
@[simp] theorem Dev.setFlowCnt_flowCnt (d : Dev) (x : Tab Nat) : (d.setFlowCnt x).flowCnt = x := rfl
@[simp] theorem Dev.setMbx_mbx (d : Dev) (x : Tab Mbx) : (d.setMbx x).mbx = x := rfl
@[simp] theorem Dev.setMbx_lifeNext (d : Dev) (x : Tab Mbx) : (d.setMbx x).lifeNext = d.lifeNext := rfl
@[simp] theorem Dev.setMbx_sealWait (d : Dev) (x : Tab Mbx) : (d.setMbx x).sealWait = d.sealWait := rfl
@[simp] theorem Dev.setMbx_seals (d : Dev) (x : Tab Mbx) : (d.setMbx x).seals = d.seals := rfl
@[simp] theorem Dev.setMbx_chain (d : Dev) (x : Tab Mbx) : (d.setMbx x).chain = d.chain := rfl
@[simp] theorem Dev.setMbx_pubKey (d : Dev) (x : Tab Mbx) : (d.setMbx x).pubKey = d.pubKey := rfl
@[simp] theorem Dev.setMbx_bankSel (d : Dev) (x : Tab Mbx) : (d.setMbx x).bankSel = d.bankSel := rfl
@[simp] theorem Dev.setMbx_bankA (d : Dev) (x : Tab Mbx) : (d.setMbx x).bankA = d.bankA := rfl
@[simp] theorem Dev.setMbx_bankB (d : Dev) (x : Tab Mbx) : (d.setMbx x).bankB = d.bankB := rfl
@[simp] theorem Dev.setMbx_ulyar (d : Dev) (x : Tab Mbx) : (d.setMbx x).ulyar = d.ulyar := rfl
@[simp] theorem Dev.setMbx_defImage (d : Dev) (x : Tab Mbx) : (d.setMbx x).defImage = d.defImage := rfl
@[simp] theorem Dev.setMbx_eid (d : Dev) (x : Tab Mbx) : (d.setMbx x).eid = d.eid := rfl
@[simp] theorem Dev.setMbx_spdm (d : Dev) (x : Tab Mbx) : (d.setMbx x).spdm = d.spdm := rfl
@[simp] theorem Dev.setLifeNext_mbx (d : Dev) (x : Option LifeNext) : (d.setLifeNext x).mbx = d.mbx := rfl
@[simp] theorem Dev.setLifeNext_lifeNext (d : Dev) (x : Option LifeNext) : (d.setLifeNext x).lifeNext = x := rfl
@[simp] theorem Dev.setLifeNext_sealWait (d : Dev) (x : Option LifeNext) : (d.setLifeNext x).sealWait = d.sealWait := rfl
@[simp] theorem Dev.setLifeNext_seals (d : Dev) (x : Option LifeNext) : (d.setLifeNext x).seals = d.seals := rfl
@[simp] theorem Dev.setLifeNext_chain (d : Dev) (x : Option LifeNext) : (d.setLifeNext x).chain = d.chain := rfl
@[simp] theorem Dev.setLifeNext_pubKey (d : Dev) (x : Option LifeNext) : (d.setLifeNext x).pubKey = d.pubKey := rfl
@[simp] theorem Dev.setLifeNext_bankSel (d : Dev) (x : Option LifeNext) : (d.setLifeNext x).bankSel = d.bankSel := rfl
@[simp] theorem Dev.setLifeNext_bankA (d : Dev) (x : Option LifeNext) : (d.setLifeNext x).bankA = d.bankA := rfl
@[simp] theorem Dev.setLifeNext_bankB (d : Dev) (x : Option LifeNext) : (d.setLifeNext x).bankB = d.bankB := rfl
@[simp] theorem Dev.setLifeNext_ulyar (d : Dev) (x : Option LifeNext) : (d.setLifeNext x).ulyar = d.ulyar := rfl
@[simp] theorem Dev.setLifeNext_defImage (d : Dev) (x : Option LifeNext) : (d.setLifeNext x).defImage = d.defImage := rfl
@[simp] theorem Dev.setLifeNext_eid (d : Dev) (x : Option LifeNext) : (d.setLifeNext x).eid = d.eid := rfl
@[simp] theorem Dev.setLifeNext_spdm (d : Dev) (x : Option LifeNext) : (d.setLifeNext x).spdm = d.spdm := rfl
@[simp] theorem Dev.setSealWait_mbx (d : Dev) (x : List SealWait) : (d.setSealWait x).mbx = d.mbx := rfl
@[simp] theorem Dev.setSealWait_lifeNext (d : Dev) (x : List SealWait) : (d.setSealWait x).lifeNext = d.lifeNext := rfl
@[simp] theorem Dev.setSealWait_sealWait (d : Dev) (x : List SealWait) : (d.setSealWait x).sealWait = x := rfl
@[simp] theorem Dev.setSealWait_seals (d : Dev) (x : List SealWait) : (d.setSealWait x).seals = d.seals := rfl
@[simp] theorem Dev.setSealWait_chain (d : Dev) (x : List SealWait) : (d.setSealWait x).chain = d.chain := rfl
@[simp] theorem Dev.setSealWait_pubKey (d : Dev) (x : List SealWait) : (d.setSealWait x).pubKey = d.pubKey := rfl
@[simp] theorem Dev.setSealWait_bankSel (d : Dev) (x : List SealWait) : (d.setSealWait x).bankSel = d.bankSel := rfl
@[simp] theorem Dev.setSealWait_bankA (d : Dev) (x : List SealWait) : (d.setSealWait x).bankA = d.bankA := rfl
@[simp] theorem Dev.setSealWait_bankB (d : Dev) (x : List SealWait) : (d.setSealWait x).bankB = d.bankB := rfl
@[simp] theorem Dev.setSealWait_ulyar (d : Dev) (x : List SealWait) : (d.setSealWait x).ulyar = d.ulyar := rfl
@[simp] theorem Dev.setSealWait_defImage (d : Dev) (x : List SealWait) : (d.setSealWait x).defImage = d.defImage := rfl
@[simp] theorem Dev.setSealWait_eid (d : Dev) (x : List SealWait) : (d.setSealWait x).eid = d.eid := rfl
@[simp] theorem Dev.setSealWait_spdm (d : Dev) (x : List SealWait) : (d.setSealWait x).spdm = d.spdm := rfl
@[simp] theorem Dev.setSeals_mbx (d : Dev) (x : List Nat) : (d.setSeals x).mbx = d.mbx := rfl
@[simp] theorem Dev.setSeals_lifeNext (d : Dev) (x : List Nat) : (d.setSeals x).lifeNext = d.lifeNext := rfl
@[simp] theorem Dev.setSeals_sealWait (d : Dev) (x : List Nat) : (d.setSeals x).sealWait = d.sealWait := rfl
@[simp] theorem Dev.setSeals_seals (d : Dev) (x : List Nat) : (d.setSeals x).seals = x := rfl
@[simp] theorem Dev.setSeals_chain (d : Dev) (x : List Nat) : (d.setSeals x).chain = d.chain := rfl
@[simp] theorem Dev.setSeals_pubKey (d : Dev) (x : List Nat) : (d.setSeals x).pubKey = d.pubKey := rfl
@[simp] theorem Dev.setSeals_bankSel (d : Dev) (x : List Nat) : (d.setSeals x).bankSel = d.bankSel := rfl
@[simp] theorem Dev.setSeals_bankA (d : Dev) (x : List Nat) : (d.setSeals x).bankA = d.bankA := rfl
@[simp] theorem Dev.setSeals_bankB (d : Dev) (x : List Nat) : (d.setSeals x).bankB = d.bankB := rfl
@[simp] theorem Dev.setSeals_ulyar (d : Dev) (x : List Nat) : (d.setSeals x).ulyar = d.ulyar := rfl
@[simp] theorem Dev.setSeals_defImage (d : Dev) (x : List Nat) : (d.setSeals x).defImage = d.defImage := rfl
@[simp] theorem Dev.setSeals_eid (d : Dev) (x : List Nat) : (d.setSeals x).eid = d.eid := rfl
@[simp] theorem Dev.setSeals_spdm (d : Dev) (x : List Nat) : (d.setSeals x).spdm = d.spdm := rfl
@[simp] theorem Dev.setChain_mbx (d : Dev) (x : List Byte) : (d.setChain x).mbx = d.mbx := rfl
@[simp] theorem Dev.setChain_lifeNext (d : Dev) (x : List Byte) : (d.setChain x).lifeNext = d.lifeNext := rfl
@[simp] theorem Dev.setChain_sealWait (d : Dev) (x : List Byte) : (d.setChain x).sealWait = d.sealWait := rfl
@[simp] theorem Dev.setChain_seals (d : Dev) (x : List Byte) : (d.setChain x).seals = d.seals := rfl
@[simp] theorem Dev.setChain_chain (d : Dev) (x : List Byte) : (d.setChain x).chain = x := rfl
@[simp] theorem Dev.setChain_pubKey (d : Dev) (x : List Byte) : (d.setChain x).pubKey = d.pubKey := rfl
@[simp] theorem Dev.setChain_bankSel (d : Dev) (x : List Byte) : (d.setChain x).bankSel = d.bankSel := rfl
@[simp] theorem Dev.setChain_bankA (d : Dev) (x : List Byte) : (d.setChain x).bankA = d.bankA := rfl
@[simp] theorem Dev.setChain_bankB (d : Dev) (x : List Byte) : (d.setChain x).bankB = d.bankB := rfl
@[simp] theorem Dev.setChain_ulyar (d : Dev) (x : List Byte) : (d.setChain x).ulyar = d.ulyar := rfl
@[simp] theorem Dev.setChain_defImage (d : Dev) (x : List Byte) : (d.setChain x).defImage = d.defImage := rfl
@[simp] theorem Dev.setChain_eid (d : Dev) (x : List Byte) : (d.setChain x).eid = d.eid := rfl
@[simp] theorem Dev.setChain_spdm (d : Dev) (x : List Byte) : (d.setChain x).spdm = d.spdm := rfl
@[simp] theorem Dev.setPubKey_mbx (d : Dev) (x : List Byte) : (d.setPubKey x).mbx = d.mbx := rfl
@[simp] theorem Dev.setPubKey_lifeNext (d : Dev) (x : List Byte) : (d.setPubKey x).lifeNext = d.lifeNext := rfl
@[simp] theorem Dev.setPubKey_sealWait (d : Dev) (x : List Byte) : (d.setPubKey x).sealWait = d.sealWait := rfl
@[simp] theorem Dev.setPubKey_seals (d : Dev) (x : List Byte) : (d.setPubKey x).seals = d.seals := rfl
@[simp] theorem Dev.setPubKey_chain (d : Dev) (x : List Byte) : (d.setPubKey x).chain = d.chain := rfl
@[simp] theorem Dev.setPubKey_pubKey (d : Dev) (x : List Byte) : (d.setPubKey x).pubKey = x := rfl
@[simp] theorem Dev.setPubKey_bankSel (d : Dev) (x : List Byte) : (d.setPubKey x).bankSel = d.bankSel := rfl
@[simp] theorem Dev.setPubKey_bankA (d : Dev) (x : List Byte) : (d.setPubKey x).bankA = d.bankA := rfl
@[simp] theorem Dev.setPubKey_bankB (d : Dev) (x : List Byte) : (d.setPubKey x).bankB = d.bankB := rfl
@[simp] theorem Dev.setPubKey_ulyar (d : Dev) (x : List Byte) : (d.setPubKey x).ulyar = d.ulyar := rfl
@[simp] theorem Dev.setPubKey_defImage (d : Dev) (x : List Byte) : (d.setPubKey x).defImage = d.defImage := rfl
@[simp] theorem Dev.setPubKey_eid (d : Dev) (x : List Byte) : (d.setPubKey x).eid = d.eid := rfl
@[simp] theorem Dev.setPubKey_spdm (d : Dev) (x : List Byte) : (d.setPubKey x).spdm = d.spdm := rfl
@[simp] theorem Dev.setBankSel_mbx (d : Dev) (x : Nat) : (d.setBankSel x).mbx = d.mbx := rfl
@[simp] theorem Dev.setBankSel_lifeNext (d : Dev) (x : Nat) : (d.setBankSel x).lifeNext = d.lifeNext := rfl
@[simp] theorem Dev.setBankSel_sealWait (d : Dev) (x : Nat) : (d.setBankSel x).sealWait = d.sealWait := rfl
@[simp] theorem Dev.setBankSel_seals (d : Dev) (x : Nat) : (d.setBankSel x).seals = d.seals := rfl
@[simp] theorem Dev.setBankSel_chain (d : Dev) (x : Nat) : (d.setBankSel x).chain = d.chain := rfl
@[simp] theorem Dev.setBankSel_pubKey (d : Dev) (x : Nat) : (d.setBankSel x).pubKey = d.pubKey := rfl
@[simp] theorem Dev.setBankSel_bankSel (d : Dev) (x : Nat) : (d.setBankSel x).bankSel = x := rfl
@[simp] theorem Dev.setBankSel_bankA (d : Dev) (x : Nat) : (d.setBankSel x).bankA = d.bankA := rfl
@[simp] theorem Dev.setBankSel_bankB (d : Dev) (x : Nat) : (d.setBankSel x).bankB = d.bankB := rfl
@[simp] theorem Dev.setBankSel_ulyar (d : Dev) (x : Nat) : (d.setBankSel x).ulyar = d.ulyar := rfl
@[simp] theorem Dev.setBankSel_defImage (d : Dev) (x : Nat) : (d.setBankSel x).defImage = d.defImage := rfl
@[simp] theorem Dev.setBankSel_eid (d : Dev) (x : Nat) : (d.setBankSel x).eid = d.eid := rfl
@[simp] theorem Dev.setBankSel_spdm (d : Dev) (x : Nat) : (d.setBankSel x).spdm = d.spdm := rfl
@[simp] theorem Dev.setBankA_mbx (d : Dev) (x : List Byte) : (d.setBankA x).mbx = d.mbx := rfl
@[simp] theorem Dev.setBankA_lifeNext (d : Dev) (x : List Byte) : (d.setBankA x).lifeNext = d.lifeNext := rfl
@[simp] theorem Dev.setBankA_sealWait (d : Dev) (x : List Byte) : (d.setBankA x).sealWait = d.sealWait := rfl
@[simp] theorem Dev.setBankA_seals (d : Dev) (x : List Byte) : (d.setBankA x).seals = d.seals := rfl
@[simp] theorem Dev.setBankA_chain (d : Dev) (x : List Byte) : (d.setBankA x).chain = d.chain := rfl
@[simp] theorem Dev.setBankA_pubKey (d : Dev) (x : List Byte) : (d.setBankA x).pubKey = d.pubKey := rfl
@[simp] theorem Dev.setBankA_bankSel (d : Dev) (x : List Byte) : (d.setBankA x).bankSel = d.bankSel := rfl
@[simp] theorem Dev.setBankA_bankA (d : Dev) (x : List Byte) : (d.setBankA x).bankA = x := rfl
@[simp] theorem Dev.setBankA_bankB (d : Dev) (x : List Byte) : (d.setBankA x).bankB = d.bankB := rfl
@[simp] theorem Dev.setBankA_ulyar (d : Dev) (x : List Byte) : (d.setBankA x).ulyar = d.ulyar := rfl
@[simp] theorem Dev.setBankA_defImage (d : Dev) (x : List Byte) : (d.setBankA x).defImage = d.defImage := rfl
@[simp] theorem Dev.setBankA_eid (d : Dev) (x : List Byte) : (d.setBankA x).eid = d.eid := rfl
@[simp] theorem Dev.setBankA_spdm (d : Dev) (x : List Byte) : (d.setBankA x).spdm = d.spdm := rfl
@[simp] theorem Dev.setBankB_mbx (d : Dev) (x : List Byte) : (d.setBankB x).mbx = d.mbx := rfl
@[simp] theorem Dev.setBankB_lifeNext (d : Dev) (x : List Byte) : (d.setBankB x).lifeNext = d.lifeNext := rfl
@[simp] theorem Dev.setBankB_sealWait (d : Dev) (x : List Byte) : (d.setBankB x).sealWait = d.sealWait := rfl
@[simp] theorem Dev.setBankB_seals (d : Dev) (x : List Byte) : (d.setBankB x).seals = d.seals := rfl
@[simp] theorem Dev.setBankB_chain (d : Dev) (x : List Byte) : (d.setBankB x).chain = d.chain := rfl
@[simp] theorem Dev.setBankB_pubKey (d : Dev) (x : List Byte) : (d.setBankB x).pubKey = d.pubKey := rfl
@[simp] theorem Dev.setBankB_bankSel (d : Dev) (x : List Byte) : (d.setBankB x).bankSel = d.bankSel := rfl
@[simp] theorem Dev.setBankB_bankA (d : Dev) (x : List Byte) : (d.setBankB x).bankA = d.bankA := rfl
@[simp] theorem Dev.setBankB_bankB (d : Dev) (x : List Byte) : (d.setBankB x).bankB = x := rfl
@[simp] theorem Dev.setBankB_ulyar (d : Dev) (x : List Byte) : (d.setBankB x).ulyar = d.ulyar := rfl
@[simp] theorem Dev.setBankB_defImage (d : Dev) (x : List Byte) : (d.setBankB x).defImage = d.defImage := rfl
@[simp] theorem Dev.setBankB_eid (d : Dev) (x : List Byte) : (d.setBankB x).eid = d.eid := rfl
@[simp] theorem Dev.setBankB_spdm (d : Dev) (x : List Byte) : (d.setBankB x).spdm = d.spdm := rfl
@[simp] theorem Dev.setUlyar_mbx (d : Dev) (x : List Byte) : (d.setUlyar x).mbx = d.mbx := rfl
@[simp] theorem Dev.setUlyar_lifeNext (d : Dev) (x : List Byte) : (d.setUlyar x).lifeNext = d.lifeNext := rfl
@[simp] theorem Dev.setUlyar_sealWait (d : Dev) (x : List Byte) : (d.setUlyar x).sealWait = d.sealWait := rfl
@[simp] theorem Dev.setUlyar_seals (d : Dev) (x : List Byte) : (d.setUlyar x).seals = d.seals := rfl
@[simp] theorem Dev.setUlyar_chain (d : Dev) (x : List Byte) : (d.setUlyar x).chain = d.chain := rfl
@[simp] theorem Dev.setUlyar_pubKey (d : Dev) (x : List Byte) : (d.setUlyar x).pubKey = d.pubKey := rfl
@[simp] theorem Dev.setUlyar_bankSel (d : Dev) (x : List Byte) : (d.setUlyar x).bankSel = d.bankSel := rfl
@[simp] theorem Dev.setUlyar_bankA (d : Dev) (x : List Byte) : (d.setUlyar x).bankA = d.bankA := rfl
@[simp] theorem Dev.setUlyar_bankB (d : Dev) (x : List Byte) : (d.setUlyar x).bankB = d.bankB := rfl
@[simp] theorem Dev.setUlyar_ulyar (d : Dev) (x : List Byte) : (d.setUlyar x).ulyar = x := rfl
@[simp] theorem Dev.setUlyar_defImage (d : Dev) (x : List Byte) : (d.setUlyar x).defImage = d.defImage := rfl
@[simp] theorem Dev.setUlyar_eid (d : Dev) (x : List Byte) : (d.setUlyar x).eid = d.eid := rfl
@[simp] theorem Dev.setUlyar_spdm (d : Dev) (x : List Byte) : (d.setUlyar x).spdm = d.spdm := rfl
@[simp] theorem Dev.setDefImage_mbx (d : Dev) (x : List Byte) : (d.setDefImage x).mbx = d.mbx := rfl
@[simp] theorem Dev.setDefImage_lifeNext (d : Dev) (x : List Byte) : (d.setDefImage x).lifeNext = d.lifeNext := rfl
@[simp] theorem Dev.setDefImage_sealWait (d : Dev) (x : List Byte) : (d.setDefImage x).sealWait = d.sealWait := rfl
@[simp] theorem Dev.setDefImage_seals (d : Dev) (x : List Byte) : (d.setDefImage x).seals = d.seals := rfl
@[simp] theorem Dev.setDefImage_chain (d : Dev) (x : List Byte) : (d.setDefImage x).chain = d.chain := rfl
@[simp] theorem Dev.setDefImage_pubKey (d : Dev) (x : List Byte) : (d.setDefImage x).pubKey = d.pubKey := rfl
@[simp] theorem Dev.setDefImage_bankSel (d : Dev) (x : List Byte) : (d.setDefImage x).bankSel = d.bankSel := rfl
@[simp] theorem Dev.setDefImage_bankA (d : Dev) (x : List Byte) : (d.setDefImage x).bankA = d.bankA := rfl
@[simp] theorem Dev.setDefImage_bankB (d : Dev) (x : List Byte) : (d.setDefImage x).bankB = d.bankB := rfl
@[simp] theorem Dev.setDefImage_ulyar (d : Dev) (x : List Byte) : (d.setDefImage x).ulyar = d.ulyar := rfl
@[simp] theorem Dev.setDefImage_defImage (d : Dev) (x : List Byte) : (d.setDefImage x).defImage = x := rfl
@[simp] theorem Dev.setDefImage_eid (d : Dev) (x : List Byte) : (d.setDefImage x).eid = d.eid := rfl
@[simp] theorem Dev.setDefImage_spdm (d : Dev) (x : List Byte) : (d.setDefImage x).spdm = d.spdm := rfl
@[simp] theorem Dev.setEid_mbx (d : Dev) (x : Nat) : (d.setEid x).mbx = d.mbx := rfl
@[simp] theorem Dev.setEid_lifeNext (d : Dev) (x : Nat) : (d.setEid x).lifeNext = d.lifeNext := rfl
@[simp] theorem Dev.setEid_sealWait (d : Dev) (x : Nat) : (d.setEid x).sealWait = d.sealWait := rfl
@[simp] theorem Dev.setEid_seals (d : Dev) (x : Nat) : (d.setEid x).seals = d.seals := rfl
@[simp] theorem Dev.setEid_chain (d : Dev) (x : Nat) : (d.setEid x).chain = d.chain := rfl
@[simp] theorem Dev.setEid_pubKey (d : Dev) (x : Nat) : (d.setEid x).pubKey = d.pubKey := rfl
@[simp] theorem Dev.setEid_bankSel (d : Dev) (x : Nat) : (d.setEid x).bankSel = d.bankSel := rfl
@[simp] theorem Dev.setEid_bankA (d : Dev) (x : Nat) : (d.setEid x).bankA = d.bankA := rfl
@[simp] theorem Dev.setEid_bankB (d : Dev) (x : Nat) : (d.setEid x).bankB = d.bankB := rfl
@[simp] theorem Dev.setEid_ulyar (d : Dev) (x : Nat) : (d.setEid x).ulyar = d.ulyar := rfl
@[simp] theorem Dev.setEid_defImage (d : Dev) (x : Nat) : (d.setEid x).defImage = d.defImage := rfl
@[simp] theorem Dev.setEid_eid (d : Dev) (x : Nat) : (d.setEid x).eid = x := rfl
@[simp] theorem Dev.setEid_spdm (d : Dev) (x : Nat) : (d.setEid x).spdm = d.spdm := rfl
@[simp] theorem Dev.setSpdm_mbx (d : Dev) (x : Nat) : (d.setSpdm x).mbx = d.mbx := rfl
@[simp] theorem Dev.setSpdm_lifeNext (d : Dev) (x : Nat) : (d.setSpdm x).lifeNext = d.lifeNext := rfl
@[simp] theorem Dev.setSpdm_sealWait (d : Dev) (x : Nat) : (d.setSpdm x).sealWait = d.sealWait := rfl
@[simp] theorem Dev.setSpdm_seals (d : Dev) (x : Nat) : (d.setSpdm x).seals = d.seals := rfl
@[simp] theorem Dev.setSpdm_chain (d : Dev) (x : Nat) : (d.setSpdm x).chain = d.chain := rfl
@[simp] theorem Dev.setSpdm_pubKey (d : Dev) (x : Nat) : (d.setSpdm x).pubKey = d.pubKey := rfl
@[simp] theorem Dev.setSpdm_bankSel (d : Dev) (x : Nat) : (d.setSpdm x).bankSel = d.bankSel := rfl
@[simp] theorem Dev.setSpdm_bankA (d : Dev) (x : Nat) : (d.setSpdm x).bankA = d.bankA := rfl
@[simp] theorem Dev.setSpdm_bankB (d : Dev) (x : Nat) : (d.setSpdm x).bankB = d.bankB := rfl
@[simp] theorem Dev.setSpdm_ulyar (d : Dev) (x : Nat) : (d.setSpdm x).ulyar = d.ulyar := rfl
@[simp] theorem Dev.setSpdm_defImage (d : Dev) (x : Nat) : (d.setSpdm x).defImage = d.defImage := rfl
@[simp] theorem Dev.setSpdm_eid (d : Dev) (x : Nat) : (d.setSpdm x).eid = d.eid := rfl
@[simp] theorem Dev.setSpdm_spdm (d : Dev) (x : Nat) : (d.setSpdm x).spdm = x := rfl
@[simp] theorem Dev.setRas_ras (d : Dev) (x : Tab RasRec) : (d.setRas x).ras = x := rfl
@[simp] theorem Dev.setRas_tested (d : Dev) (x : Tab RasRec) : (d.setRas x).tested = d.tested := rfl
@[simp] theorem Dev.setRas_sramErr (d : Dev) (x : Tab RasRec) : (d.setRas x).sramErr = d.sramErr := rfl
@[simp] theorem Dev.setRas_sramBad (d : Dev) (x : Tab RasRec) : (d.setRas x).sramBad = d.sramBad := rfl
@[simp] theorem Dev.setRas_sramFixed (d : Dev) (x : Tab RasRec) : (d.setRas x).sramFixed = d.sramFixed := rfl
@[simp] theorem Dev.setTested_ras (d : Dev) (x : Bool) : (d.setTested x).ras = d.ras := rfl
@[simp] theorem Dev.setTested_tested (d : Dev) (x : Bool) : (d.setTested x).tested = x := rfl
@[simp] theorem Dev.setTested_sramErr (d : Dev) (x : Bool) : (d.setTested x).sramErr = d.sramErr := rfl
@[simp] theorem Dev.setTested_sramBad (d : Dev) (x : Bool) : (d.setTested x).sramBad = d.sramBad := rfl
@[simp] theorem Dev.setTested_sramFixed (d : Dev) (x : Bool) : (d.setTested x).sramFixed = d.sramFixed := rfl
@[simp] theorem Dev.setSramErr_ras (d : Dev) (x : Tab (Nat × Nat)) : (d.setSramErr x).ras = d.ras := rfl
@[simp] theorem Dev.setSramErr_tested (d : Dev) (x : Tab (Nat × Nat)) : (d.setSramErr x).tested = d.tested := rfl
@[simp] theorem Dev.setSramErr_sramErr (d : Dev) (x : Tab (Nat × Nat)) : (d.setSramErr x).sramErr = x := rfl
@[simp] theorem Dev.setSramErr_sramBad (d : Dev) (x : Tab (Nat × Nat)) : (d.setSramErr x).sramBad = d.sramBad := rfl
@[simp] theorem Dev.setSramErr_sramFixed (d : Dev) (x : Tab (Nat × Nat)) : (d.setSramErr x).sramFixed = d.sramFixed := rfl
@[simp] theorem Dev.setSramBad_ras (d : Dev) (x : Tab Unit) : (d.setSramBad x).ras = d.ras := rfl
@[simp] theorem Dev.setSramBad_tested (d : Dev) (x : Tab Unit) : (d.setSramBad x).tested = d.tested := rfl
@[simp] theorem Dev.setSramBad_sramErr (d : Dev) (x : Tab Unit) : (d.setSramBad x).sramErr = d.sramErr := rfl
@[simp] theorem Dev.setSramBad_sramBad (d : Dev) (x : Tab Unit) : (d.setSramBad x).sramBad = x := rfl
@[simp] theorem Dev.setSramBad_sramFixed (d : Dev) (x : Tab Unit) : (d.setSramBad x).sramFixed = d.sramFixed := rfl
@[simp] theorem Dev.setSramFixed_ras (d : Dev) (x : Tab Unit) : (d.setSramFixed x).ras = d.ras := rfl
@[simp] theorem Dev.setSramFixed_tested (d : Dev) (x : Tab Unit) : (d.setSramFixed x).tested = d.tested := rfl
@[simp] theorem Dev.setSramFixed_sramErr (d : Dev) (x : Tab Unit) : (d.setSramFixed x).sramErr = d.sramErr := rfl
@[simp] theorem Dev.setSramFixed_sramBad (d : Dev) (x : Tab Unit) : (d.setSramFixed x).sramBad = d.sramBad := rfl
@[simp] theorem Dev.setSramFixed_sramFixed (d : Dev) (x : Tab Unit) : (d.setSramFixed x).sramFixed = x := rfl
@[simp] theorem Dev.setPwrMode_pwrMode (d : Dev) (x : PwrMode) : (d.setPwrMode x).pwrMode = x := rfl
@[simp] theorem Dev.setPwrMode_bootCount (d : Dev) (x : PwrMode) : (d.setPwrMode x).bootCount = d.bootCount := rfl
@[simp] theorem Dev.setPwrMode_bistSlices (d : Dev) (x : PwrMode) : (d.setPwrMode x).bistSlices = d.bistSlices := rfl
@[simp] theorem Dev.setPwrMode_diesDown (d : Dev) (x : PwrMode) : (d.setPwrMode x).diesDown = d.diesDown := rfl
@[simp] theorem Dev.setPwrMode_straps (d : Dev) (x : PwrMode) : (d.setPwrMode x).straps = d.straps := rfl
@[simp] theorem Dev.setPwrMode_board (d : Dev) (x : PwrMode) : (d.setPwrMode x).board = d.board := rfl
@[simp] theorem Dev.setPwrMode_pwrNext (d : Dev) (x : PwrMode) : (d.setPwrMode x).pwrNext = d.pwrNext := rfl
@[simp] theorem Dev.setPwrMode_perst (d : Dev) (x : PwrMode) : (d.setPwrMode x).perst = d.perst := rfl
@[simp] theorem Dev.setPwrMode_easyEpoch (d : Dev) (x : PwrMode) : (d.setPwrMode x).easyEpoch = d.easyEpoch := rfl
@[simp] theorem Dev.setPwrMode_wipeFrom (d : Dev) (x : PwrMode) : (d.setPwrMode x).wipeFrom = d.wipeFrom := rfl
@[simp] theorem Dev.setPwrMode_gated (d : Dev) (x : PwrMode) : (d.setPwrMode x).gated = d.gated := rfl
@[simp] theorem Dev.setPwrMode_gateShort (d : Dev) (x : PwrMode) : (d.setPwrMode x).gateShort = d.gateShort := rfl
@[simp] theorem Dev.setPwrMode_bootAt (d : Dev) (x : PwrMode) : (d.setPwrMode x).bootAt = d.bootAt := rfl
@[simp] theorem Dev.setPwrMode_setsOut (d : Dev) (x : PwrMode) : (d.setPwrMode x).setsOut = d.setsOut := rfl
@[simp] theorem Dev.setPwrMode_avsFuse (d : Dev) (x : PwrMode) : (d.setPwrMode x).avsFuse = d.avsFuse := rfl
@[simp] theorem Dev.setPwrMode_vddCmp (d : Dev) (x : PwrMode) : (d.setPwrMode x).vddCmp = d.vddCmp := rfl
@[simp] theorem Dev.setBootCount_pwrMode (d : Dev) (x : Nat) : (d.setBootCount x).pwrMode = d.pwrMode := rfl
@[simp] theorem Dev.setBootCount_bootCount (d : Dev) (x : Nat) : (d.setBootCount x).bootCount = x := rfl
@[simp] theorem Dev.setBootCount_bistSlices (d : Dev) (x : Nat) : (d.setBootCount x).bistSlices = d.bistSlices := rfl
@[simp] theorem Dev.setBootCount_diesDown (d : Dev) (x : Nat) : (d.setBootCount x).diesDown = d.diesDown := rfl
@[simp] theorem Dev.setBootCount_straps (d : Dev) (x : Nat) : (d.setBootCount x).straps = d.straps := rfl
@[simp] theorem Dev.setBootCount_board (d : Dev) (x : Nat) : (d.setBootCount x).board = d.board := rfl
@[simp] theorem Dev.setBootCount_pwrNext (d : Dev) (x : Nat) : (d.setBootCount x).pwrNext = d.pwrNext := rfl
@[simp] theorem Dev.setBootCount_perst (d : Dev) (x : Nat) : (d.setBootCount x).perst = d.perst := rfl
@[simp] theorem Dev.setBootCount_easyEpoch (d : Dev) (x : Nat) : (d.setBootCount x).easyEpoch = d.easyEpoch := rfl
@[simp] theorem Dev.setBootCount_wipeFrom (d : Dev) (x : Nat) : (d.setBootCount x).wipeFrom = d.wipeFrom := rfl
@[simp] theorem Dev.setBootCount_gated (d : Dev) (x : Nat) : (d.setBootCount x).gated = d.gated := rfl
@[simp] theorem Dev.setBootCount_gateShort (d : Dev) (x : Nat) : (d.setBootCount x).gateShort = d.gateShort := rfl
@[simp] theorem Dev.setBootCount_bootAt (d : Dev) (x : Nat) : (d.setBootCount x).bootAt = d.bootAt := rfl
@[simp] theorem Dev.setBootCount_setsOut (d : Dev) (x : Nat) : (d.setBootCount x).setsOut = d.setsOut := rfl
@[simp] theorem Dev.setBootCount_avsFuse (d : Dev) (x : Nat) : (d.setBootCount x).avsFuse = d.avsFuse := rfl
@[simp] theorem Dev.setBootCount_vddCmp (d : Dev) (x : Nat) : (d.setBootCount x).vddCmp = d.vddCmp := rfl
@[simp] theorem Dev.setBistSlices_pwrMode (d : Dev) (x : Nat) : (d.setBistSlices x).pwrMode = d.pwrMode := rfl
@[simp] theorem Dev.setBistSlices_bootCount (d : Dev) (x : Nat) : (d.setBistSlices x).bootCount = d.bootCount := rfl
@[simp] theorem Dev.setBistSlices_bistSlices (d : Dev) (x : Nat) : (d.setBistSlices x).bistSlices = x := rfl
@[simp] theorem Dev.setBistSlices_diesDown (d : Dev) (x : Nat) : (d.setBistSlices x).diesDown = d.diesDown := rfl
@[simp] theorem Dev.setBistSlices_straps (d : Dev) (x : Nat) : (d.setBistSlices x).straps = d.straps := rfl
@[simp] theorem Dev.setBistSlices_board (d : Dev) (x : Nat) : (d.setBistSlices x).board = d.board := rfl
@[simp] theorem Dev.setBistSlices_pwrNext (d : Dev) (x : Nat) : (d.setBistSlices x).pwrNext = d.pwrNext := rfl
@[simp] theorem Dev.setBistSlices_perst (d : Dev) (x : Nat) : (d.setBistSlices x).perst = d.perst := rfl
@[simp] theorem Dev.setBistSlices_easyEpoch (d : Dev) (x : Nat) : (d.setBistSlices x).easyEpoch = d.easyEpoch := rfl
@[simp] theorem Dev.setBistSlices_wipeFrom (d : Dev) (x : Nat) : (d.setBistSlices x).wipeFrom = d.wipeFrom := rfl
@[simp] theorem Dev.setBistSlices_gated (d : Dev) (x : Nat) : (d.setBistSlices x).gated = d.gated := rfl
@[simp] theorem Dev.setBistSlices_gateShort (d : Dev) (x : Nat) : (d.setBistSlices x).gateShort = d.gateShort := rfl
@[simp] theorem Dev.setBistSlices_bootAt (d : Dev) (x : Nat) : (d.setBistSlices x).bootAt = d.bootAt := rfl
@[simp] theorem Dev.setBistSlices_setsOut (d : Dev) (x : Nat) : (d.setBistSlices x).setsOut = d.setsOut := rfl
@[simp] theorem Dev.setBistSlices_avsFuse (d : Dev) (x : Nat) : (d.setBistSlices x).avsFuse = d.avsFuse := rfl
@[simp] theorem Dev.setBistSlices_vddCmp (d : Dev) (x : Nat) : (d.setBistSlices x).vddCmp = d.vddCmp := rfl
@[simp] theorem Dev.setDiesDown_pwrMode (d : Dev) (x : Nat) : (d.setDiesDown x).pwrMode = d.pwrMode := rfl
@[simp] theorem Dev.setDiesDown_bootCount (d : Dev) (x : Nat) : (d.setDiesDown x).bootCount = d.bootCount := rfl
@[simp] theorem Dev.setDiesDown_bistSlices (d : Dev) (x : Nat) : (d.setDiesDown x).bistSlices = d.bistSlices := rfl
@[simp] theorem Dev.setDiesDown_diesDown (d : Dev) (x : Nat) : (d.setDiesDown x).diesDown = x := rfl
@[simp] theorem Dev.setDiesDown_straps (d : Dev) (x : Nat) : (d.setDiesDown x).straps = d.straps := rfl
@[simp] theorem Dev.setDiesDown_board (d : Dev) (x : Nat) : (d.setDiesDown x).board = d.board := rfl
@[simp] theorem Dev.setDiesDown_pwrNext (d : Dev) (x : Nat) : (d.setDiesDown x).pwrNext = d.pwrNext := rfl
@[simp] theorem Dev.setDiesDown_perst (d : Dev) (x : Nat) : (d.setDiesDown x).perst = d.perst := rfl
@[simp] theorem Dev.setDiesDown_easyEpoch (d : Dev) (x : Nat) : (d.setDiesDown x).easyEpoch = d.easyEpoch := rfl
@[simp] theorem Dev.setDiesDown_wipeFrom (d : Dev) (x : Nat) : (d.setDiesDown x).wipeFrom = d.wipeFrom := rfl
@[simp] theorem Dev.setDiesDown_gated (d : Dev) (x : Nat) : (d.setDiesDown x).gated = d.gated := rfl
@[simp] theorem Dev.setDiesDown_gateShort (d : Dev) (x : Nat) : (d.setDiesDown x).gateShort = d.gateShort := rfl
@[simp] theorem Dev.setDiesDown_bootAt (d : Dev) (x : Nat) : (d.setDiesDown x).bootAt = d.bootAt := rfl
@[simp] theorem Dev.setDiesDown_setsOut (d : Dev) (x : Nat) : (d.setDiesDown x).setsOut = d.setsOut := rfl
@[simp] theorem Dev.setDiesDown_avsFuse (d : Dev) (x : Nat) : (d.setDiesDown x).avsFuse = d.avsFuse := rfl
@[simp] theorem Dev.setDiesDown_vddCmp (d : Dev) (x : Nat) : (d.setDiesDown x).vddCmp = d.vddCmp := rfl
@[simp] theorem Dev.setStraps_pwrMode (d : Dev) (x : Straps) : (d.setStraps x).pwrMode = d.pwrMode := rfl
@[simp] theorem Dev.setStraps_bootCount (d : Dev) (x : Straps) : (d.setStraps x).bootCount = d.bootCount := rfl
@[simp] theorem Dev.setStraps_bistSlices (d : Dev) (x : Straps) : (d.setStraps x).bistSlices = d.bistSlices := rfl
@[simp] theorem Dev.setStraps_diesDown (d : Dev) (x : Straps) : (d.setStraps x).diesDown = d.diesDown := rfl
@[simp] theorem Dev.setStraps_straps (d : Dev) (x : Straps) : (d.setStraps x).straps = x := rfl
@[simp] theorem Dev.setStraps_board (d : Dev) (x : Straps) : (d.setStraps x).board = d.board := rfl
@[simp] theorem Dev.setStraps_pwrNext (d : Dev) (x : Straps) : (d.setStraps x).pwrNext = d.pwrNext := rfl
@[simp] theorem Dev.setStraps_perst (d : Dev) (x : Straps) : (d.setStraps x).perst = d.perst := rfl
@[simp] theorem Dev.setStraps_easyEpoch (d : Dev) (x : Straps) : (d.setStraps x).easyEpoch = d.easyEpoch := rfl
@[simp] theorem Dev.setStraps_wipeFrom (d : Dev) (x : Straps) : (d.setStraps x).wipeFrom = d.wipeFrom := rfl
@[simp] theorem Dev.setStraps_gated (d : Dev) (x : Straps) : (d.setStraps x).gated = d.gated := rfl
@[simp] theorem Dev.setStraps_gateShort (d : Dev) (x : Straps) : (d.setStraps x).gateShort = d.gateShort := rfl
@[simp] theorem Dev.setStraps_bootAt (d : Dev) (x : Straps) : (d.setStraps x).bootAt = d.bootAt := rfl
@[simp] theorem Dev.setStraps_setsOut (d : Dev) (x : Straps) : (d.setStraps x).setsOut = d.setsOut := rfl
@[simp] theorem Dev.setStraps_avsFuse (d : Dev) (x : Straps) : (d.setStraps x).avsFuse = d.avsFuse := rfl
@[simp] theorem Dev.setStraps_vddCmp (d : Dev) (x : Straps) : (d.setStraps x).vddCmp = d.vddCmp := rfl
@[simp] theorem Dev.setBoard_pwrMode (d : Dev) (x : Nat) : (d.setBoard x).pwrMode = d.pwrMode := rfl
@[simp] theorem Dev.setBoard_bootCount (d : Dev) (x : Nat) : (d.setBoard x).bootCount = d.bootCount := rfl
@[simp] theorem Dev.setBoard_bistSlices (d : Dev) (x : Nat) : (d.setBoard x).bistSlices = d.bistSlices := rfl
@[simp] theorem Dev.setBoard_diesDown (d : Dev) (x : Nat) : (d.setBoard x).diesDown = d.diesDown := rfl
@[simp] theorem Dev.setBoard_straps (d : Dev) (x : Nat) : (d.setBoard x).straps = d.straps := rfl
@[simp] theorem Dev.setBoard_board (d : Dev) (x : Nat) : (d.setBoard x).board = x := rfl
@[simp] theorem Dev.setBoard_pwrNext (d : Dev) (x : Nat) : (d.setBoard x).pwrNext = d.pwrNext := rfl
@[simp] theorem Dev.setBoard_perst (d : Dev) (x : Nat) : (d.setBoard x).perst = d.perst := rfl
@[simp] theorem Dev.setBoard_easyEpoch (d : Dev) (x : Nat) : (d.setBoard x).easyEpoch = d.easyEpoch := rfl
@[simp] theorem Dev.setBoard_wipeFrom (d : Dev) (x : Nat) : (d.setBoard x).wipeFrom = d.wipeFrom := rfl
@[simp] theorem Dev.setBoard_gated (d : Dev) (x : Nat) : (d.setBoard x).gated = d.gated := rfl
@[simp] theorem Dev.setBoard_gateShort (d : Dev) (x : Nat) : (d.setBoard x).gateShort = d.gateShort := rfl
@[simp] theorem Dev.setBoard_bootAt (d : Dev) (x : Nat) : (d.setBoard x).bootAt = d.bootAt := rfl
@[simp] theorem Dev.setBoard_setsOut (d : Dev) (x : Nat) : (d.setBoard x).setsOut = d.setsOut := rfl
@[simp] theorem Dev.setBoard_avsFuse (d : Dev) (x : Nat) : (d.setBoard x).avsFuse = d.avsFuse := rfl
@[simp] theorem Dev.setBoard_vddCmp (d : Dev) (x : Nat) : (d.setBoard x).vddCmp = d.vddCmp := rfl
@[simp] theorem Dev.setPwrNext_pwrMode (d : Dev) (x : (Nat × Nat)) : (d.setPwrNext x).pwrMode = d.pwrMode := rfl
@[simp] theorem Dev.setPwrNext_bootCount (d : Dev) (x : (Nat × Nat)) : (d.setPwrNext x).bootCount = d.bootCount := rfl
@[simp] theorem Dev.setPwrNext_bistSlices (d : Dev) (x : (Nat × Nat)) : (d.setPwrNext x).bistSlices = d.bistSlices := rfl
@[simp] theorem Dev.setPwrNext_diesDown (d : Dev) (x : (Nat × Nat)) : (d.setPwrNext x).diesDown = d.diesDown := rfl
@[simp] theorem Dev.setPwrNext_straps (d : Dev) (x : (Nat × Nat)) : (d.setPwrNext x).straps = d.straps := rfl
@[simp] theorem Dev.setPwrNext_board (d : Dev) (x : (Nat × Nat)) : (d.setPwrNext x).board = d.board := rfl
@[simp] theorem Dev.setPwrNext_pwrNext (d : Dev) (x : (Nat × Nat)) : (d.setPwrNext x).pwrNext = x := rfl
@[simp] theorem Dev.setPwrNext_perst (d : Dev) (x : (Nat × Nat)) : (d.setPwrNext x).perst = d.perst := rfl
@[simp] theorem Dev.setPwrNext_easyEpoch (d : Dev) (x : (Nat × Nat)) : (d.setPwrNext x).easyEpoch = d.easyEpoch := rfl
@[simp] theorem Dev.setPwrNext_wipeFrom (d : Dev) (x : (Nat × Nat)) : (d.setPwrNext x).wipeFrom = d.wipeFrom := rfl
@[simp] theorem Dev.setPwrNext_gated (d : Dev) (x : (Nat × Nat)) : (d.setPwrNext x).gated = d.gated := rfl
@[simp] theorem Dev.setPwrNext_gateShort (d : Dev) (x : (Nat × Nat)) : (d.setPwrNext x).gateShort = d.gateShort := rfl
@[simp] theorem Dev.setPwrNext_bootAt (d : Dev) (x : (Nat × Nat)) : (d.setPwrNext x).bootAt = d.bootAt := rfl
@[simp] theorem Dev.setPwrNext_setsOut (d : Dev) (x : (Nat × Nat)) : (d.setPwrNext x).setsOut = d.setsOut := rfl
@[simp] theorem Dev.setPwrNext_avsFuse (d : Dev) (x : (Nat × Nat)) : (d.setPwrNext x).avsFuse = d.avsFuse := rfl
@[simp] theorem Dev.setPwrNext_vddCmp (d : Dev) (x : (Nat × Nat)) : (d.setPwrNext x).vddCmp = d.vddCmp := rfl
@[simp] theorem Dev.setPerst_pwrMode (d : Dev) (x : Bool) : (d.setPerst x).pwrMode = d.pwrMode := rfl
@[simp] theorem Dev.setPerst_bootCount (d : Dev) (x : Bool) : (d.setPerst x).bootCount = d.bootCount := rfl
@[simp] theorem Dev.setPerst_bistSlices (d : Dev) (x : Bool) : (d.setPerst x).bistSlices = d.bistSlices := rfl
@[simp] theorem Dev.setPerst_diesDown (d : Dev) (x : Bool) : (d.setPerst x).diesDown = d.diesDown := rfl
@[simp] theorem Dev.setPerst_straps (d : Dev) (x : Bool) : (d.setPerst x).straps = d.straps := rfl
@[simp] theorem Dev.setPerst_board (d : Dev) (x : Bool) : (d.setPerst x).board = d.board := rfl
@[simp] theorem Dev.setPerst_pwrNext (d : Dev) (x : Bool) : (d.setPerst x).pwrNext = d.pwrNext := rfl
@[simp] theorem Dev.setPerst_perst (d : Dev) (x : Bool) : (d.setPerst x).perst = x := rfl
@[simp] theorem Dev.setPerst_easyEpoch (d : Dev) (x : Bool) : (d.setPerst x).easyEpoch = d.easyEpoch := rfl
@[simp] theorem Dev.setPerst_wipeFrom (d : Dev) (x : Bool) : (d.setPerst x).wipeFrom = d.wipeFrom := rfl
@[simp] theorem Dev.setPerst_gated (d : Dev) (x : Bool) : (d.setPerst x).gated = d.gated := rfl
@[simp] theorem Dev.setPerst_gateShort (d : Dev) (x : Bool) : (d.setPerst x).gateShort = d.gateShort := rfl
@[simp] theorem Dev.setPerst_bootAt (d : Dev) (x : Bool) : (d.setPerst x).bootAt = d.bootAt := rfl
@[simp] theorem Dev.setPerst_setsOut (d : Dev) (x : Bool) : (d.setPerst x).setsOut = d.setsOut := rfl
@[simp] theorem Dev.setPerst_avsFuse (d : Dev) (x : Bool) : (d.setPerst x).avsFuse = d.avsFuse := rfl
@[simp] theorem Dev.setPerst_vddCmp (d : Dev) (x : Bool) : (d.setPerst x).vddCmp = d.vddCmp := rfl
@[simp] theorem Dev.setEasyEpoch_pwrMode (d : Dev) (x : Option Nat) : (d.setEasyEpoch x).pwrMode = d.pwrMode := rfl
@[simp] theorem Dev.setEasyEpoch_bootCount (d : Dev) (x : Option Nat) : (d.setEasyEpoch x).bootCount = d.bootCount := rfl
@[simp] theorem Dev.setEasyEpoch_bistSlices (d : Dev) (x : Option Nat) : (d.setEasyEpoch x).bistSlices = d.bistSlices := rfl
@[simp] theorem Dev.setEasyEpoch_diesDown (d : Dev) (x : Option Nat) : (d.setEasyEpoch x).diesDown = d.diesDown := rfl
@[simp] theorem Dev.setEasyEpoch_straps (d : Dev) (x : Option Nat) : (d.setEasyEpoch x).straps = d.straps := rfl
@[simp] theorem Dev.setEasyEpoch_board (d : Dev) (x : Option Nat) : (d.setEasyEpoch x).board = d.board := rfl
@[simp] theorem Dev.setEasyEpoch_pwrNext (d : Dev) (x : Option Nat) : (d.setEasyEpoch x).pwrNext = d.pwrNext := rfl
@[simp] theorem Dev.setEasyEpoch_perst (d : Dev) (x : Option Nat) : (d.setEasyEpoch x).perst = d.perst := rfl
@[simp] theorem Dev.setEasyEpoch_easyEpoch (d : Dev) (x : Option Nat) : (d.setEasyEpoch x).easyEpoch = x := rfl
@[simp] theorem Dev.setEasyEpoch_wipeFrom (d : Dev) (x : Option Nat) : (d.setEasyEpoch x).wipeFrom = d.wipeFrom := rfl
@[simp] theorem Dev.setEasyEpoch_gated (d : Dev) (x : Option Nat) : (d.setEasyEpoch x).gated = d.gated := rfl
@[simp] theorem Dev.setEasyEpoch_gateShort (d : Dev) (x : Option Nat) : (d.setEasyEpoch x).gateShort = d.gateShort := rfl
@[simp] theorem Dev.setEasyEpoch_bootAt (d : Dev) (x : Option Nat) : (d.setEasyEpoch x).bootAt = d.bootAt := rfl
@[simp] theorem Dev.setEasyEpoch_setsOut (d : Dev) (x : Option Nat) : (d.setEasyEpoch x).setsOut = d.setsOut := rfl
@[simp] theorem Dev.setEasyEpoch_avsFuse (d : Dev) (x : Option Nat) : (d.setEasyEpoch x).avsFuse = d.avsFuse := rfl
@[simp] theorem Dev.setEasyEpoch_vddCmp (d : Dev) (x : Option Nat) : (d.setEasyEpoch x).vddCmp = d.vddCmp := rfl
@[simp] theorem Dev.setWipeFrom_pwrMode (d : Dev) (x : Nat) : (d.setWipeFrom x).pwrMode = d.pwrMode := rfl
@[simp] theorem Dev.setWipeFrom_bootCount (d : Dev) (x : Nat) : (d.setWipeFrom x).bootCount = d.bootCount := rfl
@[simp] theorem Dev.setWipeFrom_bistSlices (d : Dev) (x : Nat) : (d.setWipeFrom x).bistSlices = d.bistSlices := rfl
@[simp] theorem Dev.setWipeFrom_diesDown (d : Dev) (x : Nat) : (d.setWipeFrom x).diesDown = d.diesDown := rfl
@[simp] theorem Dev.setWipeFrom_straps (d : Dev) (x : Nat) : (d.setWipeFrom x).straps = d.straps := rfl
@[simp] theorem Dev.setWipeFrom_board (d : Dev) (x : Nat) : (d.setWipeFrom x).board = d.board := rfl
@[simp] theorem Dev.setWipeFrom_pwrNext (d : Dev) (x : Nat) : (d.setWipeFrom x).pwrNext = d.pwrNext := rfl
@[simp] theorem Dev.setWipeFrom_perst (d : Dev) (x : Nat) : (d.setWipeFrom x).perst = d.perst := rfl
@[simp] theorem Dev.setWipeFrom_easyEpoch (d : Dev) (x : Nat) : (d.setWipeFrom x).easyEpoch = d.easyEpoch := rfl
@[simp] theorem Dev.setWipeFrom_wipeFrom (d : Dev) (x : Nat) : (d.setWipeFrom x).wipeFrom = x := rfl
@[simp] theorem Dev.setWipeFrom_gated (d : Dev) (x : Nat) : (d.setWipeFrom x).gated = d.gated := rfl
@[simp] theorem Dev.setWipeFrom_gateShort (d : Dev) (x : Nat) : (d.setWipeFrom x).gateShort = d.gateShort := rfl
@[simp] theorem Dev.setWipeFrom_bootAt (d : Dev) (x : Nat) : (d.setWipeFrom x).bootAt = d.bootAt := rfl
@[simp] theorem Dev.setWipeFrom_setsOut (d : Dev) (x : Nat) : (d.setWipeFrom x).setsOut = d.setsOut := rfl
@[simp] theorem Dev.setWipeFrom_avsFuse (d : Dev) (x : Nat) : (d.setWipeFrom x).avsFuse = d.avsFuse := rfl
@[simp] theorem Dev.setWipeFrom_vddCmp (d : Dev) (x : Nat) : (d.setWipeFrom x).vddCmp = d.vddCmp := rfl
@[simp] theorem Dev.setGated_pwrMode (d : Dev) (x : List Nat) : (d.setGated x).pwrMode = d.pwrMode := rfl
@[simp] theorem Dev.setGated_bootCount (d : Dev) (x : List Nat) : (d.setGated x).bootCount = d.bootCount := rfl
@[simp] theorem Dev.setGated_bistSlices (d : Dev) (x : List Nat) : (d.setGated x).bistSlices = d.bistSlices := rfl
@[simp] theorem Dev.setGated_diesDown (d : Dev) (x : List Nat) : (d.setGated x).diesDown = d.diesDown := rfl
@[simp] theorem Dev.setGated_straps (d : Dev) (x : List Nat) : (d.setGated x).straps = d.straps := rfl
@[simp] theorem Dev.setGated_board (d : Dev) (x : List Nat) : (d.setGated x).board = d.board := rfl
@[simp] theorem Dev.setGated_pwrNext (d : Dev) (x : List Nat) : (d.setGated x).pwrNext = d.pwrNext := rfl
@[simp] theorem Dev.setGated_perst (d : Dev) (x : List Nat) : (d.setGated x).perst = d.perst := rfl
@[simp] theorem Dev.setGated_easyEpoch (d : Dev) (x : List Nat) : (d.setGated x).easyEpoch = d.easyEpoch := rfl
@[simp] theorem Dev.setGated_wipeFrom (d : Dev) (x : List Nat) : (d.setGated x).wipeFrom = d.wipeFrom := rfl
@[simp] theorem Dev.setGated_gated (d : Dev) (x : List Nat) : (d.setGated x).gated = x := rfl
@[simp] theorem Dev.setGated_gateShort (d : Dev) (x : List Nat) : (d.setGated x).gateShort = d.gateShort := rfl
@[simp] theorem Dev.setGated_bootAt (d : Dev) (x : List Nat) : (d.setGated x).bootAt = d.bootAt := rfl
@[simp] theorem Dev.setGated_setsOut (d : Dev) (x : List Nat) : (d.setGated x).setsOut = d.setsOut := rfl
@[simp] theorem Dev.setGated_avsFuse (d : Dev) (x : List Nat) : (d.setGated x).avsFuse = d.avsFuse := rfl
@[simp] theorem Dev.setGated_vddCmp (d : Dev) (x : List Nat) : (d.setGated x).vddCmp = d.vddCmp := rfl
@[simp] theorem Dev.setGateShort_pwrMode (d : Dev) (x : Bool) : (d.setGateShort x).pwrMode = d.pwrMode := rfl
@[simp] theorem Dev.setGateShort_bootCount (d : Dev) (x : Bool) : (d.setGateShort x).bootCount = d.bootCount := rfl
@[simp] theorem Dev.setGateShort_bistSlices (d : Dev) (x : Bool) : (d.setGateShort x).bistSlices = d.bistSlices := rfl
@[simp] theorem Dev.setGateShort_diesDown (d : Dev) (x : Bool) : (d.setGateShort x).diesDown = d.diesDown := rfl
@[simp] theorem Dev.setGateShort_straps (d : Dev) (x : Bool) : (d.setGateShort x).straps = d.straps := rfl
@[simp] theorem Dev.setGateShort_board (d : Dev) (x : Bool) : (d.setGateShort x).board = d.board := rfl
@[simp] theorem Dev.setGateShort_pwrNext (d : Dev) (x : Bool) : (d.setGateShort x).pwrNext = d.pwrNext := rfl
@[simp] theorem Dev.setGateShort_perst (d : Dev) (x : Bool) : (d.setGateShort x).perst = d.perst := rfl
@[simp] theorem Dev.setGateShort_easyEpoch (d : Dev) (x : Bool) : (d.setGateShort x).easyEpoch = d.easyEpoch := rfl
@[simp] theorem Dev.setGateShort_wipeFrom (d : Dev) (x : Bool) : (d.setGateShort x).wipeFrom = d.wipeFrom := rfl
@[simp] theorem Dev.setGateShort_gated (d : Dev) (x : Bool) : (d.setGateShort x).gated = d.gated := rfl
@[simp] theorem Dev.setGateShort_gateShort (d : Dev) (x : Bool) : (d.setGateShort x).gateShort = x := rfl
@[simp] theorem Dev.setGateShort_bootAt (d : Dev) (x : Bool) : (d.setGateShort x).bootAt = d.bootAt := rfl
@[simp] theorem Dev.setGateShort_setsOut (d : Dev) (x : Bool) : (d.setGateShort x).setsOut = d.setsOut := rfl
@[simp] theorem Dev.setGateShort_avsFuse (d : Dev) (x : Bool) : (d.setGateShort x).avsFuse = d.avsFuse := rfl
@[simp] theorem Dev.setGateShort_vddCmp (d : Dev) (x : Bool) : (d.setGateShort x).vddCmp = d.vddCmp := rfl
@[simp] theorem Dev.setBootAt_pwrMode (d : Dev) (x : Nat) : (d.setBootAt x).pwrMode = d.pwrMode := rfl
@[simp] theorem Dev.setBootAt_bootCount (d : Dev) (x : Nat) : (d.setBootAt x).bootCount = d.bootCount := rfl
@[simp] theorem Dev.setBootAt_bistSlices (d : Dev) (x : Nat) : (d.setBootAt x).bistSlices = d.bistSlices := rfl
@[simp] theorem Dev.setBootAt_diesDown (d : Dev) (x : Nat) : (d.setBootAt x).diesDown = d.diesDown := rfl
@[simp] theorem Dev.setBootAt_straps (d : Dev) (x : Nat) : (d.setBootAt x).straps = d.straps := rfl
@[simp] theorem Dev.setBootAt_board (d : Dev) (x : Nat) : (d.setBootAt x).board = d.board := rfl
@[simp] theorem Dev.setBootAt_pwrNext (d : Dev) (x : Nat) : (d.setBootAt x).pwrNext = d.pwrNext := rfl
@[simp] theorem Dev.setBootAt_perst (d : Dev) (x : Nat) : (d.setBootAt x).perst = d.perst := rfl
@[simp] theorem Dev.setBootAt_easyEpoch (d : Dev) (x : Nat) : (d.setBootAt x).easyEpoch = d.easyEpoch := rfl
@[simp] theorem Dev.setBootAt_wipeFrom (d : Dev) (x : Nat) : (d.setBootAt x).wipeFrom = d.wipeFrom := rfl
@[simp] theorem Dev.setBootAt_gated (d : Dev) (x : Nat) : (d.setBootAt x).gated = d.gated := rfl
@[simp] theorem Dev.setBootAt_gateShort (d : Dev) (x : Nat) : (d.setBootAt x).gateShort = d.gateShort := rfl
@[simp] theorem Dev.setBootAt_bootAt (d : Dev) (x : Nat) : (d.setBootAt x).bootAt = x := rfl
@[simp] theorem Dev.setBootAt_setsOut (d : Dev) (x : Nat) : (d.setBootAt x).setsOut = d.setsOut := rfl
@[simp] theorem Dev.setBootAt_avsFuse (d : Dev) (x : Nat) : (d.setBootAt x).avsFuse = d.avsFuse := rfl
@[simp] theorem Dev.setBootAt_vddCmp (d : Dev) (x : Nat) : (d.setBootAt x).vddCmp = d.vddCmp := rfl
@[simp] theorem Dev.setSetsOut_pwrMode (d : Dev) (x : Nat) : (d.setSetsOut x).pwrMode = d.pwrMode := rfl
@[simp] theorem Dev.setSetsOut_bootCount (d : Dev) (x : Nat) : (d.setSetsOut x).bootCount = d.bootCount := rfl
@[simp] theorem Dev.setSetsOut_bistSlices (d : Dev) (x : Nat) : (d.setSetsOut x).bistSlices = d.bistSlices := rfl
@[simp] theorem Dev.setSetsOut_diesDown (d : Dev) (x : Nat) : (d.setSetsOut x).diesDown = d.diesDown := rfl
@[simp] theorem Dev.setSetsOut_straps (d : Dev) (x : Nat) : (d.setSetsOut x).straps = d.straps := rfl
@[simp] theorem Dev.setSetsOut_board (d : Dev) (x : Nat) : (d.setSetsOut x).board = d.board := rfl
@[simp] theorem Dev.setSetsOut_pwrNext (d : Dev) (x : Nat) : (d.setSetsOut x).pwrNext = d.pwrNext := rfl
@[simp] theorem Dev.setSetsOut_perst (d : Dev) (x : Nat) : (d.setSetsOut x).perst = d.perst := rfl
@[simp] theorem Dev.setSetsOut_easyEpoch (d : Dev) (x : Nat) : (d.setSetsOut x).easyEpoch = d.easyEpoch := rfl
@[simp] theorem Dev.setSetsOut_wipeFrom (d : Dev) (x : Nat) : (d.setSetsOut x).wipeFrom = d.wipeFrom := rfl
@[simp] theorem Dev.setSetsOut_gated (d : Dev) (x : Nat) : (d.setSetsOut x).gated = d.gated := rfl
@[simp] theorem Dev.setSetsOut_gateShort (d : Dev) (x : Nat) : (d.setSetsOut x).gateShort = d.gateShort := rfl
@[simp] theorem Dev.setSetsOut_bootAt (d : Dev) (x : Nat) : (d.setSetsOut x).bootAt = d.bootAt := rfl
@[simp] theorem Dev.setSetsOut_setsOut (d : Dev) (x : Nat) : (d.setSetsOut x).setsOut = x := rfl
@[simp] theorem Dev.setSetsOut_avsFuse (d : Dev) (x : Nat) : (d.setSetsOut x).avsFuse = d.avsFuse := rfl
@[simp] theorem Dev.setSetsOut_vddCmp (d : Dev) (x : Nat) : (d.setSetsOut x).vddCmp = d.vddCmp := rfl
@[simp] theorem Dev.setAvsFuse_pwrMode (d : Dev) (x : Nat) : (d.setAvsFuse x).pwrMode = d.pwrMode := rfl
@[simp] theorem Dev.setAvsFuse_bootCount (d : Dev) (x : Nat) : (d.setAvsFuse x).bootCount = d.bootCount := rfl
@[simp] theorem Dev.setAvsFuse_bistSlices (d : Dev) (x : Nat) : (d.setAvsFuse x).bistSlices = d.bistSlices := rfl
@[simp] theorem Dev.setAvsFuse_diesDown (d : Dev) (x : Nat) : (d.setAvsFuse x).diesDown = d.diesDown := rfl
@[simp] theorem Dev.setAvsFuse_straps (d : Dev) (x : Nat) : (d.setAvsFuse x).straps = d.straps := rfl
@[simp] theorem Dev.setAvsFuse_board (d : Dev) (x : Nat) : (d.setAvsFuse x).board = d.board := rfl
@[simp] theorem Dev.setAvsFuse_pwrNext (d : Dev) (x : Nat) : (d.setAvsFuse x).pwrNext = d.pwrNext := rfl
@[simp] theorem Dev.setAvsFuse_perst (d : Dev) (x : Nat) : (d.setAvsFuse x).perst = d.perst := rfl
@[simp] theorem Dev.setAvsFuse_easyEpoch (d : Dev) (x : Nat) : (d.setAvsFuse x).easyEpoch = d.easyEpoch := rfl
@[simp] theorem Dev.setAvsFuse_wipeFrom (d : Dev) (x : Nat) : (d.setAvsFuse x).wipeFrom = d.wipeFrom := rfl
@[simp] theorem Dev.setAvsFuse_gated (d : Dev) (x : Nat) : (d.setAvsFuse x).gated = d.gated := rfl
@[simp] theorem Dev.setAvsFuse_gateShort (d : Dev) (x : Nat) : (d.setAvsFuse x).gateShort = d.gateShort := rfl
@[simp] theorem Dev.setAvsFuse_bootAt (d : Dev) (x : Nat) : (d.setAvsFuse x).bootAt = d.bootAt := rfl
@[simp] theorem Dev.setAvsFuse_setsOut (d : Dev) (x : Nat) : (d.setAvsFuse x).setsOut = d.setsOut := rfl
@[simp] theorem Dev.setAvsFuse_avsFuse (d : Dev) (x : Nat) : (d.setAvsFuse x).avsFuse = x := rfl
@[simp] theorem Dev.setAvsFuse_vddCmp (d : Dev) (x : Nat) : (d.setAvsFuse x).vddCmp = d.vddCmp := rfl
@[simp] theorem Dev.setVddCmp_pwrMode (d : Dev) (x : Nat) : (d.setVddCmp x).pwrMode = d.pwrMode := rfl
@[simp] theorem Dev.setVddCmp_bootCount (d : Dev) (x : Nat) : (d.setVddCmp x).bootCount = d.bootCount := rfl
@[simp] theorem Dev.setVddCmp_bistSlices (d : Dev) (x : Nat) : (d.setVddCmp x).bistSlices = d.bistSlices := rfl
@[simp] theorem Dev.setVddCmp_diesDown (d : Dev) (x : Nat) : (d.setVddCmp x).diesDown = d.diesDown := rfl
@[simp] theorem Dev.setVddCmp_straps (d : Dev) (x : Nat) : (d.setVddCmp x).straps = d.straps := rfl
@[simp] theorem Dev.setVddCmp_board (d : Dev) (x : Nat) : (d.setVddCmp x).board = d.board := rfl
@[simp] theorem Dev.setVddCmp_pwrNext (d : Dev) (x : Nat) : (d.setVddCmp x).pwrNext = d.pwrNext := rfl
@[simp] theorem Dev.setVddCmp_perst (d : Dev) (x : Nat) : (d.setVddCmp x).perst = d.perst := rfl
@[simp] theorem Dev.setVddCmp_easyEpoch (d : Dev) (x : Nat) : (d.setVddCmp x).easyEpoch = d.easyEpoch := rfl
@[simp] theorem Dev.setVddCmp_wipeFrom (d : Dev) (x : Nat) : (d.setVddCmp x).wipeFrom = d.wipeFrom := rfl
@[simp] theorem Dev.setVddCmp_gated (d : Dev) (x : Nat) : (d.setVddCmp x).gated = d.gated := rfl
@[simp] theorem Dev.setVddCmp_gateShort (d : Dev) (x : Nat) : (d.setVddCmp x).gateShort = d.gateShort := rfl
@[simp] theorem Dev.setVddCmp_bootAt (d : Dev) (x : Nat) : (d.setVddCmp x).bootAt = d.bootAt := rfl
@[simp] theorem Dev.setVddCmp_setsOut (d : Dev) (x : Nat) : (d.setVddCmp x).setsOut = d.setsOut := rfl
@[simp] theorem Dev.setVddCmp_avsFuse (d : Dev) (x : Nat) : (d.setVddCmp x).avsFuse = d.avsFuse := rfl
@[simp] theorem Dev.setVddCmp_vddCmp (d : Dev) (x : Nat) : (d.setVddCmp x).vddCmp = x := rfl

end Sys2Proof.Machine
end

