-- ==== Sys2Proof/Laws/Reg.lean ====
section
/-! SUPPORT. Registers, counters, free values and reports: what is read back, and what each operation of Machine/Ops.lean leaves alone. -/
namespace Sys2Proof.Machine

/-! Registers. -/

@[simp] theorem Dev.rd_wr_same (d : Dev) (r : Reg) (v : Word) : (d.wr r v).rd r = v := by simp [Dev.rd, Dev.wr]

theorem Dev.rd_wr_other (d : Dev) (r q : Reg) (v : Word) (h : q.addr ≠ r.addr) : (d.wr r v).rd q = d.rd q := by
  simp [Dev.rd, Dev.wr, Tab.lookD_put_other _ _ _ _ _ h]

@[simp] theorem Dev.rd_setF_same (d : Dev) (r : Reg) (f : Fld) (x : Nat) : (d.setF r f x).rd r = f.set x (d.rd r) := Dev.rd_wr_same ..

theorem Dev.rd_setF_other (d : Dev) (r q : Reg) (f : Fld) (x : Nat) (h : q.addr ≠ r.addr) : (d.setF r f x).rd q = d.rd q := Dev.rd_wr_other _ _ _ _ h

theorem Dev.fld_setF_other (d : Dev) (r q : Reg) (f g : Fld) (x : Nat) (h : q.addr ≠ r.addr) : (d.setF r f x).fld q g = d.fld q g := by
  simp [Dev.fld, Dev.rd_setF_other _ _ _ _ _ h]

theorem Dev.rd_satAdd_other (d : Dev) (r q : Reg) (f : Fld) (n : Nat) (h : q.addr ≠ r.addr) : (d.satAdd r f n).rd q = d.rd q := Dev.rd_setF_other _ _ _ _ _ h

/-- A register write changes the registers alone. -/
theorem Dev.wr_rest (d : Dev) (r : Reg) (v : Word) : d.wr r v = { d with regs := (d.wr r v).regs } := rfl
theorem Dev.setF_rest (d : Dev) (r : Reg) (f : Fld) (x : Nat) : d.setF r f x = { d with regs := (d.setF r f x).regs } := rfl

/-! Counters. -/

@[simp] theorem Dev.cntAt_count_same (d : Dev) (a n : Nat) : (d.count a n).cntAt a = (d.cntAt a + n) % 2 ^ 48 := by simp [Dev.cntAt, Dev.count]

theorem Dev.cntAt_count_other (d : Dev) (a b n : Nat) (h : b ≠ a) : (d.count a n).cntAt b = d.cntAt b := by
  simp [Dev.cntAt, Dev.count, Tab.lookD_put_other _ _ _ _ _ h]

@[simp] theorem Dev.rd_count (d : Dev) (a n : Nat) (r : Reg) : (d.count a n).rd r = d.rd r := rfl
@[simp] theorem Dev.cntAt_wr (d : Dev) (r : Reg) (v : Word) (a : Nat) : (d.wr r v).cntAt a = d.cntAt a := rfl

/-! What goes out, and free values. -/

@[simp] theorem Dev.rd_emit (d : Dev) (e : Emit) (r : Reg) : (d.emit e).rd r = d.rd r := rfl
@[simp] theorem Dev.fld_emit (d : Dev) (e : Emit) (r : Reg) (f : Fld) : (d.emit e).fld r f = d.fld r f := rfl
@[simp] theorem Dev.cntAt_emit (d : Dev) (e : Emit) (a : Nat) : (d.emit e).cntAt a = d.cntAt a := rfl
@[simp] theorem Dev.out_emit (d : Dev) (e : Emit) : (d.emit e).out = e :: d.out := rfl
@[simp] theorem Dev.rd_fresh (d : Dev) (r : Reg) : d.fresh.2.rd r = d.rd r := rfl
@[simp] theorem Dev.freeCtr_fresh (d : Dev) : d.fresh.2.freeCtr = d.freeCtr + 1 := rfl

/-! Reports. -/

/-- One report more in a held record: the records, and perhaps one PLDM event. -/
theorem Dev.rasAgain_cases (d : Dev) (k : Nat) (r : RasRec) :
    ∃ r', (d.rasAgain k r = d.setRas (d.ras.put k r') ∨ d.rasAgain k r = (d.setRas (d.ras.put k r')).emit (.pldmEvent r.id)) ∧
      r'.id = r.id ∧ r'.firstNs = r.firstNs ∧ r'.count = min (r.count + 1) 0xFFFF := by
  unfold Dev.rasAgain
  simp only
  split
  · exact ⟨_, .inr rfl, rfl, rfl, rfl⟩
  · exact ⟨_, .inl rfl, rfl, rfl, rfl⟩

end Sys2Proof.Machine
end

