-- ==== Sys2Proof/Laws/Mailbox.lean ====
section
/-! SUPPORT. The mailbox operations said once: a channel's FIFOs are read back, and a command is served, refused, or not there. -/
namespace Sys2Proof.Machine

theorem Dev.mb_setMbx_put (d : Dev) (c : Nat) (m : Mbx) : (d.setMbx (d.mbx.put c m)).mb c = m := by simp [Dev.mb]

/-- Showing a channel's counts changes registers alone. -/
theorem Dev.mbx_mbShow (d : Dev) (c : Nat) : (d.mbShow c).mbx = d.mbx := by
  unfold Dev.mbShow; split <;> rfl

@[simp] theorem Dev.mb_updMb_same (d : Dev) (c : Nat) (f : Mbx → Mbx) : (d.updMb c f).mb c = f (d.mb c) := by
  simp [Dev.updMb, Dev.mb, Dev.mbx_mbShow]

theorem Dev.mb_updMb_other (d : Dev) (c e : Nat) (f : Mbx → Mbx) (h : e ≠ c) : (d.updMb c f).mb e = d.mb e := by
  simp [Dev.updMb, Dev.mb, Dev.mbx_mbShow, Tab.lookD_put_other _ _ _ _ _ h]

/-- With no request all of whose words are there, nothing is refused. -/
theorem Dev.mbRefuse_none (d : Dev) (c n : Nat) (h : (d.mb c).front = none) : d.mbRefuse c n = d := by
  cases n <;> simp [Dev.mbRefuse, h]

/-- The request at the head of a channel, one that the table gives, is answered with the first status that applies, or served. -/
theorem Dev.mbServe_of_asks {s : State} {c cmd len h : Nat} {p : List Nat} {n : Nat} (hq : s.asks c cmd n h p) (allowed state : Bool) (f : Dev → Nat → List Nat → Dev) :
    s.mbServe c cmd allowed state len f = (if !allowed then (s.mbTake c).mbReply c h 2 []
      else if !state then (s.mbTake c).mbReply c h 4 []
      else if p.length != len then (s.mbTake c).mbReply c h 3 []
      else f (s.mbTake c) h p).mbRefuse c 32 := by
  obtain ⟨h1, h2, h3, _⟩ := hq
  simp only [Dev.mbServe, h1, h2, h3, bne_self_eq_false, Bool.or_self, Bool.false_eq_true, if_false]

/-- Where another request or none is at the head, a command does nothing. -/
theorem Dev.mbServe_absent (d : Dev) (c cmd len : Nat) (allowed state : Bool) (f : Dev → Nat → List Nat → Dev)
    (h : ∀ w p, (d.mb c).front = some (w, p) → w / 2 ^ 24 ≠ cmd) : d.mbServe c cmd allowed state len f = d := by
  unfold Dev.mbServe
  split
  · rename_i w p hf
    rw [if_pos (by rw [bne_iff_ne.2 (h w p hf)]; rfl)]
  · rfl

end Sys2Proof.Machine
end

