-- ==== Sys2Proof/Tests/Slice0.lean ====
section
/-! SUPPORT. The model's own tests: a term that each check of WellFormed refuses, results on fixed values, and a witness of the hypotheses of every clause of every statement. -/
open Sys2Proof Sys2Proof.Machine
namespace Sys2Proof.Tests
set_option Elab.async false

/-- The machine after reset, as the spec gives it, with functions ready: it runs, in FULL. -/
def up : State := State.reset

/-- `d` of the machine that is up, as a state. -/
def with_ (f : Dev → Dev) : State := { State.reset with toDev := f State.reset.toDev }

/-! A term that each check of `Instr.wellFormed` refuses. -/

theorem ill_registerWrite : (Instr.registerWrite .ulyar (2 ^ 34) 0).wellFormed = false := by decide
theorem ill_partialAccess : (Instr.partialAccess .ulyar 0 0 .write).wellFormed = false ∧ (Instr.partialAccess .ulyar (2 ^ 34) 1 .write).wellFormed = false := by decide
theorem ill_unmappedAccess : (Instr.unmappedAccess .ulyar (2 ^ 34) true).wellFormed = false := by decide
theorem ill_rcRead : (Instr.rcRead .ulyar (2 ^ 34)).wellFormed = false := by decide
theorem ill_counterClearRead : (Instr.counterClearRead .ulyar (2 ^ 34)).wellFormed = false := by decide
theorem ill_frameStart : (Instr.frameStart 0 0 (List.replicate 65 0)).wellFormed = false := by decide
theorem ill_undefinedOpcode : (Instr.undefinedOpcode ⟨0, 0, 0⟩ 0x00400000#32).wellFormed = false ∧ (Instr.undefinedOpcode ⟨0, 0, 0⟩ 0#32).wellFormed = false := by decide
theorem ill_configRequest : (Instr.configRequest 0 (.other 4096) none).wellFormed = false ∧ (Instr.configRequest 0 (.other 2) none).wellFormed = false ∧
    (Instr.configRequest 0 (.other 0) (some (2 ^ 32))).wellFormed = false := by decide
theorem ill_linkUp : (Instr.linkUp 0 0 0 false).wellFormed = false := by decide
theorem ill_completionReceived : (Instr.completionReceived 0 4096 [] false false).wellFormed = false := by decide
theorem ill_doorbell : (∀ g, (Instr.doorbell 0 g 4096 32 0).wellFormed = false) ∧ ∀ g, (Instr.doorbell 0 g 0 24 0).wellFormed = false := ⟨fun _ => rfl, fun _ => rfl⟩
theorem ill_mediate : (Instr.mediate 0 0 1).wellFormed = false := by decide
theorem ill_descriptorArrival : (Instr.descriptorArrival 0 [0]).wellFormed = false := by decide
theorem ill_snoop : (Instr.snoop 0 (2 ^ 64)).wellFormed = false := by decide
theorem ill_patrolScrub : (Instr.patrolScrub (2 ^ 48) .clean).wellFormed = false ∧ (Instr.dramRowRepair (2 ^ 48) true).wellFormed = false := by decide
theorem ill_cxlMemAccess : (Instr.cxlMemAccess 0 (2 ^ 64) 0 .read).wellFormed = false ∧ (Instr.cxlMemAccess 0 0 2 (.write [0] false)).wellFormed = false := by decide
theorem ill_hdmCommit : (Instr.hdmCommit 0 0 (2 ^ 64) 0 0 0).wellFormed = false ∧ (Instr.hdmCommit 0 0 0 (2 ^ 64) 0 0).wellFormed = false ∧ (Instr.hdmCommit 0 0 0 0 (2 ^ 64) 0).wellFormed = false := by decide
theorem ill_getCertificate : (Instr.getCertificate 256 0 0).wellFormed = false ∧ (Instr.getCertificate 0 65536 0).wellFormed = false ∧ (Instr.getCertificate 0 0 65536).wellFormed = false := by decide
theorem ill_spdm : (Instr.challenge 256).wellFormed = false ∧ (Instr.getMeasurements 256 true).wellFormed = false := by decide
theorem ill_mctp : (Instr.mctpVendorMessage [2 ^ 32]).wellFormed = false ∧ (Instr.mctpControlMessage (some 256)).wellFormed = false := by decide
/-- The straps all low. -/
def noStraps : Straps := ⟨false, false, false, false, false, false⟩
theorem ill_boot : (Instr.coldReset ⟨noStraps, [], 2 ^ 12, true, 0, 0⟩).wellFormed = false ∧ (Instr.coldReset ⟨noStraps, [], 0, true, 6145, 0⟩).wellFormed = false ∧ (Instr.coldReset ⟨noStraps, [], 0, true, 0, 2 ^ 44⟩).wellFormed = false ∧
    (Instr.easyExit ⟨noStraps, [⟨1024, [], true, true⟩], 0, true, 0, 0⟩).wellFormed = false ∧
    (Instr.lifecycleBurn ⟨noStraps, [⟨1, [], true, true⟩, ⟨1, [], true, true⟩], 0, true, 0, 0⟩).wellFormed = false := by decide
theorem well_formed : (Instr.registerWrite .ulyar 0x10 0).wellFormed = true ∧ (Instr.undefinedOpcode ⟨0, 0, 0⟩ 0x02400000#32).wellFormed = true ∧ (Instr.coldReset ⟨noStraps, [], 0xFFF, true, 6144, 0⟩).wellFormed = true := by decide

/-! Results that the spec works out, and known answers. -/

/-- The worked example of 17: without NS_IMAGE, IMAGE_LOAD on channel 2 is answered at once with the word 0x0215_0200. -/
theorem test_loadNotPermitted : ∃ t, exec (.imageLoad 2 none) { State.reset with toDev := State.reset.toDev.updMb 2 fun m => { m with tx := [0x02150006, 0, 0, 0, 0, 0, 0] } } = .next t ∧ (t.mb 2).rx = [0x02150200] :=
  ⟨_, rfl, by decide +kernel⟩
/-- Words written out from the encodings of 07 R176 to R179: the no-operation, a word of zeros, and one of each format; opcode 9 is not listed. -/
theorem test_words : let th : ThId := ⟨0, 31, 7⟩
    cloigDecode th 0b00000001000000000000000000000000#32 = .ori th ⟨0, false, 0, 0, 0⟩ ∧
    cloigDecode th 0b00000000000000000000000000000000#32 = .alwaysIllegal th ∧
    cloigDecode th 0b01110000010000100010000110000101#32 = .alu th ⟨3, true, 1, 2, 3, 5⟩ ∧
    cloigDecode th 0b00000010100011110000000000000001#32 = .lims th ⟨0, false, 7, 65537⟩ ∧
    cloigDecode th 0b00000011100000111111000011001111#32 = .bfx th ⟨0, false, 1, 31, 3, 15⟩ ∧
    cloigDecode th 0b00000100001010101000101110000000#32 = .cmp th ⟨0, false, 5, 2, 17, 14, 0⟩ ∧
    cloigDecode th 0b00000100011010101000111111111111#32 = .cmpi th ⟨0, false, 5, 2, 17, 2047⟩ ∧
    cloigDecode th 0b00000100100010100110000000000100#32 = .plog th ⟨0, false, 1, 2, 3, 0, 4⟩ ∧
    cloigDecode th 0b00000101000010000101110100000001#32 = .ld th ⟨0, false, 4, 5, true, 2, 257⟩ ∧
    cloigDecode th 0b00000110000010000101001100111100#32 = .atom th ⟨0, false, 4, 5, 6, 7, true, 0⟩ ∧
    cloigDecode th 0b00000111001111111111111111111110#32 = .br th ⟨0, false, 4194302⟩ ∧
    cloigDecode th 0b00000111110000100000000000000010#32 = .adr th ⟨0, false, 1, 2⟩ ∧
    cloigDecode th 0b00001000000000100010000110000010#32 = .frameRemove th ⟨0, false, 1, 2, 3⟩ ∧
    cloigDecode th 0b00001001000000100010011100000000#32 = .lookup th ⟨0, false, 1, 2, 3, 32, 0⟩ 0 none ∧
    cloigDecode th 0b00001001010000100010000000000000#32 = .ciph th ⟨0, false, 1, 2, 0⟩ ∧
    cloigDecode th 0b00001011000000100010011101000000#32 = .send th ⟨0, false, 1, 2, 3, 5, 0⟩ ∧
    cloigDecode th 0b00001011010000111101010000000000#32 = .recv th ⟨0, false, 1, 14, 5, 0⟩ ∧
    cloigDecode th 0b00001011100000100010101010000000#32 = .wait th ⟨0, false, 1, 2, true, false, true, false, true, 0⟩ ∧
    cloigDecode th 0b00001100000000100010100010000001#32 = .sprWrite th ⟨0, false, 1, 2, 0, 129⟩ ∧
    cloigDecode th 0b00001100010000100010000110000100#32 = .tstop th ⟨0, false, 1, 2, 3⟩ ∧
    cloigDecode th 0b00001100100000000000000001000001#32 = .trap th ⟨0, false, 0, 65⟩ ∧
    cloigDecode th 0b00001101000000100010000110000001#32 = .releaseDrop th ⟨0, false, 1, 2, 3⟩ ∧
    cloigDecode th 0b00000010010000000000000000000000#32 = .undefinedOpcode th 0b00000010010000000000000000000000#32 := by decide +kernel
theorem test_sha256 : (sha256 [0x61, 0x62, 0x63]).take 4 = [0xBA, 0x78, 0x16, 0xBF] := by decide +kernel

theorem wit_StepTakesFront : ({ up with pending := [Instr.ntuTick] } : State).pending = Instr.ntuTick :: [] ∧ up.pending = [] := by decide
theorem wit_QueueUntouched : ∃ t, exec (.mtrLiveSelWrite .ulyar 0) up = .next t := ⟨_, rfl⟩
theorem wit_QueueDrains : ∃ t, Host.Core.run Sys2Proof.core 2 { up with pending := [.clockGate 0 0, .linkError 0] } = .next t := ⟨_, rfl⟩
theorem wit_OnlyTimeStops : Instr.linkError 0 ≠ .ntuTick ∧ Instr.linkError 0 ≠ .stepApplied ∧ Instr.linkError 0 ≠ .slewDone := by decide
theorem wit_MemoryCanonical : ({ up with mem := [(0, 1), (7, 255)] } : State).memOk ∧ ∃ t, step { up with mem := [(0, 1), (7, 255)] } = .next t := ⟨by decide, _, rfl⟩
theorem wit_FieldReadBack : NTU_STATUS_STEP_GEN.lo + NTU_STATUS_STEP_GEN.w ≤ 64 ∧ NTU_CTRL_OWNER.lo + NTU_CTRL_OWNER.w ≤ 64 ∧
    ((⟨0, 3⟩ : Fld).lo + (⟨0, 3⟩ : Fld).w ≤ (⟨3, 61⟩ : Fld).lo ∧ (⟨3, 61⟩ : Fld).lo + (⟨3, 61⟩ : Fld).w ≤ 64) := by decide
theorem wit_ReservedFields : (0xF0000005 : Word) &&& (regDescAt NTU_CTRL.addr).used = 5 &&& (regDescAt NTU_CTRL.addr).used := by decide
theorem wit_RegisterAccess_write : up.hears .ulyar ∧ placeAt RAS_STORM_CFG.addr = .reg (regDescAt RAS_STORM_CFG.addr) RAS_STORM_CFG.addr ∧
    RAS_STORM_CFG.addr / 0x100000 = 9 ∧ RAS_STORM_CFG.addr ≠ RAS_REC_SEL.addr := by decide +kernel
theorem wit_RegisterAccess_alias : up.hears (.pf 3 false) ∧ up.placeNow (0x1010000 + 0x80000) = .cnt 0x1010000 true ∧ (0x1010000 + 0x80000) / 0x100000 ≠ 10 := by decide +kernel
theorem wit_RegisterAccess_partial : up.touched (NTU_TIME_NS.addr + 4) (min 4 4096) = some (NTU_TIME_NS.addr + 4, .reg (regDescAt NTU_TIME_NS.addr) NTU_TIME_NS.addr) ∧
    (RegPlace.reg (regDescAt NTU_TIME_NS.addr) NTU_TIME_NS.addr).span (NTU_TIME_NS.addr + 4) ≠ (NTU_TIME_NS.addr + 4, 4) ∧ up.touched 0x50001C (min 8 4096) = some (0x500020, .reg (regDescAt 0x500020) 0x500020) ∧
    (RegPlace.reg (regDescAt 0x500020) 0x500020).span 0x500020 ≠ (0x50001C, 8) := by decide +kernel
theorem wit_RegisterAccess_unmapped : up.placeNow 0x7000000 = .none ∧ up.placeNow 0xFFFFFFF = .none := by decide +kernel
theorem wit_UnmappedRecord : up.flag GLB_UNMAPPED_ADDR GLB_UNMAPPED_ADDR_VALID = false ∧
    (with_ fun d => d.unmapped 0x0FFFFFFF true).flag GLB_UNMAPPED_ADDR GLB_UNMAPPED_ADDR_VALID = true := by decide +kernel
/-- The machine with every snapshot waiting. -/
def snapAll : State := with_ fun d => d.setSnapWait [.tmgP 5, .keySlot, .ring 3]
theorem wit_Snapshots : up.hearsIn .ulyar 5 ∧ up.hears (.pf 0 false) ∧ srcMayPf .ulyar 3 = true ∧ srcMayPf (.pf 0 false) 1 = false ∧ snapAll.runs = true ∧
    snapAll.snapWait.contains (.tmgP 5) = true ∧ snapAll.snapWait.contains .keySlot = true ∧ snapAll.keySlot.look (snapAll.fld KEY_SLOT_SEL KEY_SLOT_SEL_SLOT) = none ∧
    snapAll.snapWait.contains (.ring 3) = true ∧ snapAll.windowOwns 3 (snapAll.ringSel 3) = false := by decide +kernel
theorem wit_SelectClearsValid : (TMG_PSEL 5).addr ∉ [(TMG_PDATA0 5).addr, (TMG_PDATA1 5).addr] := by decide
/-- A machine whose network time is `acc`, with the commands `ops` of NTU_CMD waiting. -/
def timed (acc : Nat) (ops : List NtuOp) : State := with_ fun d => d.setNtu { d.ntu with acc := acc, ops := ops }
theorem wit_TickAdvancesTime : up.pwrMode ≠ .held ∧ 0 ≤ up.nextAcc ∧ up.nextAcc < 2 ^ 95 ∧ up.flag NTU_STATUS NTU_STATUS_SLEWING = false ∧ up.ntu.ops = [] ∧ up.timeOk ∧
    (timed 5 [.step 7]).stepWaits = true ∧ (timed 5 [.step 7]).nextAcc < 2 ^ 95 := by decide +kernel
theorem wit_TickAdvancesTime_slew : let s := with_ fun d => (d.setNtu { d.ntu with slewRem := 1 }).setF NTU_STATUS NTU_STATUS_SLEWING 1
    s.flag NTU_STATUS NTU_STATUS_SLEWING = true ∧ s.ntu.slewRem = s.slewPart ∧ s.nextAcc < 2 ^ 95 := by decide +kernel
theorem wit_TickAdvancesTime_stop : (timed (2 ^ 95 - 1) []).pwrMode ≠ .held ∧ ¬ ((timed (2 ^ 95 - 1) []).nextAcc < 2 ^ 95) ∧ ¬ (0 ≤ (timed 0 [.step (-2 ^ 40)]).nextAcc) := by decide +kernel
theorem test_tick : ∃ t, exec .ntuTick up = .next t ∧ t.ntu.acc = 0x400000000 ∧ t.now = 4 := ⟨_, rfl, by decide +kernel, by decide +kernel⟩
theorem wit_StepSlewAbandon : up.hears .ulyar ∧ up.ntuOwner .ulyar = true ∧ up.hears (.pf 2 true) ∧ up.ntuOwner (.pf 2 true) = false := by decide
theorem wit_NtuOwnership : up.hears .ulyar ∧ up.ntu.ppsHigh = false ∧ up.hears (.pf 0 false) ∧ up.ntuOwner (.pf 0 false) = false ∧ NTU_CTRL_OWNER.get 0 ≠ up.fld NTU_CTRL NTU_CTRL_OWNER := by decide
/-- NTU_CTRL holds 7: PPS_IN (falling edges) and PPS_OUT enabled, a boundary reached, the pin low. -/
def ppsOn : State := with_ fun d => (d.wr NTU_CTRL 7).setNtu { d.ntu with ppsDue := some 0 }
theorem wit_NtuReadsAndPps : up.hears .ulyar ∧ up.flag NTU_CTRL NTU_CTRL_PPS_IN_EN = false ∧ ppsOn.flag NTU_CTRL NTU_CTRL_PPS_IN_EN = true ∧
    ppsOn.flag NTU_CTRL NTU_CTRL_PPS_IN_EDGE = !false ∧ ppsOn.ntu.ppsDue = some 0 ∧ ppsOn.flag NTU_CTRL NTU_CTRL_PPS_OUT_EN = true ∧ ppsOn.ntu.ppsHigh = false ∧
    (with_ fun d => d.setNtu { d.ntu with ppsHigh := true }).ntu.ppsEnd ≤ (with_ fun d => d.setNtu { d.ntu with ppsHigh := true }).now := by decide +kernel
/-- The machine with the words `w` in the request FIFO of channel `c`. -/
def asking (c : Nat) (w : List Nat) : State := with_ fun d => (d.updMb c fun m => { m with tx := w }).setF MBX_LIFECYCLE MBX_LIFECYCLE_STATE 2
theorem wit_ImageLoading : let s := asking 4 [0x02000006, 0, 0, 0, 16, 0, 0]
    s.runs = true ∧ s.asks 4 2 6 0x02000006 [0, 0, 0, 16, 0, 0] ∧ s.mayLoad 4 = true ∧ s.life ≠ 4 ∧ (s.mbTake 4).argOk 4 [0, 0, 0, 16, 0, 0] 16 = true ∧
    s.fld IMG_STATUS IMG_STATUS_LOAD_STATE = 0 := by decide +kernel
theorem wit_ImageLoading_bytes : ∃ bs, (with_ fun d => ((d.updMb 4 fun m => { m with tx := [0x02000006, 1, 0, 0, 0, 0, 0] }).setF MBX_LIFECYCLE MBX_LIFECYCLE_STATE 2)).argBytes
    4 [1, 0, 0, 0, 0, 0] 0 none = some bs := ⟨_, rfl⟩
theorem wit_ImageLoading_busy : let s := with_ fun _ => ((asking 4 [0x02000006, 0, 0, 0, 16, 0, 0]).toDev).loadState 1
    s.fld IMG_STATUS IMG_STATUS_LOAD_STATE ≠ 0 ∧ s.asks 4 2 6 0x02000006 [0, 0, 0, 16, 0, 0] := by decide +kernel
theorem wit_ImageLoading_waits : let s := with_ fun _ => (asking 4 [0x02000006, 0, 0, 0, 16, 0, 0]).toDev.setLs 0 HIF_LINK_STATUS_BME 0
    s.fld (HIF_LINK_STATUS 0) HIF_LINK_STATUS_PRESENT = 1 ∧ s.reqWaits 4 2 true true 6 = true := by decide +kernel
theorem wit_ImageLoading_verify : let s := with_ fun d => d.loadStart 9 0 0 []
    s.runs = true ∧ s.load = some ⟨9, 0, [], none, 0⟩ ∧ s.fld IMG_STATUS IMG_STATUS_LOAD_STATE = 1 := by decide +kernel
/-- An image of nothing, as the image of the current epoch and of the free slot, with LOAD_STATE `st`. -/
def imaged (st : Nat) : State := with_ fun d => (d.setSlots [(0, ⟨1, 0, ⟨0, [], ⟨60, 0, [], []⟩, [], [], 0⟩⟩)]).loadState st
theorem wit_EpochChange_switch : (imaged 3).runs = true ∧ ((imaged 3).slot? (imaged 3).freeSlot).isSome = true ∧ (imaged 3).fld IMG_STATUS IMG_STATUS_LOAD_STATE = 3 ∧
    ((imaged 3).rd IMG_SWITCH_AT).toNat ≤ (imaged 3).now ∧ (imaged 3).load = none := by decide +kernel
theorem wit_EpochChange_drain : let s := with_ fun d => d.setF IMG_STATUS IMG_STATUS_DRAINING 1
    s.runs = true ∧ s.draining = true ∧ s.inflight (1 - s.curSlot) = 0 := by decide +kernel
theorem wit_EpochChange_forced : let s := with_ fun d => (((d.setLoad (some ⟨9, 0, [], none, 0⟩)).loadState 2).setF IMG_DRAIN_LIMIT IMG_DRAIN_LIMIT_LIMIT_MS 1).setNtu { d.ntu with ticks := 250000 }
    s.load = some ⟨9, 0, [], none, 0⟩ ∧ s.fld IMG_STATUS IMG_STATUS_LOAD_STATE = 2 ∧ s.fld IMG_DRAIN_LIMIT IMG_DRAIN_LIMIT_LIMIT_MS ≠ 0 ∧
    0 + s.fld IMG_DRAIN_LIMIT IMG_DRAIN_LIMIT_LIMIT_MS * 1000000 ≤ s.refNs := by decide +kernel
theorem wit_EpochChange_gates : let s := with_ fun d => d.setGate [(15, { d.gateSt 15 with next := [(⟨15, 100, 0, [(255, 100)]⟩, 0)] })]
    s.runs = true ∧ (s.gateSt 15).next = (⟨15, 100, 0, [(255, 100)]⟩, 0) :: [] ∧ 0 ≤ s.now := by decide +kernel
/-- Port `p` in state `st`, of die 0 in one 800GbE port a group. -/
def ported (p st : Nat) : State := with_ fun d => ((d.halfModeWrite (p / 8) 0x9).setF (portStatus p) MAC_PORT_STATUS_STATE st).setNtu { d.ntu with ticks := 10000000 }
theorem wit_PortStates : up.hearsIn .ulyar 5 ∧ up.portState 3 = 0 ∧ (ported 0 1).portState 0 = 1 ∧ (ported 0 3).portState 0 = 3 ∧ up.life ≠ 4 ∧
    (ported 0 3).flag (portCtrl 0) MAC_PORT_CTRL_ENABLE = false ∧ (ported 0 2).portState 0 = 2 ∧
    (((ported 0 2).positions 0 0).all fun q => (ported 0 2).laneState 0 ((ported 0 2).laneOf 0 q) != 2) = true := by decide +kernel
theorem wit_PortStates_enable : ((ported 0 1).toDev.wr (portCtrl 0) (MAC_PORT_CTRL_MAX_FRAME.set 1518 (1 &&& 0xFFFFFF0F))).flag (portCtrl 0) MAC_PORT_CTRL_ENABLE = true := by decide +kernel
theorem wit_PortStates_sparing : let s := with_ fun _ => (ported 0 5).toDev.updPort 0 fun x => { x with sparing := some (2, 0) }
    (s.portSt 0).sparing = some (2, 0) ∧ s.portState 0 = 5 ∧ 0 + 40000000 ≤ s.refNs ∧ (up.portSt 0).sparing = none := by decide +kernel
/-- Port 0 up and long idle, low-power idle allowed. -/
def lpiUp : State := with_ fun _ => ((((ported 0 3).toDev.setF (portCtrl 0) MAC_PORT_CTRL_LPI_EN 1).setF PWR_ENVELOPE PWR_ENVELOPE_IDLE_STEP 1).setF PWR_ENVELOPE PWR_ENVELOPE_LATENCY_NS 0xFFFFF).setF (portWake 0) MAC_PORT_WAKE_TW_NS 1
theorem wit_LowPowerIdle : lpiUp.runs = true ∧ lpiUp.portState 0 = 3 ∧ lpiUp.lpiAllowed 0 = true ∧ lpiUp.flag (portStatus 0) MAC_PORT_STATUS_TX_LPI = false ∧ (lpiUp.portSt 0).onWire = none ∧
    (lpiUp.portSt 0).wakeEnd = none ∧ (lpiUp.portSt 0).idleSince + max (lpiUp.fld (portCtrl 0) MAC_PORT_CTRL_LPI_IDLE_US) 1 * 1000 ≤ lpiUp.refNs ∧ lpiUp.portReady 0 = false ∧
    up.lpiAllowed 15 = false ∧ lpiUp.flag (portStatus 0) MAC_PORT_STATUS_RX_LPI = false ∧ up.sliceIdle 0 = true ∧ lpiUp.sliceIdle 0 = false := by decide +kernel
theorem wit_LowPowerIdle_wake : let s := with_ fun d => (d.setF (portStatus 15) MAC_PORT_STATUS_RX_LPI 1).updPort 15 fun x => { x with wakeEnd := some 0 }
    s.runs = true ∧ (s.portSt 15).wakeEnd = some 0 ∧ 0 ≤ s.refNs ∧ s.flag (portStatus 15) MAC_PORT_STATUS_RX_LPI = true := by decide +kernel
theorem wit_LaneSparing : up.hearsIn .ulyar 0 ∧ MAC_GROUP_SPARE_A_SPARE_NOW.get 0 = 0 ∧ (∃ v : Word, MAC_GROUP_SPARE_A_SPARE_NOW.get v = 1) ∧
    (ported 0 3).posOf 0 0 = some 0 ∧ portAt ((ported 0 3).groupMode 0 0) 0 = some 0 ∧ (ported 0 3).runs = true ∧ (ported 0 3).laneState 0 0 ≤ 1 ∧ 1 < up.laneState 1 9 ∧ up.posOf 1 9 = none :=
  ⟨by decide, by decide, ⟨MAC_GROUP_SPARE_A_SPARE_NOW.mask, by decide⟩, by decide +kernel, by decide +kernel, by decide +kernel, by decide +kernel, by decide +kernel⟩
theorem wit_LaneSparing_limit : let d := ((ported 0 3).toDev.macCount 0 1 5 0).macCount 0 1 6 0
    ∀ k, k = d.fld (groupSpare 0 0) MAC_GROUP_SPARE_A_SER_LIMIT_K → k * 1000 ≤ 65536000 ∧ (k = 0 ∨ 0 < k * 1000) := by
  intro d k h
  rw [show d.fld (groupSpare 0 0) MAC_GROUP_SPARE_A_SER_LIMIT_K = up.fld (groupSpare 0 0) MAC_GROUP_SPARE_A_SER_LIMIT_K from by decide +kernel] at h
  subst h; decide +kernel
theorem wit_LaneSparing_regain : let s := with_ fun _ => (ported 0 4).toDev.setF (laneStatus 0 0) MAC_LANE_STATUS_LANE_STATE 2
    let c := s.toDev.setF (laneStatus 0 0) MAC_LANE_STATUS_CDR_LOCK 1
    c.posOf 0 0 = some 0 ∧ c.laneState 0 0 = 2 ∧ portAt (c.groupMode 0 0) 0 = some 0 := by decide +kernel
/-- A frame of 64 zero bytes of port 0 in slice 0 and epoch slot 0, at `st`. -/
def aFrame (st : Stage) : Frame := ⟨List.replicate 64 0, 0, .net 0, 0, 0, 1, 0xFFFF, Facts.reset, 0, false, List.replicate 8 0, ParseMeta.none, [], [], none, st⟩
/-- The machine with port 0 up and that frame in it, an image in force. -/
def framed (st : Stage) : State := with_ fun _ => ((ported 0 3).toDev.setF IMG_STATUS IMG_STATUS_NO_IMAGE 0).newFrame (aFrame st)
theorem wit_FramesOnThePorts : (ported 0 3).portState 0 = 3 ∧ (ported 0 3).receivingOf 0 = none ∧ (ported 0 3).loopback 0 = 0 ∧
    (with_ fun _ => (ported 0 3).toDev.setF IMG_STATUS IMG_STATUS_NO_IMAGE 0).flag IMG_STATUS IMG_STATUS_NO_IMAGE = false ∧
    (framed (.receiving 1518 false)).receivingOf 0 = some (0, aFrame (.receiving 1518 false)) ∧ 64 ≤ (aFrame (.receiving 1518 false)).facts.maxFrames.getD 0 0 ∧
    (aFrame (.receiving 1518 false)).slot ≠ noEpoch ∧ (framed (.receiving 1518 true)).receivingOf 0 = some (0, aFrame (.receiving 1518 true)) := by decide +kernel
theorem wit_FramesOnThePorts_wire : let s := with_ fun _ => ((framed (.wire 0)).toDev.updPort 0 fun x => { x with onWire := some 0 }).setFwq [(5, [(0, [1, 2])])]
    Tab.rising s.frames = true ∧ (s.portSt 0).onWire = some 0 ∧ s.frame? 0 = some (aFrame (.wire 0)) ∧ (up.portSt 0).onWire = none ∧ s.loopback 0 ≠ 1 ∧ s.fwq.lookD 5 [] = (0, [1, 2]) :: [] := by decide +kernel
theorem wit_FramesOnThePorts_loop : let s (v : Nat) := with_ fun _ => (ported 0 3).toDev.setF (portCtrl 0) MAC_PORT_CTRL_LOOPBACK v
    (s 1).portState 0 = 3 ∧ (s 1).receivingOf 0 = none ∧ (s 1).loopback 0 = 1 ∧ (s 2).portState 0 = 3 ∧ (s 2).receivingOf 0 = none ∧ (s 2).loopback 0 = 2 := by decide +kernel
/-- A parse tree of one node that reads `len` bytes and ends, or rejects. -/
def aTree (len : Nat) (rej : Bool) : ParseBody := ⟨16, 0, [0], [0], [], [⟨1, rej, false, len, len, 0, 0, 0, 0, 0, 0, 0, 0, 0, 0, 0xFFFF, 0, 0⟩], []⟩
/-- The image of slice 0 with that tree and the classifier `c`. -/
def imageOf (c : Option ClsBody) : Image := ⟨0, [⟨some (aTree 14 false), c, none, none, none⟩], ⟨60, 0, [], []⟩, [], [], 0⟩
/-- The machine with a frame at `st` and that image in force. -/
def classed (c : Option ClsBody) (st : Stage) : State := with_ fun _ => (framed st).toDev.setSlots [(0, ⟨1, 0, imageOf c⟩)]
theorem wit_ParserWalks : (framed (.stored 0)).frame? 0 = some (aFrame (.stored 0)) ∧ (aFrame (.stored 0)).stage = .stored 0 ∧ (aFrame (.stored 0)).pass = 1 ∧ (framed (.stored 0)).behind 0 (aFrame (.stored 0)) = false ∧ (framed (.stored 0)).recircReady 0 = false ∧
    (classed none (.stored 0)).behind 0 (aFrame (.stored 0)) = false ∧ (classed none (.stored 0)).recircReady 0 = false ∧
    ((framed (.stored 0)).bodies 0 0).parse = none ∧ (classed none (.stored 0)).runs = true ∧ (classed none (.stored 0)).frame? 0 = some (aFrame (.stored 0)) ∧
    ((classed none (.stored 0)).bodies 0 0).parse = some (aTree 14 false) ∧
    ((aTree 14 false).walk (aFrame (.stored 0)).data none 17 0 (Walk.start 64)).map Walk.cls = some 0 ∧
    ((aTree 14 true).walk (aFrame (.stored 0)).data none 17 0 (Walk.start 64)).map Walk.cls = some 3 ∧
    (aTree 14 false).walk (aFrame (.stored 0)).data (some ⟨false, 0⟩) 17 0 (Walk.start 64) = none := by decide +kernel
theorem wit_ParserWalks_waits : let s := with_ fun _ => (framed (.stored 0)).toDev.newFrame { aFrame (.stored 0) with pass := 2, hash := 1 }
    s.runs = true ∧ s.frame? 0 = some (aFrame (.stored 0)) ∧ (aFrame (.stored 0)).pass = 1 ∧ s.recircReady 0 = true := by decide +kernel
theorem wit_ParserWalks_origin : ∀ r c, (aFrame (.stored 0)).origin ≠ .ring r c := by intro r c h; cases h
theorem wit_WalkWithinBounds : ((aTree 14 false).walk (List.replicate 64 0) none 17 0 (Walk.start 64)).map Walk.pos = some 14 := by decide +kernel
theorem test_walkShort : ((aTree 14 false).walk (List.replicate 13 0) none 17 0 (Walk.start 13)).map Walk.cls = some 2 := by decide +kernel
/-- An exact-match table of 8 indices, two of them taken. -/
def aTable : Table := ⟨⟨3, 1, 4, 1, 8, 0, 300, 0, 0⟩, [(2, ⟨[1, 0, 0, 0], [], 0, 0, 0, 0, 7, 9, false, false, false⟩), (5, ⟨[2, 0, 0, 0], [], 0, 0, 0, 0, 7, 9, true, false, false⟩)], none, 0⟩
/-- The machine with that table as table 3 of slice 0, slot 0, and the bytes `k` as the key of its update record. -/
def tabled (k : Word) : State := with_ fun _ => (((classed none .parsed).toDev.setTbl [(1, aTable)]).setTblMap [(3, 1)]).wr (CLS_UPD_DATA 0 0) k
/-- The write that names that table. -/
def updV : Word := CLS_UPD_CTRL_TABLE.set 3 0
theorem wit_TableUpdates : (tabled 1).hearsIn .ulyar 0 ∧ (tabled 1).flag (CLS_UPD_STATUS 0) CLS_UPD_STATUS_BUSY = false ∧
    (tabled 1).table? 0 (CLS_UPD_CTRL_SLOT.get updV) (CLS_UPD_CTRL_TABLE.get updV) = some (1, aTable) ∧
    recOk 1 4 true (((tabled 1).toDev.updFields 0 updV 1).updRec 0) = true ∧ ((tabled 1).toDev.updFields 0 updV 4).fld (CLS_UPD_STATUS 0) CLS_UPD_STATUS_INDEX < 8 ∧
    recOk 1 4 true (((tabled (2 ^ 63)).toDev.updFields 0 updV 1).updRec 0) = false ∧ up.table? 5 0 0 = none := by decide +kernel
theorem test_deleteFinds : aTable.find (recEntry 1 4 (((tabled 1).toDev.updFields 0 updV 3).updRec 0)) = some (2, ⟨[1, 0, 0, 0], [], 0, 0, 0, 0, 7, 9, false, false, false⟩) := by decide +kernel
theorem wit_InsertTakesFreeIndex : aTable.find ⟨[9, 0, 0, 0], [], 0, 0, 0, 0, 7, 9, false, false, false⟩ = none ∧
    ({ aTable with decl := { aTable.decl with capacity := 2 } } : Table).decl.capacity ≤ aTable.entries.length := by decide +kernel
theorem wit_InsertTakesFreeIndex_rule : ∃ u i, ({ aTable with decl := { aTable.decl with kind := 5 } } : Table).install ⟨[9, 0, 0, 0], [], 0, 0, 0, 0, 7, 9, false, false, false⟩ 4 = .inl (u, i) :=
  ⟨_, _, rfl⟩
/-- The machine with the table of `tabled` a rule table, its bank's header read, and a skim pass of slice 0 whose chunk has arrived as `r`. -/
def banked (r : Option (List Byte)) : State := with_ fun _ =>
  (((((tabled 0).toDev.setLs 0 HIF_LINK_STATUS_BME 1).setTbl [(1, { aTable with decl := { aTable.decl with kind := 5 } })]).setTreeLoad [(0, (1, 0))]).setArrived [(skimUnit 0, r), (treeUnit 0, some [])]).setSkim [(0, ⟨1, 0, [], 0, 0⟩)]
theorem wit_TreesSweepsAndSkims : (banked none).hearsIn .ulyar 0 ∧ (banked none).flag (CLS_UPD_STATUS 0) CLS_UPD_STATUS_BUSY = false ∧
    ((banked none).table? 0 (CLS_UPD_CTRL_SLOT.get updV) (CLS_UPD_CTRL_TABLE.get updV)).map (fun x => x.2.decl.kind) = some 5 ∧
    (banked none).treeLoad.look 0 = some (1, 0) ∧ (banked none).arrived.look (treeUnit 0) = some (some []) ∧ ((banked none).tbl.look 1).isSome = true ∧
    (banked none).skim.look 0 = some ⟨1, 0, [], 0, 0⟩ ∧ (banked none).arrived.look (skimUnit 0) = some none ∧ (banked (some [])).arrived.look (skimUnit 0) = some (some []) ∧
    (banked (some [])).fld (CLS_SKIM_CTRL 0) CLS_SKIM_CTRL_RATE_K ≠ 0 ∧ (banked (some [])).fnHeld (4096 + (banked (some [])).skimF 0 CLS_SKIM_CFG_PF) = false ∧
    up.skim.look 5 = none := by decide +kernel
theorem wit_TreesSweepsAndSkims_skim : let s := with_ fun _ => (tabled 0).toDev.wr (CLS_SKIM_CFG 0) (CLS_SKIM_CFG_TABLE.set 3 0)
    let d := (s.toDev.skimFields 0 0).wr (CLS_SKIM_STATUS 0) 1
    s.hearsIn .ulyar 0 ∧ s.skim.look 0 = none ∧ (s.toDev.skimFields 0 0).skim.look 0 = none ∧
    d.table? 0 (d.skimF 0 CLS_SKIM_CFG_SLOT) (d.skimF 0 CLS_SKIM_CFG_TABLE) = some (1, aTable) ∧ aTable.decl.kind ≤ 2 := by decide +kernel
/-- A classifier with the table of `tabled` and `l` as its one list, which its one program without a lookup appends. -/
def aClassifier (l : List ActWord) : ClsBody := ⟨0, [(0, 1)], [], [], [aTable.decl], [⟨3, false, false, false, false, 0, []⟩], [l], [], []⟩
/-- The machine at `now` with that classifier, its table and a parsed frame. -/
def clsUp (l : List ActWord) (acc : Nat) : State := with_ fun _ =>
  (((classed (some (aClassifier l)) .parsed).toDev.setTbl [(1, aTable)]).setTblMap [(3, 1)]).setNtu { (classed none .parsed).toDev.ntu with acc := acc }
theorem wit_TreesSweepsAndSkims_age : let s := clsUp [] (150000000000 * 2 ^ 32)
    s.runs = true ∧ s.table? 0 0 3 = some (1, aTable) ∧ s.declOf 0 0 3 = some aTable.decl ∧ aTable.decl.flags % 2 = 1 ∧ aTable.decl.ageS ≠ 0 ∧ 0 = s.curSlot ∧
    s.now / (300 * 500000000) - aTable.sweptAt / (300 * 500000000) = 1 ∧ up.now / (300 * 500000000) - aTable.sweptAt / (300 * 500000000) = 0 ∧
    2 ≤ (clsUp [] (300000000000 * 2 ^ 32)).now / (300 * 500000000) - aTable.sweptAt / (300 * 500000000) := by decide +kernel
/-- What classifying the frame of `clsUp l` comes to before it goes on. -/
def clsRun (l : List ActWord) : Option (Dev × Option Onward) :=
  let s := clsUp l 0
  let d := ((s.toDev.count (clsCnt 0 0)).count (clsCnt 0 10) 0).markBad 0 0 none
  match d.runSteps 0 (aFrame .parsed) (aClassifier l) ⟨0, false, 0, none⟩ ((aClassifier l).program 0) [] with
  | (_, none) => none
  | (e, some (acts, term)) => some (e.applyActs 0 (aFrame .parsed) (aClassifier l) acts term false)
theorem wit_Classifying_order : (clsUp [] 0).behind 0 (aFrame .parsed) = false ∧ (classed none .parsed).behind 0 (aFrame .parsed) = false ∧
    (let s := with_ fun _ => (framed .parsed).toDev.newFrame (aFrame .parsed); s.frame? 1 = some (aFrame .parsed) ∧ s.behind 1 (aFrame .parsed) = true) := by decide +kernel
theorem wit_Classifying : (clsUp [] 0).runs = true ∧ (clsUp [] 0).frame? 0 = some (aFrame .parsed) ∧ (aFrame .parsed).pmeta.root = 0 ∧
    ((classed none .parsed).bodies 0 0).cls = none ∧ ((clsUp [] 0).bodies 0 0).cls = some (aClassifier []) ∧ clsRun [⟨0x3F, 0, 0, 0⟩] = none ∧
    (clsRun []).map (fun r => r.2.isSome) = some false ∧ (clsRun [⟨0x10, 0, 3, 0⟩]).map (fun r => r.2.isSome) = some true := by decide +kernel
/-- Thread 1 of the last position of slice 5, and T0 of it. -/
def th1 : ThId := ⟨5, 31, 1⟩
def th0 : ThId := ⟨5, 31, 0⟩
/-- `d` with the threads of `th`'s position all sweep threads. -/
def turnsOf (th : ThId) (d : Dev) : Dev := d.wr (ENG_SWEEP th.slice.val th.pos.val) 0x11111111
/-- The machine with thread `th` RUNNING at the start of its code region, and changed by `f`. -/
def running (th : ThId) (f : Thr → Thr) : State := with_ fun d => (turnsOf th d).updThr (thKey th) fun x => f { x with st := .running, pc := 0x100 }
theorem wit_HardwiredRegisters : (running th1 id).issues th1 0 false ∧ pcRel 22 4194303 ((running th1 id).thrAt (thKey th1)) % 4 = 0 ∧
    codeBase ((running th1 id).thrAt (thKey th1)).slot ≤ pcRel 22 4194303 ((running th1 id).thrAt (thKey th1)) ∧
    pcRel 22 4194303 ((running th1 id).thrAt (thKey th1)) < codeBase ((running th1 id).thrAt (thKey th1)).slot + 0x10000 := by decide +kernel
theorem wit_Issuing : up.runs = true ∧ up.canIssueThr (thKey th1) = false ∧ (running th1 id).fetches th1 ∧ (((running th1 id).thrAt (thKey th1)).pred 7 != false) = false ∧
    (((running th1 id).thrAt (thKey th1)).pred 0 != false || false) = true ∧ (running th1 fun x => { x with pc := 0x10000 }).fetchTrap (thKey th1) = some causeAccess ∧ (running th1 fun x => { x with pc := 0xFFFE }).fetchTrap (thKey th1) = some causeAlign ∧
    ((running th1 fun x => { x with pc := 0x10000 }).thrAt (thKey th1)).haltNext = false ∧
    (running th1 fun x => { x with pc := 0x10000 }).canIssueThr (thKey th1) = true := by decide +kernel
theorem wit_RegisterInstructions : (running th1 id).issues th1 0 false ∧ aluOp 0x1C 0 0 = some 0 ∧ aluOp 0x1D 0 0 = none ∧ aluUnary 0x13 = true ∧ aluUnary 0x1C = false := by decide +kernel
theorem test_aluWraps : aluOp 0x00 0xFFFFFFFFFFFFFFFF 1 = some 0 ∧ aluOp 0x08 0x8000000000000000 63 = some 0xFFFFFFFFFFFFFFFF ∧ aluOp 0x13 0 0 = some 64 := by decide +kernel
theorem test_sext : sext 12 0xFFF = 0xFFFFFFFFFFFFFFFF ∧ sext 12 0x7FF = 0x7FF ∧ sext 17 0x10000 = 0xFFFFFFFFFFFF0000 := by decide +kernel
theorem wit_FoldsAndBitfields : 0 + 63 < 64 ∧ bitExtract (bitInsert 0 5 60 3) 60 3 = 5 := by decide +kernel
theorem wit_ControlTransfers : let s := running th1 id
    s.issues th1 0 false ∧ ((s.began th1).thrAt (thKey th1)).slot = 0 ∧ pcRel 22 16319 ((s.began th1).thrAt (thKey th1)) = 0xFFFC ∧
    pcRel 22 16320 ((s.began th1).thrAt (thKey th1)) = 0x10000 ∧ (((s.began th1).thrAt (thKey th1)).rg 0).toNat = 0 := by decide +kernel
/-- The thread with g1 an address of its engine's data memory, g2 the number 16. -/
def memTh (a : Word) : State := running th1 fun x => (x.setG 1 a).setG 2 16
theorem wit_MemoryInstructions : let s := memTh 0x3FFF8
    s.issues th1 0 false ∧ (s.began th1).reach (thKey th1) 0x3FFF8 8 false false true = .at_ (.mem (localAt 191 0x3FFF8) none) ∧
    (s.began th1).reach (thKey th1) 0x3FFF8 8 true true true = .at_ (.mem (localAt 191 0x3FFF8) none) ∧
    (s.began th1).reach (thKey th1) 0x20000 16 false false false = .at_ (.mem (localAt 191 0x20000) none) ∧ (s.began th1).reach (thKey th1) 0x40000 1 true false true = .trap causeAccess none ∧
    (s.began th1).reach (thKey th1) 0x3FFFC 8 false false true = .trap causeAccess none ∧ (s.began th1).reach (thKey th1) 0x20004 8 false false true = .trap causeAlign none ∧
    deckFree ((s.began th1).thrAt (thKey th1)) ((s.began th1).spot? 5 31 0x3FFF8 8) = true := by decide +kernel
theorem wit_MemoryInstructions_deck : let s := with_ fun _ => (memTh 0x1000000).toDev.updThr (thKey th1) fun x => { x with busy := 1, frameTk := 1 }
    s.issues th1 0 false ∧ deckFree ((s.began th1).thrAt (thKey th1)) ((s.began th1).spot? 5 31 0x1000000 8) = false ∧
    ((with_ fun _ => (memTh 0x3FFF8).toDev.setPoison [(localAt 191 0x3FFF8 / 8, 0)]).began th1).reach (thKey th1) 0x3FFF8 8 false false true = .trap causeEccData (some 0x5BF) := by decide +kernel
theorem wit_MemoryInstructions_held : let s := with_ fun _ => ((memTh 0x400000).toDev.setF (ENG_BANK_STATUS 5 16) ENG_BANK_STATUS_DRAINING 1).setF (ENG_BANK_STATUS 5 16) ENG_BANK_STATUS_PEND_KIND 1
    ((with_ fun _ => s.toDev.setF (ENG_BANK_STATUS 5 16) ENG_BANK_STATUS_PEND_ID 31).began th1).reach (thKey th1) 0x400000 8 false false true = .held 16 := by decide +kernel
theorem wit_StoredBytes : ({ up with mem := [(5, 1)] } : State).memOk := by decide
/-- The thread holding the frame of 64 bytes, g1 and g2 as given. -/
def holding (a b : Word) : State := with_ fun _ => ((turnsOf th1 (framed (.held 31 1)).toDev).updThr (thKey th1) fun x => ((({ x with st := .running, pc := 0x100, frame := some 0 }).setG 1 a).setG 2 b))
theorem wit_HeldFrameInstructions : let s := holding 14 50
    let e := s.began th1
    s.issues th1 0 false ∧ (e.thrAt (thKey th1)).frame = some 0 ∧ e.frame? 0 = some (aFrame (.held 31 1)) ∧ (e.thrAt (thKey th1)).locked = false ∧ (aFrame (.held 31 1)).len = 64 ∧
    ((e.thrAt (thKey th1)).rg 1).toNat = 14 ∧ ((e.thrAt (thKey th1)).rg 2).toNat = 50 ∧ (((running th1 id).began th1).thrAt (thKey th1)).frame = none := by decide +kernel
theorem wit_LookupsAndOffloads : let s := memTh 0x3FFC0
    let e := s.began th1
    s.issues th1 0 false ∧ e.table? 5 0 63 = none ∧ e.reach (thKey th1) 0x3FFC0 64 false false true = .at_ (.mem (localAt 191 0x3FFC0) none) ∧ (e.thrAt (thKey th1)).freeTickets ≠ [] ∧
    e.opQueueFull 5 0 (List.replicate 64 0) = false ∧ e.opQueueFull 5 1 (List.replicate 64 0) = false ∧ e.opQueueFull 5 2 (List.replicate 64 0) = false ∧
    e.bytesOf (thKey th1) (.mem (localAt 191 0x3FFC0) none) 64 = List.replicate 64 0 := by decide +kernel
theorem wit_LookupsAndOffloads_table : let th : ThId := ⟨0, 0, 1⟩
    let s := with_ fun _ => (turnsOf th (tabled 0).toDev).updThr (thKey th) fun x => ({ x with st := .running, pc := 0x100 }).setG 1 0x0100000000000000
    let e := s.began th
    let t := e.thrAt (thKey th)
    s.issues th 0 false ∧ e.table? (thrSlice (thKey th)) (e.thrSlot t) 3 = some (1, aTable) ∧
    aTable.hit? ((t.regBytes 1 1).take 4) = some (2, ⟨[1, 0, 0, 0], [], 0, 0, 0, 0, 7, 9, false, false, false⟩) ∧ aTable.hit? ((t.regBytes 2 1).take 4) = none := by decide +kernel
/-- Engine code for every position, which allows waits without a deadline. -/
def aCode : CodeBody := ⟨true, false, 0xFFFFFFFF, List.replicate 8 0, [], [], List.replicate 8 0, List.replicate 8 1, [], []⟩
/-- The machine with that code in slice 0 and thread 1 of position 0 RUNNING, its own channel 0 holding `n` messages. -/
def coded (n : Nat) : State := with_ fun d =>
  (((turnsOf ⟨0, 0, 1⟩ d).setSlots [(0, ⟨1, 0, ⟨0, [⟨none, none, some aCode, none, none⟩], ⟨60, 0, [], []⟩, [], [], 0⟩⟩)]).setChan [(0, ⟨List.replicate n ⟨0, 1, [7]⟩, []⟩)]).updThr 1 fun x =>
    { x with st := .running, pc := 4 }
theorem wit_ChannelsWaitsAndSpecials : let th : ThId := ⟨0, 0, 1⟩
    let e := (coded 4).began th
    let t := e.thrAt 1
    thKey th = 1 ∧ (coded 4).issues th 0 false ∧ (coded 0).issues th 0 false ∧ (t.rg 0).toNat = 0 ∧ (e.code t.slot (thrSlice 1)).any (fun b => b.runs 0) = true ∧ e.offline (thrSlice 1) 0 = false ∧
    4 ≤ (e.chanAt 0 0 0).vis.length + (e.chanAt 0 0 0).res.length ∧ (((coded 0).began th).chanAt 0 0 0).vis = [] ∧ (e.chanAt (thrSlice 1) (thrPos 1) 0).vis = ⟨0, 1, [7]⟩ :: List.replicate 3 ⟨0, 1, [7]⟩ ∧
    (true && t.frame.isSome) = false ∧ e.nodlOk 1 = true ∧ e.spr 1 0x11 = some 1 ∧ e.spr 1 0x12 = none ∧ (t.sprWrite 0x10 5).isSome = true ∧ t.sprWrite 0x11 5 = none := by decide +kernel
theorem wit_CoxInstructions : let s := running th0 fun x => x.setG 1 0x1F07
    let e := s.began th0
    s.issues th0 0 false ∧ thrNo (thKey th0) = 0 ∧ ((e.thrAt (thKey th0)).rg 1).toNat % 8 = 7 ∧ (e.thrAt (thKey th0 / 8 * 8 + 7)).st = .stopped ∧ e.engFaulty (thKey th0) = false ∧
    codeBase e.curSlot ≤ ((e.thrAt (thKey th0)).rg 0).toNat ∧ thrNo (thKey th1) ≠ 0 ∧ ((e.thrAt (thKey th0)).rg 0).toNat % 8 = 0 := by decide +kernel
theorem wit_CoxInstructions_busy : let s := with_ fun _ => (running th0 fun x => x.setG 1 7).toDev.updThr (thKey th0 + 7) fun x => { x with st := .waiting }
    s.issues th0 0 false ∧ ((s.began th0).thrAt (thKey th0 + 7)).st = .waiting := by decide +kernel
theorem wit_TrapsAndReturns : (running th1 id).fetches th1 ∧ (running th1 id).issues th1 0 false ∧ (((running th1 id).began th1).thrAt (thKey th1)).inHandler = false ∧
    (((running th1 fun x => { x with inHandler := true }).began th1).thrAt (thKey th1)).inHandler = true ∧ ((running th1 fun x => { x with tvec := 0x200 }).thrAt (thKey th1)).tvec % 2 = 0 ∧
    (running th1 id).issues th1 ⟨(0x0FFFFFFF : BitVec 32).toNat / 2 ^ 29 % 8, by decide⟩ ((0x0FFFFFFF : BitVec 32).getLsbD 28) := by decide +kernel
theorem wit_ThreadControl : let th : ThId := ⟨0, 0, 1⟩
    up.hearsIn .ulyar 5 ∧ (up.thrAt 1).st = .stopped ∧ ((coded 0).thrAt (thKey th)).st = .running ∧ ((coded 0).thrAt (thKey th)).heldAcc = false ∧ ((with_ fun _ => (coded 0).toDev.updThr 1 fun x => { x with heldAcc := true }).thrAt (thKey th)).heldAcc = true ∧ th.thread.val ≠ 0 ∧ thrNo (thKey th) ≠ 0 ∧
    ((with_ fun d => d.updThr 1 fun x => { x with st := .halted }).thrAt (thKey th)).st = .halted ∧ (((coded 0).dropHeld 0).unstage 0 |>.dropTickets 0).code 0 0 = some aCode ∧
    ((coded 0).toDev.clearPos 0 0).code ((coded 0).toDev.clearPos 0 0).curSlot 0 = some aCode ∧ aCode.runs 0 = true ∧ ((coded 0).thrAt 0).slot = 0 ∧ (coded 0).hearsIn .ulyar 0 := by decide +kernel
theorem wit_ThreadControl_debug : let s := with_ fun _ => (coded 0).toDev.setF (ENG_TDBG_SEL 0 0) ENG_TDBG_SEL_THREAD 1
    s.hearsIn .ulyar 0 ∧ (s.thrAt (thrKey 0 0 (s.fld (ENG_TDBG_SEL 0 0) ENG_TDBG_SEL_THREAD))).st = .running := by decide +kernel
/-- A group whose only member is thread 1 of position 0. -/
def aGroup : Group := ⟨[2], 1⟩
/-- The machine with thread 1 of position 0 of slice 0 waiting for a frame in that group, a frame queued for it. -/
def queued : State := with_ fun _ => let d := (framed (.waitGroup 0)).toDev
  ((d.setSlots [(0, ⟨1, 0, ⟨0, [⟨none, none, some { aCode with groups := [aGroup] }, none, none⟩], ⟨60, 0, [], []⟩, [], [], 0⟩⟩)]).setDspq [(0, [0])]).updThr 1 fun x =>
    { x with st := .waiting, wait := some ⟨1, true, false, false, false, true⟩, slot := 0 }
theorem wit_EngineEvents_order : (framed (.released none .drop)).frame? 0 = some (aFrame (.released none .drop)) ∧ (framed (.released none .drop)).orderFirst 0 0 none = true ∧
    (with_ fun _ => (framed (.released none .drop)).toDev.setOrder [(0, [1, 0])]).orderFirst 0 0 none = false := by decide +kernel
theorem wit_EngineEvents_queue : groupKey 0 0 0 = 0 ∧ queued.group? 0 0 0 = some aGroup ∧ queued.candidate 0 0 0 aGroup = some (0, 1) ∧ up.candidate 0 0 0 aGroup = none ∧ up.dueFirst .wake 0 = false := by decide +kernel
theorem wit_EngineEvents_message : let th : ThId := ⟨0, 0, 1⟩
    let m : Msg := ⟨0, 1, [5]⟩
    let s := with_ fun _ => ((coded 0).toDev.setChan [(0, ⟨[], [m]⟩)]).updThr 1 fun x => { x with sending := some ⟨0, 0, 0, 0⟩ }
    let mine (m : Msg) : Bool := m.pos == th.pos.val && m.thread == th.thread.val
    takeFirst mine (s.chanAt 0 0 0).res = some (m, []) ∧ ((s.chanAt 0 0 0).res.filter mine).length = 1 ∧ ((s.thrAt (thKey th)).sending.any fun x => x.pos == 0 && x.chan == 0) = true ∧
    (s.thrAt (thKey th)).st ≠ .halted ∧ takeFirst mine [m, m] = some (m, [m]) ∧ ([m, m].filter mine).length = 2 := by decide +kernel
theorem wit_EngineEvents_stall : up.stallAt 0 = ⟨false, false⟩ ∧ up.quiescent 5 31 = true ∧ (up.thrAt 0).quietWait = false ∧
    let s := with_ fun d => (d.updThr 0 fun x => { x with st := .waiting, wait := some ⟨1, false, true, false, false, true⟩ }).updThr 1 fun x => { x with st := .waiting, wait := some ⟨1, false, true, false, false, true⟩ }
    (s.thrAt 0).quietWait = true ∧ s.quiescent 0 0 = true ∧ ((List.range 7).any fun i => (s.thrAt (0 + i + 1)).st == .waiting) = true := by decide +kernel
theorem wit_EngineEvents_wake : let s := with_ fun d => (d.setDue [⟨0, .wake, 1⟩]).updThr 1 fun x => { x with st := .waiting, armed := true, wait := some ⟨1, false, false, false, false, false⟩ }
    s.dueFirst .wake (thKey ⟨0, 0, 1⟩) = true := by decide +kernel
/-- The machine with a migration of position 31 of cluster 3, its spare in state `st`. -/
def migrating (st : Nat) (frozen : Bool) (start : Nat) : State := with_ fun d => ((d.setSpare 3 st).setMig [(3, ⟨31, start, frozen⟩)]).setNtu { d.ntu with ticks := 50000 }
theorem wit_EngineSparing : up.hearsIn .ulyar 5 ∧ ENG_SPARE_CFG_GO.get 0x11F00 = 1 ∧ ENG_SPARE_CFG_POSITION.get 0x11F00 = 31 ∧ clusterOf 1 31 = 3 ∧ up.spare 3 = 0 ∧ (migrating 1 false 0).spare 3 = 1 ∧ (migrating 1 false 0).mig.look 3 = some ⟨31, 0, false⟩ ∧
    (migrating 1 true 0).posIdle 1 31 = true ∧ (migrating 2 true 0).spare 3 = 2 ∧ (migrating 1 true 0).runs = true ∧
    ((migrating 3 false 0).toDev.wr (ENG_SPARE_CFG 1) ((0x11F00 : Word) &&& 0x1F01)).spare 3 ≠ 0 := by decide +kernel
theorem wit_EngineSparing_time : (migrating 2 true 0).refNs ≤ 0 + 200000 ∧ (let s := with_ fun _ => (migrating 2 true 0).toDev.setNtu { (migrating 2 true 0).ntu with ticks := 50001 }; 0 + 200000 < s.refNs ∧ s.spare 3 = 2) ∧ 0 + 200000 ≤ (migrating 1 true 0).refNs ∧ (migrating 1 true 1000000).refNs < 1000000 + 200000 := by decide +kernel
/-- Bank 31 of slice 5 with the named owner. -/
def ownedBank (kind id : Nat) : State := with_ fun d => (d.setF (ENG_BANK_STATUS 5 31) ENG_BANK_STATUS_KIND kind).setF (ENG_BANK_STATUS 5 31) ENG_BANK_STATUS_ID id
/-- The write that names position 16. -/
def ownerV : Word := ENG_BANK_HANDOVER_KIND.set 1 (ENG_BANK_HANDOVER_ID.set 16 0)
theorem wit_BankOwnership : let s := with_ fun d => d.setBankHeld 0
    let t := (s.toDev.setF (ENG_BANK_STATUS 5 31) ENG_BANK_STATUS_DRAINING 1)
    up.hearsIn .ulyar 5 ∧ up.ownerOk 5 31 1 15 = false ∧ s.ownerOk 5 31 (ENG_BANK_HANDOVER_KIND.get ownerV) (ENG_BANK_HANDOVER_ID.get ownerV) = true ∧
    s.flag (ENG_BANK_STATUS 5 31) ENG_BANK_STATUS_DRAINING = false ∧ t.flag (ENG_BANK_STATUS 5 31) ENG_BANK_STATUS_DRAINING = true ∧ t.fld (ENG_BANK_STATUS 5 31) ENG_BANK_STATUS_PEND_KIND ≠ 1 ∧
    (t.setF (ENG_BANK_STATUS 5 31) ENG_BANK_STATUS_PEND_KIND 3).fld (ENG_BANK_STATUS 5 31) ENG_BANK_STATUS_PEND_KIND = 3 ∧ t.fld (ENG_BANK_STATUS 5 31) ENG_BANK_STATUS_PEND_ID = 0 ∧
    (t.setF (ENG_BANK_STATUS 5 31) ENG_BANK_STATUS_PEND_KIND 1).fld (ENG_BANK_STATUS 5 31) ENG_BANK_STATUS_PEND_KIND = 1 ∧
    (ownedBank 3 0).fld (ENG_BANK_STATUS 5 31) ENG_BANK_STATUS_KIND = 3 ∧ (ownedBank 3 0).fld (ENG_BANK_STATUS 5 31) ENG_BANK_STATUS_ID = 0 ∧ up.fld (ENG_BANK_STATUS 5 31) ENG_BANK_STATUS_KIND ≠ 3 := by decide +kernel
/-- A strict child of its parent 0, of TF 7, with 1 KiB on chip. -/
def aNode : NodeRec := ⟨0, 0, false, false, false, false, 64, 64, 0, 0, 0, 7, 1, 0, 0⟩
/-- A tree of one class, tenant and queue under port 0. -/
def aSched : SchedBody := ⟨List.replicate 17 aNode, [aNode], [aNode], [aNode], []⟩
/-- The machine with port 0 up, that tree in slice 0, the frame of 64 bytes in it, and queue 0 holding `on` and `ov`. -/
def treed (st : Stage) (on ov : List Nat) : State := with_ fun _ =>
  ((framed st).toDev.setSlots [(0, ⟨1, 0, ⟨0, [⟨none, none, none, some aSched, none⟩], ⟨60, 0, [], []⟩, [], [], 0⟩⟩)]).setQueue [(0, ⟨on, ov, 0, none⟩)]
theorem wit_TrafficManager_arrival : (treed (.toQueue ⟨false, 0, 0⟩) [] []).frame? 0 = some (aFrame (.toQueue ⟨false, 0, 0⟩)) ∧ (aFrame (.toQueue ⟨false, 0, 0⟩)).tmLen false = 68 ∧ (treed (.toQueue ⟨false, 0, 0⟩) [] []).behind 0 (aFrame (.toQueue ⟨false, 0, 0⟩)) = false ∧
    (let s := with_ fun _ => (treed (.toQueue ⟨false, 0, 0⟩) [] []).toDev.newFrame (aFrame (.toQueue ⟨false, 0, 0⟩)); s.behind 1 (aFrame (.toQueue ⟨false, 0, 0⟩)) = true) ∧
    ((treed .parsed [] []).queueSt 0 0).ov = [] ∧ (treed .parsed [] []).lenSum false [] + 68 ≤ aNode.onchip * 1024 ∧ aNode.onchip * 1024 < (treed .parsed [] []).lenSum false [] + 1025 ∧ aNode.dram = 0 := by
  decide +kernel
theorem wit_TrafficManager_choice : let s := treed (.queued 0 0 false) [0] []
    let b := (s.sched 0).getD SchedBody.portsOnly
    let d := (s.toDev.purgeOversize b 0 0).refreshPort b 0 0
    d.macFree 0 = true ∧ d.portNodeUp 0 0 = true ∧ (d.pathChoice b 0 0).1 = some (0, some (0, 0)) ∧ ((d.pathChoice b 0 0).2.queueSt 0 0).on = [0] ∧
    (d.pathChoice b 0 0).2.flag (portStatus 0) MAC_PORT_STATUS_TX_LPI = false ∧ ((d.pathChoice b 0 0).2.portSt 0).wakeEnd = none ∧ d.portNodeUp 0 1 = false ∧ d.macFree 16 = true ∧ d.portNodeUp 0 16 = true ∧
    (d.pathChoice b 0 16).1 = none := by decide +kernel
theorem wit_TrafficManager_wheels : let s := with_ fun d => (d.setWheels [(0, [⟨nodeKey 0 3 0, 0, true⟩])]).setDue [⟨0, .wheel, 8⟩]
    up.dueFirst .wheel 0 = false ∧ up.dueFirst .wheel 8 = false ∧ s.wheelNext 0 true = some 0 ∧ s.dueFirst .wheel (0 + 8) = true ∧ 0 * 4194304 ≤ s.now ∧
    let t := with_ fun d => (d.setWheels [(0, [⟨nodeKey 0 3 0, 0, false⟩])]).setDue [⟨0, .wheel, 0⟩]
    t.wheelNext 0 false = some 0 ∧ t.dueFirst .wheel 0 = true ∧ 0 * 64 ≤ t.now := by decide +kernel
theorem wit_TrafficManager_gate : let g : GateList := ⟨3, 100, 0, [(1, 60), (2, 40)]⟩
    let s := with_ fun d => ((d.setGate [(3, ⟨some g, [], 0, 0, []⟩)]).setDue [⟨60, .gate, 3⟩]).setNtu { d.ntu with acc := 60 * 2 ^ 32 }
    up.dueFirst .gate 3 = false ∧ (s.gateSt 3).cur = some g ∧ (s.gateSt 3).nextAt = some 60 ∧ s.dueFirst .gate 3 = true ∧ 60 ≤ s.now := by decide +kernel
theorem wit_TrafficManager_readback : (up.queueSt 5 65535).ov = [] ∧ let s := treed (.queued 0 0 true) [] [0]
    (s.queueSt 0 0).ov = [0] ∧ s.lenSum (s.queuePort 0 0 == some 16) (s.queueSt 0 0).on < (((s.sched 0).bind fun b => b.rec? 3 0).map NodeRec.onchip).getD 24576 * 1024 := by decide +kernel
/-- A slot of AES-256-GCM for raw buffers that every slice may draw from, with LIMIT `n`. -/
def keyAttr : Word := KEY_INST_ATTR_ALG.set 2 (KEY_INST_ATTR_OWNER_TF.set 0xFFFF (KEY_INST_ATTR_SLICE_BIND.set 7 0))
/-- The machine whose key store takes commands, that slot described in its registers. -/
def keyed (n : Word) : State := with_ fun d => ((((d.setF KEY_STATUS KEY_STATUS_READY 1).setF MBX_LIFECYCLE MBX_LIFECYCLE_STATE 1).wr KEY_INST_ATTR (KEY_INST_ATTR_DIR.set 1 keyAttr)).wr KEY_INST_LIMIT n)
/-- The slot, ACTIVE, with the leases `l`. -/
def aKey (l : Tab Lease) : KeySlot := ⟨keyAttr, 10, 0, [], 0, [], 1, false, false, 5, [], l, 0, 0, [1]⟩
theorem wit_KeyStore : up.hears .ulyar ∧ up.keyCommander .ulyar = true ∧ up.keyCommander (.pf 3 false) = false ∧ up.hears (.pf 3 false) ∧ up.flag KEY_STATUS KEY_STATUS_READY = false ∧
    up.flag KEY_CMD_STATUS KEY_CMD_STATUS_BUSY = false ∧ (keyed 5).flag KEY_STATUS KEY_STATUS_READY = true ∧ (keyed 5).life = 1 ∧ (keyed 5).keySlot.look 1048575 = none ∧
    (keyed 5).instSlot.attrOk = true ∧ (keyed 5).instSlot.limitOk = true ∧ (keyed 0).instSlot.limitOk = false ∧ up.instSlot.attrOk = false ∧ up.life ≠ 2 ∧ up.life ≠ 4 ∧
    (up.toDev.setF KEY_CMD_STATUS KEY_CMD_STATUS_BUSY 1).flag KEY_CMD_STATUS KEY_CMD_STATUS_BUSY = true := by decide +kernel
theorem wit_KeyStore_leases : let s := with_ fun d => (d.setKeySlot [(3, aKey [(2, ⟨0, 4, 0, 0⟩)])]).setDue [⟨0, .lease, leaseId 2 3⟩]
    s.keySlot.look 3 = some (aKey [(2, ⟨0, 4, 0, 0⟩)]) ∧ (aKey []).binds 5 = true ∧ (aKey [(2, ⟨0, 4, 0, 0⟩)]).leases.look 5 = none ∧ s.dueFirst .lease (leaseId 2 3) = true ∧
    (aKey [(2, ⟨0, 4, 0, 0⟩)]).leases.look 2 = some ⟨0, 4, 0, 0⟩ ∧ 0 ≤ s.now ∧ up.dueFirst .lease (leaseId 5 1048575) = false ∧
    up.cphEntries 5 1048575 = [] ∧ (s.keySlot.filter fun kx => kx.2.erasing).map Prod.fst = [] ∧
    (([(3, (aKey []).erase)] : Tab KeySlot).filter fun kx => kx.2.erasing).map Prod.fst = [3] := by decide +kernel
theorem wit_UsesAreNotLost : let x := aKey [(2, ⟨0, 4, 0, 0⟩)]
    x.leases.rising = true ∧ x.ret.rising = true ∧ x.next ≤ x.limit ∧ (∀ r ∈ x.ret, r.2.1 ≤ r.2.2) ∧ (∀ l ∈ x.leases, l.2.next ≤ l.2.stop) ∧ (x.source 5).map (fun r => (r.1, r.2.1)) = some (5, 10) ∧
    x.ret.look 2 = none ∧ (x.giveBack 2).returned = 4 := by decide
/-- A GCM_ENC descriptor for slot 3. -/
def aDesc (op : Nat) : List Byte := leBytes 4 0 ++ leBytes 2 op ++ leBytes 10 0 ++ leBytes 4 3 ++ List.replicate 44 0
/-- The machine with that operation outstanding as command 0. -/
def ciphered (op : Nat) : State := with_ fun d => (d.setKeySlot [(3, aKey [])]).setOps [(0, ⟨0, 5, 31, 1, 7, 0x20000, none, aDesc op⟩)]
theorem wit_CipherOperations : (ciphered 9).ops.look 0 = some ⟨0, 5, 31, 1, 7, 0x20000, none, aDesc 9⟩ ∧ leAt (aDesc 9) 4 2 = 9 ∧ leAt (aDesc 7) 4 2 = 7 ∧
    cphDescOk (aDesc 11) ((leAt (aDesc 11) 6 2).testBit 0) = false ∧ cphDescOk (aDesc 9) ((leAt (aDesc 9) 6 2).testBit 0) = true ∧
    (opJob ⟨0, 5, 31, 1, 7, 0x20000, none, aDesc 7⟩ none).check (some (aKey [])) false = some 5 ∧ (opJob ⟨0, 5, 31, 1, 7, 0x20000, none, aDesc 9⟩ none).check (some (aKey [])) false = none ∧
    ({ aKey [] with next := 10 } : KeySlot).hasUses 5 1 = false ∧ (ciphered 9).spot? 5 31 0x20000 16 = some (.mem (localAt 191 0x20000) none) ∧ (ciphered 9).memOk ∧
    (framed (.cipher ⟨0x100, 3, none, none, 0, 1⟩ .drop)).frame? 0 = some (aFrame (.cipher ⟨0x100, 3, none, none, 0, 1⟩ .drop)) ∧ bitsOf 0x100 8 4 = 1 ∧
    (ciphered 9).cphFirst ⟨0, 5, 3, 9, .op 0⟩ = true ∧ (ciphered 9).cphFirst ⟨1, 5, 3, 9, .op 1⟩ = false ∧ (ciphered 9).hasLease 5 3 = false ∧
    (ciphered 9).drawsFor 5 3 = some ⟨0, 5, 3, 9, .op 0⟩ ∧ (framed (.cipher ⟨0x100, 3, none, none, 0, 1⟩ .drop)).cphFirst ⟨1, 0, 3, 1, .frame 0⟩ = true ∧ bitsOf 0x400 8 4 = 4 := by decide +kernel
/-- A compression descriptor for buffers in the engine's data memory: 8 bytes in, 64 bytes of room. -/
def cmpDesc (op : Nat) (cap : Nat) : List Byte :=
  leBytes 4 0 ++ leBytes 2 op ++ leBytes 18 0 ++ leBytes 8 0x20100 ++ leBytes 8 (if op = 4 then 0 else 0x20200) ++ leBytes 8 24 ++ leBytes 8 cap ++ List.replicate 8 0
def cmpOp (op : Nat) (cap : Nat) : OpRec := ⟨1, 5, 31, 1, 7, 0x20000, none, cmpDesc op cap⟩
/-- The machine with that operation outstanding as command 0, and another one behind it. -/
def compressing (op : Nat) (cap : Nat) : State := with_ fun d => d.setOps [(0, cmpOp op cap), (1, cmpOp op cap)]
theorem wit_CompressionOperations : (compressing 1 64).ops.look 0 = some (cmpOp 1 64) ∧ (cmpOp 1 64).unit = 1 ∧ leAt (cmpOp 1 64).desc 4 2 = 1 ∧ leAt (cmpOp 4 64).desc 4 2 = 4 ∧
    (compressing 1 64).cmpFirst 0 (cmpOp 1 64) = true ∧ (compressing 1 64).cmpFirst 1 (cmpOp 1 64) = false ∧ ((compressing 5 64).cmpJob (cmpOp 5 64)).formOk = false ∧
    let j := (compressing 1 64).cmpJob (cmpOp 1 64)
    j.formOk = true ∧ j.frame = none ∧ j.code = 1 ∧ j.srcPlace (compressing 1 64).toDev = .at_ (localAt 191 0x20100) ∧ j.dstPlace (compressing 1 64).toDev = .at_ (localAt 191 0x20200) ∧ j.lenOk = true ∧
    j.room ≤ j.cap ∧ (compressing 1 64).badIn (localAt 191 0x20100) j.len = false ∧ ({ j with cap := 3 } : CmpJob).cap < ({ j with cap := 3 } : CmpJob).room ∧
    ({ j with len := 16777217 } : CmpJob).lenOk = false ∧ ({ j with src := 0x10 } : CmpJob).srcPlace (compressing 1 64).toDev = .bad := by decide +kernel
/-- A PDU of 24 bytes without digests. -/
def aPdu : List Byte := [1, 0, 24, 0, 24, 0, 0, 0] ++ List.replicate 16 0
theorem wit_CompressionOperations_pdu : pduOk aPdu = true ∧ pduPlen aPdu = 24 ∧ leAt aPdu 0 1 ≠ 4 ∧ pduOk [] = false := by decide +kernel
/-- The machine with a stream context in `st` at SEQ `q`, its table and its buffers in the engine's data memory, and PDU_RX on it. -/
def receiving (st q : Byte) : State := { compressing 3 64 with mem := ((up.mem.write (localAt 191 0x20400) st).write (localAt 191 0x20404) q).writeLE (localAt 191 0x20418) 8 0x20600 }
def rxJob : CmpJob := { (receiving 0 0).cmpJob (cmpOp 3 64) with ctx := 0x20400, dst := 0x20200, tf := 0xFFFF, seq := 0 }
theorem wit_CompressionOperations_rx : (∀ st q : Fin 2, let s := receiving (BitVec.ofNat 8 (4 * st.val)) (BitVec.ofNat 8 q.val)
      rxJob.srcPlace s.toDev = .at_ (localAt 191 0x20100) ∧ rxJob.dstPlace s.toDev = .at_ (localAt 191 0x20200) ∧ s.nearPlace rxJob.op.slice rxJob.op.pos rxJob.ctx 256 64 = some (localAt 191 0x20400) ∧
      s.mem.readLE (localAt 191 0x20400 + 0x16) 1 ≤ 12 ∧ (s.nearPlace rxJob.op.slice rxJob.op.pos (s.mem.readLE (localAt 191 0x20400 + 0x18) 8) (32 * 2 ^ s.mem.readLE (localAt 191 0x20400 + 0x16) 1) 32).isSome = true ∧
      s.badIn (localAt 191 0x20400) 256 = false ∧ leAt (s.mem.readN (localAt 191 0x20400) 256) 0 1 = 4 * st.val ∧ leAt (s.mem.readN (localAt 191 0x20400) 256) 4 4 = q.val ∧
      s.placeHeld rxJob.tf = false ∧ s.badIn (localAt 191 0x20100) rxJob.len = false) ∧
    rxJob.formOk = true ∧ rxJob.frame = none ∧ rxJob.code = 3 ∧ rxJob.lenOk = true ∧ rxJob.room ≤ rxJob.cap := by decide +kernel
theorem wit_CompressionOperations_verify : verified (deflate 0 [1, 2, 3]).1 [1, 2, 3] = true := by decide +kernel
theorem test_storedDeflate : (inflate (deflate 0 [1, 2, 3]).1 8).2.1 = [1, 2, 3] := by decide +kernel
/-- The machine with PF 0 up and ready, and its link as given. -/
def linked (f : PfLink → PfLink) : State := with_ fun d => (d.setLs 0 HIF_LINK_STATUS_LINK_UP 1).updPf 0 fun p => f { p with ready := true }
theorem wit_LinksAndReads : up.pfPresent 0 = true ∧ (rateOk (up.ls 0 HIF_LINK_STATUS_MODE == 1) 6 && [1, 2, 4, 8, 16].contains 16 && !(up.ls 0 HIF_LINK_STATUS_BIFURCATED == 1 && 16 == 16)) = true ∧
    rateOk false 0 = false ∧ (linked id).ls 0 HIF_LINK_STATUS_LINK_UP = 1 ∧ up.ls 0 HIF_LINK_STATUS_LINK_UP = 0 ∧ (linked id).pfPresent 0 = true ∧ ((linked id).pf 0).ready = true ∧
    ((linked fun p => { p with ready := false }).pf 0).ready = false ∧ ((linked id).pf 0).quar = [] ∧ ((linked id).pf 0).reads = [] ∧ (linked id).runs = true ∧ up.recWait = [] ∧
    (with_ fun d => d.setLs 0 HIF_LINK_STATUS_BME 1).bme 0 = true := by decide +kernel
theorem wit_LinksAndReads_tags : let s := linked fun p => { p with reads := [(5, ⟨0, 4096, 8, [1], 0, 50, false⟩)], quar := [(6, ⟨4, 9⟩)] }
    (s.pf 0).reads.look 5 = some ⟨0, 4096, 8, [1], 0, 50, false⟩ ∧ 8 ≤ ([1] ++ List.replicate 7 0 : List Byte).length ∧ (s.pf 0).reads.look 6 = none ∧ (s.pf 0).quar.look 6 = some ⟨4, 9⟩ ∧
    (s.pf 0).quar.look 7 = none ∧ ((s.pf 0).reads.all fun r => decide (49999 < r.2.issued + r.2.cto * 1000)) = true := by decide +kernel
/-- The machine with PF 0's link frozen, up or down. -/
def frozenLink (b : Nat) : State := with_ fun d => (d.setLs 0 HIF_LINK_STATUS_LINK_UP b).setLs 0 HIF_LINK_STATUS_FROZEN 1
theorem wit_FreezesAndResets : up.pfPresent 0 = true ∧ up.ls 0 HIF_LINK_STATUS_MODE ≠ 1 ∧ (with_ fun d => d.setLs 0 HIF_LINK_STATUS_MODE 1).ls 0 HIF_LINK_STATUS_MODE = 1 ∧ up.srcFrozen .ulyar = false ∧
    (frozenLink 1).frozen 0 = true ∧ (frozenLink 1).ls 0 HIF_LINK_STATUS_LINK_UP = 1 ∧ (frozenLink 0).frozen 0 = true ∧ (frozenLink 0).ls 0 HIF_LINK_STATUS_LINK_UP = 0 ∧ up.frozen 0 = false ∧
    (linked id).frozen 0 = false ∧ (linked id).ls 0 HIF_LINK_STATUS_LINK_UP ≠ 0 ∧ (up.pf 0).reads = [] ∧ up.ring = [] ∧ up.skim = [] ∧ up.recWait = [] ∧ up.pfPresent 1 = false ∧ ((up.flr 0).onDev fun d => d.linkLost 0).pfPresent 1 = false := by decide +kernel
/-- PF 0 ready, its bus master enabled, with rings 0 to 255, ring 0 a receive ring of 64 entries of 1 KiB, changed by `f`. -/
def ringed (f : RingSt → RingSt) : State := with_ fun _ => ((linked id).toDev.setLs 0 HIF_LINK_STATUS_BME 1 |>.setF (RGM_FUNC_CTL 4096) RGM_FUNC_CTL_RING_COUNT 256).updRing 0 fun x =>
  f { x with base := 64, pub := 128, cfg := 0x26080000 }
theorem wit_RingCommands : (ringed id).hears .ulyar ∧ srcMayPf .ulyar 0 = true ∧ (ringed id).ringSel 0 = 0 ∧ (ringed id).ringOwner 0 = some 4096 ∧ (ringed id).fnPf 4096 = 0 ∧ up.ringOwner 0 = none ∧
    (ringed id).fnResetting 4096 = false ∧ (with_ fun _ => (ringed id).toDev.setPfReset 1).fnResetting 4096 = true ∧ ((ringed id).ringAt 0).state = 0 ∧ (ringed id).fnState 4096 = 2 ∧ (ringed id).life ≠ 4 ∧
    (ringed id).ringCfgOk 4096 0 = true ∧ (ringed fun x => { x with base := 0 }).ringCfgOk 4096 0 = false ∧ ((ringed fun x => { x with state := 2 }).ringAt 0).state = 2 ∧
    ((ringed id).ringAt 0).pendDb = [] ∧ ((ringed id).ringAt 0).chains = [] ∧ ((ringed id).ringAt 0).fetching = none := by decide +kernel
theorem wit_RingCommands_doorbells : (ringed id).hears (.pf 0 false) ∧ (ringed id).pageLive 0 5 = false ∧
    (with_ fun d => (d.setF (RGM_FUNC_STATUS 5) RGM_FUNC_STATUS_STATE 2)).pageLive 0 5 = true ∧ 0 < (ringed id).fnCtl 4096 RGM_FUNC_CTL_RING_COUNT ∧ ((ringed id).ringAt 0).kind ≠ 3 ∧
    ((ringed id).ringAt 0).dbValid 64 = true ∧ ((ringed id).ringAt 0).dbValid 65 = false ∧ ((ringed id).ringAt 0).kind = 2 := by decide +kernel
/-- That ring running, an image in force, with four entries up to PROD, changed by `f`. -/
def fetching (f : RingSt → RingSt) : State := with_ fun _ => (ringed fun x => f { x with state := 1, prod := 4 }).toDev.setF IMG_STATUS IMG_STATUS_NO_IMAGE 0
theorem wit_RingsAndFunctions_fetch : let s := fetching id
    let x := s.ringAt 0
    s.ringOwner 0 = some 4096 ∧ x.state = 1 ∧ x.kind ≠ 3 ∧ x.kind ≠ 1 ∧ x.fetching = none ∧ min (idxSub x.prod x.nextFetch) (x.size - x.nextFetch % x.size) = 4 ∧ s.flag IMG_STATUS IMG_STATUS_NO_IMAGE = false ∧
    s.fnCan 4096 = true ∧ x.coherent = false ∧ (s.fnRead 4096 (descUnit 0) x.roDefault (x.slot x.nextFetch) (32 * 4)).isSome = true ∧ x.pubWait = false ∧ x.chains = [] ∧ x.rxq = [] ∧ up.fnCan 4096 = false := by
  decide +kernel
theorem wit_RingsAndFunctions_arrival : let s := with_ fun _ => (fetching fun x => { x with fetching := some (0, 1), captured := [(5, [])], rxq := [⟨none, 0xFFFF, [1], 0, 0, 0, 0, 0, 0, 0⟩] }).toDev.setArrived [(0, some (List.replicate 32 0))]
    let x := s.ringAt 0
    x.fetching = some (0, 1) ∧ s.arrived.look (descUnit 0) = some (some (List.replicate 32 0)) ∧ (((List.range 1).map fun k => ((0 + k) % 65536, bytesAt (List.replicate 32 0) (32 * k) 32)).all fun e => rxReservedOk e.2) = true ∧
    x.rxq = [⟨none, 0xFFFF, [1], 0, 0, 0, 0, 0, 0, 0⟩] ∧ max 1 ((1 + x.bufBytes - 1) / max 1 x.bufBytes) ≤ x.captured.length ∧ (fetching id).arrived.look (descUnit 0) = none := by decide +kernel
/-- A chain of one buffer of 64 bytes, at `stage`. -/
def aChain (stage : Nat) : TxChain := ⟨0, 0, 1, [(4096, 64)], false, false, 0, Facts.reset, stage, none⟩
/-- Ring 0 with that chain in read and `r` arrived for it, a publication waiting. -/
def reading (stage : Nat) (r : Tab (Option (List Byte))) : State := with_ fun _ => (fetching fun x => { x with chains := [aChain stage], pubWait := true, evWait := 2 }).toDev.setArrived r
theorem wit_RingsAndFunctions_chains : let s := reading 1 [(dataUnit 0 0, some (List.replicate 64 0))]
    let x := s.ringAt 0
    s.ringOwner 0 = some 4096 ∧ (x.chains.find? fun c => decide (c.stage ≤ 1)) = some (aChain 1) ∧ s.arrived.look (dataUnit 0 0) = some (some (List.replicate 64 0)) ∧
    s.sliceOn (s.ringSlice (s.slotFor 0) 0) = true ∧ (((reading 0 []).ringAt 0).chains.find? fun c => decide (c.stage ≤ 1)) = some (aChain 0) ∧ (reading 1 [(dataUnit 0 0, none)]).arrived.look (dataUnit 0 0) = some none ∧
    (reading 1 []).arrived.look (dataUnit 0 0) = none ∧ (x.chains.all fun c => c.wb.isNone) = true ∧ x.pubWait = true ∧ s.fnCan 4096 = true := by decide +kernel
theorem wit_RingsAndFunctions_ctl : let d := (ringed fun x => { x with state := 1 }).toDev
    d.liveRings 4096 ≠ [] ∧ d.pfFixed 4096 = true ∧ d.ctlMoves 4096 0 = true ∧ RGM_FUNC_CTL_RESET.get 0 = 0 ∧ RGM_FUNC_CTL_ENABLE.get 0 ≠ 1 ∧ RGM_FUNC_CTL_ASSIGNED.get 0 ≠ 1 ∧
    (ringed id).toDev.pfFixed 4096 = false ∧ d.ringsFit 4096 0 0 = true ∧ d.ringsFit 4096 0 4097 = false := by decide +kernel
/-- TF 5 in state `st`, with one message. -/
def tf5 (st : Nat) : State := with_ fun d => (d.setF (RGM_FUNC_STATUS 5) RGM_FUNC_STATUS_STATE st).setF (RGM_FUNC_MSG 5) RGM_FUNC_MSG_MSG_COUNT 1
theorem wit_RingsAndFunctions_functions : 1 < (tf5 2).fnState 5 ∧ (tf5 2).ctlMoves 5 0xFFFFFFFFFFFFFFFF = true ∧ up.srcFrozen .ulyar = false ∧ up.mayFunc .ulyar 4095 = true ∧ up.mayFunc (.pf 1 false) 4095 = false ∧ RGM_FUNC_CTL_RESET.get 3 = 0 ∧ up.fnState 4095 = 0 ∧ (tf5 2).fnState 5 = 2 ∧
    (tf5 3).fnResetting 5 = true ∧ (tf5 3).fnDrained 5 = true ∧ up.fnResetting 4099 = false ∧ srcMayPf .ulyar 0 = true ∧ srcMayPf (.pf 1 false) 0 = false ∧ (tf5 2).fnPf 5 = 0 ∧
    (tf5 2).fld (RGM_FUNC_MSG 5) RGM_FUNC_MSG_MSG_COUNT ≠ 0 := by decide +kernel
/-- A DMA descriptor of `n` bytes from `a` to `b` in device memory. -/
def dmaBytes (op : Nat) (a b n : Nat) : List Byte :=
  leBytes 4 0 ++ leBytes 2 op ++ leBytes 11 0 ++ [1, 1, 0] ++ leBytes 4 0 ++ leBytes 8 a ++ leBytes 8 b ++ leBytes 8 n ++ List.replicate 16 0
/-- Channel 63 bound to Ulyar with that descriptor current, 4 GiB of DRAM there, granule 0 of TENANT. -/
def dmaing (op : Nat) : State := with_ fun d => (((((d.setF (DMA_CH_CFG 63) DMA_CH_CFG_BIND_KIND 3).setF MEM_POP MEM_POP_SETS 1).setF MEM_POP MEM_POP_CH_GIB 1).setWipeFrom 6144).setF (MEM_GRANULE 0) MEM_GRANULE_CLASS 1).updDma 63 fun _ =>
  ⟨some (dmaBytes op 0 4096 128), 0, 0, [], false⟩
theorem wit_DmaEngine : up.hears .ulyar ∧ up.dmaCurrent 5 = none ∧ (with_ fun d => d.setF (DMA_CH_CFG 5) DMA_CH_CFG_BIND_KIND 3).dmaOf .ulyar 5 = true ∧ up.dmaOf .ulyar 5 = false ∧ up.dmaState 5 = 0 ∧
    (dmaing 1).dmaCurrent 63 = some (.ulyar, dmaBytes 1 0 4096 128) ∧ (dmaing 1).dmaState 63 = 1 ∧ (dmaing 1).dmaQueue 63 = [] ∧ leAt (dmaBytes 2 0 4096 128) 4 2 = 2 ∧
    (dmaJob (dmaBytes 1 0 4096 128)).formOk (dmaBytes 1 0 4096 128) false = true ∧ (dmaJob (dmaBytes 6 0 4096 128)).formOk (dmaBytes 6 0 4096 128) false = false ∧
    DMA_CH_CFG_BIND_KIND.get (DMA_CH_CFG_BIND_KIND.set 2 0) = 2 ∧ DMA_CH_CFG_BIND_ID.get (DMA_CH_CFG_BIND_KIND.set 2 0) ≤ 3 := by decide +kernel
theorem wit_DmaEngine_bursts : let s := dmaing 1
    let j := dmaJob (dmaBytes 1 0 4096 128)
    s.pacePaused 63 = false ∧ j.dstSpace = 1 ∧ j.dstFixed = false ∧ j.srcSpace = 1 ∧ j.srcFixed = false ∧ (s.dmaAt 63).pos = 0 ∧ j.burst 0 = 64 ∧ s.dramIn [1, 2] 0 64 = true ∧ s.dramIn [1, 2] 4096 64 = true ∧
    s.badIn 0 64 = false ∧ (dmaJob (dmaBytes 4 0 4096 128)).code = 4 := by decide +kernel
theorem wit_DeviceMemory : up.granWriter .ulyar 0 3 = true ∧ up.granWriter (.pf 1 false) 3 0 = false ∧ up.granPending 6143 = (up.wipeFrom ≤ 6143) ∧ (dmaing 1).granPending 6143 = false ∧ (dmaing 1).granClass 6143 = 0 ∧
    (with_ fun _ => (dmaing 1).toDev.setF (MEM_GRANULE 6143) MEM_GRANULE_PENDING 1).granPending 6143 = true ∧ (with_ fun d => d.setF (MEM_GRANULE 6143) MEM_GRANULE_PENDING 1).flag (MEM_GRANULE 6143) MEM_GRANULE_PENDING = true ∧
    up.flag (MEM_GRANULE 6143) MEM_GRANULE_PENDING = false ∧ (dmaing 1).setFree 0 = false ∧ up.selfRefreshOk 2 = false ∧ (dmaing 1).setOf 0 = some 0 ∧ ((dmaing 1).fld MEM_PWR MEM_PWR_SR_STATE).testBit 0 = false ∧
    ((dmaing 1).dramSpot 0).isSome = true ∧ (dmaing 1).rowDue 0 = false := by decide +kernel
theorem wit_DeviceMemory_power : let s := with_ fun _ => (((((dmaing 1).toDev.setF MEM_PWR MEM_PWR_SR_EN 1).setF PWR_ENVELOPE PWR_ENVELOPE_DRAM_SR 1).setF PWR_ENVELOPE PWR_ENVELOPE_LATENCY_NS 2000).setF MEM_PWR MEM_PWR_SR_IDLE_US 0).setBitF MEM_PWR MEM_PWR_SR_STATE 0 true
    s.selfRefreshOk 0 = true ∧ (s.fld MEM_PWR MEM_PWR_SR_STATE).testBit 0 = true ∧ (with_ fun d => (d.setF MEM_PPR MEM_PPR_AUTO 1).setRowBad [(0, ())]).rowDue 0 = true := by decide +kernel
/-- PF 0's link in CXL mode with a decoder over the first 256 MiB. -/
def cxled : State := with_ fun _ => ((((dmaing 1).toDev.setLs 0 HIF_LINK_STATUS_MODE 1).setLs 0 HIF_LINK_STATUS_LINK_UP 1).setLs 0 HIF_LINK_STATUS_CXL_CM 1).setHdm [(0, ⟨2 ^ 32, 2 ^ 29, 0, true, false⟩)]
theorem wit_DeviceMemory_cxl : cxled.flag (HIF_LINK_STATUS 0) HIF_LINK_STATUS_MODE = true ∧ cxled.flag (HIF_LINK_STATUS 0) HIF_LINK_STATUS_LINK_UP = true ∧ cxled.flag (HIF_LINK_STATUS 0) HIF_LINK_STATUS_CXL_CM = true ∧ cxled.frozen 0 = false ∧ cxled.hdmDpa 0 (2 ^ 32 + 64) = some 64 ∧ cxled.cxlServed 64 64 = true ∧
    cxled.hdmDpa 0 (2 ^ 32 + 2 ^ 28) = some (2 ^ 28) ∧ cxled.cxlServed (2 ^ 28) 64 = false := by decide +kernel
/-- An epoch that ended at `t` ns, with nothing counted. -/
def anEpoch (t : Nat) : MtrEpoch := { up.mtrOpen with start := 0, stop := t, lenS := 60 }
theorem wit_Metering : up.dueFirst .epochStop 0 = false ∧ (with_ fun d => d.setDue [⟨0, .epochStop, 0⟩]).dueFirst .epochStop 0 = true ∧ up.mtrOld = none ∧
    (with_ fun d => d.setMtrOld (some (anEpoch 5))).now < (anEpoch 5).stop + 1000000 ∧ (anEpoch 5).stop + 1000000 ≤ (with_ fun d => d.setNtu { d.ntu with acc := 1000005 * 2 ^ 32 }).now ∧ up.mtrHeld = none ∧
    up.mtrRoom ((anEpoch 5).tfs.length + 64) = (up.toDev, false) ∧ up.mtrBlocks = [] ∧ up.srcFrozen .ulyar = false ∧ up.sliceOn 5 = true ∧ MTR_SK_QUERY_GO.get 0 = 0 ∧
    MTR_SK_QUERY_GO.get (MTR_SK_QUERY_GO.set 1 0) = 1 := by decide +kernel
theorem wit_Metering_boundary : let d := up.toDev.setMtrOpen (anEpoch 60000000000)
    let e := (d.cxlSync d.mtrOpen.stop).graceEnd
    ((e.epochPlan e.mtrOpen).passed e.now).1 = 0 := by decide +kernel
/-- PF 0 able to issue, one signed block of no records waiting, and the metering ring enabled. -/
def publishing : State := with_ fun _ => (((ringed id).toDev.setMtrBlocks [⟨[], some []⟩]).setF MTR_RING_CFG MTR_RING_CFG_EN 1).setF MTR_RING_CFG MTR_RING_CFG_SIZE_LOG2 7
theorem wit_Metering_publish : publishing.fnCan (4096 + publishing.fld MTR_RING_CFG MTR_RING_CFG_PF) = true ∧ publishing.flag MTR_RING_CFG MTR_RING_CFG_EN = true ∧ publishing.runs = true ∧
    idxSub (publishing.fld MTR_RING_PROD MTR_RING_PROD_PROD) (publishing.fld MTR_RING_CONS MTR_RING_CONS_CONS) + (⟨[], some []⟩ : MtrBlock).slots ≤ 2 ^ publishing.fld MTR_RING_CFG MTR_RING_CFG_SIZE_LOG2 ∧
    (with_ fun d => ((d.setF MTR_BUF MTR_BUF_MIB 1).setF MEM_POP MEM_POP_SETS 1 |>.setF MEM_POP MEM_POP_CH_GIB 1 |>.setWipeFrom 6144).setF (MEM_GRANULE 0) MEM_GRANULE_CLASS 3).mtrRoom 64 = ((with_ fun d => ((d.setF MTR_BUF MTR_BUF_MIB 1).setF MEM_POP MEM_POP_SETS 1 |>.setF MEM_POP MEM_POP_CH_GIB 1 |>.setWipeFrom 6144).setF (MEM_GRANULE 0) MEM_GRANULE_CLASS 3).toDev, true) := by decide +kernel
theorem wit_MailboxChannels : up.hears (.pf 0 false) ∧ up.window 0 (.pf 0 false) = .open_ ∧ (up.mb 0).tx.length < 32 ∧ (up.mb 0).rx = [] ∧ (with_ fun d => d.setLs 3 HIF_LINK_STATUS_FLIT 1).window 5 (.pf 3 true) = .open_ ∧ up.window 5 (.pf 3 true) = .denied ∧ up.window 4 (.pf 3 false) = .denied ∧
    up.window 1 (.pf 3 false) = .none ∧ 32 ≤ ((asking 0 (List.replicate 32 0)).mb 0).tx.length ∧ MBX_CH_CTRL_ABORT.get 4 = 1 ∧ MBX_CH_CTRL_ABORT.get 3 = 0 ∧ (up.mb 5).out = [] := by decide +kernel
/-- Channel `c` holds the reply words `w`. -/
def answered (c : Nat) (w : List Nat) : State := with_ fun d => d.updMb c fun m => { m with rx := w }
theorem wit_MailboxChannels_rx : ((answered 3 [7]).mb 3).rx = [7] ∧ (up.mb 0).rx.length + (0 :: List.replicate 31 0).length ≤ 32 ∧ ((answered 3 [7]).mb 3).out = [] ∧
    32 < ((answered 3 [7]).mb 3).rx.length + (0 :: List.replicate 31 0).length ∧ ∀ c, c < 8 → ({ up.mb c with busy := false, out := [] } : Mbx).front = none := by decide +kernel
theorem wit_MailboxCommands : (asking 0 [0x01000000]).asks 0 1 0 0x01000000 [] ∧ (asking 0 [0x03550000]).asks 0 3 0 0x03550000 [] ∧ (asking 5 [0x04000004, 1, 0, 0, 16]).asks 5 4 4 0x04000004 [1, 0, 0, 16] ∧ (asking 0 []).runs = true := by decide +kernel
theorem wit_MailboxCommands_asks : (asking 0 [0x05000004, 1, 0, 0, 0]).asks 0 5 4 0x05000004 [1, 0, 0, 0] ∧ (asking 4 [0x06000004, 0, 0, 0, 16777216]).asks 4 6 4 0x06000004 [0, 0, 0, 16777216] ∧
    (asking 4 [0x07000002, 3, 0xFFFFFFFC]).asks 4 7 2 0x07000002 [3, 0xFFFFFFFC] ∧ ((asking 4 [0x07000002, 3, 0xFFFFFFFC]).mbTake 4).life = 2 ∧ (asking 4 [0x08000002, 0, 64]).asks 4 8 2 0x08000002 [0, 64] ∧
    (asking 5 [0x09000001, 3]).asks 5 9 1 0x09000001 [3] ∧ (asking 4 [0x0A000003, 0, 0, 1]).asks 4 10 3 0x0A000003 [0, 0, 1] := by decide +kernel
theorem wit_MailboxCommands_arg : ((asking 4 [0x06000004, 0, 0, 0, 16777216]).mbTake 4).argOk 4 [0, 0, 0, 16777216] 16777216 = true ∧ (asking 4 []).life ≠ 1 ∧
    ((asking 4 []).onDev fun d => d.setF MBX_LIFECYCLE MBX_LIFECYCLE_STATE 1).life = 1 ∧ up.life = 0 ∧ up.argOk 2 [0x100, 0, 0, 0] 0 = false ∧ up.argOk 2 [0x200, 0, 0, 0] 0 = true := by decide +kernel
/-- DRAM is fitted, and the words `w` wait in channel 4. -/
def sealing (w : List Nat) : State := with_ fun _ => ((((asking 4 w).toDev.setF MEM_POP MEM_POP_SETS 1).setF MEM_POP MEM_POP_CH_GIB 1).setWipeFrom 6144)
theorem wit_MailboxCommands_seal : (sealing [0x0A000003, 0, 2, 1]).asks 4 10 3 0x0A000003 [0, 2, 1] ∧ (0 + 2) * 2 ^ 28 ≤ ((sealing [0x0A000003, 0, 2, 1]).mbTake 4).capacity ∧
    ([0, 1].any fun g => ((sealing [0x0A000003, 0, 2, 1]).mbTake 4).granClass g != 0 || ((sealing [0x0A000003, 0, 2, 1]).mbTake 4).granPending g) = false ∧
    ([0, 1].any fun g => !((sealing [0x0A000003, 0, 2, 0]).mbTake 4).unsealOk g) = false ∧ (up.setPwrMode .safe).pwrMode = .safe := by decide +kernel
/-- PF 0 present with its link up and Bus Master Enable 0, where a request that names host memory waits. -/
theorem wit_MailboxCommands_waits : let s := (asking 0 [0x04000004, 0, 0, 0, 16]).onDev fun d => d.setLs 0 HIF_LINK_STATUS_BME 0
    s.asks 0 4 4 0x04000004 [0, 0, 0, 16] ∧ s.reqWaits 0 4 true true 4 = true ∧ (asking 5 [0x04000004, 1, 0, 0, 16]).reqWaits 5 4 true true 4 = false := by decide +kernel
theorem wit_MailboxCommands_safe : let s := with_ fun d => (d.updMb 6 fun m => { m with tx := [0x01000000] }).setPwrMode .safe
    s.pwrMode = .safe ∧ s.asks 6 1 0 0x01000000 [] := by decide +kernel
theorem wit_BmcTransports : up.runs = true ∧ (up.mb 6).busy = false ∧ (up.mb 6).tx = [] ∧ 0x01000000 % 32 = ([] : List Nat).length ∧ up.spdm = 0 ∧ (with_ fun d => d.setSpdm 3).spdm = 3 ∧
    (with_ fun d => d.setSpdm 2).spdm = 2 ∧ (up.measurement 5).isSome = true ∧ ((with_ fun d => d.updMb 6 fun m => { m with busy := true }).mb 6).busy = true ∧ up.pwrMode ≠ .held := by decide +kernel
theorem wit_Reliability : 5 < up.fld RAS_SRAM_CFG RAS_SRAM_CFG_WARN_PPM ∧ up.flag (RAS_AGING 235) RAS_AGING_WARN = false ∧ up.runs = true ∧ up.hears (.pf 0 true) ∧ RAS_REC_SEL_CLEAR.get 0x400000FF = 1 ∧
    (up.sramFixed.look (sramRow .hub 0)).isNone = true ∧ up.sramBad.look (sramRow (.quad 47) 0) = none ∧ up.rasFind 5 = none ∧ up.ras.firstFree 256 = 0 := by decide +kernel
theorem wit_Reliability_rows : let s := with_ fun d => ((d.setSramBad [(sramRow .hub 3, ())]).setSramFixed [(sramRow (.buffer 5) 3, ())]).setF RAS_SRAM_CFG RAS_SRAM_CFG_CE_LIMIT 0
    (s.sramBad.look (sramRow .hub 3)).isSome = true ∧ (s.sramFixed.look (sramRow (.buffer 5) 3)).isSome = true ∧ s.sramErr.lookD 0 (0, 0) = (0, 0) ∧ s.scrubPeriod = 0 ∧
    max 1 (s.fld RAS_SRAM_CFG RAS_SRAM_CFG_CE_LIMIT) = 1 := by decide +kernel
theorem wit_Reliability_record : (with_ fun d => d.report 5 2 0 hubUnit 0).rasFind 5 = some (0, ⟨0, 0, 5, 1, 1, 2, false, 0xFF, 0xFF, 0xFF, 0⟩) := by decide +kernel
theorem wit_Reliability_full : (with_ fun d => d.setRas ((List.range 256).map fun i => (i, ⟨0, 0, i + 1, 1, 1, 2, false, 0xFF, 0xFF, 0xFF, 0⟩))).ras.firstFree 256 = 256 ∧
    (with_ fun d => d.setRas ((List.range 256).map fun i => (i, ⟨0, 0, i + 1, 1, 1, 2, false, 0xFF, 0xFF, 0xFF, 0⟩))).rasFind 0x0F27 = none := by decide +kernel
theorem wit_PressureStates : up.hears (.pf 0 false) ∧ (up.rd PWR_ALLOW).toNat.testBit (PWR_CMD_TARGET.get 0) = true ∧ (setBits 6 (PWR_HALF_SLICES_MASK.get 7)).length = 3 ∧ up.runs = true ∧ up.pfPresent 0 = true ∧ up.pfPresent 1 = false ∧
    (0 : Nat) = b2n up.straps.perstSel ∧ up.ps PWR_STATUS_STATE ≠ 2 ∧ (with_ fun d => d.setPs PWR_STATUS_STATE 2).ps PWR_STATUS_STATE = 2 ∧ up.easyEpoch = none ∧ up.pwrMode ≠ .easy ∧
    up.fld PWR_ENVELOPE PWR_ENVELOPE_CAP_W * 10 = 0 := by decide +kernel
theorem wit_PressureStates_easy : let s := with_ fun d => (d.setEasyEpoch (some 0)).setPs PWR_STATUS_EASY_WAIT 1
    s.runs = true ∧ s.easyEpoch = some 0 ∧ s.flag PWR_STATUS PWR_STATUS_EASY_WAIT = true ∧ s.allFree = true ∧ s.publishedTo 0 = true ∧ (with_ fun d => d.setPwrMode .easy).pwrMode = .easy := by decide +kernel
theorem wit_PressureStates_transition : (∀ i, i < 6 → (with_ fun d => d.setPs PWR_STATUS_IN_TRANSITION 1).pwrNext.2.testBit i = true → (with_ fun d => d.setPs PWR_STATUS_IN_TRANSITION 1).sliceOn i = true) ∧ (with_ fun d => d.setPs PWR_STATUS_IN_TRANSITION 1).flag PWR_STATUS PWR_STATUS_IN_TRANSITION = true ∧ up.flag PWR_STATUS PWR_STATUS_IN_TRANSITION = false := by decide +kernel
theorem wit_PressureStates_cap : let s := with_ fun d => (d.setF PWR_ENVELOPE PWR_ENVELOPE_CAP_W 10).setF PWR_ENVELOPE PWR_ENVELOPE_CLK_GATE 1
    s.fld PWR_ENVELOPE PWR_ENVELOPE_CAP_W * 10 = 100 ∧ s.flag PWR_ENVELOPE PWR_ENVELOPE_CLK_GATE = true := by decide +kernel
/-- A boot in which every test passes and every channel trains. -/
def aBoot : BootIn := ⟨⟨false, false, false, false, false, false⟩, [], 0, true, 0, 0⟩
theorem wit_ResetsAndBoot : up.pwrMode ≠ .easy ∧ up.lifeNext = none ∧ up.runs = true ∧ up.srcFrozen .ulyar = false ∧ up.sliceOn 5 = true ∧ (0 : Nat) ≠ up.wipeFrom ∧ up.bootReady = false ∧
    (with_ fun d => d.setWipeFrom 6143).wipeFrom = 6143 ∧ (with_ fun d => d.setPwrMode .warm).pwrMode = .warm ∧ (up.fld PWR_RESET_STATUS PWR_RESET_STATUS_SLICE_BUSY).testBit 0 = false := by decide +kernel
theorem wit_ResetsAndBoot_life : let s := with_ fun d => d.setLifeNext (some ⟨1, 4, 0, []⟩)
    s.lifeNext = some ⟨1, 4, 0, []⟩ ∧ s.pwrMode ≠ .held ∧ s.lifeRead ⟨1, 4, 0, []⟩ = true ∧ (with_ fun d => d.updMb 4 fun m => { m with rx := [0] }).lifeRead ⟨1, 4, 0, []⟩ = false := by decide +kernel
theorem wit_ResetsAndBoot_frozen : (frozenLink 1).srcFrozen (.pf 0 false) = true ∧ (frozenLink 1).runs = true := by decide +kernel
theorem wit_ResetsAndBoot_bist : ∃ k, ((up.toDev.cold aBoot.straps false).avsWrite true).bist aBoot = (k, none) := ⟨_, rfl⟩

end Sys2Proof.Tests
end

section
open Sys2Proof Sys2Proof.Machine
namespace Sys2Proof.Machine

/-! Fields by their bits: setting a field changes no bit but its own, and its value depends on no bit but its own. -/

/-- The bits of a field's mask are those from its lowest bit, as many as its width, that lie within the register. -/
theorem Fld.getLsbD_mask (f : Fld) (i : Nat) : f.mask.getLsbD i = (decide (i < 64) && (decide (f.lo ≤ i) && decide (i - f.lo < f.w))) := by
  rw [Fld.mask, BitVec.getLsbD_ofNat, Nat.testBit_mul_two_pow, Nat.testBit_two_pow_sub_one]

/-- The bits of a field's value are the register's from the field's lowest bit, as many as its width. -/
theorem Fld.testBit_get (f : Fld) (v : Word) (j : Nat) : (f.get v).testBit j = (decide (j < f.w) && v.getLsbD (j + f.lo)) := by
  rw [Fld.get, Nat.testBit_mod_two_pow, Nat.testBit_div_two_pow, BitVec.testBit_toNat]

/-- Setting a field keeps every bit outside its mask. -/
theorem Fld.getLsbD_set_of_mask_false {f : Fld} {i : Nat} (h : f.mask.getLsbD i = false) (x : Nat) (v : Word) :
    (f.set x v).getLsbD i = v.getLsbD i := by
  have hx : (BitVec.ofNat 64 (x % 2 ^ f.w * 2 ^ f.lo)).getLsbD i = false := by
    rw [BitVec.getLsbD_ofNat, Nat.testBit_mul_two_pow, Nat.testBit_mod_two_pow, ← Bool.and_assoc (decide (f.lo ≤ i)), ← Bool.and_assoc,
      ← f.getLsbD_mask, h, Bool.false_and]
  have hi : v.getLsbD i = true → decide (i < 64) = true := fun hv => decide_eq_true (BitVec.lt_of_getLsbD hv)
  rw [Fld.set, BitVec.getLsbD_or, BitVec.getLsbD_and, BitVec.getLsbD_not, h, hx, Bool.not_false, Bool.and_true, Bool.or_false, Bool.and_eq_left_iff_imp]
  exact hi

/-- Two values that agree on a field's mask hold the same value in the field. -/
theorem Fld.get_congr {f : Fld} {v w : Word} (h : ∀ i, f.mask.getLsbD i = true → v.getLsbD i = w.getLsbD i) : f.get v = f.get w := by
  refine Nat.eq_of_testBit_eq fun j => ?_
  rw [f.testBit_get, f.testBit_get]
  by_cases hj : j < f.w ∧ j + f.lo < 64
  · rw [h (j + f.lo) (by rw [f.getLsbD_mask, decide_eq_true hj.2, decide_eq_true (Nat.le_add_left ..), Nat.add_sub_cancel, decide_eq_true hj.1]; rfl)]
  · obtain hj | hj : ¬ j < f.w ∨ 64 ≤ j + f.lo := by omega
    · simp only [hj, decide_false, Bool.false_and]
    · rw [BitVec.getLsbD_of_ge _ _ hj, BitVec.getLsbD_of_ge _ _ hj]

/-! Register tables: the bits that the fields cover, and the folds over the fields that read and write a register. -/

/-- Joining the masks of a list of fields to `b` sets the bits of those masks. -/
theorem getLsbD_foldl_or_mask (l : List (Fld × Acc)) (b : Word) (i : Nat) :
    (l.foldl (fun v fa => v ||| fa.1.mask) b).getLsbD i = (b.getLsbD i || l.any fun fa => fa.1.mask.getLsbD i) := by
  induction l generalizing b with
  | nil => rw [List.foldl_nil, List.any_nil, Bool.or_false]
  | cons fa l ih => rw [List.foldl_cons, ih, BitVec.getLsbD_or, List.any_cons, Bool.or_assoc]

/-- The bits a table uses are those of its fields' masks. -/
theorem RegDesc.getLsbD_used (r : RegDesc) (i : Nat) : r.used.getLsbD i = r.flds.any fun fa => fa.1.mask.getLsbD i := by
  rw [RegDesc.used, getLsbD_foldl_or_mask, BitVec.ofNat_eq_ofNat, BitVec.getLsbD_zero, Bool.false_or]

/-- A bit of a field's mask is a used bit. -/
theorem RegDesc.getLsbD_used_of_mem {r : RegDesc} {fa : Fld × Acc} (h : fa ∈ r.flds) {i : Nat} (hi : fa.1.mask.getLsbD i = true) :
    r.used.getLsbD i = true := by
  rw [r.getLsbD_used]
  exact List.any_eq_true.2 ⟨fa, h, hi⟩

/-- A reserved bit lies in no field's mask. -/
theorem RegDesc.getLsbD_mask_of_reserved {r : RegDesc} {i : Nat} (hi : r.used.getLsbD i = false) {fa : Fld × Acc} (h : fa ∈ r.flds) :
    fa.1.mask.getLsbD i = false :=
  Bool.eq_false_iff.2 fun hm => Bool.eq_false_iff.1 hi (RegDesc.getLsbD_used_of_mem h hm)

/-- Two words that agree on every reserved bit agree outside the used ones. -/
theorem RegDesc.and_not_used_congr {r : RegDesc} {v w : Word} (h : ∀ i, r.used.getLsbD i = false → v.getLsbD i = w.getLsbD i) :
    v &&& ~~~ r.used = w &&& ~~~ r.used := by
  refine BitVec.eq_of_getLsbD_eq fun i hi => ?_
  rw [BitVec.getLsbD_and, BitVec.getLsbD_and, BitVec.getLsbD_not]
  cases hu : r.used.getLsbD i with
  | false => rw [h i hu]
  | true => simp only [Bool.not_true, Bool.and_false]

/-- A register's value has 0 in every reserved bit. -/
theorem Dev.getLsbD_regValue_of_reserved (d : Dev) {r : RegDesc} (a : Nat) {i : Nat} (hi : r.used.getLsbD i = false) :
    (d.regValue r a).getLsbD i = false := by
  unfold Dev.regValue
  refine List.foldlRecOn (motive := fun x : Word => x.getLsbD i = false) r.flds _ BitVec.getLsbD_zero fun v hv fa hfa => ?_
  split
  · exact hv
  · rw [Fld.getLsbD_set_of_mask_false (RegDesc.getLsbD_mask_of_reserved hi hfa), hv]

/-- A write keeps every reserved bit. -/
theorem RegDesc.getLsbD_written_of_reserved {r : RegDesc} {i : Nat} (hi : r.used.getLsbD i = false) (old v : Word) :
    (r.written old v).getLsbD i = old.getLsbD i := by
  unfold RegDesc.written
  refine List.foldlRecOn (motive := fun x : Word => x.getLsbD i = old.getLsbD i) r.flds _ rfl fun w hw fa hfa => ?_
  have hset : ∀ x, (fa.1.set x w).getLsbD i = old.getLsbD i := fun x => by
    rw [Fld.getLsbD_set_of_mask_false (RegDesc.getLsbD_mask_of_reserved hi hfa), hw]
  split
  · exact hset _
  · exact hset _
  · exact hset _
  · exact hw

/-- A write depends on the written value through its fields alone. -/
theorem RegDesc.written_congr_of_get {r : RegDesc} {v w : Word} (h : ∀ fa ∈ r.flds, fa.1.get v = fa.1.get w) (old : Word) :
    r.written old v = r.written old w := by
  unfold RegDesc.written
  refine List.foldl_rel (r := Eq) rfl fun fa hfa x y hxy => ?_
  rw [hxy, h fa hfa]

/-- Two values that agree on the used bits hold the same value in each field of the table. -/
theorem RegDesc.get_eq_of_and_used_eq {r : RegDesc} {v w : Word} (h : v &&& r.used = w &&& r.used) {fa : Fld × Acc} (hfa : fa ∈ r.flds) :
    fa.1.get v = fa.1.get w := by
  refine Fld.get_congr fun i hi => ?_
  have hbit := congrArg (BitVec.getLsbD · i) h
  simpa only [BitVec.getLsbD_and, RegDesc.getLsbD_used_of_mem hfa hi, Bool.and_true] using hbit

end Sys2Proof.Machine

/-- Settles O9: what a register reads as and what a write makes of it are folds of field accesses over the table's fields, so that neither touches
a bit outside their masks, and the written value counts through its fields alone. -/
theorem reservedFields : Obligations.ReservedFields := by
  intro d r a old v w
  refine ⟨?_, fun h => RegDesc.written_congr_of_get (fun fa hfa => RegDesc.get_eq_of_and_used_eq h hfa) old, ?_⟩
  · calc d.regValue r a &&& ~~~ r.used
        = 0 &&& ~~~ r.used := RegDesc.and_not_used_congr fun i hi => (d.getLsbD_regValue_of_reserved a hi).trans BitVec.getLsbD_zero.symm
      _ = 0 := BitVec.zero_and
  · exact RegDesc.and_not_used_congr fun i hi => RegDesc.getLsbD_written_of_reserved hi old v

end

section
open Sys2Proof Sys2Proof.Machine
namespace Sys2Proof.Machine

/-! Bits of a mask: setting one bit gives it its value and leaves every other. -/

/-- Adding 2^n to a number whose bit n is 0 changes no other bit: below n nothing is added, and above n nothing carries. -/
theorem testBit_two_pow_add_of_ne {m n i : Nat} (hm : m.testBit n = false) (hi : i ≠ n) : (2 ^ n + m).testBit i = m.testBit i := by
  obtain hlt | hgt := Nat.lt_or_gt_of_ne hi
  · exact Nat.testBit_two_pow_add_gt hlt m
  · have heven : m / 2 ^ n % 2 = 0 := by simpa [Nat.testBit_eq_decide_div_mod_eq] using hm
    have hnone : (2 ^ n + m) / 2 ^ (n + 1) = m / 2 ^ (n + 1) := by
      rw [Nat.pow_succ, ← Nat.div_div_eq_div_mul, ← Nat.div_div_eq_div_mul, Nat.add_div_left _ (Nat.two_pow_pos n)]
      omega
    calc (2 ^ n + m).testBit i
        = ((2 ^ n + m) / 2 ^ (n + 1)).testBit (i - (n + 1)) := by rw [Nat.testBit_div_two_pow, Nat.sub_add_cancel hgt]
      _ = (m / 2 ^ (n + 1)).testBit (i - (n + 1)) := by rw [hnone]
      _ = m.testBit i := by rw [Nat.testBit_div_two_pow, Nat.sub_add_cancel hgt]

/-- Setting a bit to what it is changes nothing. -/
@[simp] theorem setBit_testBit (m n : Nat) : setBit m n (m.testBit n) = m := if_pos rfl

/-- The two numbers that setting bit n can give are one whose bit n is 0, and that with 2^n added. -/
theorem exists_setBit_eq (m n : Nat) : ∃ q, q.testBit n = false ∧ ∀ b, setBit m n b = if b then 2 ^ n + q else q := by
  cases hm : m.testBit n with
  | false => exact ⟨m, hm, fun b => by cases b <;> simp [setBit, hm, Nat.add_comm]⟩
  | true =>
    have hsplit : 2 ^ n + (m - 2 ^ n) = m := Nat.add_sub_cancel' (Nat.ge_two_pow_of_testBit hm)
    have hrest : (m - 2 ^ n).testBit n = false := by
      rw [← hsplit, Nat.testBit_two_pow_add_eq] at hm
      simpa using hm
    exact ⟨m - 2 ^ n, hrest, fun b => by cases b <;> simp [setBit, hm, hsplit]⟩

/-- The bit that is set reads as it was set. -/
@[simp] theorem testBit_setBit_same (m n : Nat) (b : Bool) : (setBit m n b).testBit n = b := by
  obtain ⟨q, hq, hset⟩ := exists_setBit_eq m n
  cases b <;> simp [hset, hq, Nat.testBit_two_pow_add_eq]

/-- Every other bit reads as it did. -/
theorem testBit_setBit_other {n i : Nat} (hi : i ≠ n) (m : Nat) (b : Bool) : (setBit m n b).testBit i = m.testBit i := by
  obtain ⟨q, hq, hset⟩ := exists_setBit_eq m n
  have hall : ∀ c, (setBit m n c).testBit i = q.testBit i := fun c => by
    cases c <;> simp [hset, testBit_two_pow_add_of_ne hq hi]
  calc (setBit m n b).testBit i
      = (setBit m n (m.testBit n)).testBit i := by rw [hall, hall]
    _ = m.testBit i := by rw [setBit_testBit]

/-! A thread's registers and predicates: what reads back after a write (07 R165). -/

@[simp] theorem Thr.rg_zero (x : Thr) : x.rg 0 = 0 := rfl
@[simp] theorem Thr.setG_zero (x : Thr) (v : Word) : x.setG 0 v = x := rfl
@[simp] theorem Thr.pred_zero (x : Thr) : x.pred 0 = true := rfl
@[simp] theorem Thr.setP_zero (x : Thr) (b : Bool) : x.setP 0 b = x := rfl

@[simp] theorem Thr.rg_setG_same {n : Nat} (hn : n ≠ 0) (x : Thr) (v : Word) : (x.setG n v).rg n = v := by
  simp [Thr.rg, Thr.setG, hn]

theorem Thr.rg_setG_other {n m : Nat} (hm : m ≠ n) (x : Thr) (v : Word) : (x.setG n v).rg m = x.rg m := by
  by_cases hn : n = 0
  · rw [hn, Thr.setG_zero]
  · simp [Thr.rg, Thr.setG, hn, Tab.lookD_put_other _ _ _ _ _ hm]

@[simp] theorem Thr.pred_setP_same {n : Nat} (hn : n ≠ 0) (x : Thr) (b : Bool) : (x.setP n b).pred n = b := by
  simp [Thr.pred, Thr.setP, hn]

theorem Thr.pred_setP_other {n m : Nat} (hm : m ≠ n) (x : Thr) (b : Bool) : (x.setP n b).pred m = x.pred m := by
  by_cases hn : n = 0
  · rw [hn, Thr.setP_zero]
  · simp [Thr.pred, Thr.setP, hn, testBit_setBit_other hm]

/-! Threads of the device: a change of a thread, and what the beginning of an issue leaves of it. -/

@[simp] theorem Dev.thrAt_updThr_same (d : Dev) (k : Nat) (f : Thr → Thr) : (d.updThr k f).thrAt k = f (d.thrAt k) :=
  Tab.lookD_put_same ..

@[simp] theorem Dev.thrAt_count (d : Dev) (a n k : Nat) : (d.count a n).thrAt k = d.thrAt k := rfl

@[simp] theorem Dev.thrAt_meterAdd (d : Dev) (tf i n k : Nat) : (d.meterAdd tf i n).thrAt k = d.thrAt k := by
  unfold Dev.meterAdd
  split <;> rfl

@[simp] theorem Dev.thrAt_roundTakes (d : Dev) (j k : Nat) : (d.roundTakes j).thrAt k = d.thrAt k := by
  unfold Dev.roundTakes
  split <;> rfl

/-- Counting an issue ends the holding of its thread's access, or counts a cycle and ends an earlier SEND. -/
theorem Dev.thrAt_issueCounts (d : Dev) (k : Nat) : (d.issueCounts k).thrAt k =
    if (d.thrAt k).heldAcc then { d.thrAt k with heldAcc := false }
    else { d.thrAt k with cycles := ((d.thrAt k).cycles + 1) % 2 ^ 64, sending := none, heldSeq := 0 } := by
  cases h : (d.thrAt k).heldAcc with
  | true => simp only [Dev.issueCounts, h, if_true, Dev.thrAt_updThr_same]
  | false =>
    simp only [Dev.issueCounts, h, Bool.false_eq_true, if_false]
    split <;> simp [h]

/-- An instruction begins at its thread's PC, in the code region of its epoch slot. -/
theorem State.began_pc_slot (s : State) (th : ThId) :
    ((s.began th).thrAt (thKey th)).pc = (s.thrAt (thKey th)).pc ∧ ((s.began th).thrAt (thKey th)).slot = (s.thrAt (thKey th)).slot := by
  unfold State.began State.onDev
  simp only [Dev.thrAt_issueCounts, Dev.thrAt_updThr_same]
  split <;> exact ⟨rfl, rfl⟩

/-- A transfer to a target on its 4-byte boundary within the code region goes there, after `f` (07 R185). -/
theorem transfer_eq_some {target : Thr → Nat} {f : Thr → Thr} {k : Nat} {s : State} (h4 : target (s.thrAt k) % 4 = 0)
    (hlo : codeBase (s.thrAt k).slot ≤ target (s.thrAt k)) (hhi : target (s.thrAt k) < codeBase (s.thrAt k).slot + 0x10000) :
    transfer target f k s = some (s.onDev fun d => d.updThr k fun x => { f x with pc := target (s.thrAt k) }) := by
  have hin : (target (s.thrAt k) % 4 != 0 || target (s.thrAt k) < codeBase (s.thrAt k).slot || codeBase (s.thrAt k).slot + 0x10000 ≤ target (s.thrAt k)) = false := by
    rw [bne_eq_false_iff_eq.2 h4, decide_eq_false (Nat.not_lt.2 hlo), decide_eq_false (Nat.not_le.2 hhi)]
    rfl
  unfold transfer
  exact if_neg (Bool.eq_false_iff.1 hin)

end Sys2Proof.Machine

/-- Settles O27: g0 and p0 by their definitions; every other register by the table's read after a write, every other predicate by the bit's. A CALL
begins with its thread's PC and epoch slot as they were, so its target and its return address are those of the state before. -/
theorem hardwiredRegisters : Obligations.HardwiredRegisters := by
  refine ⟨fun x v b => ⟨x.rg_zero, x.setG_zero v, x.pred_zero, x.setP_zero b⟩,
    fun x n m v hn => ⟨Thr.rg_setG_same hn x v, fun hm => Thr.rg_setG_other hm x v⟩,
    fun x n m b hn => ⟨Thr.pred_setP_same hn x b, fun hm => Thr.pred_setP_other hm x b⟩, fun s th x hs => ?_⟩
  intro a h4 hlo hhi
  obtain ⟨hpc, hslot⟩ := s.began_pc_slot th
  have ha : pcRel 22 x.disp.val ((s.began th).thrAt (thKey th)) = a := by simp only [a, pcRel, hpc]
  rw [← hslot, ← ha] at hlo hhi
  rw [← ha] at h4
  refine ⟨_, issue_some hs (transfer_eq_some h4 hlo hhi), ?_⟩
  simp only [State.onDev, Dev.thrAt_updThr_same]
  exact ⟨(Thr.rg_setG_same (by decide) _ _).trans (by rw [hpc]), ha⟩

end

section
open Sys2Proof Sys2Proof.Machine
namespace Sys2Proof.Machine

/-! What every operation on a state keeps: the queue, and the canonical form of memory. -/

/-- `t` has the queue of `s`, and canonical memory where `s` has. -/
structure State.Keeps (s t : State) : Prop where
  queue : t.pending = s.pending
  memOk : s.memOk → t.memOk

@[simp] theorem State.Keeps.refl (s : State) : s.Keeps s := ⟨rfl, id⟩

theorem State.Keeps.trans {s t u : State} (h : s.Keeps t) (h' : t.Keeps u) : s.Keeps u :=
  ⟨h'.queue.trans h.queue, fun hs => h'.memOk (h.memOk hs)⟩

/-- Another device, and memory made canonical from canonical memory. -/
theorem State.Keeps.of_mem {s t : State} (h : s.Keeps t) (d : Dev) {m : Memory} (hm : t.memOk → m.wf = true) : s.Keeps { t with toDev := d, mem := m } :=
  h.trans ⟨rfl, hm⟩

theorem State.Keeps.withDev {s t : State} (h : s.Keeps t) (d : Dev) : s.Keeps { t with toDev := d } := h.trans ⟨rfl, id⟩

theorem State.Keeps.onDev {s t : State} (h : s.Keeps t) (f : Dev → Dev) : s.Keeps (t.onDev f) := h.withDev _

@[simp] theorem State.keeps_withDev {s t : State} (d : Dev) : s.Keeps { t with toDev := d } ↔ s.Keeps t := ⟨fun h => ⟨h.queue, h.memOk⟩, fun h => h.withDev d⟩

@[simp] theorem State.keeps_onDev {s t : State} (f : Dev → Dev) : s.Keeps (t.onDev f) ↔ s.Keeps t := State.keeps_withDev _

/-- A fold of steps that each keep queue and memory. -/
theorem State.Keeps.foldl {α : Type} {f : State → α → State} (hf : ∀ (t : State) (x : α), t.Keeps (f t x)) {s t : State} (h : s.Keeps t) (l : List α) : s.Keeps (l.foldl f t) :=
  List.foldlRecOn l f h fun u hu x _ => hu.trans (hf u x)

/-- A fold of byte writes keeps the form of memory. -/
theorem Memory.wf_foldl {α : Type} {f : Memory → α → Memory} (hf : ∀ m x, m.wf = true → (f m x).wf = true) {m : Memory} (h : m.wf = true) (l : List α) : (l.foldl f m).wf = true :=
  List.foldlRecOn l f h fun m hm x _ => hf m x hm

section
variable {s t : State}

@[simp] theorem State.Keeps.store (h : s.Keeps t) (a : Nat) (bs : List Byte) : s.Keeps (t.store a bs) :=
  h.of_mem _ (Memory.wf_writeN bs t.mem a)

@[simp] theorem State.Keeps.putBytes (h : s.Keeps t) (k : Nat) (x : Spot) (bs : List Byte) : s.Keeps (t.putBytes k x bs) := by
  cases x with
  | mem a _ => exact h.of_mem _ (Memory.wf_writeN bs t.mem a)
  | deck o => exact h.withDev _
  | window o => exact h.withDev _

/-! Keys (11). -/

/- The definition is unfolded as a function, before it meets its arguments: applied, the kernel would compute the seal's check to find the pair that the definition takes apart. -/
@[simp] theorem State.Keeps.writeRecord (h : s.Keeps t) (k : Nat) (bs : List Byte) : s.Keeps (t.writeRecord k bs) := by
  generalize hf : State.writeRecord = f
  delta State.writeRecord at hf
  subst hf
  dsimp -iota only
  generalize t.sealedCheck (t.recordAt k) 128 = p
  obtain ⟨d, ok⟩ := p
  refine h.of_mem _ fun hm => ?_
  split
  · exact Memory.wf_writeN bs _ _ hm
  · exact hm

@[simp] theorem State.Keeps.fetchSlot (h : s.Keeps t) (k : Nat) (miss : Bool) : s.Keeps (t.fetchSlot k miss) := by
  unfold State.fetchSlot
  split
  · exact h
  · split
    · exact h
    · generalize t.sealedCheck (t.recordAt k) 128 = p
      obtain ⟨d, ok⟩ := p
      dsimp only
      split
      · exact h.withDev _
      · exact h.withDev _

@[simp] theorem State.Keeps.keyRun (h : s.Keeps t) (op k : Nat) : s.Keeps (t.keyRun op k).1 := by
  unfold State.keyRun
  split
  case h_2 =>
    dsimp only
    split
    · exact h
    · split
      · exact h
      · simp [h]
  all_goals simp [h]

@[simp] theorem State.Keeps.keyCmd (h : s.Keeps t) (src : Src) (op k : Nat) : s.Keeps (t.keyCmd src op k) := by
  unfold State.keyCmd
  split
  · exact h.withDev _
  · dsimp only
    split
    · exact h.withDev _
    · split
      · exact h.withDev _
      · exact (h.keyRun op k).withDev _

@[simp] theorem State.Keeps.recallDone (h : s.Keeps t) : s.Keeps t.recallDone :=
  (State.Keeps.foldl (fun u k => ((State.Keeps.refl u).writeRecord k _).withDev _) h _).withDev _

/-! The ends of offload commands, and the DMA engine (07, 15). -/

@[simp] theorem State.Keeps.opEnds (h : s.Keeps t) (n : Nat) (o : OpRec) (c r : Nat) : s.Keeps (t.opEnds n o c r) := by
  unfold State.opEnds
  dsimp only
  split
  · exact h.onDev _
  · split <;> simp [h]

@[simp] theorem State.Keeps.dmaRefused (h : s.Keeps t) (n : Nat) : s.Keeps (t.dmaRefused n) := by
  unfold State.dmaRefused
  split
  · split
    · exact h
    · exact h.opEnds ..
  · exact h

@[simp] theorem State.Keeps.dmaEnds (h : s.Keeps t) (c : Nat) (w : DmaFrom) (b : List Byte) (code r : Nat) : s.Keeps (t.dmaEnds c w b code r) := by
  unfold State.dmaEnds
  dsimp only
  split
  · exact (h.onDev _).opEnds ..
  · exact (h.onDev _).onDev _

/-- A DMA write that takes place keeps queue and memory's form. -/
theorem State.Keeps.dmaWrite (h : s.Keeps t) {c : Nat} {w : DmaFrom} {j : DmaJob} {a : Nat} {bs : List Byte} {u : State}
    (hu : t.dmaWrite c w j a bs = .ok u) : s.Keeps u := by
  have hmem : ∀ {g : DmaGot Nat}, (match g with | .ok m => DmaGot.ok (t.store m bs) | .wait d => .wait d | .fails e c => .fails e c) = .ok u → s.Keeps u := by
    intro g hg
    cases g <;> cases hg
    exact h.store ..
  unfold State.dmaWrite at hu
  dsimp only at hu
  split at hu
  · exact hmem hu
  · exact hmem hu
  · split at hu <;> cases hu
    exact h.onDev _
  · split at hu
    · split at hu <;> cases hu
      exact h.onDev _
    · cases hu
  · cases hu

@[simp] theorem State.Keeps.dmaBurst (h : s.Keeps t) (c : Nat) (w : DmaFrom) (b : List Byte) : s.Keeps (t.dmaBurst c w b).1 := by
  unfold State.dmaBurst
  dsimp only
  split
  · simpa using h
  · split
    · exact ((h.onDev _).onDev _).dmaEnds ..
    · exact (h.onDev _).withDev _
    · split
      · split
        · exact ((h.onDev _).onDev _).dmaEnds ..
        · split
          · exact ((h.onDev _).onDev _).dmaEnds ..
          · split
            · exact (((h.onDev _).onDev _).onDev _).dmaEnds ..
            · simpa using h
      · split
        · exact ((h.onDev _).onDev _).dmaEnds ..
        · split
          · exact (((h.onDev _).onDev _).onDev _).dmaEnds ..
          · exact ((h.onDev _).onDev _).withDev _
          · rename_i hu
            have hu := State.Keeps.dmaWrite ((h.onDev _).onDev _) hu
            split
            · exact (hu.onDev _).dmaEnds ..
            · simpa using hu

theorem State.Keeps.dmaBursts (c : Nat) (w : DmaFrom) (b : List Byte) : ∀ (k : Nat) {t : State}, s.Keeps t → s.Keeps (State.dmaBursts c w b k t)
  | 0, _, h => h
  | k + 1, t, h => by
    have hb := h.dmaBurst c w b
    unfold State.dmaBursts
    split
    · rename_i hu
      rw [hu] at hb
      exact State.Keeps.dmaBursts c w b k hb
    · rename_i hu
      rw [hu] at hb
      exact hb

theorem State.Keeps.dmaAbort (c : Nat) : ∀ (n : Nat) {t : State}, s.Keeps t → s.Keeps (State.dmaAbort c n t)
  | 0, _, h => h
  | n + 1, t, h => by
    unfold State.dmaAbort
    split
    · exact State.Keeps.dmaAbort c n (h.dmaEnds ..)
    · exact h

theorem State.Keeps.dmaGo (h : s.Keeps t) (src : Src) (c : Nat) : s.Keeps (t.dmaGo src c) := by
  unfold State.dmaGo
  split
  · exact h
  · split
    · exact h.dmaEnds ..
    · exact h.onDev _

@[simp] theorem State.Keeps.dmaSquash (h : s.Keeps t) (f : Nat) : s.Keeps (t.dmaSquash f) := by
  refine State.Keeps.foldl (fun u c => ?_) h _
  split
  · dsimp only
    split
    · exact (State.Keeps.refl u).dmaEnds ..
    · exact .refl u
  · exact .refl u

/-! Banks, granules and images (09, 15, 03). -/

@[simp] theorem State.Keeps.excAccess (h : s.Keeps t) (x : ExcAcc) : s.Keeps (t.excAccess x) := by
  unfold State.excAccess
  dsimp only
  split
  · exact h.of_mem _ (Memory.wf_writeLE t.mem _ _ _)
  · split <;> exact h.onDev _

@[simp] theorem State.Keeps.touchBuf (h : s.Keeps t) (x n : Nat) : s.Keeps (t.touchBuf x n) := by
  unfold State.touchBuf
  split
  · exact h
  · exact h.onDev _

theorem State.Keeps.granZeroed (h : s.Keeps t) (g : Nat) : s.Keeps (t.granZeroed g) := by
  unfold State.granZeroed
  split
  · exact h
  · exact h.of_mem _ (Memory.wf_zero t.mem _ _)

@[simp] theorem State.Keeps.placeData (h : s.Keeps t) (sl : Nat) (b : CodeBody) : s.Keeps (t.placeData sl b) :=
  h.of_mem t.toDev fun hm => Memory.wf_foldl (fun m _ => Memory.wf_writeN _ m _) (Memory.wf_foldl (fun m _ => Memory.wf_writeN _ m _) hm _) _

@[simp] theorem State.Keeps.putCode (h : s.Keeps t) (e sl : Nat) : s.Keeps (t.putCode e sl) := by
  unfold State.putCode
  split
  · exact h
  · exact h.of_mem t.toDev fun hm => Memory.wf_foldl (fun m _ => Memory.wf_writeN _ m _) hm _

@[simp] theorem State.Keeps.placeCode (h : s.Keeps t) (e sl : Nat) : s.Keeps (t.placeCode e sl) := by
  unfold State.placeCode
  split
  · exact (h.putCode e sl).placeData ..
  · exact h.putCode e sl

@[simp] theorem State.Keeps.slotEnter (h : s.Keeps t) (i : Image) : s.Keeps (t.slotEnter i) :=
  State.Keeps.foldl (fun u sl => (State.Keeps.refl u).placeCode _ sl) (h.withDev _) _

theorem State.Keeps.drainEnds (h : s.Keeps t) : s.Keeps t.drainEnds := by
  unfold State.drainEnds
  dsimp only
  split
  · split
    · exact (h.withDev _).slotEnter _
    · exact h.withDev _
  · exact h.withDev _

/-! Mailbox commands that reach memory (17). -/

theorem State.Keeps.argWrite (h : s.Keeps t) {c : Nat} {p : List Nat} {bs : List Byte} {u : State} (hu : t.argWrite c p bs = some u) : s.Keeps u := by
  unfold State.argWrite at hu
  split at hu
  · split at hu <;> cases hu
    exact h.onDev _
  · cases hu
    exact h.store ..
  · cases hu

/-- A served command keeps what its effect keeps. -/
theorem State.Keeps.mbServeM (h : s.Keeps t) {f : State → Nat → List Nat → State} (hf : ∀ u w p, s.Keeps u → s.Keeps (f u w p)) (c cmd : Nat) (allowed state : Bool) (len : Nat) :
    s.Keeps (t.mbServeM c cmd allowed state len f) := by
  unfold State.mbServeM
  split
  · split
    · exact (hf _ _ _ (h.onDev _)).onDev _
    · exact h.onDev _
  · exact h

/-! Functions, slices and resets (13, 14, 19). -/

@[simp] theorem State.Keeps.fnReset (h : s.Keeps t) (f : Nat) : s.Keeps (t.fnReset f) := by
  unfold State.fnReset
  split
  · exact ((h.onDev _).onDev _).dmaSquash f
  · exact h

theorem State.Keeps.funcCtl (h : s.Keeps t) (src : Src) (f : Nat) (v : Word) : s.Keeps (t.funcCtl src f v) := by
  unfold State.funcCtl
  split
  · exact h.onDev _
  · split
    · exact h.onDev _
    · split
      · exact h.fnReset f
      · exact h.onDev _

@[simp] theorem State.Keeps.flr (h : s.Keeps t) (p : Nat) : s.Keeps (t.flr p) := by
  unfold State.flr
  split
  · exact h
  · exact (State.Keeps.foldl (fun u f => (State.Keeps.refl u).fnReset f) (h.fnReset _) _).onDev _

@[simp] theorem State.Keeps.dropOps (h : s.Keeps t) (sl : Nat) : s.Keeps (t.dropOps sl) := by
  unfold State.dropOps
  refine State.Keeps.onDev (State.Keeps.foldl (fun u c => ?_) h _) _
  split
  · split
    · exact (State.Keeps.refl u).dmaEnds ..
    · exact .refl u
  · exact .refl u

@[simp] theorem State.Keeps.sliceReset (h : s.Keeps t) (sl : Nat) : s.Keeps (t.sliceReset sl) := by
  unfold State.sliceReset
  dsimp only
  have hd := ((h.onDev fun d => (((d.dropSlice sl).setKeySlot (d.keySlot.mapVals fun _ x => x.strand sl)).unlearn sl).tmCleared sl).dropOps sl).onDev
    fun d => ((d.enginesReset sl).setSlowClk (setBit d.slowClk sl false)).sliceRegsReset sl
  split
  · exact (hd.placeData sl _).onDev _
  · exact hd.onDev _

theorem State.Keeps.sliceZero (h : s.Keeps t) (sl : Nat) : s.Keeps (t.sliceZero sl) := h.of_mem _ (Memory.wf_filter t.mem _)

theorem State.Keeps.sliceJoin (h : s.Keeps t) (sl : Nat) : s.Keeps (t.sliceJoin sl) := by
  unfold State.sliceJoin
  dsimp only
  have hc := ((((h.sliceZero sl).onDev fun d => d.tablesAnew sl).putCode 0 sl).putCode 1 sl)
  split
  · exact (hc.placeData sl _).onDev _
  · exact hc.onDev _

@[simp] theorem State.Keeps.slicesLeave (h : s.Keeps t) (l : List Nat) : s.Keeps (t.slicesLeave l) :=
  State.Keeps.foldl (fun u sl => ((State.Keeps.refl u).sliceReset sl).onDev _) h l

@[simp] theorem State.Keeps.sliceResetBy (h : s.Keeps t) (sl : Nat) : s.Keeps (t.sliceResetBy sl) := by
  unfold State.sliceResetBy
  split
  · exact (h.sliceReset sl).onDev _
  · exact h

theorem State.Keeps.cfgWrite (h : s.Keeps t) (n v : Nat) (r : CfgReg) : s.Keeps (t.cfgWrite n v r) := by
  unfold State.cfgWrite
  split
  case h_2 =>
    split
    · exact (h.onDev _).flr n
    · exact h.onDev _
  all_goals simp [h]

theorem State.Keeps.hotReset (h : s.Keeps t) (hp : Nat) : s.Keeps (t.hotReset hp) := by
  refine State.Keeps.foldl (fun u n => ?_) h _
  split
  · exact ((State.Keeps.refl u).flr n).onDev _
  · exact .refl u

@[simp] theorem State.Keeps.dieDown (h : s.Keeps t) (d : Nat) : s.Keeps (t.dieDown d) := by
  unfold State.dieDown
  exact (h.slicesLeave _).onDev _

theorem State.Keeps.pllLoss (h : s.Keeps t) (p : Nat) : s.Keeps (t.pllLoss p) := by
  unfold State.pllLoss
  dsimp only
  split <;> simp [h]

theorem State.Keeps.coldReset (h : s.Keeps t) (b : BootIn) (easy : Bool) : s.Keeps (t.coldReset b easy) := h.of_mem _ fun _ => Memory.wf_nil

theorem State.Keeps.easyEnter (h : s.Keeps t) : s.Keeps t.easyEnter := h.of_mem _ fun _ => Memory.wf_nil

theorem State.Keeps.warmReset (h : s.Keeps t) : s.Keeps t.warmReset := h.of_mem _ (Memory.wf_filter t.mem _)

theorem State.Keeps.transitionDone (h : s.Keeps t) : s.Keeps t.transitionDone := by
  unfold State.transitionDone
  split
  · exact h
  · dsimp only
    split
    · exact (h.slicesLeave _).withDev _
    · exact (State.Keeps.foldl (fun u sl => (State.Keeps.refl u).sliceJoin sl) ((h.slicesLeave _).withDev _) _).onDev _

/-! Cipher and compression operations (11, 12). -/

theorem State.Keeps.cphRun (h : s.Keeps t) {j : CphJob} {action : Bool} {f : CphFacts} {r : State × CphEnd} (hr : t.cphRun j action f = some r) : s.Keeps r.1 := by
  unfold State.cphRun at hr
  extract_lets u v x policy reason stop at hr
  have hv : s.Keeps v := (h.fetchSlot j.slot f.miss).onDev _
  split at hr
  · cases hr
    exact hv.withDev _
  · cases hr
    exact hv.withDev _
  · split at hr
    · cases hr
      exact hv.withDev _
    · split at hr
      · cases hr
      · cases hr
      · rename_i use w ends _ _ _ _ _ _ _ _ _ _
        have hw : s.Keeps w := by
          refine State.Keeps.onDev ?_ _
          split
          · exact hv
          · exact hv.touchBuf ..
        have hends : ∀ {z : State} {c q : Nat}, s.Keeps z → ends z c q = some r → s.Keeps r.1 := by
          intro z c q hz he
          cases he
          exact hz.withDev _
        split at hr
        · split at hr
          · exact hends (hw.withDev _) hr
          · extract_lets bs at hr
            generalize w.fresh = p at hr
            split at hr
            extract_lets at hr
            split at hr
            · exact hends (hw.withDev _) hr
            · refine hends ?_ hr
              split
              · exact hw.withDev _
              · exact (hw.withDev _).store ..
        · exact hends hw hr

theorem State.Keeps.ciphAction (h : s.Keeps t) (id : Nat) (f : Frame) (a : CiphAct) (n : Terminal) (x : CphFacts) : s.Keeps (t.ciphAction id f a n x) := by
  unfold State.ciphAction
  extract_lets j
  split
  · exact h.onDev _
  · split
    · exact h
    · rename_i hr
      exact (h.cphRun hr).onDev _

theorem State.Keeps.ciphOp (h : s.Keeps t) (n : Nat) (o : OpRec) (x : CphFacts) : s.Keeps (t.ciphOp n o x) := by
  unfold State.ciphOp
  extract_lets wants fr k
  split
  · exact (h.onDev _).opEnds ..
  · split
    · exact h
    · rename_i e hr
      have hu := (h.cphRun hr).opEnds n o e.code e.result
      extract_lets u
      split
      · exact hu
      · split
        · exact hu.onDev _
        · split
          · exact hu.onDev _
          · exact hu

theorem State.Keeps.cphWork (h : s.Keeps t) (w : Work) (x : CphFacts) : s.Keeps (t.cphWork w x) := by
  unfold State.cphWork
  split
  · split
    · split
      · exact h.ciphAction ..
      · exact h
    · exact h
  · split
    · exact h.ciphOp ..
    · exact h

@[simp] theorem State.Keeps.cmpEnds (h : s.Keeps t) (n : Nat) (j : CmpJob) (c r : Nat) : s.Keeps (t.cmpEnds n j c r) := (h.onDev _).opEnds ..

@[simp] theorem State.Keeps.cmpEcc (h : s.Keeps t) (n : Nat) (j : CmpJob) (a len r : Nat) : s.Keeps (t.cmpEcc n j a len r) := by
  unfold State.cmpEcc
  have hu : s.Keeps ((t.onDev fun d => d.cmpFault j 2).cmpEnds n j 0x0F r) := (h.onDev _).cmpEnds ..
  extract_lets u
  split
  · exact hu
  · split
    · exact hu.onDev _
    · exact hu

theorem State.Keeps.compRun (h : s.Keeps t) (n : Nat) (j : CmpJob) (b : Nat) (bs : List Byte) (bad : Bool) : s.Keeps (t.compRun n j b bs bad) := by
  unfold State.compRun
  extract_lets sl
  split
  extract_lets d₁ d₂ r
  split
  · exact ((h.withDev _).store ..).cmpEnds ..
  · exact ((h.withDev _).store ..).cmpEnds ..

theorem State.Keeps.decompRun (h : s.Keeps t) (n : Nat) (j : CmpJob) (b : Nat) (bs : List Byte) : s.Keeps (t.decompRun n j b bs) := by
  unfold State.decompRun
  extract_lets sl
  split
  extract_lets d
  split
  exact ((h.withDev _).store ..).cmpEnds ..

theorem State.Keeps.pduHeader (h : s.Keeps t) (j : CmpJob) (x : PduRun) : s.Keeps (t.pduHeader j x).1 := by
  unfold State.pduHeader
  extract_lets hdr hl a e y z
  split
  · exact h
  · split
    · exact h
    · split
      · exact h
      · split
        · exact h
        · exact h.withDev _

theorem State.Keeps.placeBytes (h : s.Keeps t) (j : CmpJob) (errs : List Nat) (o : Nat) (x : PduRun) (bs : List Byte) : s.Keeps (t.placeBytes j errs o x bs).1 := by
  unfold State.placeBytes
  extract_lets next bs y
  split
  · exact h
  · split
    · exact h
    · extract_lets dest tf dev k put u v z
      have hu : s.Keeps u := h.onDev _
      show s.Keeps v
      show s.Keeps (if k = 0 then u else if dev then u.store dest put else u.onDev fun d => d.fnWrite tf false dest put)
      split
      · exact hu
      · split
        · exact hu.store ..
        · exact hu.onDev _

theorem State.Keeps.pduEnd (h : s.Keeps t) (j : CmpJob) (x : PduRun) : s.Keeps (t.pduEnd j x).1 := by
  unfold State.pduEnd
  extract_lets hdr bad u v y
  have hu : s.Keeps u := (h.onDev _).onDev _
  clear_value u
  show s.Keeps v
  unfold v
  split
  · split
    · exact hu
    · extract_lets a old w
      split
      · exact (hu.store ..).onDev _
      · exact hu.store ..
  · exact hu

theorem trans_ne {α : Type} {a b c : α} (h : a = b) (hne : b ≠ c) : a ≠ c := fun h' => hne (h.symm.trans h')

theorem ite_eq_cases {α : Type} {c : Prop} [Decidable c] {a b x : α} (h : (if c then a else b) = x) : (c ∧ a = x) ∨ (¬ c ∧ b = x) := by
  by_cases hc : c
  · exact .inl ⟨hc, (if_pos hc).symm.trans h⟩
  · exact .inr ⟨hc, (if_neg hc).symm.trans h⟩

theorem State.Keeps.pduPiece (h : s.Keeps t) {j : CmpJob} {errs : List Nat} {input : List Byte} {x : PduRun} {r : State × PduRun} (hr : t.pduPiece j errs input x = some r) :
    s.Keeps r.1 := by
  have hsame : ∀ {y : PduRun}, some (t, y) = some r → s.Keeps r.1 := fun he => by cases he; exact h
  unfold State.pduPiece at hr
  extract_lets left hdr pos skip at hr
  split at hr
  · cases hr
  · split at hr
    · split at hr
      · cases hr
      · obtain ⟨-, hr⟩ | ⟨-, hr⟩ := ite_eq_cases hr
        · exact hsame hr
        · obtain ⟨-, hr⟩ | ⟨-, hr⟩ := ite_eq_cases hr
          · cases hr
            exact h.pduHeader j _
          · exact hsame hr
    · split at hr
      · exact hsame hr
      · split at hr
        · cases hr
        · exact hsame hr
    · split at hr
      · exact hsame hr
      · split at hr
        · cases hr
        · cases hr
          exact h.placeBytes ..
    · split at hr
      · cases hr
        exact h.pduEnd j x
      · split at hr
        · cases hr
        · exact hsame hr
    · cases hr

theorem State.Keeps.pduLoop (j : CmpJob) (errs : List Nat) (input : List Byte) : ∀ (n : Nat) {t : State} (x : PduRun), s.Keeps t → s.Keeps (State.pduLoop j errs input n t x).1
  | 0, _, _, h => h
  | n + 1, t, x, h => by
    unfold State.pduLoop
    split
    · rename_i hr
      exact State.Keeps.pduLoop j errs input n _ (h.pduPiece hr)
    · exact h

theorem State.Keeps.rxRun (h : s.Keeps t) (n : Nat) (j : CmpJob) (c b : Nat) (bs : List Byte) (errs : List Nat) : s.Keeps (t.rxRun n j c b bs errs) := by
  unfold State.rxRun
  split
  rename_i v u hu
  obtain ⟨-, rfl⟩ := Prod.mk.inj hu
  extract_lets k
  split
  rename_i w x hw
  have hl := State.Keeps.pduLoop j errs bs (2 * bs.length + 16) ((t.onDev fun d => d.fresh.2).rxStart j c v ((t.onDev fun d => d.fresh.2).mem.readN c 256)) (h.onDev fun d => d.fresh.2)
  rw [hw] at hl
  extract_lets opened recs y z z' r
  have hz : s.Keeps z' := ((State.Keeps.store hl _ _).store _ _).onDev _
  split
  · exact hz.cmpEcc ..
  · exact hz.cmpEnds ..

theorem State.Keeps.txRun (h : s.Keeps t) (n : Nat) (j : CmpJob) (a : Nat) (bs : List Byte) : s.Keeps (t.txRun n j a bs) := by
  unfold State.txRun
  extract_lets u
  have hu : s.Keeps u := h.onDev _
  clear_value u
  split
  · exact hu.cmpEnds ..
  · rename_i out v w _
    have hv : s.Keeps v := by
      unfold v
      split
      · exact hu.onDev _
      · exact hu.store ..
    refine State.Keeps.cmpEnds ?_ ..
    unfold w
    split
    · exact hv.onDev _
    · exact hv

theorem State.Keeps.cmpRun (h : s.Keeps t) (n : Nat) (j : CmpJob) (x : CmpFacts) : s.Keeps (t.cmpRun n j x) := by
  unfold State.cmpRun
  extract_lets sl ctx table u
  have hu : s.Keeps u := by
    unfold u
    split
    · exact h
    · exact h.touchBuf ..
  clear_value u
  split
  · exact h.cmpEnds ..
  · split
    · exact h.cmpEnds ..
    · split
      · exact h
      · exact h
      · split
        · exact h.cmpEnds ..
        · split
          · exact h.cmpEnds ..
          · split
            · exact h.cmpEnds ..
            · split
              · exact h.cmpEcc ..
              · split
                · exact h.cmpEnds ..
                · split
                  · exact h
                  · split
                    · exact h.cmpEcc ..
                    · extract_lets bs
                      split
                      · exact hu.compRun ..
                      · exact hu.decompRun ..
                      · exact hu.rxRun ..
                      · exact hu.txRun ..
      · exact h.cmpEnds ..

/-! Register writes (00). -/

theorem State.Keeps.rgmWrite (h : s.Keeps t) (src : Src) (r : RegDesc) (a : Nat) (v : Word) : s.Keeps (t.rgmWrite src r a v) := by
  unfold State.rgmWrite
  extract_lets f
  repeat' split
  all_goals first
    | exact h.onDev _
    | exact h.funcCtl ..

theorem State.Keeps.dmaRegWrite (h : s.Keeps t) (src : Src) (r : RegDesc) (a : Nat) (v : Word) : s.Keeps (t.dmaRegWrite src r a v) := by
  unfold State.dmaRegWrite
  extract_lets c u
  have hu : s.Keeps u := by
    unfold u
    split
    · exact State.Keeps.dmaAbort c 66 h
    · exact h
  split
  · exact h.onDev _
  · split
    · split
      · exact hu.dmaGo ..
      · exact hu
    · split <;> exact h.onDev _

theorem State.Keeps.keyWrite (h : s.Keeps t) (src : Src) (r : RegDesc) (a : Nat) (v : Word) : s.Keeps (t.keyWrite src r a v) := by
  have hcmd : s.Keeps (if KEY_CMD_GO.get v = 1 then t.keyCmd src (KEY_CMD_OP.get v) (KEY_CMD_SLOT.get v) else if t.keyCommander src then t else t.onDev Dev.keyDenied) := by
    split
    · exact h.keyCmd ..
    · split
      · exact h
      · exact h.onDev _
  unfold State.keyWrite
  split
  · exact h.onDev _
  · split
    · exact h.onDev _
    · split
      · exact h.onDev _
      · split
        · exact hcmd
        · split <;> exact h.onDev _

theorem State.Keeps.pwrWrite (h : s.Keeps t) (r : RegDesc) (a : Nat) (v : Word) : s.Keeps (t.pwrWrite r a v) := by
  have hreset : s.Keeps (if !t.runs then t else
      if PWR_RESET_WARM.get v = 1 then ((setBits 6 (PWR_RESET_SLICE.get v)).foldl State.sliceResetBy t).warmReset else (setBits 6 (PWR_RESET_SLICE.get v)).foldl State.sliceResetBy t) := by
    have hf := State.Keeps.foldl (fun u sl => (State.Keeps.refl u).sliceResetBy sl) h (setBits 6 (PWR_RESET_SLICE.get v))
    split
    · exact h
    · split
      · exact hf.warmReset
      · exact hf
  unfold State.pwrWrite
  split
  · exact h.onDev _
  · split
    · exact h.onDev _
    · split
      · exact h.onDev _
      · split
        · exact h.onDev _
        · split
          · exact hreset
          · exact h.onDev _

theorem State.Keeps.hubWrite (h : s.Keeps t) (src : Src) (r : RegDesc) (a : Nat) (v : Word) : s.Keeps (t.hubWrite src r a v) := by
  unfold State.hubWrite
  split
  · exact h.onDev _
  · split
    case h_1 =>
      split
      · exact h.onDev _
      · split
        · exact h.onDev _
        · split
          · exact h.onDev _
          · exact h
    case h_3 => exact h.rgmWrite ..
    case h_4 => exact h.dmaRegWrite ..
    case h_6 => exact h.keyWrite ..
    case h_10 => exact h.pwrWrite ..
    all_goals exact h.onDev _

theorem State.Keeps.writeAt (h : s.Keeps t) (src : Src) (a : Nat) (v : Word) : s.Keeps (t.writeAt src a v) := by
  unfold State.writeAt
  extract_lets x
  clear_value x
  split
  · exact h
  · split
    · split
      · exact h.hubWrite ..
      · exact h.onDev _
    · split
      · exact h.onDev _
      · exact h
    · exact h.onDev _
    · exact h.onDev _
    · exact h

end
end Sys2Proof.Machine
end

section
open Sys2Proof Sys2Proof.Machine
namespace Sys2Proof.Machine

/-! What every command answers: a next state that keeps the queue and the form of memory, a tick out of range excepted. -/

/-- `o` is a next state with the queue of `s`, and canonical memory where `s` has. -/
def State.Answers (s : State) (o : Host.Outcome State Fault Refusal) : Prop := ∃ t, o = .next t ∧ s.Keeps t

section
variable {s t : State}

theorem State.Keeps.answers (h : s.Keeps t) : s.Answers (.next t) := ⟨t, rfl, h⟩

theorem State.Answers.finA (s : State) (d : Dev) : s.Answers (finA s d) := ((State.Keeps.refl s).withDev _).answers

/-- An answer that depends on a condition. -/
theorem State.Answers.ite {c : Prop} [Decidable c] {o p : Host.Outcome State Fault Refusal} (ho : s.Answers o) (hp : s.Answers p) : s.Answers (if c then o else p) := by
  split
  · exact ho
  · exact hp

theorem State.Answers.same (s : State) : s.Answers (.next s) := (State.Keeps.refl s).answers

theorem State.Answers.fin (s : State) (d : Dev) : s.Answers (fin s d) := .ite (.finA s d) (.same s)

theorem State.Answers.finK (s : State) (d : Dev) : s.Answers (finK s d) := .ite (.finA s d) (.same s)

/-- A meaning that answers a device and memory made of canonical memory. -/
theorem State.Answers.finM (s : State) (d : Dev) {m : Memory} (hm : s.memOk → m.wf = true) : s.Answers (finM s d m) :=
  .ite ((State.Keeps.refl s).of_mem _ hm).answers (.same s)

/-- A meaning that answers the state `t` it came to. -/
theorem State.Keeps.finM (h : s.Keeps t) (d : Dev) : s.Answers (finM t d t.mem) := .ite (h.withDev _).answers h.answers

theorem State.Keeps.finS (h : s.Keeps t) : s.Answers (finS s t) := .finM s _ h.memOk

theorem State.Keeps.finAS (h : s.Keeps t) : s.Answers (finAS t) := (h.withDev _).answers

theorem State.Keeps.finKS (h : s.Keeps t) : s.Answers (finKS s t) := .ite (h.withDev _).answers (.same s)

theorem State.Answers.finW (s : State) (src : Src) (a : Nat) (d : Dev) : s.Answers (finW s src a d) := .ite (.finA s _) (.ite (.finA s _) (.fin s d))

theorem State.Answers.finR (s : State) (src : Src) (a w v : Nat) (d : Dev) : s.Answers (finR s src a w v d) := .ite (.finA s _) (.ite (.finA s _) (.fin s _))

theorem State.Answers.finSW (s : State) (src : Src) (sl : Nat) (r : Reg) (d : Dev) : s.Answers (finSW s src sl r d) := .finW s src _ _

theorem State.Answers.finSR (s : State) (src : Src) (sl : Nat) (r : Reg) (w v : Nat) (d : Dev) : s.Answers (finSR s src sl r w v d) := .ite (.finR s src _ _ _ _) (.finR s src _ _ _ _)

theorem State.Answers.finP (s : State) (src : Src) (d : Dev) : s.Answers (finP s src d) := .ite (.finA s _) (.same s)

theorem State.Keeps.finSM (h : s.Keeps t) (src : Src) (a : Nat) : s.Answers (finSM s src a t) := .ite (.finW s src a _) (.ite (h.finM _) (.same s))

theorem State.Answers.poisonedWrite (s : State) (src : Src) : s.Answers (s.poisonedWrite src) := by
  cases src with
  | ulyar => exact .fin s _
  | pf n b => exact .ite (.finA s _) (.finK s _)

theorem State.Answers.finRead (s : State) (src : Src) (a w v : Nat) (d : Dev) : s.Answers (finRead s src a w v d) :=
  .ite (.finA s _) (.ite (.ite (.finA s _) (.same s)) (.ite (.finK s _) (.finR s src a w v d)))

theorem State.Answers.readBy (s : State) (src : Src) (a : Nat) : s.Answers (readBy s src a) :=
  .ite (.finR s src _ _ _ _) (.ite (.finR s src _ _ _ _) (.finRead s src a _ _ _))

theorem State.Keeps.finWrite (h : s.Keeps t) (src : Src) (a : Nat) : s.Answers (finWrite s src a t) := by
  refine .ite ?_ (.ite (.ite (h.withDev _).answers (.same s)) (h.finSM src a))
  cases src with
  | ulyar => exact .same s
  | pf n b => exact .ite (h.withDev _).answers (.finA s _)

/-! Instructions: a meaning keeps what it begins with. -/

/-- Where the meaning has an effect, it keeps the queue and the form of memory. -/
def Meaning.Keeps (m : Meaning) : Prop := ∀ k s t, m k s = some t → s.Keeps t

theorem Meaning.Keeps.issue {m : Meaning} (h : m.Keeps) (th : ThId) (pred : Fin 8) (pn always : Bool) (s : State) : s.Answers (issue th pred pn always s m) := by
  have hdone : ∀ {u : State} (d : Dev), s.Keeps u → s.Answers (Machine.finM s d u.mem) := fun d hu => .finM s d hu.memOk
  have hb := (State.Keeps.refl s).onDev fun d => (d.updThr (thKey th) fun x => { x with st := .running }).issueCounts (thKey th)
  unfold Machine.issue
  dsimp only
  split
  · exact .fin s _
  · split
    · exact hdone _ (hb.onDev _)
    · split
      · exact hdone _ (hb.onDev _)
      · split
        · split
          · rename_i ht
            exact hdone _ (hb.trans (h _ _ _ ht))
          · exact .fin s _
        · exact hdone _ (hb.onDev _)

theorem Meaning.keeps_some (f : Nat → State → State) (hf : ∀ (k : Nat) (s : State), s.Keeps (f k s)) : Meaning.Keeps fun k s => some (f k s) := by
  intro k s t ht
  cases ht
  exact hf k s

theorem Meaning.keeps_none : Meaning.Keeps fun _ _ => none := fun _ _ _ ht => nomatch ht

theorem trapAt_keeps (c : Nat) (a f : Option Nat) : Meaning.Keeps (trapAt c a f) := Meaning.keeps_some _ fun _ s => (State.Keeps.refl s).onDev _

theorem illegal_keeps : Meaning.Keeps illegal := trapAt_keeps _ _ _

theorem legal_keeps (ok : Bool) {m : Meaning} (h : m.Keeps) : Meaning.Keeps (legal ok m) := by
  cases ok
  · exact illegal_keeps
  · exact h

theorem advance_keeps (f : Thr → Thr) : Meaning.Keeps (advance f) := Meaning.keeps_some _ fun _ s => (State.Keeps.refl s).onDev _

theorem setsRd_keeps (rd : Fin 32) (f : Thr → Word) : Meaning.Keeps (setsRd rd f) := advance_keeps _

theorem effect_keeps (f : Nat → Dev → Dev) : Meaning.Keeps (effect f) := Meaning.keeps_some _ fun _ s => (State.Keeps.refl s).onDev _

/-- A meaning chosen by the thread and the state. -/
theorem Meaning.keeps_of {m : Nat → State → Meaning} (h : ∀ k s, (m k s).Keeps) : Meaning.Keeps fun k s => m k s k s := fun k s t ht => h k s k s t ht

/-- A meaning chosen by a condition. -/
theorem Meaning.keeps_ite {c : Prop} [Decidable c] {m n : Meaning} (hm : m.Keeps) (hn : n.Keeps) : Meaning.Keeps (if c then m else n) := by
  split
  · exact hm
  · exact hn

theorem withFrame_keeps {m : Nat → Frame → Meaning} (h : ∀ id f, (m id f).Keeps) : Meaning.Keeps (withFrame m) := by
  intro k s t ht
  unfold withFrame at ht
  split at ht
  · split at ht
    · split at ht
      · cases ht
      · exact h _ _ _ _ _ ht
    · exact trapAt_keeps _ _ _ _ _ _ ht
  · exact trapAt_keeps _ _ _ _ _ _ ht

theorem access_keeps (a n : Nat) (store atomic aligned : Bool) {m : Spot → Meaning} (h : ∀ p, (m p).Keeps) : Meaning.Keeps (access a n store atomic aligned m) := by
  intro k s t ht
  unfold access at ht
  split at ht
  · exact trapAt_keeps _ _ _ _ _ _ ht
  · cases ht
    exact (State.Keeps.refl s).onDev _
  · exact h _ _ _ _ ht

theorem loads_keeps (x : FmtM) (ext : Nat → Word) : Meaning.Keeps (loads x ext) := by
  intro k s t ht
  refine access_keeps _ _ _ _ _ (fun p => ?_) k s t ht
  exact fun k s => advance_keeps _ k s

theorem readsBytes_keeps (a n : Nat) {m : List Byte → Meaning} (h : ∀ bs, (m bs).Keeps) : Meaning.Keeps (readsBytes a n m) := by
  intro k s t ht
  unfold readsBytes at ht
  split at ht
  · exact h _ _ _ _ ht
  · exact access_keeps _ _ _ _ _ (fun p => Meaning.keeps_of fun k s => h (s.bytesOf k p n)) _ _ _ ht

theorem frameOp_keeps (x : FmtN) (bad : Nat → Nat → Nat → Bool) (f : Nat → Nat → Frame → Frame) (win : Option Unit) : Meaning.Keeps (frameOp x bad f win) := by
  intro k s t ht
  refine withFrame_keeps (fun id fr => ?_) k s t ht
  exact Meaning.keeps_ite (trapAt_keeps _ _ _) (effect_keeps _)

theorem cox_keeps (x : FmtN) (still : Bool) {m : Nat → Meaning} (h : ∀ q, (m q).Keeps) : Meaning.Keeps (cox x still m) := by
  intro k s t ht
  unfold cox at ht
  dsimp only at ht
  split at ht
  · exact trapAt_keeps _ _ _ _ _ _ ht
  · refine legal_keeps _ (m := _) ?_ _ _ _ ht
    intro k s t ht
    dsimp only at ht
    split at ht
    · exact trapAt_keeps _ _ _ _ _ _ ht
    · exact h _ _ _ _ ht

theorem transfer_keeps (target : Thr → Nat) (f : Thr → Thr) : Meaning.Keeps (transfer target f) := by
  intro k s t ht
  unfold transfer at ht
  dsimp only at ht
  split at ht
  · exact trapAt_keeps _ _ _ _ _ _ ht
  · cases ht
    exact (State.Keeps.refl s).onDev _

theorem offload_keeps (unit : Nat) (x : FmtO) : Meaning.Keeps (offload unit x) := by
  intro k s t ht
  refine legal_keeps _ (Meaning.keeps_ite (trapAt_keeps _ _ _) (access_keeps _ _ _ _ _ fun p => ?_)) k s t ht
  intro k s t ht
  dsimp only at ht
  split at ht
  · cases ht
  · obtain ⟨u, hu, rfl⟩ := Option.map_eq_some_iff.1 ht
    exact (effect_keeps _ _ _ _ hu).dmaRefused _

end
end Sys2Proof.Machine
end

section
open Sys2Proof Sys2Proof.Machine
namespace Sys2Proof.Machine

/-! The commands whose answer is chosen by what the state holds. -/

section
variable {s t : State}

theorem answers_spdmServe (need next : Nat) (name : String) (data : Dev → List Byte) (s : State) : s.Answers (spdmServe need next name data s) := .fin s _

theorem answers_tickOr (s : State) : s.Answers (tickOr s) ∨ (tickOr s = .fault .networkTimeRange ∧ ¬ (0 ≤ s.nextAcc ∧ s.nextAcc < 2 ^ 95)) := by
  unfold tickOr
  split
  · exact .inl (.same s)
  · split
    · exact .inl (.finA s _)
    · exact .inr ⟨rfl, ‹_›⟩

theorem answers_dmaOp (code c k : Nat) (s : State) : s.Answers (dmaOp code c k s) := by
  unfold dmaOp
  split
  · exact .fin s _
  · extract_lets v u
    have hu : s.Keeps u := by
      unfold u
      split
      · exact State.Keeps.dmaBursts _ _ _ _ (.refl s)
      · exact (State.Keeps.refl s).dmaEnds ..
    split
    · exact .fin s _
    · exact hu.finM _

theorem answers_cipherOp (c : Nat) (w : Work) (x : CphFacts) (s : State) : s.Answers (cipherOp c w x s) := by
  refine State.Keeps.finM ?_ _
  split
  · split
    · exact (State.Keeps.refl s).cphWork w x
    · exact .refl s
  · exact .refl s

theorem answers_compressOp (c n : Nat) (x : CmpFacts) (s : State) : s.Answers (compressOp c n x s) := by
  unfold compressOp
  split
  · exact .ite (((State.Keeps.refl s).cmpRun ..).finM _) (.fin s _)
  · exact .fin s _

theorem answers_hifRelease (src : Src) (pf : Fin 4) (s : State) : s.Answers (execHifRelease src pf s) := by
  cases src with
  | ulyar => exact .finW s _ _ _
  | pf n b => exact .ite (.finK s _) (.finW s _ _ _)

theorem answers_parserWalk (id : Nat) (e : Option TreeEcc) (s : State) : s.Answers (execParserWalk id e s) := by
  unfold execParserWalk
  split
  · split <;> exact .fin s _
  · exact .fin s _

theorem answers_classify (id : Nat) (c : ClsFacts) (s : State) : s.Answers (execClassify id c s) := by
  unfold execClassify
  split
  · split <;> exact .fin s _
  · exact .fin s _

theorem answers_migrationGo (sl : Fin 6) (p : Fin 32) (why : MigWhy) (s : State) : s.Answers (execMigrationGo sl p why s) := by
  cases why with
  | go src v => exact .finSW s _ _ _ _
  | aging => exact .fin s _
  | sram => exact .fin s _

theorem answers_imageVerified (s : State) : s.Answers (execImageVerified s) := by
  unfold execImageVerified
  split
  · split
    · exact .fin s _
    · split
      split
      · exact .fin s _
      · extract_lets d
        split
        · exact .fin s _
        · exact (((State.Keeps.refl s).withDev d).slotEnter _).finS
  · exact .fin s _

theorem answers_lifecycleBurn (b : BootIn) (s : State) : s.Answers (execLifecycleBurn b s) := by
  unfold execLifecycleBurn
  split
  · exact .ite (((State.Keeps.refl s).onDev _).coldReset ..).finAS (.same s)
  · exact .same s

theorem answers_easyEntry (s : State) : s.Answers (execEasyEntry s) := by
  unfold execEasyEntry
  split
  · exact .ite (State.Keeps.refl s).easyEnter.finAS (.same s)
  · exact .same s

theorem answers_migrationSwitch (c : Fin 12) (s : State) : s.Answers (execMigrationSwitch c s) := by
  unfold execMigrationSwitch
  extract_lets n sl
  split
  · exact .ite (.fin s _) (.ite (.fin s _) (.finM s _ (Memory.wf_copy s.mem _ _ _)))
  · exact .fin s _

theorem answers_excBankAccess (sl : Fin 6) (b : Fin 32) (w : Fin 32768) (wr : Bool) (v : Word) (s : State) : s.Answers (execExcBankAccess sl b w wr v s) := by
  unfold execExcBankAccess
  extract_lets x
  split
  · exact .finM s _ ((State.Keeps.refl s).excAccess x).memOk
  · exact .fin s _
  · exact .fin s _

theorem answers_handoverDone (sl : Fin 6) (b : Fin 32) (s : State) : s.Answers (execHandoverDone sl b s) := by
  refine .ite (.finM s _ ?_) (.fin s _)
  exact (State.Keeps.foldl (fun u x => (State.Keeps.refl u).excAccess x) ((State.Keeps.refl s).withDev _) _).memOk

theorem answers_cxlMemAccess (pf : Fin 4) (hpa len : Nat) (x : CxlReq) (s : State) : s.Answers (execCxlMemAccess pf hpa len x s) := by
  unfold execCxlMemAccess
  extract_lets n
  split
  refine .ite (.fin s _) (.ite (.fin s _) (.ite (.poisonedWrite s _) ?_))
  split
  · exact .fin s _
  · refine .ite (.fin s _) ?_
    split
    · exact ((State.Keeps.refl s).store ..).finM _
    · exact .fin s _

theorem answers_forcedDrain (s : State) : s.Answers (execForcedDrain s) := by
  unfold execForcedDrain
  extract_lets lim
  split
  · exact .ite ((State.Keeps.refl s).withDev _).drainEnds.finS (.fin s _)
  · exact .fin s _

theorem answers_getCert (ch : Fin 8) (s : State) : s.Answers (execGetCert ch s) := by
  unfold execGetCert
  refine .ite (.fin s _) (State.Keeps.finM (State.Keeps.mbServeM (.refl s) (fun u w p hu => ?_) ..) _)
  extract_lets bs
  split
  · exact hu.onDev _
  · split
    · rename_i hw
      exact (hu.argWrite hw).onDev _
    · exact hu.onDev _

theorem answers_getMeasurements (i : Nat) (b : Bool) (s : State) : s.Answers (execGetMeasurements i b s) := .ite (.fin s _) (answers_spdmServe ..)

theorem answers_challenge (i : Nat) (s : State) : s.Answers (execChallenge i s) := by
  refine .ite ?_ (.fin s _)
  obtain ⟨u, hu, hk⟩ := answers_spdmServe 3 3 "CHALLENGE_AUTH" (fun d => d.signed (anyBytes s.fresh.1)) { s with toDev := s.fresh.2 }
  exact ⟨u, hu, ((State.Keeps.refl s).withDev _).trans hk⟩

theorem answers_configRequest (pf : Fin 4) (r : CfgReg) (x : CfgData) (s : State) : s.Answers (execConfigRequest pf r x s) := by
  refine State.Keeps.finKS ?_
  dsimp only
  split
  · exact .refl s
  · split
    · exact (State.Keeps.refl s).onDev _
    · split
      · exact (State.Keeps.refl s).cfgWrite ..
      · exact (State.Keeps.refl s).onDev _

theorem answers_powerGoodLoss (ns : Nat) (s : State) : s.Answers (execPowerGoodLoss ns s) := by
  unfold execPowerGoodLoss
  split
  exact .ite (.finA s _) (.finA s _)

theorem answers_leaseGrant (sl : Fin 6) (k : Fin 1048576) (m : Bool) (s : State) : s.Answers (execLeaseGrant sl k m s) := by
  refine State.Keeps.finM ?_ _
  split
  · exact (State.Keeps.refl s).cphWork ..
  · exact .refl s

theorem answers_partialAccess (src : Src) (a len : Nat) (k : AccKind) (s : State) : s.Answers (execPartialAccess src a len k s) := by
  have hr : ∀ w d, s.Answers (finRead s src a (8 * len) w d) := fun w d => .finRead s src a _ w d
  refine .ite (.poisonedWrite s src) ?_
  extract_lets write out
  split
  · exact .ite (.finW s _ _ _) (hr _ _)
  · exact .ite (.finW s _ _ _) (hr _ _)
  · refine .ite (.ite (.same s) (.readBy s _ _)) (.ite (.ite (.finA s _) ?_) (hr _ _))
    cases s.partialWrite src a len _ with
    | none => exact .same s
    | some d => exact .finK s d

theorem answers_unmappedAccess (src : Src) (a : Nat) (w : Bool) (s : State) : s.Answers (execUnmappedAccess src a w s) := by
  have hgo : s.Answers (if w then finW s src a (s.missed a true) else finRead s src a 32 0 (s.missed a false)) := .ite (.finW s _ _ _) (.finRead s _ _ _ _ _)
  unfold execUnmappedAccess
  extract_lets go
  split
  · exact hgo
  · exact .ite hgo (.same s)
  · exact .same s

/-! Instructions whose meaning looks at the state. -/

theorem answers_lookup (th : ThId) (x : FmtX) (m : Nat) (e : Option EntryRef) (s : State) : s.Answers (execLookup th x m e s) := by
  refine Meaning.Keeps.issue (fun k s t ht => ?_) ..
  refine legal_keeps _ (fun k s t ht => ?_) _ _ _ ht
  dsimp only at ht
  split at ht
  · exact trapAt_keeps _ _ _ _ _ _ ht
  · refine legal_keeps _ (fun k s t ht => ?_) _ _ _ ht
    have hu : ∀ f, s.Keeps (s.onDev f) := (State.Keeps.refl s).onDev
    split at ht
    · exact (hu _).trans (trapAt_keeps _ _ _ _ _ _ ht)
    · split at ht
      · cases ht
        exact (hu _).onDev _
      · exact (hu _).trans (advance_keeps _ _ _ _ ht)

theorem answers_st (th : ThId) (x : FmtM) (s : State) : s.Answers (execSt th x s) := by
  refine Meaning.Keeps.issue (fun k s t ht => ?_) ..
  dsimp only at ht
  split at ht
  · refine access_keeps _ _ _ _ _ (fun p k s t ht => ?_) _ _ _ ht
    exact ((State.Keeps.refl s).putBytes ..).trans (advance_keeps _ _ _ _ ht)
  · cases ht

theorem answers_atom (th : ThId) (x : FmtA) (s : State) : s.Answers (execAtom th x s) := by
  refine Meaning.Keeps.issue (legal_keeps _ fun k s t ht => ?_) ..
  refine access_keeps _ _ _ _ _ (fun p k s t ht => ?_) _ _ _ ht
  exact ((State.Keeps.refl s).putBytes ..).trans (advance_keeps _ _ _ _ ht)

theorem answers_crc (th : ThId) (x : FmtR) (s : State) : s.Answers (execCrc th x s) :=
  Meaning.Keeps.issue (fun k s t ht => legal_keeps _ (readsBytes_keeps _ _ fun _ => setsRd_keeps _ _) k s t ht) ..

theorem answers_toep (th : ThId) (x : FmtR) (s : State) : s.Answers (execToep th x s) :=
  Meaning.Keeps.issue (fun k s t ht => legal_keeps _ (readsBytes_keeps _ _ fun _ => readsBytes_keeps _ _ fun _ => setsRd_keeps _ _) k s t ht) ..

theorem answers_send (th : ThId) (x : FmtS) (s : State) : s.Answers (execSend th x s) := by
  refine Meaning.Keeps.issue (fun k s t ht => ?_) ..
  refine legal_keeps _ (fun k s t ht => ?_) _ _ _ ht
  dsimp only at ht
  split at ht
  · exact trapAt_keeps _ _ _ _ _ _ ht
  · split at ht
    · exact advance_keeps _ _ _ _ ht
    · exact effect_keeps _ _ _ _ ht

theorem answers_recv (th : ThId) (x : FmtV) (s : State) : s.Answers (execRecv th x s) := by
  refine Meaning.Keeps.issue (legal_keeps _ fun k s t ht => ?_) ..
  dsimp only at ht
  split at ht
  · exact advance_keeps _ _ _ _ ht
  · exact effect_keeps _ _ _ _ ht

theorem answers_wait (th : ThId) (x : FmtT) (s : State) : s.Answers (execWait th x s) := by
  refine Meaning.Keeps.issue (fun k s t ht => ?_) ..
  refine legal_keeps _ (fun k s t ht => ?_) _ _ _ ht
  dsimp only at ht
  split at ht
  · exact trapAt_keeps _ _ _ _ _ _ ht
  · cases ht
    exact (State.Keeps.refl s).onDev _

theorem answers_sprRead (th : ThId) (x : FmtY) (s : State) : s.Answers (execSprRead th x s) := by
  refine Meaning.Keeps.issue (fun k s t ht => ?_) ..
  split at ht
  · exact legal_keeps _ (setsRd_keeps _ _) _ _ _ ht
  · exact illegal_keeps _ _ _ ht

theorem answers_sprWrite (th : ThId) (x : FmtY) (s : State) : s.Answers (execSprWrite th x s) := by
  refine Meaning.Keeps.issue (fun k s t ht => ?_) ..
  split at ht
  · exact legal_keeps _ (advance_keeps _) _ _ _ ht
  · exact illegal_keeps _ _ _ ht

theorem answers_rett (th : ThId) (x : FmtK) (s : State) : s.Answers (execRett th x s) := by
  refine Meaning.Keeps.issue (fun k s t ht => ?_) ..
  refine legal_keeps _ (fun k s t ht => ?_) _ _ _ ht
  cases ht
  exact (State.Keeps.refl s).onDev _

theorem answers_tsetpc (th : ThId) (x : FmtN) (s : State) : s.Answers (execTsetpc th x s) := by
  refine Meaning.Keeps.issue (cox_keeps _ _ fun q k s t ht => ?_) ..
  dsimp only at ht
  split at ht
  · exact trapAt_keeps _ _ _ _ _ _ ht
  · exact effect_keeps _ _ _ _ ht

end

/-- Every command but the ticks answers a next state that keeps the queue and the form of memory. -/
theorem exec_answers (c : Instr) (s : State) (h1 : c ≠ .ntuTick) (h2 : c ≠ .stepApplied) (h3 : c ≠ .slewDone) : s.Answers (exec c s) := by
  cases c
  case ntuTick => exact absurd rfl h1
  case stepApplied => exact absurd rfl h2
  case slewDone => exact absurd rfl h3
  case leaseExpiry | keyDebugClear | tmArrival | schedulerChoice | wheelSlotRelease | coarseSlotRelease | gateTransition | overflowReadback | fecWindowEnd |
      laneLockLoss | laneLockRegain | portAligned | alignmentLoss | sparingTimeout | lpiEntry | lpiWakeEnd | rxLpiEntry | rxLpiWake | sliceClockDown |
      sliceClockUp | ringStopped | descriptorFetch | descriptorArrival | snoop | txDataReadDone | rxDelivery | headPublish | moderationTimeout | frameStart
      | frameEnd | frameTransmitted | firmwareQueueRead | treeLoadDone | ageSweep | skimChunk | orderRelease | positionOffline | dramRefresh |
      selfRefreshEntry | patrolScrub | dramRowRepair | hdmCommit | gateListSwitch | imageQuery | rgmiiFrameReceived | resetDrainDone | sliceResetDone |
      agingMeasure | sramScrub | sramRowRepair | dramWipeDone | functionReady | dispatchFromQueue | threadWake | messageVisible | stallDetected |
      spareTestDone | migrationFrozen | migrationTimeout | epochSwitch | lifecycle | setMinVersion | keyRevoke | watchdogExpiry | pldmMessage |
      clockGate | getVersion | getCapabilities | negotiateAlgorithms | getDigests => exact .fin s _
  case linkError | viral | bmeClear | bmeSet | linkUp | linkDown | completionReceived | ctoCheck | graceEnd | meteringEpochEnd | blockSigned | blockPublish |
      dStateChange | powerAverage | railFault | thermalRead | stormWindowEnd | snapshotTaken => exact .finK s _
  case ppsOutRise | ppsOutFall | ppsInEdge => exact .finA s _
  case mbxTxPush | mbxAbort | doorbell | mediate | ringWriteCfg | ringEnable | ringDisable | ringRestart | freezeNow | granuleWrite | memMapWrite |
      dmaChCfgWrite | fifoAdj | medNotify | recordClear | ntuCtrlWrite | step | slew | abandon | keySlotSelWrite | rgmRingSelWrite | mtrLiveSelWrite => exact .finW s _ _ _
  case mbxRxPop | ntuTimeRead | ppsInRead => exact .finR s _ _ _ _ _
  case rcRead | counterClearRead => exact .readBy s _ _
  case macHalfModeWrite | portCtrlWrite | spareNow | insert | modify | delete | read | updLookup | flushLearned | treeLoad | skimGo | skimAbort | coxRestart
      | engineReset | bankHandover | sketchQuery | tmgQselWrite | tmgPselWrite | halt | stepThread | kill | resume => exact .finSW s _ _ _ _
  case pwrCmdWrite | pwrAllowWrite | pwrHalfSlicesWrite => exact .finP s _ _
  case imageLoad =>
    show s.Answers (execImageLoad _ _ s)
    unfold execImageLoad
    exact .ite (.fin s _) (.fin s _)
  case certWrite =>
    show s.Answers (execCertWrite _ _ s)
    unfold execCertWrite
    exact .ite (.fin s _) (.fin s _)
  case fwUpdate =>
    show s.Answers (execFwUpdate _ _ s)
    unfold execFwUpdate
    exact .ite (.fin s _) (.fin s _)
  case getInfo =>
    show s.Answers (execGetInfo _ s)
    unfold execGetInfo
    exact .ite (.finA s _) (.fin s _)
  case mctpVendorMessage =>
    show s.Answers (execMctpVendorMessage _ s)
    unfold execMctpVendorMessage
    exact .ite (.finA s _) (.fin s _)
  case mctpControlMessage =>
    show s.Answers (execMctpControlMessage _ s)
    unfold execMctpControlMessage
    exact .ite (.same s) (.finA s _)
  case warmResetDone =>
    show s.Answers (execWarmResetDone s)
    unfold execWarmResetDone
    exact .ite (.finA s _) (.same s)
  case tdbgDataAccess =>
    show s.Answers (execTdbgDataAccess _ _ _ _ _ s)
    unfold execTdbgDataAccess
    exact .ite (.finSW s _ _ _ _) (.finSR s _ _ _ _ _ _)
  case getCertificate =>
    show s.Answers (execGetCertificate _ _ _ s)
    unfold execGetCertificate
    exact .ite (answers_spdmServe _ _ _ _ s) (.fin s _)
  case install | revoke | erase => exact ((State.Keeps.refl s).keyCmd ..).finSM _ _
  case dmaGo => exact ((State.Keeps.refl s).dmaGo ..).finSM _ _
  case dmaAbort => exact (State.Keeps.dmaAbort _ _ (.refl s)).finSM _ _
  case funcCtlWrite | tfReset => exact ((State.Keeps.refl s).funcCtl ..).finSM _ _
  case registerWrite => exact ((State.Keeps.refl s).writeAt ..).finWrite _ _
  case recallDone => exact .finM s _ (State.Keeps.refl s).recallDone.memOk
  case granuleZeroed => exact ((State.Keeps.refl s).granZeroed _).finM _
  case epochDrained =>
    show s.Answers (execEpochDrained s)
    unfold execEpochDrained
    exact .ite (State.Keeps.refl s).drainEnds.finS (.fin s _)
  case sliceReset =>
    show s.Answers (execSliceReset _ _ s)
    unfold execSliceReset
    exact .ite (.finP s _ _) (.ite ((State.Keeps.refl s).sliceResetBy _).finS (.same s))
  case warmReset =>
    show s.Answers (execWarmReset _ s)
    unfold execWarmReset
    exact .ite (.finP s _ _) (.ite (State.Keeps.refl s).warmReset.finS (.same s))
  case coldReset =>
    show s.Answers (execColdReset _ s)
    unfold execColdReset
    exact .ite (.same s) ((State.Keeps.refl s).coldReset ..).finAS
  case easyExit =>
    show s.Answers (execEasyExit _ s)
    unfold execEasyExit
    exact .ite (((State.Keeps.refl s).onDev _).coldReset ..).finAS (.same s)
  case flr => exact ((State.Keeps.refl s).flr _).finKS
  case hotReset => exact ((State.Keeps.refl s).hotReset _).finKS
  case pllLockLoss => exact ((State.Keeps.refl s).pllLoss _).finS
  case transitionDone => exact (State.Keeps.refl s).transitionDone.finS
  case copy | interleave | deinterleave | fill | compare => exact answers_dmaOp _ _ _ s
  case espEnc | espDec | macsecEnc | macsecDec | tlsEnc | tlsDec | xtsEnc | xtsDec | gcmEnc | gcmDec => exact answers_cipherOp _ _ _ s
  case deflateComp | deflateDecomp | pduRx | pduTx => exact answers_compressOp _ _ _ s
  case hifRelease => exact answers_hifRelease ..
  case parserWalk => exact answers_parserWalk ..
  case classify => exact answers_classify ..
  case migrationGo => exact answers_migrationGo ..
  case imageVerified => exact answers_imageVerified ..
  case lifecycleBurn => exact answers_lifecycleBurn ..
  case easyEntry => exact answers_easyEntry ..
  case migrationSwitch => exact answers_migrationSwitch ..
  case excBankAccess => exact answers_excBankAccess ..
  case handoverDone => exact answers_handoverDone ..
  case cxlMemAccess => exact answers_cxlMemAccess ..
  case forcedDrain => exact answers_forcedDrain ..
  case getCert => exact answers_getCert ..
  case getMeasurements => exact answers_getMeasurements ..
  case challenge => exact answers_challenge ..
  case configRequest => exact answers_configRequest ..
  case powerGoodLoss => exact answers_powerGoodLoss ..
  case leaseGrant => exact answers_leaseGrant ..
  case partialAccess => exact answers_partialAccess ..
  case unmappedAccess => exact answers_unmappedAccess ..
  case lookup => exact answers_lookup ..
  case st => exact answers_st ..
  case atom => exact answers_atom ..
  case crc => exact answers_crc ..
  case toep => exact answers_toep ..
  case send => exact answers_send ..
  case recv => exact answers_recv ..
  case wait => exact answers_wait ..
  case sprRead => exact answers_sprRead ..
  case sprWrite => exact answers_sprWrite ..
  case tsetpc => exact answers_tsetpc ..
  case ld | lds => exact (loads_keeps _ _).issue ..
  case frameWindow | frameInsert | frameRemove | frameTrim => exact (frameOp_keeps _ _ _ _).issue ..
  case releaseList | releaseDrop | releaseExcHost | releaseExcFw => exact (withFrame_keeps fun _ _ => effect_keeps _).issue ..
  case ciph | cmpr | dmac => exact (offload_keeps _ _).issue ..
  case alwaysIllegal | undefinedOpcode => exact illegal_keeps.issue ..
  case alu | shli | shri | sari | cat => exact (legal_keeps _ (setsRd_keeps _ _)).issue ..
  case addi | andi | ori | xori | lims | limu | bfx | bfi | adr => exact (setsRd_keeps _ _).issue ..
  case cmp | plog => exact (legal_keeps _ (advance_keeps _)).issue ..
  case cmpi => exact (advance_keeps _).issue ..
  case br | call => exact (transfer_keeps _ _).issue ..
  case jr => exact (legal_keeps _ (transfer_keeps _ _)).issue ..
  case tsetg => exact (cox_keeps _ _ fun _ k s t ht => effect_keeps _ k s t ht).issue ..
  case trelease | tstop => exact (cox_keeps _ _ fun _ => effect_keeps _).issue ..
  case tgetg | tstate => exact (cox_keeps _ _ fun _ k s t ht => setsRd_keeps _ _ k s t ht).issue ..
  case trap | brk => exact (legal_keeps _ (Meaning.keeps_some _ fun _ s => (State.Keeps.refl s).onDev _)).issue ..
  case rett => exact answers_rett ..
  -- What is left is SEAL, whose constructor's name is a word of Lean.
  exact .fin s _

end Sys2Proof.Machine
end

section
open Sys2Proof Sys2Proof.Machine
namespace Sys2Proof.Machine

/-! What follows of every command and every step. -/

/-- What a command can answer: a next state that keeps queue and memory's form, or the fault of a time out of range. -/
def State.AnswersOrLate (s : State) (o : Host.Outcome State Fault Refusal) : Prop :=
  s.Answers o ∨ (o = .fault .networkTimeRange ∧ ¬ (0 ≤ s.nextAcc ∧ s.nextAcc < 2 ^ 95))

theorem exec_answersOrLate (c : Instr) (s : State) : s.AnswersOrLate (exec c s) := by
  by_cases h1 : c = .ntuTick
  · subst h1
    exact answers_tickOr s
  by_cases h2 : c = .stepApplied
  · subst h2
    show s.AnswersOrLate (execStepApplied s)
    unfold execStepApplied
    split
    · exact answers_tickOr s
    · exact .inl (.finA s _)
  by_cases h3 : c = .slewDone
  · subst h3
    show s.AnswersOrLate (execSlewDone s)
    unfold execSlewDone
    split
    · exact answers_tickOr s
    · exact .inl (.finA s _)
  exact .inl (exec_answers c s h1 h2 h3)

theorem exec_keeps {c : Instr} {s t : State} (h : exec c s = .next t) : s.Keeps t := by
  obtain ⟨u, hu, hk⟩ | ⟨hf, -⟩ := exec_answersOrLate c s
  · rw [h] at hu
    cases hu
    exact hk
  · rw [h] at hf
    cases hf

theorem step_of_cons {s : State} {c : Instr} {rest : List Instr} (h : s.pending = c :: rest) : step s = exec c { s with pending := rest } := by
  unfold step
  rw [h]

theorem step_of_empty {s : State} (h : s.pending = []) : step s = .next s := by
  unfold step
  rw [h]

/-- A step takes one command from the queue, if one waits, and adds none. -/
theorem pending_of_step {s t : State} (h : step s = .next t) : t.pending = s.pending.tail := by
  cases hp : s.pending with
  | nil =>
    rw [step_of_empty hp] at h
    cases h
    simpa using hp
  | cons c rest =>
    rw [step_of_cons hp] at h
    exact (exec_keeps h).queue

theorem memOk_of_step {s t : State} (hs : s.memOk) (h : step s = .next t) : t.memOk := by
  cases hp : s.pending with
  | nil =>
    rw [step_of_empty hp] at h
    cases h
    exact hs
  | cons c rest =>
    rw [step_of_cons hp] at h
    exact (exec_keeps h).memOk hs

/-- A run of `k + 1` steps that meets no stop is a step and a run of `k`. -/
theorem run_succ_next {M : Host.Core} {k : Nat} {s t : M.State} (h : M.run (k + 1) s = .next t) : ∃ u, M.step s = .next u ∧ M.run k u = .next t := by
  rw [Host.Core.run] at h
  split at h
  · exact ⟨_, ‹_›, h⟩
  · cases h
  · cases h

/-- A run that meets no stop takes its first `k` commands from the queue. -/
theorem pending_of_run (k : Nat) (s t : State) (h : Host.Core.run Sys2Proof.core k s = .next t) : t.pending = s.pending.drop k := by
  induction k generalizing s with
  | zero =>
    cases h
    rfl
  | succ k ih =>
    obtain ⟨u, hs, hu⟩ := run_succ_next h
    rw [ih u hu, pending_of_step hs, List.drop_tail]

end Sys2Proof.Machine

/-- Settles O1: the two cases of the queue. -/
theorem stepTakesFront : Obligations.StepTakesFront := ⟨fun _ _ _ => step_of_cons, fun _ => step_of_empty⟩

/-- Settles O2: every operation that a command's effect is built of keeps the queue. -/
theorem queueUntouched : Obligations.QueueUntouched := fun _ _ _ h => (exec_keeps h).queue

/-- Settles O3: `k` steps drop `k` commands of the queue. -/
theorem queueDrains : Obligations.QueueDrains := fun s t k hk h => by
  rw [pending_of_run k s t h]
  exact List.drop_of_length_le hk

/-- Settles O4: every command but the ticks answers a next state, and a tick stops only on the range of R43. -/
theorem onlyTimeStops : Obligations.OnlyTimeStops := by
  refine ⟨fun c s h1 h2 h3 => ?_, fun c s => ?_⟩
  · obtain ⟨t, ht, -⟩ := exec_answers c s h1 h2 h3
    exact ⟨t, ht⟩
  · obtain ⟨t, ht, -⟩ | hf := exec_answersOrLate c s
    · exact .inl ⟨t, ht⟩
    · exact .inr hf

/-- Settles O5: every operation that a command's effect is built of keeps the canonical form of memory. -/
theorem memoryCanonical : Obligations.MemoryCanonical := fun _ _ => memOk_of_step

/-- Settles O6: the reset state is a literal. -/
theorem resetInvariants : Obligations.ResetInvariants := by
  refine ⟨rfl, rfl, rfl, ?_, rfl, rfl, rfl, rfl, rfl, rfl, rfl, rfl, rfl, rfl, rfl⟩
  exact of_decide_eq_true rfl
end

section
open Sys2Proof Sys2Proof.Machine
namespace Sys2Proof.Machine

/-! Fields read back what was set in them, and a selection's frame. -/

/-- Within its mask a field that is set takes the bits of the number set. -/
theorem Fld.getLsbD_set_of_mask_true {f : Fld} {i : Nat} (h : f.mask.getLsbD i = true) (x : Nat) (v : Word) :
    (f.set x v).getLsbD i = x.testBit (i - f.lo) := by
  have hm := h
  simp only [Fld.getLsbD_mask, Bool.and_eq_true, decide_eq_true_eq] at hm
  obtain ⟨h64, hlo, hw⟩ := hm
  rw [Fld.set, BitVec.getLsbD_or, BitVec.getLsbD_and, BitVec.getLsbD_not, h, BitVec.getLsbD_ofNat, Nat.testBit_mul_two_pow, Nat.testBit_mod_two_pow]
  simp only [h64, hlo, hw, decide_true, Bool.not_true, Bool.and_false, Bool.true_and, Bool.false_or]

theorem Fld.get_set_same {f : Fld} (hf : f.lo + f.w ≤ 64) (x : Nat) (v : Word) : f.get (f.set x v) = x % 2 ^ f.w := by
  refine Nat.eq_of_testBit_eq fun j => ?_
  rw [f.testBit_get, Nat.testBit_mod_two_pow]
  by_cases hj : j < f.w
  · have hm : f.mask.getLsbD (j + f.lo) = true := by
      simp only [Fld.getLsbD_mask, Bool.and_eq_true, decide_eq_true_eq]
      omega
    rw [f.getLsbD_set_of_mask_true hm, Nat.add_sub_cancel]
  · simp only [hj, decide_false, Bool.false_and]

/-- Fields that do not overlap share no bit of their masks. -/
theorem Fld.mask_false_of_disjoint {f g : Fld} (h : f.lo + f.w ≤ g.lo ∨ g.lo + g.w ≤ f.lo) {i : Nat} (hi : g.mask.getLsbD i = true) :
    f.mask.getLsbD i = false := by
  simp only [Fld.getLsbD_mask, Bool.and_eq_true, decide_eq_true_eq] at hi
  simp only [Fld.getLsbD_mask, Bool.and_eq_false_iff, decide_eq_false_iff_not]
  omega

theorem Fld.get_set_other {f g : Fld} (h : f.lo + f.w ≤ g.lo ∨ g.lo + g.w ≤ f.lo) (x : Nat) (v : Word) : g.get (f.set x v) = g.get v :=
  Fld.get_congr fun _ hi => Fld.getLsbD_set_of_mask_false (Fld.mask_false_of_disjoint h hi) x v

theorem Dev.fld_setF_same {f : Fld} (hf : f.lo + f.w ≤ 64) (d : Dev) (r : Reg) (x : Nat) : (d.setF r f x).fld r f = x % 2 ^ f.w := by
  rw [Dev.fld, Dev.rd_setF_same, Fld.get_set_same hf]

theorem Dev.fld_setF_disjoint {f g : Fld} (h : f.lo + f.w ≤ g.lo ∨ g.lo + g.w ≤ f.lo) (d : Dev) (r : Reg) (x : Nat) :
    (d.setF r f x).fld r g = d.fld r g := by
  rw [Dev.fld, Dev.rd_setF_same, Fld.get_set_other h, Dev.fld]

/-- Leaving registers undefined changes them alone, and draws free values. -/
theorem Dev.each_undefAt (l : List Nat) (d : Dev) :
    ∃ R n, d.each l Dev.undefAt = (d.setRegs R).setFreeCtr n ∧ ∀ a, a ∉ l → R.look a = d.regs.look a := by
  induction l generalizing d with
  | nil => exact ⟨d.regs, d.freeCtr, rfl, fun _ _ => rfl⟩
  | cons b l ih =>
    obtain ⟨R, n, hd, hR⟩ := ih (d.undefAt b)
    refine ⟨R, n, hd, fun a ha => ?_⟩
    obtain ⟨hab, hal⟩ := not_or.1 (mt List.mem_cons.2 ha)
    exact (hR a hal).trans (Tab.look_put_other _ _ _ _ hab)

/-- What selecting an item comes to. -/
theorem Dev.selectItem_eq (d : Dev) (k : SnapSel) (r : Reg) (v : Word) (l : List Nat) :
    ∃ R n, d.selectItem k r v l = ((d.setRegs R).setFreeCtr n).setSnapWait (k :: d.snapWait.filter (· != k)) ∧
      ∀ a, a ∉ l → R.look a = (d.wr r v).regs.look a := by
  obtain ⟨R, n, hd, hR⟩ := (d.wr r v).each_undefAt l
  refine ⟨R, n, ?_, hR⟩
  exact congrArg (fun e => Dev.setSnapWait e (k :: d.snapWait.filter (· != k))) hd

/-- A kind that is taken out and put in front is there once. -/
theorem count_cons_filter_ne (k : SnapSel) (l : List SnapSel) : (k :: l.filter (· != k)).count k = 1 := by
  rw [List.count_cons_self, List.count_eq_zero.2]
  simp

end Sys2Proof.Machine

/-- Settles O8: by the bits within and outside the field's mask. -/
theorem fieldReadBack : Obligations.FieldReadBack := fun _ _ x v hf _ => ⟨Fld.get_set_same hf x v, fun h => Fld.get_set_other h x v⟩

/-- Settles O12: a selection is a write of the selecting register, data registers left undefined, and a waiting snapshot. -/
theorem selectClearsValid : Obligations.SelectClearsValid := by
  intro d k r v l hr
  obtain ⟨R, n, hd, hR⟩ := d.selectItem_eq k r v l
  rw [hd]
  have hrd : ∀ q : Reg, q.addr ∉ l → (((d.setRegs R).setFreeCtr n).setSnapWait (k :: d.snapWait.filter (· != k))).rd q = (d.wr r v).rd q := fun q hq =>
    congrArg (fun o : Option Word => o.getD (BitVec.ofNat 64 q.rst)) (hR q.addr hq)
  refine ⟨(hrd r hr).trans (Dev.rd_wr_same d r v), count_cons_filter_ne k _, fun q hqr hq => (hrd q hq).trans (Dev.rd_wr_other d r q v hqr), rfl, rfl, rfl, rfl, rfl⟩
end

section
open Sys2Proof Sys2Proof.Machine
namespace Sys2Proof.Machine

/-! Memory reads back what is stored in it. -/

theorem Memory.readN_cons (m : Memory) (a n : Nat) : m.readN a (n + 1) = m.read a :: m.readN (a + 1) n := by
  unfold Memory.readN
  rw [List.range_succ_eq_map, List.map_cons, List.map_map]
  refine congrArg (m.read a :: ·) (List.map_congr_left fun i _ => ?_)
  rw [Function.comp_apply, Nat.succ_eq_add_one, Nat.add_assoc, Nat.add_comm 1]

theorem Memory.readN_writeN_same (bs : List Byte) (m : Memory) (a : Nat) (h : m.wf = true) : (m.writeN a bs).readN a bs.length = bs := by
  induction bs generalizing m a with
  | nil => rfl
  | cons b bs ih =>
    have hw := Memory.wf_write m a b h
    rw [Memory.writeN, List.length_cons, Memory.readN_cons, ih _ _ hw, Memory.read_writeN_other bs _ _ _ hw (by omega), Memory.read_write_same m a b h]

/-! The ones' complement sum in 16-bit words (07 R180). -/

theorem parts16_eq (x : Nat) : parts16 x = x % 65536 + x / 65536 % 65536 + x / 4294967296 % 65536 + x / 281474976710656 % 65536 := rfl

/-- The sum of a number's 16-bit words below 2^64 is congruent to it modulo 65,535, is 0 only with it, and is less than it from 65,536 on. -/
theorem parts16_spec {x : Nat} (h : x < 2 ^ 64) : parts16 x % 65535 = x % 65535 ∧ (parts16 x = 0 ↔ x = 0) ∧ parts16 x ≤ 4 * 65535 := by
  have hm : x = parts16 x + 65535 * (x / 65536 % 65536 + x / 4294967296 % 65536 * 65537 + x / 281474976710656 % 65536 * 4295032833) := by
    rw [parts16_eq]
    omega
  refine ⟨?_, ?_, ?_⟩
  · conv => rhs; rw [hm, Nat.add_mul_mod_self_left]
  · refine ⟨fun h0 => ?_, fun h0 => by rw [h0]; rfl⟩
    rw [h0] at hm
    simp only [parts16_eq, Nat.add_eq_zero_iff] at h0
    obtain ⟨⟨⟨-, h1⟩, h2⟩, h3⟩ := h0
    rw [hm, h1, h2, h3]
  · rw [parts16_eq]
    omega

theorem parts16_lt {x : Nat} (h : x ≤ 4 * 65535) : parts16 x ≤ 65535 + 3 := by
  rw [parts16_eq]
  omega

theorem parts16_lt' {x : Nat} (h : x ≤ 65535 + 3) : parts16 x < 65536 := by
  rw [parts16_eq]
  omega

/-- Adding the carry out of 64 bits back in keeps the sum modulo 65,535, and makes 0 of zeros alone. -/
theorem endAround_spec {a b : Nat} (ha : a < 2 ^ 64) (hb : b < 2 ^ 64) :
    (a + b + (a + b) / 2 ^ 64) % 2 ^ 64 % 65535 = (a + b) % 65535 ∧ ((a + b + (a + b) / 2 ^ 64) % 2 ^ 64 = 0 ↔ a = 0 ∧ b = 0) := by
  obtain hlt | hge := Nat.lt_or_ge (a + b) (2 ^ 64)
  · rw [Nat.div_eq_of_lt hlt, Nat.add_zero, Nat.mod_eq_of_lt hlt]
    omega
  · have hc : (a + b) / 2 ^ 64 = 1 := by omega
    have hs : a + b = (a + b - (2 ^ 64 - 1)) + 65535 * 281479271743489 := by omega
    rw [hc, show (a + b + 1) % 2 ^ 64 = a + b - (2 ^ 64 - 1) by omega]
    refine ⟨?_, by omega⟩
    conv => rhs; rw [hs, Nat.add_mul_mod_self_left]

theorem csfold_spec (a b : Word) : (csfold a b).toNat < 65536 ∧ (csfold a b).toNat % 65535 = (a.toNat + b.toNat) % 65535 ∧
    ((csfold a b).toNat = 0 ↔ a.toNat = 0 ∧ b.toNat = 0) := by
  obtain ⟨hs, hs0⟩ := endAround_spec a.isLt b.isLt
  generalize hS : (a.toNat + b.toNat + (a.toNat + b.toNat) / 2 ^ 64) % 2 ^ 64 = S at hs hs0
  have hlt : S < 2 ^ 64 := hS ▸ Nat.mod_lt _ (Nat.two_pow_pos 64)
  have hval : (csfold a b).toNat = parts16 (parts16 (parts16 S)) % 2 ^ 64 := by
    rw [← hS]
    exact BitVec.toNat_ofNat ..
  obtain ⟨h1, h1z, h1b⟩ := parts16_spec hlt
  obtain ⟨h2, h2z, -⟩ := parts16_spec (x := parts16 S) (by omega)
  have h2b := parts16_lt h1b
  obtain ⟨h3, h3z, -⟩ := parts16_spec (x := parts16 (parts16 S)) (by omega)
  have h3b := parts16_lt' h2b
  rw [hval, Nat.mod_eq_of_lt (by omega)]
  exact ⟨h3b, h3.trans (h2.trans (h1.trans hs)), h3z.trans (h2z.trans (h1z.trans hs0))⟩

/-! Bit fields of an engine register: one that BFI inserts, BFX reads back (07 R182). -/

/-- The bits that BFI takes from the inserted value. -/
theorem getLsbD_bitInsert (rd v : Word) (p w i : Nat) (hi : i < 64) :
    (bitInsert rd v p w).getLsbD i = if p ≤ i ∧ i ≤ p + w then v.getLsbD (i - p) else rd.getLsbD i := by
  have hm : (BitVec.ofNat 64 ((2 ^ (w + 1) - 1) * 2 ^ p)).getLsbD i = decide (p ≤ i ∧ i ≤ p + w) := by
    rw [BitVec.getLsbD_ofNat, Nat.testBit_mul_two_pow, Nat.testBit_two_pow_sub_one, decide_eq_true hi, Bool.true_and, ← Bool.decide_and]
    exact decide_eq_decide.2 (by omega)
  rw [bitInsert, BitVec.getLsbD_or, BitVec.getLsbD_and, BitVec.getLsbD_and, BitVec.getLsbD_not, BitVec.getLsbD_shiftLeft, hm]
  by_cases h : p ≤ i ∧ i ≤ p + w
  · simp [h, hi]
  · simp [h, hi]

theorem bitExtract_bitInsert (rd v : Word) {p w : Nat} (h : p + w < 64) : bitExtract (bitInsert rd v p w) p w = BitVec.ofNat 64 (v.toNat % 2 ^ (w + 1)) := by
  unfold bitExtract
  refine congrArg _ (Nat.eq_of_testBit_eq fun j => ?_)
  rw [Nat.testBit_mod_two_pow, Nat.testBit_mod_two_pow, Nat.testBit_div_two_pow, BitVec.testBit_toNat, BitVec.testBit_toNat]
  by_cases hj : j < w + 1
  · rw [getLsbD_bitInsert _ _ _ _ _ (by omega), if_pos (by omega), Nat.add_sub_cancel]
  · simp only [hj, decide_false, Bool.false_and]

end Sys2Proof.Machine

/-- Settles O33: a store to memory writes its bytes there; one to the deck or the metadata changes the frame alone. -/
theorem storedBytes : Obligations.StoredBytes := fun s _ bs h =>
  ⟨fun a _ => ⟨Memory.readN_writeN_same bs s.mem a h, Memory.wf_writeN bs s.mem a h, fun c hc => Memory.read_writeN_other bs s.mem a c h hc⟩, fun _ => ⟨rfl, rfl⟩⟩

/-- Settles O30: three foldings of the 16-bit words bring any sum below 65,536; inserted bits are read back by their positions. -/
theorem foldsAndBitfields : Obligations.FoldsAndBitfields := by
  refine ⟨fun a b => ?_, fun rd v p w h => ⟨bitExtract_bitInsert rd v h, fun i hi ho => ?_⟩⟩
  · obtain ⟨hlt, hmod, h0⟩ := csfold_spec a b
    have hz : ∀ v : Word, v = 0 ↔ v.toNat = 0 := fun v => BitVec.toNat_inj.symm
    exact ⟨hlt, hmod, (hz _).trans (h0.trans (and_congr (hz a).symm (hz b).symm))⟩
  · rw [getLsbD_bitInsert _ _ _ _ _ hi, if_neg (by omega)]
end

section
open Sys2Proof Sys2Proof.Machine
namespace Sys2Proof.Machine

/-! The free index an insert takes (06 R126, R139). -/

/-- What a table looks up is listed in it. -/
theorem Tab.mem_of_look {α : Type} {t : Tab α} {i : Nat} {x : α} (h : t.look i = some x) : (i, x) ∈ t := by
  induction t with
  | nil => cases h
  | cons c t ih =>
    obtain ⟨k, v⟩ := c
    unfold Tab.look at h
    split at h
    · cases h
      exact List.mem_cons.2 (.inl (congrArg (·, x) ‹i = k›))
    · split at h
      · cases h
      · exact List.mem_cons_of_mem _ (ih h)

/-- Among more indices than a table has entries, one holds nothing. -/
theorem Tab.exists_look_none {α : Type} (t : Tab α) {cap : Nat} (v : Nat) (h : t.length < cap) : ∃ j ≤ t.length, t.look ((v + j) % cap) = none := by
  refine Classical.byContradiction fun hall => ?_
  have hsome : ∀ j ≤ t.length, ∃ x, t.look ((v + j) % cap) = some x := fun j hj => by
    cases hx : t.look ((v + j) % cap) with
    | none => exact absurd ⟨j, hj, hx⟩ hall
    | some x => exact ⟨x, rfl⟩
  have hnodup : ((List.range (t.length + 1)).map fun j => (v + j) % cap).Nodup := by
    refine List.pairwise_map.2 (List.pairwise_lt_range.imp_of_mem fun {i j} _ hj hij heq => ?_)
    have hlen := List.mem_range.1 hj
    have hzero := Nat.sub_mod_eq_zero_of_mod_eq heq.symm
    rw [Nat.mod_eq_of_lt (by omega)] at hzero
    omega
  have hsub : ((List.range (t.length + 1)).map fun j => (v + j) % cap) ⊆ t.map Prod.fst := fun i hi => by
    obtain ⟨j, hj, rfl⟩ := List.mem_map.1 hi
    obtain ⟨x, hx⟩ := hsome j (Nat.lt_succ_iff.1 (List.mem_range.1 hj))
    exact List.mem_map_of_mem (Tab.mem_of_look hx)
  have hle := hnodup.length_le_of_subset hsub
  rw [List.length_map, List.length_map, List.length_range] at hle
  omega

/-- The search finds a free index within its reach. -/
theorem look_freeIndexFrom {es : Tab Entry} {cap : Nat} (fuel v : Nat) (h : ∃ j ≤ fuel, es.look ((v + j) % cap) = none) :
    es.look (freeIndexFrom es cap fuel v) = none := by
  induction fuel generalizing v with
  | zero =>
    obtain ⟨j, hj, hn⟩ := h
    rwa [Nat.le_zero.1 hj] at hn
  | succ fuel ih =>
    unfold freeIndexFrom
    split
    · exact Option.isNone_iff_eq_none.1 ‹_›
    · obtain ⟨j, hj, hn⟩ := h
      refine ih (v + 1) ?_
      cases j with
      | zero => exact absurd (Option.isNone_iff_eq_none.2 hn) ‹_›
      | succ j => exact ⟨j, by omega, by rwa [Nat.add_assoc, Nat.add_comm 1]⟩

theorem freeIndexFrom_lt (es : Tab Entry) {cap : Nat} (hc : 0 < cap) (fuel v : Nat) : freeIndexFrom es cap fuel v < cap := by
  induction fuel generalizing v with
  | zero => exact Nat.mod_lt _ hc
  | succ fuel ih =>
    unfold freeIndexFrom
    split
    · exact Nat.mod_lt _ hc
    · exact ih (v + 1)

/-- An insert's place is a free index below the capacity. -/
theorem Table.place_free {t : Table} {e : Entry} {v i : Nat} (h : t.place e v = .inl i) : i < t.decl.capacity ∧ t.entries.look i = none := by
  unfold Table.place at h
  dsimp only at h
  split at h
  · cases h
  rename_i hcap
  have hlt : t.entries.length < t.decl.capacity := Nat.lt_of_not_le hcap
  have hany := look_freeIndexFrom t.entries.length v (t.entries.exists_look_none v hlt)
  have hanylt := freeIndexFrom_lt t.entries (by omega : 0 < t.decl.capacity) t.entries.length v
  split at h
  · split at h
    · rename_i k hk
      cases h
      obtain ⟨w, -, rfl⟩ := List.mem_map.1 (List.mem_of_find?_eq_some hk)
      exact ⟨Nat.mod_lt _ (by omega), by simpa using List.find?_some hk⟩
    · split at h
      · cases h
        exact ⟨hanylt, hany⟩
      · cases h
  · cases h
    exact ⟨hanylt, hany⟩

/-- A full table refuses every insert. -/
theorem Table.place_full {t : Table} (h : t.decl.capacity ≤ t.entries.length) (e : Entry) (v : Nat) : t.place e v = .inr 3 := if_pos h

/-- An entry as an insert stores it. -/
def Entry.fresh (e : Entry) : Entry := { e with learned := false, hit := false, bad := false }

/-- The install of an entry whose key the table does not hold. -/
theorem Table.install_of_find_none {t : Table} {e : Entry} (h : t.find e.fresh = none) (v : Nat) :
    t.install e v = match t.place e.fresh v with
      | .inl i => .inl (t.set i e.fresh, i)
      | .inr c => .inr c := by
  unfold Table.install
  change (match t.find e.fresh with | some (i, x) => _ | none => _) = _
  rw [h]
  rfl

/-! A walk's bounds (05 R110). -/

/-- What every step of a walk of a frame of `F` bytes keeps: the bounds of R110, and a window that ends the walk as a depth limit does. -/
structure Walk.Within (b : ParseBody) (F : Nat) (w : Walk) : Prop where
  depth : w.stack.length ≤ b.maxDepth
  pos_le : w.pos ≤ w.bound
  bound_le : w.bound ≤ F
  window_le : w.pos ≤ 1024
  ends_le : ∀ e ∈ w.stack, e.off + e.len ≤ w.pos

theorem Walk.within_start (b : ParseBody) (F : Nat) : (Walk.start F).Within b F :=
  ⟨Nat.zero_le _, Nat.zero_le _, Nat.le_refl _, Nat.zero_le _, fun _ h => nomatch h⟩

/-- The verdict's flags are none of a walk's bounds. -/
theorem Walk.Within.record {b : ParseBody} {F : Nat} {w : Walk} (h : w.Within b F) (e : Int) : (w.record e).Within b F := by
  unfold Walk.record
  split
  · exact h
  · exact ⟨h.depth, h.pos_le, h.bound_le, h.window_le, h.ends_le⟩

theorem Walk.record_stack (w : Walk) (e : Int) : (w.record e).stack = w.stack := by
  unfold Walk.record
  split <;> rfl

theorem Walk.record_pos (w : Walk) (e : Int) : (w.record e).pos = w.pos := by
  unfold Walk.record
  split <;> rfl

theorem Walk.record_bound (w : Walk) (e : Int) : (w.record e).bound = w.bound := by
  unfold Walk.record
  split <;> rfl

/-- A header that ends within the bound and the window is stacked, the bound drawn in to an end it claims between its own end and the bound, or kept where the
claim is a conflict. -/
theorem Walk.Within.push {b : ParseBody} {F : Nat} {w u : Walk} {len : Nat} {x : StackEnt} (h : w.Within b F) (hroom : w.stack.length < b.maxDepth)
    (hstack : u.stack = w.stack) (hpos : u.pos = w.pos) (hlo : w.pos + len ≤ u.bound) (hhi : u.bound ≤ w.bound) (hx : x.off + x.len = w.pos + len)
    (hw : w.pos + len ≤ 1024) : Walk.Within b F { u with stack := u.stack ++ [x], pos := u.pos + len } := by
  refine ⟨?_, hpos ▸ hlo, Nat.le_trans hhi h.bound_le, hpos ▸ hw, fun e he => ?_⟩
  · rw [List.length_append, hstack]
    exact hroom
  · show e.off + e.len ≤ u.pos + len
    rw [hstack] at he
    rw [hpos]
    obtain he | he := List.mem_append.1 he
    · exact Nat.le_trans (h.ends_le e he) (Nat.le_add_right ..)
    · exact Nat.le_of_eq (by rw [List.mem_singleton.1 he, hx])

/-- What a claim `c` makes of the walk: a conflict, another bound, or nothing. -/
def Walk.claimed (w : Walk) (clash claims : Bool) (c : Int) : Walk :=
  if clash then w.record c else if claims then { w with bound := c.toNat } else w

theorem Walk.claimed_stack (w : Walk) (clash claims : Bool) (c : Int) : (w.claimed clash claims c).stack = w.stack := by
  cases clash
  · cases claims <;> rfl
  · exact w.record_stack c

theorem Walk.claimed_pos (w : Walk) (clash claims : Bool) (c : Int) : (w.claimed clash claims c).pos = w.pos := by
  cases clash
  · cases claims <;> rfl
  · exact w.record_pos c

/-- A claim that lies between a header's end and the bound, or is a conflict, leaves the bound between them. -/
theorem Walk.claimed_bound (w : Walk) (claims : Bool) (c : Int) {len : Nat} (hlen : w.pos + len ≤ w.bound) :
    let clash := claims && (decide (Int.ofNat w.bound < c) || decide (c < Int.ofNat (w.pos + len)))
    w.pos + len ≤ (w.claimed clash claims c).bound ∧ (w.claimed clash claims c).bound ≤ w.bound := by
  cases claims with
  | false => exact ⟨hlen, Nat.le_refl _⟩
  | true =>
    dsimp only [Bool.true_and]
    cases hclash : decide (Int.ofNat w.bound < c) || decide (c < Int.ofNat (w.pos + len)) with
    | true =>
      have hb : (w.claimed true true c).bound = w.bound := w.record_bound c
      exact ⟨hb ▸ hlen, Nat.le_of_eq hb⟩
    | false =>
      simp only [Bool.or_eq_false_iff, decide_eq_false_iff_not] at hclash
      show w.pos + len ≤ c.toNat ∧ c.toNat ≤ w.bound
      simp only [Int.ofNat_eq_natCast] at hclash
      omega

theorem ParseBody.walk_within (b : ParseBody) (data : List Byte) (bad : Option TreeEcc) (F fuel n : Nat) (w w' : Walk)
    (hrun : b.walk data bad fuel n w = some w') (h : w.Within b F) : w'.Within b F := by
  induction fuel generalizing n w with
  | zero =>
    cases hrun
    exact h
  | succ fuel ih =>
    have hflags : ∀ (u : Walk), u.stack = w.stack → u.pos = w.pos → u.bound = w.bound → u.Within b F := fun u hs hp hb =>
      ⟨hs ▸ h.depth, hp ▸ hb ▸ h.pos_le, hb ▸ h.bound_le, hp ▸ h.window_le, hs ▸ hp ▸ h.ends_le⟩
    unfold ParseBody.walk at hrun
    split at hrun
    · cases hrun
      exact h
    split at hrun
    · cases hrun
      exact hflags _ rfl rfl rfl
    rename_i x _
    split at hrun
    · cases hrun
      exact hflags _ rfl rfl rfl
    split at hrun
    · cases hrun
    rename_i hdepth _
    have hroom := Nat.lt_of_le_of_ne h.depth hdepth
    replace h : Walk.Within b F { w with lastNode := some n } := hflags _ rfl rfl rfl
    extract_lets u hd rdf len c clash v y at hrun
    change u.Within b F at h
    split at hrun
    · cases hrun
      exact h.record _
    split at hrun
    · cases hrun
      exact ⟨h.depth, h.pos_le, h.bound_le, h.window_le, h.ends_le⟩
    split at hrun
    · cases hrun
      exact h.record _
    rename_i hwin hlen
    simp only [Bool.or_eq_true, decide_eq_true_eq, not_or] at hwin hlen
    obtain ⟨-, hwin⟩ := hwin
    obtain ⟨-, hlen⟩ := hlen
    obtain ⟨hlo, hhi⟩ := u.claimed_bound (x.claimMode != 0) c (Nat.le_of_not_lt hlen)
    have hy : y.Within b F := h.push hroom (u.claimed_stack clash _ c) (u.claimed_pos clash _ c) hlo hhi (congrArg (· + len) (u.claimed_pos clash _ c)) (Nat.le_of_not_lt hwin)
    split at hrun
    · cases hrun
      exact ⟨hy.depth, hy.pos_le, hy.bound_le, hy.window_le, hy.ends_le⟩
    split at hrun
    · cases hrun
    · exact ih _ _ hrun hy

theorem Walk.cls_eq_zero_iff (w : Walk) : w.cls = 0 ↔ w.conflict = false ∧ w.depthLimit = false ∧ w.rejected = false := by
  unfold Walk.cls
  cases w.conflict <;> cases w.depthLimit <;> cases w.rejected <;> decide

end Sys2Proof.Machine

/-- Settles O24: an insert of a new key is placed at a free index, which more indices than entries leave. -/
theorem insertTakesFreeIndex : Obligations.InsertTakesFreeIndex := by
  intro t e v hnone
  have hinst := Table.install_of_find_none (e := e) hnone v
  refine ⟨fun u i hu => ?_, fun hfull => ?_⟩
  · rw [hinst] at hu
    split at hu
    · rename_i k hk
      cases hu
      obtain ⟨hlt, hfree⟩ := Table.place_free hk
      exact ⟨hlt, hfree, Tab.look_put_same .., fun j hj => Tab.look_put_other _ _ _ _ hj⟩
    · cases hu
  · rw [hinst, Table.place_full hfull]

/-- Settles O22: each step of a walk keeps its bounds, which hold at the start. -/
theorem walkWithinBounds : Obligations.WalkWithinBounds := by
  intro b data bad fuel n F w hw
  obtain ⟨hdepth, hpos, hbound, hwindow, hends⟩ := b.walk_within data bad F fuel n _ w hw (Walk.within_start b F)
  exact ⟨hdepth, hpos, hbound, hwindow, hends, w.cls_eq_zero_iff⟩
end

section
open Sys2Proof Sys2Proof.Machine
namespace Sys2Proof.Machine

/-! The uses of a key slot: what moves them keeps their sum (11 R293 to R299). -/

/-- Taking an entry out of a table takes its share from a sum over the table. -/
theorem Tab.sum_map_del {α : Type} (g : α → Nat) {t : Tab α} {n : Nat} {v : α} (h : t.look n = some v) :
    (t.map fun c => g c.2).sum = g v + ((t.del n).map fun c => g c.2).sum := by
  induction t with
  | nil => cases h
  | cons c t ih =>
    obtain ⟨k, w⟩ := c
    unfold Tab.look at h
    unfold Tab.del
    split
    · rw [if_pos ‹_›] at h
      cases h
      rfl
    · rw [if_neg ‹_›] at h
      split at h
      · cases h
      · rw [if_neg ‹_›, List.map_cons, List.map_cons, List.sum_cons, List.sum_cons, ih h]
        omega

/-- A new entry adds its share to a sum over the table. -/
theorem Tab.sum_map_put {α : Type} (g : α → Nat) {t : Tab α} {n : Nat} (v : α) (h : t.look n = none) :
    ((t.put n v).map fun c => g c.2).sum = g v + (t.map fun c => g c.2).sum := by
  induction t with
  | nil => rfl
  | cons c t ih =>
    obtain ⟨k, w⟩ := c
    unfold Tab.look at h
    unfold Tab.put
    split at h
    · cases h
    · rw [if_neg ‹_›]
      split at h
      · rw [if_pos ‹_›]
        rfl
      · rw [if_neg ‹_›, List.map_cons, List.map_cons, List.sum_cons, List.sum_cons, ih h]
        omega

/-- Becoming SPENT moves no use. -/
theorem KeySlot.spend_uses (x : KeySlot) : x.spend.ret = x.ret ∧ x.spend.leases = x.leases ∧ x.spend.next = x.next ∧ x.spend.stranded = x.stranded := by
  unfold KeySlot.spend
  split <;> exact ⟨rfl, rfl, rfl, rfl⟩

/-- A returned range that is drawn leaves the others. -/
theorem KeySlot.returned_del {x : KeySlot} {s : Nat} {r : Nat × Nat} (h : x.ret.look s = some r) :
    x.returned = r.2 - r.1 + ({ x with ret := x.ret.del s } : KeySlot).returned := Tab.sum_map_del (fun r : Nat × Nat => r.2 - r.1) h

/-- A lease that ends leaves the others. -/
theorem KeySlot.leased_del {x : KeySlot} {s : Nat} {l : Lease} (h : x.leases.look s = some l) :
    x.leased = l.stop - l.next + ((x.leases.del s).map fun l => l.2.stop - l.2.next).sum := Tab.sum_map_del (fun l : Lease => l.stop - l.next) h

/-- A draw takes a range that was returned, or one never leased. -/
theorem KeySlot.source_spec {x : KeySlot} (hret : ∀ r ∈ x.ret, r.2.1 ≤ r.2.2) {s a b : Nat} {y : KeySlot} (h : x.source s = some (a, b, y)) :
    a ≤ b ∧ b - a + y.returned + (y.limit - y.next) = x.returned + (x.limit - x.next) ∧ y.leases = x.leases ∧ y.stranded = x.stranded := by
  have drawn : ∀ (t : Nat) (r : Nat × Nat), x.ret.look t = some r → some (r.1, r.2, { x with ret := x.ret.del t }) = some (a, b, y) →
      a ≤ b ∧ b - a + y.returned + (y.limit - y.next) = x.returned + (x.limit - x.next) ∧ y.leases = x.leases ∧ y.stranded = x.stranded := fun t r hr hy => by
    have hsum := KeySlot.returned_del hr
    have hle := hret _ (Tab.mem_of_look hr)
    cases hy
    exact ⟨hle, by rw [hsum], rfl, rfl⟩
  unfold KeySlot.source at h
  split at h
  · exact drawn _ _ ‹_› h
  · split at h
    · rename_i t r rest hcons
      exact drawn t r (by rw [hcons, Tab.look, if_pos rfl]) h
    · rename_i hnil
      split at h
      · cases h
        refine ⟨by omega, ?_, rfl, rfl⟩
        show min (x.next + 65536) x.limit - x.next + x.returned + (x.limit - min (x.next + 65536) x.limit) = _
        omega
      · cases h

theorem KeySlot.giveBack_spec {x : KeySlot} {s : Nat} (h : x.ret.look s = none) :
    (x.giveBack s).returned + (x.giveBack s).leased = x.returned + x.leased ∧ (x.giveBack s).next = x.next ∧ (x.giveBack s).stranded = x.stranded := by
  unfold KeySlot.giveBack
  split
  · rename_i l hl
    have hput : ((x.ret.put s (l.next, l.stop)).map fun r => r.2.2 - r.2.1).sum = l.stop - l.next + x.returned :=
      Tab.sum_map_put (fun r : Nat × Nat => r.2 - r.1) (l.next, l.stop) h
    refine ⟨?_, rfl, rfl⟩
    rw [KeySlot.leased_del hl, KeySlot.returned, hput, KeySlot.leased]
    dsimp only
    omega
  · exact ⟨rfl, rfl, rfl⟩

theorem KeySlot.strand_spec (x : KeySlot) (s : Nat) :
    (x.strand s).stranded + (x.strand s).leased = x.stranded + x.leased ∧ (x.strand s).returned = x.returned ∧ (x.strand s).next = x.next := by
  unfold KeySlot.strand
  split
  · rename_i l hl
    obtain ⟨hret, hleases, hnext, hstranded⟩ := KeySlot.spend_uses { x with leases := x.leases.del s, stranded := x.stranded + (l.stop - l.next) }
    refine ⟨?_, by rw [KeySlot.returned, hret, KeySlot.returned], hnext⟩
    rw [KeySlot.leased_del hl, KeySlot.leased, hleases, hstranded]
    dsimp only
    omega
  · exact ⟨rfl, rfl, rfl⟩

/-- A revoked slot's operations end with KEY_REVOKED, unless an ERASE of it runs. -/
theorem keyState_revoke (x : KeySlot) : keyState (some x.revoke) = if x.erasing then some 1 else some 3 := by
  show (if x.erasing then some 1 else _) = _
  rfl

end Sys2Proof.Machine

/-- Settles O45: each of the five moves keeps the sum of the places it moves uses between. -/
theorem usesAreNotLost : Obligations.UsesAreNotLost := fun x _ _ _ hret _ =>
  ⟨fun _ _ _ _ h => KeySlot.source_spec hret h, fun _ h => KeySlot.giveBack_spec h, x.strand_spec, rfl, rfl, rfl, rfl, keyState_revoke x, rfl, rfl, rfl, rfl, rfl⟩
end

section
open Sys2Proof Sys2Proof.Machine
namespace Sys2Proof.Machine

/-! What settling leaves alone. -/

/-- The device without what settling may change beside registers and counters: what goes out, due compares, threads, stalls and held banks, links and
asserted sources, the message store, and the power mechanisms' own notes. -/
def Dev.unsettled (d : Dev) : Dev :=
  { d with
    regs := [], cnt := [], out := [], due := []
    eng := { d.eng with thr := [], stall := [], bankHeld := 0 }
    hif := { d.hif with link := [], irq := 0 }
    rgm := { d.rgm with msg := [] }
    pwr := { d.pwr with pwrNext := (0, 0), easyEpoch := none, gated := [] } }

/-- The registers that settling may change. -/
def settledReg (a : Nat) : Prop := a = PWR_STATUS.addr ∨ a = MEM_PWR.addr ∨ a = (DMA_CH_STATUS 63).addr

/-- `e` is `d` but for what settling may change. -/
structure Dev.SettlesTo (d e : Dev) : Prop where
  rest : e.unsettled = d.unsettled
  rd : ∀ r : Reg, ¬ settledReg r.addr → e.rd r = d.rd r
  cntAt : ∀ a, a ≠ rgmCnt 12 → e.cntAt a = d.cntAt a

theorem Dev.SettlesTo.refl (d : Dev) : d.SettlesTo d := ⟨rfl, fun _ _ => rfl, fun _ _ => rfl⟩

theorem Dev.SettlesTo.trans {d e f : Dev} (h : d.SettlesTo e) (h' : e.SettlesTo f) : d.SettlesTo f :=
  ⟨h'.rest.trans h.rest, fun r hr => (h'.rd r hr).trans (h.rd r hr), fun a ha => (h'.cntAt a ha).trans (h.cntAt a ha)⟩

/-- A change of what settling may change, with registers and counters kept. -/
theorem Dev.SettlesTo.of_same {d e : Dev} (hrest : e.unsettled = d.unsettled) (hregs : e.regs = d.regs) (hcnt : e.cnt = d.cnt) : d.SettlesTo e :=
  ⟨hrest, fun _ _ => by rw [Dev.rd, hregs, Dev.rd], fun _ _ => by rw [Dev.cntAt, hcnt, Dev.cntAt]⟩

theorem Dev.SettlesTo.setF (d : Dev) {r : Reg} (hr : settledReg r.addr) (f : Fld) (x : Nat) : d.SettlesTo (d.setF r f x) :=
  ⟨rfl, fun _ hq => Dev.rd_setF_other _ _ _ _ _ fun h => hq (h ▸ hr), fun _ _ => rfl⟩

theorem Dev.SettlesTo.setPs (d : Dev) (f : Fld) (x : Nat) : d.SettlesTo (d.setPs f x) := .setF d (.inl rfl) f x

theorem Dev.SettlesTo.updThr (d : Dev) (k : Nat) (f : Thr → Thr) : d.SettlesTo (d.updThr k f) := .of_same rfl rfl rfl

theorem Dev.SettlesTo.setStall (d : Dev) (x : Tab StallSt) : d.SettlesTo (d.setStall x) := .of_same rfl rfl rfl

theorem Dev.SettlesTo.emit (d : Dev) (e : Emit) : d.SettlesTo (d.emit e) := .of_same rfl rfl rfl

theorem Dev.SettlesTo.updPf (d : Dev) (n : Nat) (f : PfLink → PfLink) : d.SettlesTo (d.updPf n f) := .of_same rfl rfl rfl

theorem Dev.SettlesTo.setMsg (d : Dev) (x : Tab MsgEnt) : d.SettlesTo (d.setMsg x) := .of_same rfl rfl rfl

theorem Dev.SettlesTo.countSent (d : Dev) : d.SettlesTo (d.count (rgmCnt 12)) := ⟨rfl, fun _ _ => rfl, fun _ ha => Dev.cntAt_count_other _ _ _ _ ha⟩

theorem Dev.SettlesTo.each {α : Type} {f : Dev → α → Dev} (hf : ∀ (d : Dev) (x : α), d.SettlesTo (f d x)) (d : Dev) (l : List α) : d.SettlesTo (d.each l f) := by
  induction l generalizing d with
  | nil => exact .refl d
  | cons x l ih => exact (hf d x).trans (ih (f d x))

theorem Dev.SettlesTo.ite {d a b : Dev} {c : Prop} [Decidable c] (ha : d.SettlesTo a) (hb : d.SettlesTo b) : d.SettlesTo (if c then a else b) := by
  split
  · exact ha
  · exact hb

theorem Dev.SettlesTo.cross (d : Dev) (k : Nat) (st : TState) : d.SettlesTo (d.cross k st) := by
  unfold Dev.cross
  split
  · exact .ite (.updThr d _ _) (.updThr d _ _)
  · exact .updThr d _ _

theorem Dev.SettlesTo.waitReturns (d : Dev) (k r : Nat) : d.SettlesTo (d.waitReturns k r) := by
  unfold Dev.waitReturns
  extract_lets e f x
  have hf : d.SettlesTo f := (Dev.SettlesTo.updThr d _ _).trans (.ite (.setStall e _) (.refl e))
  exact .ite (hf.trans (.cross f _ _)) hf

theorem Dev.SettlesTo.settleEngines (d : Dev) : d.SettlesTo d.settleEngines := by
  unfold Dev.settleEngines
  extract_lets e f
  have he : d.SettlesTo e := .each (fun d k => .ite (.refl d) (by
    split
    · exact .waitReturns d _ _
    · exact .refl d)) d _
  have hf : d.SettlesTo f := he.trans (.setStall e _)
  exact hf.trans (.of_same rfl rfl rfl)

theorem Dev.SettlesTo.msix (d : Dev) (n v : Nat) : d.SettlesTo (d.msix n v) := .ite (.emit d _) (.updPf d _ _)

theorem Dev.SettlesTo.irqSend (d : Dev) (i : Nat) : d.SettlesTo (d.irqSend i) := by
  unfold Dev.irqSend
  extract_lets r
  split
  · exact .msix d _ _
  · exact .emit d _
  · exact .refl d

theorem Dev.SettlesTo.flushPba (d : Dev) (n : Nat) : d.SettlesTo (d.flushPba n) :=
  .each (fun d _ => .ite ((Dev.SettlesTo.updPf d _ _).trans (.emit _ _)) (.refl d)) d _

theorem Dev.SettlesTo.msgDue (d : Dev) (f e : Nat) : d.SettlesTo (d.msgDue f e) :=
  .ite (((Dev.SettlesTo.setMsg d _).trans (.emit _ _)).trans (.countSent _)) (.setMsg d _)

theorem Dev.SettlesTo.flushMsg (d : Dev) : d.SettlesTo d.flushMsg := by
  refine .each (fun d e => ?_) d _
  split
  · exact .ite (.refl d) (.msgDue d _ _)
  · exact .refl d

theorem Dev.SettlesTo.holdBanks (d : Dev) (l : List Nat) : d.SettlesTo (d.holdBanks l) := by
  have hheld : d.SettlesTo (d.setBankHeld (maskOf l)) := .of_same rfl rfl rfl
  exact .ite (.refl d) (hheld.trans (.setF _ (.inr (.inr rfl)) _ _))

theorem Dev.SettlesTo.setEasyEpoch (d : Dev) (x : Option Nat) : d.SettlesTo (d.setEasyEpoch x) := .of_same rfl rfl rfl

theorem Dev.SettlesTo.setPwrNext (d : Dev) (x : Nat × Nat) : d.SettlesTo (d.setPwrNext x) := .of_same rfl rfl rfl

theorem Dev.SettlesTo.pwrEval (d : Dev) : d.SettlesTo d.pwrEval := by
  unfold Dev.pwrEval
  extract_lets e eff dest sl f
  have he : d.SettlesTo e := .setPs d _ _
  refine .ite he (.ite ?_ ?_)
  · exact (he.trans (.setPs e _ _)).trans (.ite (.setEasyEpoch _ _) (.refl _))
  · exact he.trans ((((Dev.SettlesTo.setPs e _ _).trans (.setEasyEpoch _ _)).trans (.setPwrNext _ _)).trans ((Dev.SettlesTo.setPs f _ _).trans (.holdBanks _ _)))

theorem Dev.SettlesTo.settlePower (d : Dev) : d.SettlesTo d.settlePower := by
  have hgate : d.SettlesTo (d.setGated (d.gated.filter d.gateCan)) := .of_same rfl rfl rfl
  have hrefresh : ∀ d : Dev, d.SettlesTo d.refreshExit := fun d => .ite (.refl d) (.setF d (.inr (.inl rfl)) _ _)
  have hfollow : ∀ d : Dev, d.SettlesTo d.pwrFollow := fun d => .ite (.pwrEval d) (.refl d)
  have hwaits : ∀ d : Dev, d.SettlesTo d.easyWaits := fun d => .ite (.ite (.ite (.setEasyEpoch d _) (.refl d)) (.setEasyEpoch d _)) (.refl d)
  exact ((hgate.trans (hrefresh _)).trans (hfollow _)).trans (hwaits _)

theorem Dev.settlesTo_settle (d : Dev) : d.SettlesTo d.settle := by
  unfold Dev.settle
  extract_lets e on rising f
  have he : d.SettlesTo e := .settleEngines d
  have hf : d.SettlesTo f := (he.trans (.each .irqSend e rising)).trans (.of_same rfl rfl rfl)
  exact ((hf.trans (.each .flushPba f _)).trans (.flushMsg _)).trans (.settlePower _)

end Sys2Proof.Machine

/-- Settles O7: each part of settling changes nothing but what `Dev.unsettled` leaves out, three registers and one counter. -/
theorem settleFrame : Obligations.SettleFrame := by
  intro d
  obtain ⟨hrest, hrd, hcnt⟩ := d.settlesTo_settle
  have same : ∀ {α : Type} (f : Dev → α), f d.settle.unsettled = f d.unsettled := fun f => congrArg f hrest
  exact ⟨same Dev.ntu, same Dev.img, same Dev.mac, same Dev.frm, same Dev.cls, same Dev.tm, same Dev.key, same Dev.dma, same Dev.mtr, same Dev.mgt, same Dev.rel,
    same Dev.snapWait, same Dev.freeCtr, same Dev.chan, same Dev.ops, same Dev.nextOp, same Dev.dspq, same Dev.order, same Dev.round, same Dev.excHeld,
    same Dev.recWait, same Dev.mig, same Dev.phys, same Dev.poison, same Dev.ring, same Dev.pfReset, same Dev.arrived, same Dev.pwrMode,
    fun r hs hm hc => hrd r (not_or.2 ⟨hs, not_or.2 ⟨hm, hc⟩⟩), hcnt⟩
end

section
open Sys2Proof Sys2Proof.Machine
namespace Sys2Proof.Machine

/-! What bringing the schedulers up to the present changes: the nodes' state alone. -/

/-- `e` is `d` but for the state of scheduler nodes. -/
def Dev.OnlyNodes (d e : Dev) : Prop := ∃ x, e = d.setNode x

theorem Dev.OnlyNodes.refl (d : Dev) : d.OnlyNodes d := ⟨d.node, rfl⟩

theorem Dev.OnlyNodes.trans {d e f : Dev} (h : d.OnlyNodes e) (h' : e.OnlyNodes f) : d.OnlyNodes f := by
  obtain ⟨x, rfl⟩ := h
  obtain ⟨y, rfl⟩ := h'
  exact ⟨y, rfl⟩

theorem Dev.OnlyNodes.updNode (d : Dev) (s l i : Nat) (f : NodeSt → NodeSt) : d.OnlyNodes (d.updNode s l i f) := ⟨_, rfl⟩

theorem Dev.OnlyNodes.ite {d a b : Dev} {c : Prop} [Decidable c] (ha : d.OnlyNodes a) (hb : d.OnlyNodes b) : d.OnlyNodes (if c then a else b) := by
  split
  · exact ha
  · exact hb

theorem Dev.OnlyNodes.each {α : Type} {f : Dev → α → Dev} (hf : ∀ (d : Dev) (x : α), d.OnlyNodes (f d x)) (d : Dev) (l : List α) : d.OnlyNodes (d.each l f) := by
  induction l generalizing d with
  | nil => exact .refl d
  | cons x l ih => exact (hf d x).trans (ih (f d x))

theorem Dev.OnlyNodes.joins (d : Dev) (s l i c : Nat) (r : NodeRec) : d.OnlyNodes (d.joins s l i c r) :=
  .ite (.ite ((Dev.OnlyNodes.updNode d _ _ _ _).trans (.updNode _ _ _ _ _)) ((Dev.OnlyNodes.updNode d _ _ _ _).trans (.updNode _ _ _ _ _)))
    ((Dev.OnlyNodes.updNode d _ _ _ _).trans (.updNode _ _ _ _ _))

theorem Dev.OnlyNodes.leaves (d : Dev) (s l i c : Nat) (r : NodeRec) (e : Bool) : d.OnlyNodes (d.leaves s l i c r e) := ⟨_, rfl⟩

theorem Dev.OnlyNodes.refreshGroup (d : Dev) (b : SchedBody) (s l i p : Nat) : d.OnlyNodes (d.refreshGroup b s l i p) := by
  refine .each (fun d c => ?_) d _
  split
  · exact .refl d
  · exact .ite (.ite (.refl d) (.updNode d _ _ _ _)) (.ite (.joins d _ _ _ _ _) (.ite (.leaves d _ _ _ _ _ _) (.ite (.updNode d _ _ _ _) (.refl d))))

theorem Dev.OnlyNodes.creditSync (d : Dev) (b : SchedBody) (s p : Nat) : d.OnlyNodes (d.creditSync b s p) := by
  refine .each (fun d c => ?_) d _
  split
  · exact .ite (.updNode d _ _ _ _) (.refl d)
  · exact .refl d

theorem Dev.OnlyNodes.refreshPort (d : Dev) (b : SchedBody) (s p : Nat) : d.OnlyNodes (d.refreshPort b s p) := by
  unfold Dev.refreshPort
  extract_lets e classes tenants f g
  have hf : d.OnlyNodes f := (Dev.OnlyNodes.creditSync d b s p).trans (.each (fun d _ => .refreshGroup d _ _ _ _ _) e _)
  exact (hf.trans (.each (fun d _ => .refreshGroup d _ _ _ _ _) f _)).trans (.refreshGroup g _ _ _ _ _)

theorem Dev.OnlyNodes.tmRefresh (d : Dev) (s : Nat) : d.OnlyNodes (d.tmRefresh s) := by
  unfold Dev.tmRefresh
  split
  · exact .each (fun d _ => .refreshPort d _ _ _) d _
  · exact .refl d

theorem Dev.ntu_tmRefresh (d : Dev) (s : Nat) : (d.tmRefresh s).ntu = d.ntu := by
  obtain ⟨x, hx⟩ := Dev.OnlyNodes.tmRefresh d s
  rw [hx]
  rfl

/-! The tick (02 R41, R49, R50). -/

/-- What every element of a fold keeps, the fold keeps. -/
theorem Dev.each_kept {α β : Type} (g : Dev → β) {f : Dev → α → Dev} (hf : ∀ d x, g (f d x) = g d) (d : Dev) (l : List α) : g (d.each l f) = g d := by
  induction l generalizing d with
  | nil => rfl
  | cons x l ih => exact (ih (f d x)).trans (hf d x)

theorem Dev.ntu_gateShow (d : Dev) (p : Nat) : (d.gateShow p).ntu = d.ntu := by
  unfold Dev.gateShow
  dsimp only
  split
  · rfl
  · split <;> rfl

theorem Dev.ntu_gateBack (d : Dev) (p : Nat) : (d.gateBack p).ntu = d.ntu := by
  unfold Dev.gateBack
  extract_lets x
  split
  · rfl
  · exact (Dev.ntu_tmRefresh _ _).trans (Dev.ntu_gateShow _ p)

theorem Dev.ntu_stepped (d : Dev) (adj : Int) (due : Nat) : (d.stepped adj due).ntu = d.ntu := by
  unfold Dev.stepped
  refine (Dev.each_kept Dev.ntu Dev.ntu_tmRefresh _ _).trans ?_
  unfold Dev.onlyIf
  split
  · exact Dev.each_kept Dev.ntu Dev.ntu_gateBack _ _
  · rfl

/-- A tick brings network time to the next one, and no command of NTU_CMD waits after it. -/
theorem Dev.ntu_tick (d : Dev) : d.tick.ntu.acc = d.nextAcc.toNat ∧ d.tick.ntu.ops = [] := by
  unfold Dev.tick Dev.onlyIf
  extract_lets acc ops adj reached due waits e n f g
  have hg : g.ntu = f.ntu := by
    unfold g
    split
    · exact Dev.ntu_stepped _ _ _
    · rfl
  show g.ntu.acc = _ ∧ g.ntu.ops = []
  rw [hg]
  exact ⟨rfl, rfl⟩

theorem Dev.ntu_settle (d : Dev) : d.settle.ntu = d.ntu := by
  have h := congrArg Dev.ntu d.settlesTo_settle.rest
  exact h

/-- With nothing commanded and no slew the next time is NTU_INCR later. -/
theorem Dev.nextAcc_of_quiet {d : Dev} (hslew : d.flag NTU_STATUS NTU_STATUS_SLEWING = false) (hops : d.ntu.ops = []) :
    d.nextAcc = Int.ofNat (d.ntu.acc + d.fld NTU_INCR NTU_INCR_INCR) := by
  simp [Dev.nextAcc, Dev.slewPart, hslew, hops]

theorem tickOr_of_range {s : State} (hheld : s.pwrMode ≠ .held) (hr : 0 ≤ s.nextAcc ∧ s.nextAcc < 2 ^ 95) : tickOr s = .next (s.settled s.toDev.tick) := by
  unfold tickOr
  rw [if_neg hheld, if_pos hr]
  rfl

/-- A tick that answers a next state leaves network time in range. -/
theorem timeOk_of_tickOr {s t : State} (hs : s.timeOk) (h : tickOr s = .next t) : t.timeOk := by
  unfold tickOr at h
  split at h
  · cases h
    exact hs
  · split at h
    · rename_i hr
      cases h
      show s.toDev.tick.settle.ntu.acc < 2 ^ 95
      rw [Dev.ntu_settle, s.toDev.ntu_tick.1]
      omega
    · cases h

/-- A tick that may do nothing leaves network time in range. -/
theorem timeOk_of_tickIf {s t : State} {c : Prop} [Decidable c] (hs : s.timeOk) (h : (if c then tickOr s else finA s s.toDev) = .next t) : t.timeOk := by
  split at h
  · exact timeOk_of_tickOr hs h
  · cases h
    show s.toDev.settle.ntu.acc < 2 ^ 95
    rw [Dev.ntu_settle]
    exact hs

end Sys2Proof.Machine

/-- Settles O13: a tick sets the accumulator to the next time whatever else it does, and settling leaves network time alone. -/
theorem tickAdvancesTime : Obligations.TickAdvancesTime := by
  refine ⟨fun s hheld hlo hhi => ?_, fun c s t hc hs h => ?_, fun s hheld hr => ?_⟩
  · have htick := tickOr_of_range hheld ⟨hlo, hhi⟩
    obtain ⟨hacc, hops⟩ := s.toDev.ntu_tick
    have hsettled : (s.settled s.toDev.tick).ntu = s.toDev.tick.ntu := Dev.ntu_settle _
    rw [hsettled]
    refine ⟨htick, hacc, hops, fun hslew hnone => ?_, fun hw => ?_, fun hslew hrem => ?_⟩
    · rw [hacc, Dev.nextAcc_of_quiet hslew hnone]
      rfl
    · show execStepApplied s = _
      rw [execStepApplied, if_pos hw, htick]
    · show execSlewDone s = _
      rw [execSlewDone, if_pos (by rw [hslew, hrem]; simp), htick]
  · obtain rfl | rfl | rfl := hc
    · exact timeOk_of_tickOr hs h
    · exact timeOk_of_tickIf hs h
    · exact timeOk_of_tickIf hs h
  · show tickOr s = _
    rw [tickOr, if_neg hheld, if_neg hr]
end

section
open Sys2Proof Sys2Proof.Machine
namespace Sys2Proof.Machine

/-! Network time's commands, ownership, reads and PPS (02 R44, R49 to R51, R58, R59). -/

theorem Dev.flag_setF_same {f : Fld} (hf : f.lo + f.w ≤ 64) (hw : f.w = 1) (d : Dev) (r : Reg) (b : Bool) : (d.setF r f (b2n b)).flag r f = b := by
  rw [Dev.flag, Dev.fld_setF_same hf, hw]
  cases b <;> rfl

theorem Dev.flag_setF_disjoint {f g : Fld} (h : f.lo + f.w ≤ g.lo ∨ g.lo + g.w ≤ f.lo) (d : Dev) (r : Reg) (x : Nat) : (d.setF r f x).flag r g = d.flag r g := by
  rw [Dev.flag, Dev.fld_setF_disjoint h, Dev.flag]

theorem Dev.ntuOwned_owner {d : Dev} {src : Src} (h : d.ntuOwner src = true) (f : Dev → Dev) : d.ntuOwned src f = f d := if_pos h

theorem Dev.ntuOwned_foreign {d : Dev} {src : Src} (h : d.ntuOwner src = false) (f : Dev → Dev) : d.ntuOwned src f = d.ntuForeign :=
  if_neg (Bool.eq_false_iff.1 h)

/-- What a step makes of NTU_STATUS at its tick. -/
theorem Dev.ntuApply_step (d : Dev) (x : Int) : (d.ntuApply (.step x)).fld NTU_STATUS NTU_STATUS_STEP_GEN = (d.fld NTU_STATUS NTU_STATUS_STEP_GEN + 1) % 2 ^ NTU_STATUS_STEP_GEN.w ∧
    (d.ntuApply (.step x)).flag NTU_STATUS NTU_STATUS_STEPPED = true ∧ (d.ntuApply (.step x)).flag NTU_STATUS NTU_STATUS_SLEWING = false := by
  unfold Dev.ntuApply
  refine ⟨?_, Dev.flag_setF_same (by decide) rfl _ _ true, ?_⟩
  · rw [Dev.fld_setF_disjoint (by decide), Dev.fld_setF_same (by decide)]
  · rw [Dev.flag_setF_disjoint (by decide), Dev.flag_setF_disjoint (by decide)]
    exact Dev.flag_setF_same (by decide) rfl _ _ false

theorem Dev.ntuApply_slew (d : Dev) (x : Int) : (d.ntuApply (.slew x)).ntu.slewRem = x ∧ (d.ntuApply (.slew x)).flag NTU_STATUS NTU_STATUS_SLEWING = (x != 0) :=
  ⟨rfl, Dev.flag_setF_same (by decide) rfl _ _ _⟩

theorem Dev.ntuApply_abandon (d : Dev) : (d.ntuApply .abandon).flag NTU_STATUS NTU_STATUS_SLEWING = false ∧ (d.ntuApply .abandon).ntu.slewRem = d.ntu.slewRem :=
  ⟨Dev.flag_setF_same (by decide) rfl _ _ false, rfl⟩

/-- The side that does not own network time, or a host for OWNER, asks for another value of a field of NTU_CTRL. -/
def Dev.ntuCtrlForeign (d : Dev) (src : Src) (v : Word) : Prop :=
  (d.ntuOwner src = false ∧ v.toNat % 8 ≠ (d.rd NTU_CTRL).toNat % 8) ∨ (src ≠ .ulyar ∧ NTU_CTRL_OWNER.get v ≠ d.fld NTU_CTRL NTU_CTRL_OWNER)

/-- What NTU_CTRL holds after a write of `v` by `src`. -/
def Dev.ntuCtrlValue (d : Dev) (src : Src) (v : Word) : Word :=
  BitVec.ofNat 64 ((if src = .ulyar then NTU_CTRL_OWNER.get v else d.fld NTU_CTRL NTU_CTRL_OWNER) * 8 +
    if d.ntuOwner src then v.toNat % 8 else (d.rd NTU_CTRL).toNat % 8)

theorem Dev.ntuCtrlWrite_eq {d : Dev} (hlow : d.ntu.ppsHigh = false) (src : Src) (v : Word) (b : Bool) (hb : b = true ↔ d.ntuCtrlForeign src v) :
    d.ntuCtrlWrite src v = (d.wr NTU_CTRL (d.ntuCtrlValue src v)).onlyIf b Dev.ntuForeign := by
  have hforeign : ((!d.ntuOwner src && ppsFields v != ppsFields (d.rd NTU_CTRL)) || (!decide (src = .ulyar) && NTU_CTRL_OWNER.get v != NTU_CTRL_OWNER.get (d.rd NTU_CTRL))) = b := by
    rw [Bool.eq_iff_iff, hb]
    simp [Dev.ntuCtrlForeign, ppsFields, Dev.fld]
  unfold Dev.ntuCtrlWrite
  extract_lets mayPps mayOwn old foreign pps own e
  have hmay : mayOwn = decide (src = .ulyar) := by
    cases src <;> rfl
  have he : e = (d.wr NTU_CTRL (d.ntuCtrlValue src v)).onlyIf b Dev.ntuForeign := by
    show (d.wr NTU_CTRL (BitVec.ofNat 64 (own * 8 + pps))).onlyIf foreign Dev.ntuForeign = _
    have hb' : foreign = b := by
      rw [← hforeign, ← hmay]
    rw [hb']
    simp [own, pps, mayPps, hmay, old, Dev.ntuCtrlValue, ppsFields, Dev.fld]
  have hlow' : e.ntu.ppsHigh = false := by
    rw [he]
    cases b <;> exact hlow
  rw [hlow', Bool.false_and, if_neg Bool.false_ne_true, he]

theorem finW_ntuCtrlWrite {s : State} {src : Src} (h : s.hears src) (v : Word) : exec (.ntuCtrlWrite src v) s = .next (s.settled (s.toDev.ntuCtrlWrite src v)) :=
  finW_eq_of_hears h _ _

end Sys2Proof.Machine

/-- Settles O14: a command of NTU_CMD waits or is counted; each command's part of a tick by its fields of NTU_STATUS; NTU_CTRL field by field. -/
theorem ntuCommandsAndOwnership : Obligations.NtuCommandsAndOwnership := by
  refine ⟨⟨fun s src h hown => ?_, fun s src h hown => ?_, fun d x => ?_⟩, fun s src v h hlow => ?_⟩
  · refine ⟨(finW_eq_of_hears h _ _).trans ?_, (finW_eq_of_hears h _ _).trans ?_, (finW_eq_of_hears h _ _).trans ?_⟩ <;>
    · rw [Dev.ntuOwned_owner hown]
      rfl
  · refine ⟨(finW_eq_of_hears h _ _).trans ?_, (finW_eq_of_hears h _ _).trans ?_, (finW_eq_of_hears h _ _).trans ?_⟩ <;>
    · rw [Dev.ntuOwned_foreign hown]
      rfl
  · obtain ⟨hgen, hstepped, hslewing⟩ := d.ntuApply_step x
    obtain ⟨hrem, hslew⟩ := d.ntuApply_slew x
    obtain ⟨hoff, hkept⟩ := d.ntuApply_abandon
    exact ⟨hgen, hstepped, hslewing, hrem, hslew, hoff, hkept⟩
  · have hw := fun b hb => (finW_ntuCtrlWrite h v).trans (congrArg (fun d => Host.Outcome.next (s.settled d)) (Dev.ntuCtrlWrite_eq hlow src v b hb))
    refine ⟨fun hf => ?_, fun hf => ?_⟩
    · exact hw true (iff_of_true rfl hf)
    · exact hw false (iff_of_false Bool.false_ne_true hf)

/-- Settles O15: each command's device is written out in its meaning; a stamp lies in its window by the bounds of the tick's skew. -/
theorem ntuReadsAndPps : Obligations.NtuReadsAndPps := by
  refine ⟨fun s src h => ⟨finR_eq_of_hears h _ _ _ _, finR_eq_of_hears h _ _ _ _⟩, fun s rising k => ?_, fun s b hdue hen hlow => ?_, fun s hhigh hend => ?_⟩
  · have hk := k.isLt
    refine ⟨?_, ?_, fun hen hedge => ?_, fun hen => ?_⟩
    · show (s.ntu.acc : Int) - 2 ^ 32 - 2 ^ 16 < ((s.ntu.acc / 2 ^ 16 + k.val - 1 * 2 ^ 16 : Nat) : Int) * 2 ^ 16
      omega
    · show (s.ntu.acc / 2 ^ 16 + k.val - 1 * 2 ^ 16) * 2 ^ 16 ≤ s.ntu.acc + 5 * 2 ^ 32
      omega
    · show finA s _ = _
      rw [hen, hedge, if_pos (by cases rising <;> rfl)]
      rfl
    · show finA s _ = _
      rw [hen, Bool.false_and, if_neg Bool.false_ne_true]
      rfl
  · show finA s s.toDev.ppsRise = _
    unfold Dev.ppsRise Dev.onlyIf
    rw [hdue]
    dsimp only
    rw [if_pos hen, hlow, if_neg Bool.false_ne_true]
    rfl
  · show finA s _ = _
    rw [hhigh, decide_eq_true hend]
    rfl
end

section
open Sys2Proof Sys2Proof.Machine
namespace Sys2Proof.Machine

/-! Selections and snapshots (00 R535, R536). -/

/-- A snapshot is taken of what waits for it. -/
theorem exec_snapshotTaken {s : State} (h : s.runs = true) (k : SnapSel) : exec (.snapshotTaken k) s = .next (s.settled (s.snapshot k)) :=
  finK_eq_of_runs h _

theorem Dev.rd_settle {r : Reg} (h : ¬ settledReg r.addr) (d : Dev) : d.settle.rd r = d.rd r := d.settlesTo_settle.rd r h

theorem Dev.snapWait_settle (d : Dev) : d.settle.snapWait = d.snapWait := by
  have h := congrArg Dev.snapWait d.settlesTo_settle.rest
  exact h

/-- The device with the snapshot of kind `k` no longer waiting. -/
def Dev.ended (d : Dev) (k : SnapSel) : Dev := d.setSnapWait (d.snapWait.filter (· != k))

theorem Dev.snapshot_tmgP {d : Dev} {sl : Fin 6} (h : d.snapWait.contains (.tmgP sl) = true) :
    d.snapshot (.tmgP sl) = ((d.ended (.tmgP sl)).snapPolicer sl.val).setF (TMG_PSEL sl.val) TMG_PSEL_VALID 1 := by
  unfold Dev.snapshot
  rw [h]
  rfl

theorem Dev.snapshot_keySlot {d : Dev} (h : d.snapWait.contains .keySlot = true) :
    d.snapshot .keySlot = (d.ended .keySlot).snapSlot.setF KEY_SLOT_SEL KEY_SLOT_SEL_VALID 1 := by
  unfold Dev.snapshot
  rw [h]
  rfl

theorem Dev.snapshot_ring {d : Dev} {p : Fin 4} (h : d.snapWait.contains (.ring p) = true) : d.snapshot (.ring p) = (d.ended (.ring p)).snapRing p.val := by
  unfold Dev.snapshot
  rw [h]
  rfl

/-- The snapshot of a ring that the window's PF does not own changes nothing. -/
theorem Dev.snapRing_foreign {d : Dev} {p : Nat} (h : d.windowOwns p (d.ringSel p) = false) : d.snapRing p = d := by
  unfold Dev.snapRing
  rw [h]
  rfl

/-- The snapshot of an EMPTY key slot shows 0 and changes nothing but its registers. -/
theorem Dev.snapSlot_empty {d : Dev} (h : d.keySlot.look (d.fld KEY_SLOT_SEL KEY_SLOT_SEL_SLOT) = none) :
    d.snapSlot.rd KEY_SLOT_DATA0 = 0 ∧ d.snapSlot.snapWait = d.snapWait := by
  unfold Dev.snapSlot
  rw [h]
  exact ⟨Dev.rd_wr_same _ ⟨KEY_SLOT_DATA0.addr + 8 * 0, 0⟩ _, rfl⟩

end Sys2Proof.Machine

/-- Settles O11: each selecting write by its meaning; a snapshot by the kind that waits. -/
theorem snapshots : Obligations.Snapshots := by
  refine ⟨fun s src sl v h => ⟨finSW_eq_of_hears h _ _, finSW_eq_of_hears h _ _⟩, fun s src v h => ⟨finW_eq_of_hears h _ _, finW_eq_of_hears h _ _⟩,
    fun s src p v h => ⟨fun hmay => ?_, fun hmay => ?_⟩, fun s sl h hw => ?_, fun s h hw hnone => ?_, fun s p h hw hown => ?_⟩
  · refine (finW_eq_of_hears h _ _).trans ?_
    unfold Dev.ringSelect
    rw [hmay]
    rfl
  · refine (finW_eq_of_hears h _ _).trans ?_
    unfold Dev.ringSelect
    rw [hmay]
    rfl
  · rw [exec_snapshotTaken h, Dev.snapshot_tmgP hw]
    rfl
  · obtain ⟨hzero, hwait⟩ := Dev.snapSlot_empty (d := s.toDev.ended .keySlot) hnone
    refine ⟨_, exec_snapshotTaken h .keySlot, ?_, ?_, ?_⟩
    · show (s.snapshot .keySlot).settle.rd KEY_SLOT_DATA0 = 0
      rw [Dev.rd_settle (by unfold settledReg; decide), Dev.snapshot_keySlot hw]
      exact (Dev.rd_setF_other _ _ _ _ _ (by decide)).trans hzero
    · show KEY_SLOT_SEL_VALID.get ((s.snapshot .keySlot).settle.rd KEY_SLOT_SEL) = 1
      rw [Dev.rd_settle (by unfold settledReg; decide), Dev.snapshot_keySlot hw]
      exact Dev.fld_setF_same (by decide) _ _ _
    · show (s.snapshot .keySlot).settle.snapWait = _
      rw [Dev.snapWait_settle, Dev.snapshot_keySlot hw]
      exact hwait
  · rw [exec_snapshotTaken h, Dev.snapshot_ring hw]
    exact congrArg (fun d => Host.Outcome.next (s.settled d)) (Dev.snapRing_foreign hown)

section
namespace Sys2Proof.Machine

/-! Accesses at a register's address (00 R5, R98). -/

/-- The state after reset with one frame counted at 0x200100. -/
def oneCounted : State := { State.reset with toDev := State.reset.toDev.setCnt [(0x200100, 1)] }

/-- The second byte of a counter's clearing address is the counter's, but no counter begins there. -/
theorem oneCounted_alias : oneCounted.placeNow 0x280101 = .cnt 0x200100 true := by decide +kernel

theorem readAt_alias : oneCounted.readAt .ulyar 0x280101 = (64, 2 ^ 64 - 1, oneCounted.toDev) := by
  unfold Dev.readAt
  rw [show oneCounted.toDev.placeNow 0x280101 = .cnt 0x200100 true from oneCounted_alias]
  rfl

/-- A read there meets no whole counter and clears nothing. -/
theorem exec_counterClearRead_within (h : oneCounted.hears .ulyar) :
    exec (.counterClearRead .ulyar 0x280101) oneCounted = .next (oneCounted.settled (oneCounted.toDev.emit (.readData (2 ^ 64 - 1)))) := by
  show readBy oneCounted .ulyar 0x280101 = _
  unfold readBy
  rw [if_neg (by decide), if_neg (by decide), readAt_alias]
  unfold finRead
  rw [if_neg (by decide), if_neg (by decide), if_neg (by decide)]
  exact finR_eq_of_hears h ..

end Sys2Proof.Machine
end

/-- Refutes O10: COUNTER_CLEAR_READ at the second byte of a counter's clearing address, a place whose byte is the counter's, answers all ones and leaves the count. -/
theorem not_registerAccess : ¬ Obligations.RegisterAccess := by
  rintro ⟨⟨-, -, hcnt, -⟩, -⟩
  have hears : oneCounted.hears .ulyar := ⟨rfl, rfl⟩
  have hclaim := hcnt oneCounted .ulyar 0x280101 0x200100 hears (by decide) (by decide) oneCounted_alias (by decide) (by decide)
  rw [exec_counterClearRead_within hears] at hclaim
  have hdev := congrArg (fun o => match o with | .next t => t.cntAt 0x200100 | _ => 0) hclaim
  have hkeep := fun d : Dev => d.settlesTo_settle.cntAt 0x200100 (by decide)
  have hleft := hkeep (oneCounted.toDev.emit (.readData (2 ^ 64 - 1)))
  have hright := hkeep ((oneCounted.toDev.setCnt (oneCounted.cnt.put 0x200100 0)).emit (.readData (oneCounted.cntAt 0x200100)))
  have hne : (oneCounted.toDev.emit (.readData (2 ^ 64 - 1))).cntAt 0x200100 ≠ ((oneCounted.toDev.setCnt (oneCounted.cnt.put 0x200100 0)).emit (.readData (oneCounted.cntAt 0x200100))).cntAt 0x200100 := by decide
  exact hne (hleft.symm.trans (hdev.trans hright))
end

section
open Sys2Proof Sys2Proof.Machine
namespace Sys2Proof.Machine

/-! Instructions that their threads issue: transfers, traps and returns, lookups and offloads, channels, waits and specials. -/

theorem legal_apply {ok : Bool} (h : ok = true) (m : Meaning) (k : Nat) (s : State) : legal ok m k s = m k s := by rw [legal, if_pos h]

theorem legal_refused {ok : Bool} (h : ok = false) (m : Meaning) (k : Nat) (s : State) : legal ok m k s = illegal k s := by
  rw [legal, if_neg (Bool.eq_false_iff.1 h)]

/-- A transfer to any other target traps PC_RANGE with the target (07 R185). -/
theorem transfer_eq_trap {target : Thr → Nat} {f : Thr → Thr} {k : Nat} {s : State}
    (h : ¬ (target (s.thrAt k) % 4 = 0 ∧ codeBase (s.thrAt k).slot ≤ target (s.thrAt k) ∧ target (s.thrAt k) < codeBase (s.thrAt k).slot + 0x10000)) :
    transfer target f k s = trapAt causePcRange (some (target (s.thrAt k))) none k s := by
  unfold transfer
  refine if_pos ?_
  simp only [Bool.or_eq_true, bne_iff_ne, decide_eq_true_eq]
  omega

theorem Dev.thrAt_updThr_other {j k : Nat} (h : j ≠ k) (d : Dev) (f : Thr → Thr) : (d.updThr k f).thrAt j = d.thrAt j := Tab.lookD_put_other _ _ _ _ _ h

/-- The thread as a trap outside a handler leaves it (07 R209). -/
def Thr.trapped (x : Thr) (cause ret a : Nat) : Thr := { x with cause := cause, tpc := ret, taddr := a, tfault := 0, inHandler := true, pc := x.tvec }

theorem Dev.trap_to_handler {d : Dev} {k : Nat} (hin : (d.thrAt k).inHandler = false) (heven : (d.thrAt k).tvec % 2 = 0) (cause ret a : Nat) :
    d.trap k cause ret (some a) none = d.fresh.2.updThr k fun x => x.trapped cause ret a := by
  have hgo : (!(d.thrAt k).inHandler && (d.thrAt k).tvec % 2 == 0) = true := by rw [hin, heven]; rfl
  exact if_pos hgo

/-! LOOKUP and the offload instructions (07 R196, R200). -/

/-- No bad entry is met where none is named and none is hit. -/
theorem Table.badMet_none {t : Table} {key : List Byte} (h : (t.hit? key).filter (fun x => x.2.bad) = none) : t.badMet key none = none := by
  unfold Table.badMet
  rw [h]
  rfl

theorem lookup_legal {x : FmtX} (hrsv : x.rsv.val = 0) (hrd0 : x.rd.val ≠ 0) (hrd31 : x.rd.val ≠ 31) (hcnt : x.ra.val + cntOf x.cnt ≤ 32) :
    (x.rsv.val == 0 && x.rd.val != 0 && x.rd.val != 31 && decide (x.ra.val + cntOf x.cnt ≤ 32)) = true := by
  simp [hrsv, hrd0, hrd31, hcnt]

/-- A LOOKUP of a table of the thread's slot, its operands legal, that meets no bad entry leaves its result, its misses of the flow cache counted. -/
theorem exec_lookup (fm : Nat) {s : State} {th : ThId} {x : FmtX} {n : Nat} {tab : Table} {r : Option (Nat × Entry)} (hs : s.issues th x.pred x.pn)
    (hrsv : x.rsv.val = 0) (hrd0 : x.rd.val ≠ 0) (hrd31 : x.rd.val ≠ 31) (hcnt : x.ra.val + cntOf x.cnt ≤ 32)
    (htab : (s.began th).table? (thrSlice (thKey th)) ((s.began th).thrSlot ((s.began th).thrAt (thKey th))) x.table.val = some (n, tab))
    (hkey : tab.decl.keyBytes ≤ cntOf x.cnt * 8)
    (hhit : tab.hit? ((((s.began th).thrAt (thKey th)).regBytes x.ra.val (cntOf x.cnt)).take tab.decl.keyBytes) = r)
    (hgood : r.filter (fun y => y.2.bad) = none) :
    exec (.lookup th x fm none) s = .next (s.became (((s.began th).onDev fun d => d.count (clsCnt (thrSlice (thKey th)) 10) fm).goes th (lookResult x.rd.val r))) := by
  show execLookup th x fm none s = _
  unfold execLookup
  refine issue_some hs ((legal_apply (lookup_legal hrsv hrd0 hrd31 hcnt) _ _ _).trans ?_)
  generalize s.began th = e at htab hhit ⊢
  dsimp only
  rw [htab]
  refine (legal_apply (decide_eq_true hkey) _ _ _).trans ?_
  rw [show (e.onDev fun d => (d.count (clsCnt (thrSlice (thKey th)) 10) fm).markBad (thrSlice (thKey th)) (e.thrSlot (e.thrAt (thKey th))) none).table?
    (thrSlice (thKey th)) (e.thrSlot (e.thrAt (thKey th))) x.table.val = some (n, tab) from htab]
  dsimp only
  rw [show indexIn x.table.val none = none from rfl, Table.badMet_none (hhit ▸ hgood), hhit]
  rfl

/-- A descriptor within reach of a thread with a free ticket and room in its queue is submitted (07 R200). -/
theorem offload_submits {unit k : Nat} {x : FmtO} {e : State} {p : Spot} (hrsv : x.rsv.val = 0)
    (hwithin : (0x20000 ≤ ((e.thrAt k).rg x.ra.val).toNat ∧ ((e.thrAt k).rg x.ra.val).toNat + 64 ≤ 0x40000) ∨
      (0x100000 ≤ ((e.thrAt k).rg x.ra.val).toNat ∧ ((e.thrAt k).rg x.ra.val).toNat + 64 ≤ 0x200000))
    (hreach : e.reach k ((e.thrAt k).rg x.ra.val).toNat 64 false false true = .at_ p) (hfree : (e.thrAt k).freeTickets ≠ [])
    (hroom : e.opQueueFull (thrSlice k) unit (e.bytesOf k p 64) = false) :
    offload unit x k e = some ((e.onDev fun d => (d.submit k unit x.rd.val ((e.thrAt k).rg x.ra.val).toNat (e.bytesOf k p 64)).updThr k fun t =>
      { t with pc := t.pc + 4 }).dmaRefused e.nextOp) := by
  unfold offload
  dsimp only
  rw [legal_apply (beq_iff_eq.2 hrsv)]
  generalize ((e.thrAt k).rg x.ra.val).toNat = a at *
  have hin : (!(decide (0x20000 ≤ a) && decide (a + descBytes ≤ 0x40000)) && !(decide (0x100000 ≤ a) && decide (a + descBytes ≤ 0x200000))) = false := by
    show (!(decide (0x20000 ≤ a) && decide (a + 64 ≤ 0x40000)) && !(decide (0x100000 ≤ a) && decide (a + 64 ≤ 0x200000))) = false
    obtain ⟨hlo, hhi⟩ | ⟨hlo, hhi⟩ := hwithin
    · simp [hlo, hhi]
    · simp [hlo, hhi]
  rw [if_neg (Bool.eq_false_iff.1 hin)]
  unfold access
  rw [show e.reach k a descBytes false false true = .at_ p from hreach]
  dsimp only
  rw [if_neg]
  · rfl
  · rw [show e.opQueueFull (thrSlice k) unit (e.bytesOf k p descBytes) = false from hroom, Bool.or_false, List.isEmpty_iff]
    exact hfree

end Sys2Proof.Machine

/-- Settles O31: a target within the code region is taken, any other traps. -/
theorem controlTransfers : Obligations.ControlTransfers := by
  intro s th x0 ok go
  refine ⟨fun x hs => ⟨fun ⟨h4, hlo, hhi⟩ => ⟨?_, ?_⟩, fun hbad => ⟨?_, ?_⟩⟩, fun x hs hfn => ⟨fun ⟨h4, hlo, hhi⟩ => ?_, fun hbad => ?_⟩⟩
  · exact issue_some hs (transfer_eq_some h4 hlo hhi)
  · exact issue_some hs (transfer_eq_some h4 hlo hhi)
  · exact issue_some hs (transfer_eq_trap hbad)
  · exact issue_some hs (transfer_eq_trap hbad)
  · exact issue_some hs ((legal_apply (beq_iff_eq.2 hfn) _ _ _).trans (transfer_eq_some h4 hlo hhi))
  · exact issue_some hs ((legal_apply (beq_iff_eq.2 hfn) _ _ _).trans (transfer_eq_trap (f := fun t => t.setG x.rd.val (BitVec.ofNat 64 (t.pc + 4))) hbad))

/-- Settles O38: each instruction by its meaning; a trap by the handler it finds. -/
theorem trapsAndReturns : Obligations.TrapsAndReturns := by
  refine ⟨fun s th hs => ?_, fun s th w hs => issue_some (m := illegal) hs rfl, fun s th x hs hrsv => ?_, fun d k cause ret a hin heven => ?_⟩
  · exact issue_eq s th 0 false true illegal hs (by simp)
  · have hrsv' : (x.rsv.val == 0) = true := beq_iff_eq.2 hrsv
    refine ⟨issue_some hs (legal_apply hrsv' _ _ _), fun hin => ?_, fun hin => ?_, issue_some hs (legal_apply hrsv' _ _ _)⟩
    · show execRett th x s = _
      unfold execRett
      exact issue_some hs (legal_apply (by rw [hrsv', hin]; rfl) _ _ _)
    · show execRett th x s = _
      unfold execRett
      exact issue_some hs (legal_refused (by rw [hin, Bool.and_false]) _ _ _)
  · intro y
    have hy : y = (d.thrAt k).trapped cause ret a := by
      unfold y
      rw [Dev.trap_to_handler hin heven]
      exact Dev.thrAt_updThr_same ..
    rw [hy]
    refine ⟨rfl, rfl, rfl, rfl, rfl, rfl, rfl, fun j hj => ?_⟩
    rw [Dev.trap_to_handler hin heven]
    exact Dev.thrAt_updThr_other hj _ _

/-- Settles O35: the checks pass by the hypotheses; what is left is the meaning's effect. -/
theorem lookupsAndOffloads : Obligations.LookupsAndOffloads := by
  intro s th k e t
  refine ⟨fun x fm n tab hs hrsv hrd0 hrd31 hcnt htab hkey => ?_, fun x fm ecc hs hrsv hrd0 hrd31 hcnt htab => ?_, fun x p hs hrsv => ?_⟩
  · intro key d
    refine ⟨fun hmiss => ?_, fun i en hhit hgood => ?_⟩
    · have hrun := exec_lookup fm hs hrsv hrd0 hrd31 hcnt htab hkey hmiss rfl
      exact hrun
    · have hrun := exec_lookup fm hs hrsv hrd0 hrd31 hcnt htab hkey hhit (by simp [hgood])
      exact hrun
  · show execLookup th x fm ecc s = _
    unfold execLookup
    refine issue_some hs ((legal_apply (lookup_legal hrsv hrd0 hrd31 hcnt) _ _ _).trans ?_)
    dsimp only
    rw [show (s.began th).table? (thrSlice (thKey th)) ((s.began th).thrSlot ((s.began th).thrAt (thKey th))) x.table.val = none from htab]
    rfl
  · intro a hwithin hreach hfree desc sub
    have hmeans : ∀ unit, e.opQueueFull (thrSlice k) unit desc = false → offload unit x k e = some (sub unit) := fun unit hroom =>
      offload_submits hrsv hwithin hreach hfree hroom
    exact ⟨fun h => issue_some hs (hmeans 0 h), fun h => issue_some hs (hmeans 1 h), fun h => issue_some hs (hmeans 2 h)⟩

/-- Settles O36: the checks pass by the hypotheses; what is left is the meaning's effect. -/
theorem channelsWaitsAndSpecials : Obligations.ChannelsWaitsAndSpecials := by
  intro s th k e t
  refine ⟨fun x hs hrsv hcnt => ?_, fun x hs hrsv h1 h23 => ?_, fun x hs hrsv hframe hnodl => ?_, fun x hs => ?_⟩
  · intro dst p c hdst hcode hserves ch
    have hlegal : (x.rsv.val == 0 && decide (x.ra.val + cntOf x.cnt ≤ 32)) = true := by simp [hrsv, hcnt]
    have hchan : (dst != p + 256 * c || !((e.code t.slot (thrSlice k)).any fun b => b.runs p) || e.offline (thrSlice k) p) = false := by
      rw [hcode, hserves, bne_eq_false_iff_eq.2 hdst]
      rfl
    refine ⟨fun hfull => ?_, fun hroom => ?_⟩
    · show execSend th x s = _
      unfold execSend
      refine issue_some hs ((legal_apply hlegal _ _ _).trans ?_)
      exact (if_neg (Bool.eq_false_iff.1 hchan)).trans (if_pos hfull)
    · show execSend th x s = _
      unfold execSend
      refine issue_some hs ((legal_apply hlegal _ _ _).trans ?_)
      exact (if_neg (Bool.eq_false_iff.1 hchan)).trans (if_neg (Nat.not_le.2 hroom))
  · intro ch
    have hlegal : (x.rsv.val == 0 && decide (1 ≤ x.rd.val) && decide (x.rd.val ≤ 23)) = true := by simp [hrsv, h1, h23]
    refine ⟨fun hnone => ?_, fun m rest hcons => ?_⟩
    · show execRecv th x s = _
      unfold execRecv
      refine issue_some hs ((legal_apply hlegal _ _ _).trans ?_)
      dsimp only
      rw [show ((s.began th).chanAt (thrSlice (thKey th)) (thrPos (thKey th)) x.ch.val).vis = [] from hnone]
      rfl
    · show execRecv th x s = _
      unfold execRecv
      refine issue_some hs ((legal_apply hlegal _ _ _).trans ?_)
      dsimp only
      rw [show ((s.began th).chanAt (thrSlice (thKey th)) (thrPos (thKey th)) x.ch.val).vis = m :: rest from hcons]
      rfl
  · intro d
    have hlegal : (x.rsv.val == 0 && !(x.frame && t.frame.isSome) && !(x.nodl && x.ra.val != 0)) = true := by
      rw [hframe]
      cases hn : x.nodl with
      | false => simp [hrsv]
      | true => simp [hrsv, (hnodl hn).1]
    have hdeadline : (x.nodl && !e.nodlOk k) = false := by
      cases hn : x.nodl with
      | false => rfl
      | true => rw [(hnodl hn).2]; rfl
    show execWait th x s = _
    unfold execWait
    refine issue_some hs ((legal_apply hlegal _ _ _).trans ?_)
    exact if_neg (Bool.eq_false_iff.1 hdeadline)
  · refine ⟨fun v hv hrsv => ?_, fun hnone => ?_, fun u hu hrsv hrd => ?_, fun hnone => ?_⟩
    · show execSprRead th x s = _
      unfold execSprRead
      refine issue_some hs ?_
      rw [hv]
      exact legal_apply (beq_iff_eq.2 hrsv) _ _ _
    · show execSprRead th x s = _
      unfold execSprRead
      refine issue_some hs ?_
      rw [hnone]
      rfl
    · show execSprWrite th x s = _
      unfold execSprWrite
      refine issue_some hs ?_
      rw [show ((s.began th).thrAt (thKey th)).sprWrite x.spr.val (((s.began th).thrAt (thKey th)).rg x.ra.val).toNat = some u from hu]
      exact legal_apply (by simp [hrsv, hrd]) _ _ _
    · show execSprWrite th x s = _
      unfold execSprWrite
      refine issue_some hs ?_
      rw [show ((s.began th).thrAt (thKey th)).sprWrite x.spr.val (((s.began th).thrAt (thKey th)).rg x.ra.val).toNat = none from hnone]
      rfl
end

section
open Sys2Proof Sys2Proof.Machine
namespace Sys2Proof.Machine

/-! The update commands of a classifier's tables (06 R138, R139): what every one of them does before its own part. -/

section
variable {d : Dev} {s : Nat} {v : Word} {n : Nat} {t : Table}

theorem Dev.updCmd_table (hbusy : d.flag (CLS_UPD_STATUS s) CLS_UPD_STATUS_BUSY = false)
    (ht : d.table? s (CLS_UPD_CTRL_SLOT.get v) (CLS_UPD_CTRL_TABLE.get v) = some (n, t)) (op : Nat) (f : Dev → Nat → Table → Dev) :
    d.updCmd s v op f = f (d.updFields s v op) n t := by
  have ht' : (d.updFields s v op).table? s (CLS_UPD_CTRL_SLOT.get v) (CLS_UPD_CTRL_TABLE.get v) = some (n, t) := ht
  unfold Dev.updCmd
  dsimp only
  rw [hbusy, if_neg Bool.false_ne_true, ht']

theorem Dev.updCmd_noTable (hbusy : d.flag (CLS_UPD_STATUS s) CLS_UPD_STATUS_BUSY = false)
    (ht : d.table? s (CLS_UPD_CTRL_SLOT.get v) (CLS_UPD_CTRL_TABLE.get v) = none) (op : Nat) (f : Dev → Nat → Table → Dev) :
    d.updCmd s v op f = (d.updFields s v op).updResult s 5 := by
  have ht' : (d.updFields s v op).table? s (CLS_UPD_CTRL_SLOT.get v) (CLS_UPD_CTRL_TABLE.get v) = none := ht
  unfold Dev.updCmd
  dsimp only
  rw [hbusy, if_neg Bool.false_ne_true, ht']

theorem Dev.updRecCmd_ok {op : Nat} {prefixes : Bool} (hbusy : d.flag (CLS_UPD_STATUS s) CLS_UPD_STATUS_BUSY = false)
    (ht : d.table? s (CLS_UPD_CTRL_SLOT.get v) (CLS_UPD_CTRL_TABLE.get v) = some (n, t))
    (hok : recOk t.decl.kind t.decl.keyBytes prefixes ((d.updFields s v op).updRec s) = true) (f : Dev → Nat → Table → List Byte → Dev) :
    d.updRecCmd s v op prefixes f = f (d.updFields s v op) n t ((d.updFields s v op).updRec s) :=
  (Dev.updCmd_table hbusy ht op _).trans (if_pos hok)

theorem Dev.updRecCmd_bad {op : Nat} {prefixes : Bool} (hbusy : d.flag (CLS_UPD_STATUS s) CLS_UPD_STATUS_BUSY = false)
    (ht : d.table? s (CLS_UPD_CTRL_SLOT.get v) (CLS_UPD_CTRL_TABLE.get v) = some (n, t))
    (hbad : recOk t.decl.kind t.decl.keyBytes prefixes ((d.updFields s v op).updRec s) = false) (f : Dev → Nat → Table → List Byte → Dev) :
    d.updRecCmd s v op prefixes f = (d.updFields s v op).updResult s 6 :=
  (Dev.updCmd_table hbusy ht op _).trans (if_neg (Bool.eq_false_iff.1 hbad))

theorem Dev.updRecCmd_noTable (hbusy : d.flag (CLS_UPD_STATUS s) CLS_UPD_STATUS_BUSY = false)
    (ht : d.table? s (CLS_UPD_CTRL_SLOT.get v) (CLS_UPD_CTRL_TABLE.get v) = none) (op : Nat) (prefixes : Bool) (f : Dev → Nat → Table → List Byte → Dev) :
    d.updRecCmd s v op prefixes f = (d.updFields s v op).updResult s 5 := Dev.updCmd_noTable hbusy ht op _

end

/-- An equation of devices under the answer of a settled state. -/
theorem next_settled_congr {s : State} {o : Host.Outcome State Fault Refusal} {d e : Dev} (ho : o = .next (s.settled d)) (h : d = e) : o = .next (s.settled e) :=
  h ▸ ho

/-! Frames through the parser and the classifier (05 R110, 06 R128). -/

theorem exec_parserWalk {s : State} {id root : Nat} {f : Frame} (hr : s.runs = true) (hf : s.frame? id = some f) (hst : f.stage = .stored root) (e : Option TreeEcc) :
    exec (.parserWalk id e) s = .next (s.settled (if s.behind id f || (f.pass = 1 && s.recircReady f.slice) then s.toDev else s.parserWalk id f root e)) := by
  show execParserWalk id e s = _
  unfold execParserWalk
  rw [hf]
  dsimp only
  rw [hst]
  exact fin_eq_of_runs hr _

/-- A frame that is next in its order, and that no recirculated frame goes before, is walked. -/
theorem exec_parserWalk_next {s : State} {id root : Nat} {f : Frame} (hr : s.runs = true) (hf : s.frame? id = some f) (hst : f.stage = .stored root)
    (hnext : s.behind id f = false) (hrecirc : f.pass = 1 → s.recircReady f.slice = false) (e : Option TreeEcc) :
    exec (.parserWalk id e) s = .next (s.settled (s.parserWalk id f root e)) := by
  refine next_settled_congr (exec_parserWalk hr hf hst e) (if_neg ?_)
  rw [hnext, Bool.false_or, Bool.and_eq_true, decide_eq_true_eq]
  exact fun ⟨h1, h2⟩ => Bool.false_ne_true ((hrecirc h1).symm.trans h2)

/-- The counts of a walk: a frame on a later pass counts as recirculated too. -/
def Dev.walkCounts (d : Dev) (f : Frame) : Dev := (d.count (prsCnt f.slice 0)).onlyIf (decide (2 ≤ f.pass)) fun d => d.count (prsCnt f.slice 12)

theorem Dev.walkCounts_eq (d : Dev) (f : Frame) :
    d.walkCounts f = if 2 ≤ f.pass then (d.count (prsCnt f.slice 0)).count (prsCnt f.slice 12) else d.count (prsCnt f.slice 0) := by
  unfold Dev.walkCounts Dev.onlyIf
  split
  · rw [if_pos (of_decide_eq_true ‹_›)]
  · rw [if_neg (of_decide_eq_false (Bool.eq_false_iff.2 ‹_›))]

/-- The counts of a walk change counters alone. -/
theorem Dev.walkCounts_rest (d : Dev) (f : Frame) : ∃ x, d.walkCounts f = d.setCnt x := by
  rw [Dev.walkCounts_eq]
  split <;> exact ⟨_, rfl⟩

/-- Only a frame of a transmit ring is metered at its disposal. -/
theorem Dev.meterHostDisp_of_not_ring {f : Frame} (h : ∀ r c, f.origin ≠ .ring r c) (d : Dev) : d.meterHostDisp f = d := by
  unfold Dev.meterHostDisp
  split
  · exact absurd ‹_› (h _ _)
  · rfl

theorem Dev.parserWalk_noTree {d : Dev} {f : Frame} (hnone : (d.bodies f.slot f.slice).parse = none) (hring : ∀ r c, f.origin ≠ .ring r c) (id root : Nat)
    (e : Option TreeEcc) : d.parserWalk id f root e = ((d.walkCounts f).count (prsCnt f.slice 4)).frameOut id := by
  obtain ⟨x, hx⟩ := d.walkCounts_rest f
  unfold Dev.parserWalk
  change (match ((d.walkCounts f).bodies f.slot f.slice).parse with | none => (((d.walkCounts f).meterHostDisp f).count (prsCnt f.slice 4)).frameOut id | some b => _) = _
  rw [show ((d.walkCounts f).bodies f.slot f.slice).parse = none by rw [hx]; exact hnone, Dev.meterHostDisp_of_not_ring hring]

theorem Dev.parserWalk_ends {d : Dev} {f : Frame} {b : ParseBody} (hb : (d.bodies f.slot f.slice).parse = some b) {root : Nat} {w : Walk}
    (hw : b.walk f.data none (b.maxDepth + 1) (b.roots.getD root 0) (Walk.start f.len) = some w) (id : Nat) :
    let e := (d.walkCounts f).setFreeCtr (d.freeCtr + 1)
    let g := { f with pmeta := w.toMeta f.len root (Config.free d.freeCtr % 65536) }
    d.parserWalk id f root none = if w.cls = 0 then (e.count (prsCnt f.slice 1)).putFrame id { g with stage := .parsed }
      else ((e.count (prsCnt f.slice (1 + w.cls))).putFrame id g).dispose id g (b.disp.getD (w.cls - 1) ⟨0, 0, 0⟩) := by
  obtain ⟨x, hx⟩ := d.walkCounts_rest f
  have hbody : ((d.walkCounts f).bodies f.slot f.slice).parse = some b := by rw [hx]; exact hb
  have hctr : (d.walkCounts f).freeCtr = d.freeCtr := by rw [hx]; rfl
  intro e g
  unfold Dev.parserWalk
  extract_lets sl c
  change (match (c.bodies f.slot f.slice).parse with | none => _ | some b => _) = _
  rw [show (c.bodies f.slot f.slice).parse = some b from hbody]
  dsimp only
  rw [hw]
  dsimp only [Dev.fresh]
  rw [show c.freeCtr = d.freeCtr from hctr]
  by_cases h0 : w.cls = 0
  · rw [if_pos h0, if_pos h0, h0]
    rfl
  · rw [if_neg h0, if_neg h0]
    rfl

theorem Dev.parserWalk_ecc {d : Dev} {f : Frame} {b : ParseBody} (hb : (d.bodies f.slot f.slice).parse = some b) {root : Nat} {e : TreeEcc}
    (hw : b.walk f.data (some e) (b.maxDepth + 1) (b.roots.getD root 0) (Walk.start f.len) = none) (id : Nat) :
    d.parserWalk id f root (some e) = (d.walkCounts f).parserEcc id f e := by
  obtain ⟨x, hx⟩ := d.walkCounts_rest f
  have hbody : ((d.walkCounts f).bodies f.slot f.slice).parse = some b := by rw [hx]; exact hb
  unfold Dev.parserWalk
  extract_lets sl c
  change (match (c.bodies f.slot f.slice).parse with | none => _ | some b => _) = _
  rw [show (c.bodies f.slot f.slice).parse = some b from hbody]
  dsimp only
  rw [hw]
  rfl

theorem exec_classify {s : State} {id : Nat} {f : Frame} (hr : s.runs = true) (hf : s.frame? id = some f) (hst : f.stage = .parsed) (c : ClsFacts) :
    exec (.classify id c) s = .next (s.settled (if s.behind id f then s.toDev else s.classify id f c)) := by
  show execClassify id c s = _
  unfold execClassify
  rw [hf]
  dsimp only
  rw [hst]
  exact fin_eq_of_runs hr _

/-- The device after the counts of a frame at the classifier and the bad entry that it names (06 R156). -/
def Dev.clsCounts (d : Dev) (f : Frame) (c : ClsFacts) : Dev := ((d.count (clsCnt f.slice 0)).count (clsCnt f.slice 10) c.flowMiss).markBad f.slice f.slot c.ecc

/-- Classifying a frame that no transmit ring sent: by the body, the program's steps and the actions (06 R128). -/
theorem Dev.classify_of_not_ring {f : Frame} (h : ∀ r k, f.origin ≠ .ring r k) (d : Dev) (id : Nat) (c : ClsFacts) :
    d.classify id f c =
      match ((d.clsCounts f c).bodies f.slot f.slice).cls with
      | none => (d.clsCounts f c).dropAt id (clsCnt f.slice 1)
      | some b => match (d.clsCounts f c).runSteps id f b c (b.program f.pmeta.root) [] with
        | (e, none) => e
        | (e, some (acts, term)) => match e.applyActs id f b acts term false with
          | (g, none) => g
          | (g, some o) => g.goOn id 1 o := by
  unfold Dev.classify
  extract_lets sl e host
  have hhost : host = false := by
    unfold host
    split
    · exact absurd ‹_› (h _ _)
    · rfl
  rw [hhost]
  rfl

end Sys2Proof.Machine

/-- Settles O23: each command by its own part, after the fields are written and the table is found. -/
theorem tableUpdates : Obligations.TableUpdates := by
  intro s src sl v h hbusy d at_
  have hwrites : ∀ (r : Reg) (e : Dev), finSW s src sl.val r e = .next (s.settled e) := finSW_eq_of_hears h
  refine ⟨fun n t ht => ?_, fun hnone => ⟨?_, ?_⟩⟩
  · intro r ent
    refine ⟨fun hok => ?_, fun hok => ?_, fun hok => ?_, fun hcap => ?_, fun hok => ?_, ?_, fun hbad => ?_⟩
    · exact next_settled_congr (hwrites _ _) (Dev.updRecCmd_ok hbusy ht hok _)
    · exact next_settled_congr (hwrites _ _) (Dev.updRecCmd_ok hbusy ht hok _)
    · exact next_settled_congr (hwrites _ _) (Dev.updRecCmd_ok hbusy ht hok _)
    · exact next_settled_congr (hwrites _ _) ((Dev.updCmd_table hbusy ht 4 _).trans (if_neg (Nat.not_le.2 hcap)))
    · exact next_settled_congr (hwrites _ _) (Dev.updRecCmd_ok hbusy ht hok _)
    · exact next_settled_congr (hwrites _ _) (Dev.updCmd_table hbusy ht 7 _)
    · exact next_settled_congr (hwrites _ _) (Dev.updRecCmd_bad hbusy ht hbad _)
  · exact next_settled_congr (hwrites _ _) (Dev.updRecCmd_noTable hbusy hnone 1 _ _)
  · exact next_settled_congr (hwrites _ _) (Dev.updRecCmd_noTable hbusy hnone 3 _ _)

/-- Settles O21: by the frame's place in its order, the slice's tree and the end of its walk. -/
theorem parserWalks : Obligations.ParserWalks := by
  unfold Obligations.ParserWalks
  intro counted
  have hcounted : ∀ (s : State) (f : Frame), s.walkCounts f = counted s f := fun s f => s.toDev.walkCounts_eq f
  refine ⟨fun s id root f e hr hf hst hwaits => ?_, fun s id root f hr hf hst hnext hrecirc hring hnone => ?_,
    fun s id root f b w hr hf hst hnext hrecirc hb hw => ?_, fun s id root f b e hr hf hst hnext hrecirc hb hw => ?_⟩
  · refine next_settled_congr (exec_parserWalk hr hf hst e) (if_pos ?_)
    obtain hbehind | ⟨h1, hready⟩ := hwaits
    · rw [hbehind, Bool.true_or]
    · rw [hready, decide_eq_true h1, Bool.and_true, Bool.or_true]
  · rw [exec_parserWalk_next hr hf hst hnext hrecirc, Dev.parserWalk_noTree hnone hring, hcounted]
  · intro d g
    rw [exec_parserWalk_next hr hf hst hnext hrecirc, Dev.parserWalk_ends hb hw, hcounted]
  · rw [exec_parserWalk_next hr hf hst hnext hrecirc, Dev.parserWalk_ecc hb hw, hcounted]

/-- Settles O26: by what the slice's program and its actions come to. -/
theorem classifying : Obligations.Classifying := by
  refine ⟨fun s id f c hr hf hst hring => ⟨fun hbehind => ?_, fun hnext => ?_⟩, fun d id f q h => if_neg (Bool.eq_false_iff.1 h), fun d id r f h => if_neg (Nat.not_le.2 h),
    fun d id r f h => if_pos h⟩
  · exact next_settled_congr (exec_classify hr hf hst c) (if_pos hbehind)
  · intro d
    have hexec := next_settled_congr (exec_classify hr hf hst c) ((if_neg (Bool.eq_false_iff.1 hnext)).trans (Dev.classify_of_not_ring hring _ id c))
    change exec (.classify id c) s = .next (s.settled (match (d.bodies f.slot f.slice).cls with | none => _ | some b => _)) at hexec
    refine ⟨fun hnone => ?_, fun b hb => ⟨fun e hsteps => ?_, fun e g acts term hsteps hacts => ?_, fun e g acts term o hsteps hacts => ?_⟩⟩
    · rw [hexec, hnone]
      rfl
    · rw [hexec, hb]
      dsimp only
      rw [show (s.clsCounts f c).runSteps id f b c (b.program f.pmeta.root) [] = (e, none) from hsteps]
    · rw [hexec, hb]
      dsimp only
      rw [show (s.clsCounts f c).runSteps id f b c (b.program f.pmeta.root) [] = (e, some (acts, term)) from hsteps]
      dsimp only
      rw [hacts]
    · rw [hexec, hb]
      dsimp only
      rw [show (s.clsCounts f c).runSteps id f b c (b.program f.pmeta.root) [] = (e, some (acts, term)) from hsteps]
      dsimp only
      rw [hacts]
end

section
open Sys2Proof Sys2Proof.Machine
namespace Sys2Proof.Machine

/-! Engine events, banks and lanes: what a command comes to where the part runs. -/

/-- The equation of a choice whose condition holds, on the device that a command answers. -/
theorem fin_of_runs {s : State} (h : s.runs = true) {d e : Dev} (hd : d = e) : fin s d = .next (s.settled e) := hd ▸ fin_eq_of_runs h d

/-- The first message of a list is taken only where the list holds one. -/
theorem exec_messageVisible {s : State} (h : s.runs = true) (th : ThId) (dst : Fin 32) (ch : Fin 16) {m : Msg} {rest : List Msg}
    (htake : takeFirst (fun m : Msg => m.pos == th.pos.val && m.thread == th.thread.val) (s.chanAt th.slice.val dst.val ch.val).res = some (m, rest)) (last : Bool)
    (hlast : ((((s.chanAt th.slice.val dst.val ch.val).res.filter fun m : Msg => m.pos == th.pos.val && m.thread == th.thread.val).length == 1) &&
      (s.thrAt (thKey th)).sending.any fun x => x.pos == dst.val && x.chan == ch.val) = last)
    (hrun : (last && (s.thrAt (thKey th)).st == .halted) = false) :
    exec (.messageVisible th dst ch) s = .next (s.settled ((s.setChan (s.chan.put (chanKey th.slice.val dst.val ch.val)
      ⟨(s.chanAt th.slice.val dst.val ch.val).vis ++ [m], rest⟩)).onlyIf last fun d => d.updThr (thKey th) Thr.sent)) := by
  show execMessageVisible th dst ch s = _
  unfold execMessageVisible
  dsimp only
  rw [htake, hlast]
  exact fin_of_runs h (if_neg (Bool.eq_false_iff.1 hrun))

theorem Dev.bankAsk_owner {d : Dev} {s i kind id : Nat} (hdrain : d.flag (ENG_BANK_STATUS s i) ENG_BANK_STATUS_DRAINING = false)
    (hkind : d.fld (ENG_BANK_STATUS s i) ENG_BANK_STATUS_KIND = kind) (hid : d.fld (ENG_BANK_STATUS s i) ENG_BANK_STATUS_ID = id) : d.bankAsk s i kind id = .owner := by
  unfold Dev.bankAsk
  exact if_pos (by simp [hdrain, hkind, hid])

theorem Dev.bankAsk_held {d : Dev} {s i kind id : Nat} (hdrain : d.flag (ENG_BANK_STATUS s i) ENG_BANK_STATUS_DRAINING = true)
    (hkind : d.fld (ENG_BANK_STATUS s i) ENG_BANK_STATUS_PEND_KIND = kind) (hid : d.fld (ENG_BANK_STATUS s i) ENG_BANK_STATUS_PEND_ID = id) :
    d.bankAsk s i kind id = .held := by
  unfold Dev.bankAsk
  exact (if_neg (by simp [hdrain])).trans (if_pos (by simp [hdrain, hkind, hid]))

theorem Dev.bankAsk_refused {d : Dev} {s i kind id : Nat} (hdrain : d.flag (ENG_BANK_STATUS s i) ENG_BANK_STATUS_DRAINING = false)
    (hkind : d.fld (ENG_BANK_STATUS s i) ENG_BANK_STATUS_KIND ≠ kind) : d.bankAsk s i kind id = .refused := by
  unfold Dev.bankAsk
  exact (if_neg (by simp [hkind])).trans (if_neg (by simp [hdrain]))

/-- What the exception path's access comes to, by the bank's answer. -/
theorem exec_excBankAccess {s : State} (h : s.runs = true) (sl : Fin 6) (b : Fin 32) (w : Fin 32768) (write : Bool) (v : Word) :
    let x : ExcAcc := ⟨sl.val, b.val, w.val, if write then some v else none⟩
    exec (.excBankAccess sl b w write v) s = .next (match s.bankAsk sl.val b.val 3 0 with
      | .owner => s.became (s.excAccess x)
      | .held => s.settled (s.setExcHeld (s.excHeld ++ [x]))
      | .refused => s.settled (s.excRefused x)) := by
  intro x
  show execExcBankAccess sl b w write v s = _
  unfold execExcBankAccess
  cases s.bankAsk sl.val b.val 3 0 with
  | owner => exact finM_became h _
  | held => exact fin_eq_of_runs h _
  | refused => exact fin_eq_of_runs h _

/-- The end of a bank's handover: what the held accesses come to. -/
theorem exec_handoverDone {s : State} (h : s.runs = true) (sl : Fin 6) (b : Fin 32)
    (hdrain : s.flag (ENG_BANK_STATUS sl.val b.val) ENG_BANK_STATUS_DRAINING = true) {d : Dev} (hd : s.handoverDone sl.val b.val = d) :
    exec (.handoverDone sl b) s = .next (s.became ((s.excOn sl.val b.val).foldl State.excAccess { s with toDev := d.excOff sl.val b.val })) := by
  show execHandoverDone sl b s = _
  unfold execHandoverDone
  dsimp only
  rw [if_pos hdrain, hd]
  exact finM_became h _

/-- The device whose bank's handover has ended, before its new owner is named. -/
def Dev.drained (d : Dev) (sl b : Nat) : Dev :=
  ((d.setF (ENG_BANK_STATUS sl b) ENG_BANK_STATUS_DRAINING 0).setF (ENG_BANK_STATUS sl b) ENG_BANK_STATUS_PEND_KIND 0).setF (ENG_BANK_STATUS sl b) ENG_BANK_STATUS_PEND_ID 0

theorem Dev.handoverDone_eq {d : Dev} {sl b : Nat} (hdrain : d.flag (ENG_BANK_STATUS sl b) ENG_BANK_STATUS_DRAINING = true) :
    d.handoverDone sl b =
      if (d.fld (ENG_BANK_STATUS sl b) ENG_BANK_STATUS_PEND_KIND == 1 && (d.drained sl b).offline sl (d.fld (ENG_BANK_STATUS sl b) ENG_BANK_STATUS_PEND_ID)) = true
      then ((d.drained sl b).bankNone sl b).setF (ENG_BANK_STATUS sl b) ENG_BANK_STATUS_REFUSED 1
      else ((d.drained sl b).setF (ENG_BANK_STATUS sl b) ENG_BANK_STATUS_KIND (d.fld (ENG_BANK_STATUS sl b) ENG_BANK_STATUS_PEND_KIND)).setF (ENG_BANK_STATUS sl b)
        ENG_BANK_STATUS_ID (d.fld (ENG_BANK_STATUS sl b) ENG_BANK_STATUS_PEND_ID) := by
  unfold Dev.handoverDone
  dsimp only
  rw [hdrain, Bool.not_true, if_neg Bool.false_ne_true]
  rfl

end Sys2Proof.Machine

/-- Settles O40: each event by the condition that its meaning asks. -/
theorem engineEvents : Obligations.EngineEvents := by
  intro s h
  refine ⟨fun id c n f hf hst => ⟨fun hfirst => ?_, fun hlater => ?_⟩, fun sl e g id rest x hq hg => ⟨fun p t hc => ?_, fun hc => ?_⟩,
    fun th => ⟨fun hfirst => fin_of_runs h (if_pos hfirst), fun hlater => fin_of_runs h (if_neg (Bool.eq_false_iff.1 hlater))⟩, fun th dst ch => ?_, fun sl p => ?_⟩
  · refine fin_of_runs h ?_
    rw [hf]
    dsimp only
    rw [hst]
    exact if_pos hfirst
  · refine fin_of_runs h ?_
    rw [hf]
    dsimp only
    rw [hst]
    exact if_neg (Bool.eq_false_iff.1 hlater)
  · refine fin_of_runs h ?_
    rw [hq, hg]
    dsimp only
    rw [hc]
  · refine fin_of_runs h ?_
    rw [hq, hg]
    dsimp only
    rw [hc]
  · intro k c mine shown
    refine ⟨fun m rest htake hmany => ?_, fun m rest htake hone hsends hrun => ?_, fun hnone => ?_⟩
    · refine (exec_messageVisible h th dst ch htake false ?_ rfl).trans rfl
      rw [beq_eq_false_iff_ne.2 (by omega : (c.res.filter mine).length ≠ 1), Bool.false_and]
    · refine (exec_messageVisible h th dst ch htake true ?_ ?_).trans rfl
      · rw [beq_iff_eq.2 hone, Bool.true_and]
        exact hsends
      · rw [beq_eq_false_iff_ne.2 hrun, Bool.and_false]
    · refine fin_of_runs h ?_
      rw [show takeFirst (fun m : Msg => m.pos == th.pos.val && m.thread == th.thread.val) (s.chanAt th.slice.val dst.val ch.val).res = none from hnone]
  · intro k st d
    refine ⟨fun hnot => ?_, fun htold hquiet => ⟨fun hwait => ?_, fun hwait hsome => ?_⟩⟩
    · refine fin_of_runs h (if_pos ?_)
      obtain htold | hbusy := hnot
      · rw [htold, Bool.true_or]
      · rw [hbusy, Bool.not_false, Bool.or_true]
    · refine fin_of_runs h ((if_neg ?_).trans (if_pos hwait))
      rw [htold, hquiet]
      exact Bool.false_ne_true
    · refine fin_of_runs h ((if_neg ?_).trans ((if_neg (Bool.eq_false_iff.1 hwait)).trans (if_pos hsome)))
      rw [htold, hquiet]
      exact Bool.false_ne_true

/-- Settles O42: by whether the bank drains, and whom it belongs to. -/
theorem bankOwnership : Obligations.BankOwnership := by
  refine ⟨fun s src sl b v h => ?_, fun s sl b h => ?_, fun s sl b w v h => ?_, fun d sl b id => ?_⟩
  · intro r kind id
    refine ⟨fun hbad => next_settled_congr (finSW_eq_of_hears h _ _) (if_pos ?_), fun hdrain hok => next_settled_congr (finSW_eq_of_hears h _ _) (if_neg ?_)⟩
    · obtain hdrain | hbad := hbad
      · rw [hdrain, Bool.true_or]
      · rw [hbad, Bool.not_false, Bool.or_true]
    · rw [hdrain, hok]
      exact Bool.false_ne_true
  · intro r kind id d
    refine ⟨fun hidle => ?_, ?_⟩
    · refine (if_neg (Bool.eq_false_iff.1 hidle)).trans (fin_of_runs h (if_pos ?_))
      rw [hidle, Bool.not_false]
    · intro goOn
      refine ⟨fun hdrain hkind => exec_handoverDone h sl b hdrain ((Dev.handoverDone_eq hdrain).trans (if_neg ?_)),
        fun hdrain hkind => exec_handoverDone h sl b hdrain ((Dev.handoverDone_eq hdrain).trans ?_)⟩
      · rw [beq_eq_false_iff_ne.2 hkind, Bool.false_and]
        exact Bool.false_ne_true
      · rw [beq_iff_eq.2 hkind, Bool.true_and]
        rfl
  · intro r a
    refine ⟨fun hdrain hkind hid => ⟨?_, ?_⟩, fun hdrain hkind hid => ⟨?_, ?_⟩, fun hdrain hkind => ⟨?_, ?_⟩⟩
    · rw [exec_excBankAccess h, Dev.bankAsk_owner hdrain hkind hid]
      rfl
    · rw [exec_excBankAccess h, Dev.bankAsk_owner hdrain hkind hid]
      show Host.Outcome.next (s.became (if (s.poison.look (a / 8)).isSome = true then _ else _)) = _
      split <;> rfl
    · rw [exec_excBankAccess h, Dev.bankAsk_held hdrain hkind hid]
      rfl
    · rw [exec_excBankAccess h, Dev.bankAsk_held hdrain hkind hid]
      rfl
    · rw [exec_excBankAccess h, Dev.bankAsk_refused hdrain hkind]
      rfl
    · rw [exec_excBankAccess h, Dev.bankAsk_refused hdrain hkind]
      rfl
  · unfold Dev.ownerOk
    simp [and_assoc]

/-- Settles O19: each command by the state of the lane it names. -/
theorem laneSparing : Obligations.LaneSparing := by
  refine ⟨fun s src sl b v h => ?_, fun s die lane q j sym corr unc h hq hj => ?_, fun s die lane h => ?_, fun s die lane h => ?_, fun s die lane q j h => ?_,
    fun d g l k b hfailed => if_pos hfailed⟩
  · intro r d
    refine ⟨fun hnot => next_settled_congr (finSW_eq_of_hears h _ _) (if_neg ?_), fun hnow => next_settled_congr (finSW_eq_of_hears h _ _) (if_pos hnow)⟩
    rw [hnot]
    exact Nat.zero_ne_one
  · intro d k
    have hwindow : s.fecWindow die.val lane.val sym corr unc = if (k != 0 && decide (k * 1000 ≤ sym)) = true then d.laneFail die.val lane.val 1 (d.autoSpare die.val lane.val) else d := by
      unfold Dev.fecWindow
      rw [hq]
      dsimp only [Option.bind_some]
      rw [hj]
    refine ⟨fun hlow => fin_of_runs h (hwindow.trans (if_neg ?_)), fun ⟨h0, hhigh⟩ => fin_of_runs h (hwindow.trans (if_pos ?_))⟩
    · simp only [Bool.and_eq_true, bne_iff_ne, decide_eq_true_eq]
      omega
    · rw [bne_iff_ne.2 h0, decide_eq_true hhigh]
      rfl
  · intro d
    exact ⟨fun hused => fin_of_runs h (if_pos (decide_eq_true hused)), fun hout => fin_of_runs h (if_neg (by simpa using hout))⟩
  · intro d hnone
    refine fin_of_runs h ?_
    unfold Dev.laneRegain
    dsimp only
    rw [hnone]
    dsimp only
    refine ite_congr (propext ?_) (fun _ => rfl) fun _ => rfl
    rw [Bool.and_eq_true, Bool.and_eq_true, decide_eq_true_eq, beq_iff_eq, Bool.not_eq_true', and_assoc]
  · intro d c hq hfailed hj
    refine fin_of_runs h ?_
    unfold Dev.laneRegain
    dsimp only
    rw [hq]
    dsimp only
    have hd : (c.onlyIf (c.laneState die.val lane.val == 2) fun d => d.setF (laneStatus die.val lane.val) MAC_LANE_STATUS_LANE_STATE 3).refreshLanes die.val = d := by
      rw [beq_iff_eq.2 hfailed]
      rfl
    rw [show ((s.toDev.setF (laneStatus die.val lane.val) MAC_LANE_STATUS_CDR_LOCK 1).onlyIf ((s.toDev.setF (laneStatus die.val lane.val) MAC_LANE_STATUS_CDR_LOCK 1).laneState die.val lane.val == 2)
      fun d => d.setF (laneStatus die.val lane.val) MAC_LANE_STATUS_LANE_STATE 3).refreshLanes die.val = d from hd, hj]
    refine ite_congr (propext ?_) (fun _ => rfl) fun _ => rfl
    rw [Bool.and_eq_true, beq_iff_eq]
end

section
open Sys2Proof Sys2Proof.Machine
namespace Sys2Proof.Machine

/-! The mode register of a die's ports: what moves ports and lanes does not write it (04 R77, R95). -/

/-- A register that begins a slice's range, as MAC_HALF_MODE does. -/
def Reg.beginsSlice (r : Reg) : Prop := r.addr % 0x1000000 = 0

theorem Dev.rd_setF_within {r q : Reg} (hr : r.beginsSlice) (hq : ¬ q.beginsSlice) (d : Dev) (f : Fld) (x : Nat) : (d.setF q f x).rd r = d.rd r :=
  Dev.rd_setF_other d q r f x fun h => hq (by unfold Reg.beginsSlice at hr ⊢; omega)

theorem portStatus_within (p : Nat) : ¬ (portStatus p).beginsSlice := by
  show ¬ (0x1001008 + p / 8 * 3 * 0x1000000 + p % 8 * 0x100) % 0x1000000 = 0
  omega

theorem statHalf_within (s : Nat) : ¬ (MAC_STAT_HALF_STATUS s).beginsSlice := by
  show ¬ (0x1003000 + s * 0x1000000) % 0x1000000 = 0
  omega

theorem laneStatus_within (h : Nat) {l : Nat} (hl : l < 10) : ¬ (laneStatus h l).beginsSlice := by
  show ¬ (0x1002000 + 3 * h * 0x1000000 + l * 0x40) % 0x1000000 = 0
  omega

/-- What every element of a fold keeps, for the elements of the list, the fold keeps. -/
theorem Dev.each_kept_of_mem {α β : Type} (g : Dev → β) {f : Dev → α → Dev} (l : List α) (hf : ∀ x ∈ l, ∀ d, g (f d x) = g d) (d : Dev) : g (d.each l f) = g d := by
  induction l generalizing d with
  | nil => rfl
  | cons x l ih =>
    exact (ih (fun y hy => hf y (List.mem_cons_of_mem _ hy)) (f d x)).trans (hf x List.mem_cons_self d)

/-- What the parts of a conditional change keep, it keeps. -/
theorem Dev.onlyIf_kept {β : Type} (g : Dev → β) {f : Dev → Dev} (hf : ∀ d, g (f d) = g d) (d : Dev) (c : Bool) : g (d.onlyIf c f) = g d := by
  cases c
  · rfl
  · exact hf d

theorem Dev.rd_frameGone (d : Dev) (id : Nat) (r : Reg) : (d.frameGone id).rd r = d.rd r := by
  unfold Dev.frameGone
  dsimp only
  split <;> rfl

theorem Dev.rd_headMoves (d : Dev) (k : Nat) (r : Reg) : (d.headMoves k).rd r = d.rd r := by
  unfold Dev.headMoves
  dsimp only
  split <;> rfl

theorem Dev.rd_txWriteback (d : Dev) (k id status stamp : Nat) (r : Reg) : (d.txWriteback k id status stamp).rd r = d.rd r := by
  unfold Dev.txWriteback
  split
  · split
    · exact Dev.rd_headMoves ..
    · rfl
  · rfl

theorem Dev.rd_frameStamped (d : Dev) (id status stamp : Nat) (r : Reg) : (d.frameStamped id status stamp).rd r = d.rd r := by
  unfold Dev.frameStamped
  split
  · split
    · unfold Dev.chainLeaves
      split
      · split
        · exact Dev.rd_txWriteback ..
        · rfl
      · rfl
    · rfl
  · rfl

theorem Dev.rd_dropAt (d : Dev) (id ctr : Nat) (r : Reg) : (d.dropAt id ctr).rd r = d.rd r := (Dev.rd_frameGone _ _ _).trans (Dev.rd_frameStamped ..)

theorem Dev.rd_tmRefresh (d : Dev) (s : Nat) (r : Reg) : (d.tmRefresh s).rd r = d.rd r := by
  obtain ⟨x, hx⟩ := Dev.OnlyNodes.tmRefresh d s
  rw [hx]
  rfl

theorem Dev.rd_breakReceiving (d : Dev) (p : Nat) (r : Reg) : (d.breakReceiving p).rd r = d.rd r := by
  unfold Dev.breakReceiving
  split
  · split <;> rfl
  · rfl

theorem Dev.rd_tmPortLeftUp (d : Dev) (p : Nat) (r : Reg) : (d.tmPortLeftUp p).rd r = d.rd r := by
  unfold Dev.tmPortLeftUp
  refine (Dev.rd_tmRefresh _ _ _).trans ?_
  split
  · exact Dev.rd_dropAt d _ (tmgCnt (d.actingSlice p) 12) r
  · rfl

theorem Dev.rd_dropQueue (d : Dev) (s q ctr : Nat) (r : Reg) : (d.dropQueue s q ctr).rd r = d.rd r :=
  Dev.each_kept (fun d => d.rd r) (fun d id => Dev.rd_dropAt d id ctr r) _ _

theorem Dev.rd_tmPortGone (d : Dev) (p : Nat) (r : Reg) : (d.tmPortGone p).rd r = d.rd r :=
  Dev.each_kept (fun d => d.rd r) (fun d s => (Dev.rd_tmRefresh _ s r).trans
    (Dev.each_kept (fun d => d.rd r) (fun d q => Dev.rd_dropQueue d s q _ r) d ((d.busyQueues s).filter fun q => d.queuePort s q == some p))) _ _

section
variable {r : Reg} (hr : r.beginsSlice)
include hr

theorem Dev.rd_macCount (d : Dev) (p b c n : Nat) : (d.macCount p b c n).rd r = d.rd r := by
  unfold Dev.macCount
  dsimp only
  split
  · exact Dev.rd_setF_within hr (statHalf_within _) ..
  · rfl

theorem Dev.rd_lpiEnds (d : Dev) (p : Nat) : (d.lpiEnds p).rd r = d.rd r := by
  have hset : ∀ (e : Dev) (f : Fld) (c n : Nat), ((e.setF (portStatus p) f 0).macCount p 3 c n).rd r = e.rd r := fun e f c n =>
    (Dev.rd_macCount hr _ _ _ _ _).trans (Dev.rd_setF_within hr (portStatus_within p) ..)
  unfold Dev.lpiEnds
  extract_lets st e f
  have he : e.rd r = d.rd r := by
    unfold e
    split
    · exact hset ..
    · rfl
  have hf : f.rd r = e.rd r := by
    unfold f
    split
    · exact hset ..
    · rfl
  exact hf.trans he

theorem Dev.rd_portTo (d : Dev) (p st : Nat) : (d.portTo p st).rd r = d.rd r := by
  unfold Dev.portTo
  extract_lets old d1 d2 d3 d4 d5 d6
  have h1 : d1.rd r = d.rd r := Dev.rd_setF_within hr (portStatus_within p) ..
  have h2 : d2.rd r = d1.rd r := Dev.onlyIf_kept (fun d => d.rd r) (fun d => (Dev.rd_tmPortLeftUp _ _ _).trans ((Dev.rd_breakReceiving _ _ _).trans (Dev.rd_lpiEnds hr d p))) _ _
  have h3 : d3.rd r = d2.rd r := Dev.onlyIf_kept (fun d => d.rd r) (fun d => Dev.rd_macCount hr d _ _ _ _) _ _
  have hport : ∀ (f : PortSt → PortSt) (d : Dev), (d.updPort p f).rd r = d.rd r := fun _ _ => rfl
  have h4 : d4.rd r = d3.rd r := Dev.onlyIf_kept (fun d => d.rd r) (hport _) _ _
  have h5 : d5.rd r = d4.rd r := Dev.onlyIf_kept (fun d => d.rd r) (hport _) _ _
  have h6 : d6.rd r = d5.rd r := Dev.onlyIf_kept (fun d => d.rd r) (fun d => Dev.rd_tmPortGone d p r) _ _
  have hall := h6.trans (h5.trans (h4.trans (h3.trans (h2.trans h1))))
  split
  · exact (Dev.rd_tmRefresh _ _ _).trans hall
  · exact hall

theorem Dev.rd_portTrain (d : Dev) (p : Nat) : (d.portTrain p).rd r = d.rd r := by
  unfold Dev.portTrain
  split <;> exact Dev.rd_portTo hr ..

theorem Dev.rd_portShow (d : Dev) (p : Nat) : (d.portShow p).rd r = d.rd r := by
  have hset : ∀ (e : Dev) (f : Fld) (x : Nat), (e.setF (portStatus p) f x).rd r = e.rd r := fun e f x => Dev.rd_setF_within hr (portStatus_within p) e f x
  unfold Dev.portShow
  dsimp only
  split <;> rw [hset, hset, hset]

theorem Dev.rd_refreshLanes (d : Dev) (h : Nat) : (d.refreshLanes h).rd r = d.rd r := by
  refine Dev.each_kept_of_mem (fun d => d.rd r) _ (fun l hl d => ?_) d
  have hset : ∀ (e : Dev) (f : Fld) (x : Nat), (e.setF (laneStatus h l) f x).rd r = e.rd r := fun e f x =>
    Dev.rd_setF_within hr (laneStatus_within h (List.mem_range.1 hl)) e f x
  split
  · rfl
  · split
    · exact hset ..
    · split
      · rw [hset, hset]
      · exact hset ..

end

/-- A write of MAC_HALF_MODE leaves the five mode bits in the register. -/
theorem Dev.rd_halfModeWrite (d : Dev) (h : Nat) (v : Word) : (d.halfModeWrite h v).rd (halfMode h) = BitVec.ofNat 64 (v.toNat % 32) := by
  have hr : (halfMode h).beginsSlice := by
    show (0x1000000 + 3 * h * 0x1000000) % 0x1000000 = 0
    omega
  unfold Dev.halfModeWrite
  extract_lets old oldPorts d1 hit gone d2 here d3 d4
  have h1 : d1.rd (halfMode h) = BitVec.ofNat 64 (v.toNat % 32) := Dev.rd_wr_same ..
  have h2 : d2.rd (halfMode h) = d1.rd (halfMode h) := Dev.each_kept (fun d => d.rd (halfMode h)) (fun d j => Dev.rd_portTo hr d _ _) _ _
  have h3 : d3.rd (halfMode h) = d2.rd (halfMode h) := Dev.each_kept (fun d => d.rd (halfMode h)) (fun d j => Dev.rd_portShow hr d _) _ _
  have h4 : d4.rd (halfMode h) = d3.rd (halfMode h) := Dev.each_kept (fun d => d.rd (halfMode h)) (fun d j => by
    split
    · exact Dev.rd_portTrain hr d _
    · exact Dev.rd_portTo hr d _ _) _ _
  exact (Dev.rd_refreshLanes hr d4 h).trans (h4.trans (h3.trans (h2.trans h1)))

/-! The control register of a port (04 R95). -/

/-- The device with `v` in the control register of port `p`, its frame limit clamped. -/
def Dev.withPortCtrl (d : Dev) (p : Nat) (v : Word) : Dev :=
  d.wr (portCtrl p) (MAC_PORT_CTRL_MAX_FRAME.set (min (max (MAC_PORT_CTRL_MAX_FRAME.get v) 1518) 16384) (v &&& 0xFFFFFF0F))

/-- The control register is none of the status. -/
theorem Dev.portState_withPortCtrl (d : Dev) (p : Nat) (v : Word) : (d.withPortCtrl p v).portState p = d.portState p := by
  refine congrArg MAC_PORT_STATUS_STATE.get (Dev.rd_wr_other d (portCtrl p) (portStatus p) _ ?_)
  show 0x1001008 + p / 8 * 3 * 0x1000000 + p % 8 * 0x100 ≠ 0x1001000 + p / 8 * 3 * 0x1000000 + p % 8 * 0x100
  omega

theorem Dev.life_withPortCtrl (d : Dev) (p : Nat) (v : Word) : (d.withPortCtrl p v).life = d.life := by
  refine congrArg MBX_LIFECYCLE_STATE.get (Dev.rd_wr_other d (portCtrl p) MBX_LIFECYCLE _ ?_)
  show MBX_LIFECYCLE.addr ≠ 0x1001000 + p / 8 * 3 * 0x1000000 + p % 8 * 0x100
  have hlow : MBX_LIFECYCLE.addr < 0x1001000 := by decide
  omega

section
variable {d : Dev} {p : Nat} {v : Word}

theorem Dev.portCtrlWrite_absent (h : d.portState p = 0) : d.portCtrlWrite p v = d.withPortCtrl p v :=
  if_pos ((d.portState_withPortCtrl p v).trans h)

theorem Dev.portCtrlWrite_disables (h0 : d.portState p ≠ 0) (hen : (d.withPortCtrl p v).flag (portCtrl p) MAC_PORT_CTRL_ENABLE = false) :
    d.portCtrlWrite p v = if d.portState p = 1 ∨ d.portState p = 5 then d.withPortCtrl p v else (d.withPortCtrl p v).portTo p 1 := by
  have hst := d.portState_withPortCtrl p v
  refine (if_neg (fun h => h0 (hst.symm.trans h))).trans ((if_pos ?_).trans ?_)
  · exact Bool.not_eq_true' _ ▸ hen
  · rw [← hst]
    exact ite_congr (by rw [Bool.or_eq_true, decide_eq_true_eq, decide_eq_true_eq]; rfl) (fun _ => rfl) fun _ => rfl

theorem Dev.portCtrlWrite_enables (h1 : d.portState p = 1) (hen : (d.withPortCtrl p v).flag (portCtrl p) MAC_PORT_CTRL_ENABLE = true) (hlife : d.life ≠ 4) :
    d.portCtrlWrite p v = (d.withPortCtrl p v).portTrain p := by
  have hst := (d.portState_withPortCtrl p v).trans h1
  refine (if_neg ?_).trans ((if_neg ?_).trans ((if_pos hst).trans (if_neg (fun h => hlife ((d.life_withPortCtrl p v).symm.trans h)))))
  · exact fun h => by
      have h' := hst.symm.trans h
      omega
  · rw [show (d.wr (portCtrl p) _).flag (portCtrl p) MAC_PORT_CTRL_ENABLE = true from hen]
    exact Bool.false_ne_true

end

end Sys2Proof.Machine
end

section
open Sys2Proof Sys2Proof.Machine
namespace Sys2Proof.Machine

/-! Frames at a port (04 R82 to R84): what a frame that has left leaves behind. -/

/-- A frame's going keeps the ports and every other table of the MACs. -/
theorem Dev.mac_frameGone (d : Dev) (id : Nat) : (d.frameGone id).mac = d.mac := by
  unfold Dev.frameGone
  dsimp only
  split <;> rfl

/-- A frame that goes is gone from a table of frames in order. -/
theorem Dev.frame_frameGone {d : Dev} (h : Tab.rising d.frames = true) (id : Nat) : (d.frameGone id).frame? id = none := by
  have hdel : Tab.look (d.frames.del id) id = none := by
    rw [Tab.del_eq_filter _ _ h, Tab.look_filter (fun k => k != id) _ _ h]
    simp
  unfold Dev.frameGone
  dsimp only
  split <;> exact hdel

/-- What a transmit chain's leaving keeps: ports and frames. -/
theorem Dev.headMoves_kept (d : Dev) (k : Nat) : (d.headMoves k).mac = d.mac ∧ (d.headMoves k).frames = d.frames := by
  unfold Dev.headMoves
  dsimp only
  split <;> exact ⟨rfl, rfl⟩

theorem Dev.txWriteback_kept (d : Dev) (k id status stamp : Nat) : (d.txWriteback k id status stamp).mac = d.mac ∧ (d.txWriteback k id status stamp).frames = d.frames := by
  unfold Dev.txWriteback
  split
  · split
    · exact Dev.headMoves_kept _ _
    · exact ⟨rfl, rfl⟩
  · exact ⟨rfl, rfl⟩

theorem Dev.frameStamped_kept (d : Dev) (id status stamp : Nat) : (d.frameStamped id status stamp).mac = d.mac ∧ (d.frameStamped id status stamp).frames = d.frames := by
  unfold Dev.frameStamped
  split
  · split
    · unfold Dev.chainLeaves
      split
      · split
        · exact Dev.txWriteback_kept ..
        · exact ⟨rfl, rfl⟩
      · exact ⟨rfl, rfl⟩
    · exact ⟨rfl, rfl⟩
  · exact ⟨rfl, rfl⟩

/-- What a count at a port keeps: the MACs, the frames, and the ports' control registers. -/
structure Dev.CountsOnly (d e : Dev) : Prop where
  mac : e.mac = d.mac
  frames : e.frames = d.frames
  ctrl : ∀ p, e.rd (portCtrl p) = d.rd (portCtrl p)

theorem Dev.CountsOnly.refl (d : Dev) : d.CountsOnly d := ⟨rfl, rfl, fun _ => rfl⟩

theorem Dev.CountsOnly.trans {d e f : Dev} (h : d.CountsOnly e) (h' : e.CountsOnly f) : d.CountsOnly f :=
  ⟨h'.mac.trans h.mac, h'.frames.trans h.frames, fun p => (h'.ctrl p).trans (h.ctrl p)⟩

theorem portCtrl_ne_statHalf (p s : Nat) : (portCtrl p).addr ≠ (MAC_STAT_HALF_STATUS s).addr := by
  show 0x1001000 + p / 8 * 3 * 0x1000000 + p % 8 * 0x100 ≠ 0x1003000 + s * 0x1000000
  omega

theorem Dev.CountsOnly.macCount (d : Dev) (p b c n : Nat) : d.CountsOnly (d.macCount p b c n) := by
  unfold Dev.macCount
  dsimp only
  split
  · exact ⟨rfl, rfl, fun q => Dev.rd_setF_other _ _ _ _ _ (portCtrl_ne_statHalf q _)⟩
  · exact ⟨rfl, rfl, fun _ => rfl⟩

theorem Dev.CountsOnly.countGood (d : Dev) (p b n : Nat) (x : List Byte) : d.CountsOnly (d.countGood p b n x) := by
  unfold Dev.countGood
  extract_lets da e f
  have he : d.CountsOnly e := ((Dev.CountsOnly.macCount d _ _ _ _).trans (.macCount _ _ _ _ _)).trans (.macCount _ _ _ _ _)
  have hf : d.CountsOnly f := by
    unfold f
    split
    · exact he.trans (.macCount _ _ _ _ _)
    · split <;> exact he.trans (.macCount _ _ _ _ _)
  split
  · exact hf.trans (.macCount _ _ _ _ _)
  · exact hf

theorem Dev.CountsOnly.onlyIf {d e : Dev} {f : Dev → Dev} (h : d.CountsOnly e) (hf : ∀ d : Dev, d.CountsOnly (f d)) (c : Bool) : d.CountsOnly (e.onlyIf c f) := by
  cases c
  · exact h
  · exact h.trans (hf e)

/-- A frame's leaving the part, its counts done: what is left of it, and of its port. -/
theorem Dev.frameLeft_spec {d : Dev} (hrise : Tab.rising d.frames = true) (id status stamp sl : Nat) :
    let e := ((d.frameStamped id status stamp).frameGone id).tmRefresh sl
    e.mac = d.mac ∧ e.frame? id = none ∧ ∀ r, e.rd r = d.rd r := by
  obtain ⟨hm, hfr⟩ := d.frameStamped_kept id status stamp
  obtain ⟨x, hx⟩ := Dev.OnlyNodes.tmRefresh ((d.frameStamped id status stamp).frameGone id) sl
  intro e
  refine ⟨(congrArg Dev.mac hx).trans ((Dev.mac_frameGone _ id).trans hm), ?_, fun r => ?_⟩
  · exact (congrArg (Dev.frame? · id) hx).trans (Dev.frame_frameGone (by rw [hfr]; exact hrise) id)
  · exact (Dev.rd_tmRefresh _ _ r).trans ((Dev.rd_frameGone _ _ r).trans (Dev.rd_frameStamped ..))

/-- A frame sent leaves its port's wire free and is gone. -/
theorem Dev.frameSent_spec {d : Dev} {p id : Nat} {f : Frame} (hrise : Tab.rising d.frames = true) (hwire : (d.portSt p).onWire = some id)
    (hf : d.frame? id = some f) (hloop : d.loopback p ≠ 1) (stamp : Nat) :
    ((d.frameSent p stamp).portSt p).onWire = none ∧ (d.frameSent p stamp).frame? id = none := by
  unfold Dev.frameSent
  rw [hwire]
  dsimp -zeta only
  extract_lets e
  have hef : e.frames = d.frames := rfl
  have hport : (e.portSt p).onWire = none := congrArg PortSt.onWire (Tab.lookD_put_same ..)
  have hctrl : e.rd (portCtrl p) = d.rd (portCtrl p) := rfl
  rw [show e.frame? id = some f from hf]
  dsimp -zeta only
  extract_lets bytes g h i
  have hh : e.CountsOnly h := (Dev.CountsOnly.countGood e p 2 f.netLen bytes).onlyIf (fun d => .macCount d p 2 16 1) f.wantTs
  obtain ⟨himac, hgone, hird⟩ := Dev.frameLeft_spec (d := h) (by rw [hh.frames, hef]; exact hrise) id 1 (stamp / 2 ^ 16) (h.actingSlice p)
  have hloop' : ¬ i.loopback p = 1 := fun hi => hloop ((congrArg (fun v => MAC_PORT_CTRL_LOOPBACK.get v % 3) ((hird _).trans ((hh.ctrl p).trans hctrl))).symm.trans hi)
  rw [if_neg hloop']
  refine ⟨?_, hgone⟩
  rw [← hport]
  exact congrArg (fun m : MacU => (m.port.lookD p PortSt.reset).onWire) (himac.trans hh.mac)

/-- A frame received whole, without its FCS, that waits for the parser at `root`. -/
def Frame.received (f : Frame) (whole : List Byte) (root : Nat) : Frame := { f with data := whole.take (whole.length - 4), stage := .stored root }

/-- A frame being received that ends. -/
theorem Dev.frameEnd_receiving {d : Dev} {p id r : Nat} {f : Frame} {broken : Bool} (hrec : d.receivingOf p = some (id, f)) (hst : f.stage = .receiving r broken)
    (rest : List Byte) (sym fcs : Bool) : d.frameEnd p rest sym fcs =
      if f.facts.maxFrames.getD p 0 < (f.data ++ rest).length then (d.frameGone id).macCount p 1 2
      else if (sym || broken) = true then (d.frameGone id).macCount p 1 3
      else if (!fcs) = true then (d.frameGone id).macCount p 1 1
      else if f.slot = noEpoch then ((d.countGood p 0 (f.data ++ rest).length (f.data ++ rest)).frameGone id).macCount p 1 8
      else (d.countGood p 0 (f.data ++ rest).length (f.data ++ rest)).putFrame id
        (f.received (f.data ++ rest) ((d.countGood p 0 (f.data ++ rest).length (f.data ++ rest)).portRoot f.slot f.slice p)) := by
  unfold Dev.frameEnd
  rw [hrec]
  dsimp only
  rw [hst]
  rfl

/-- A frame that begins at a port that is UP and receives nothing. -/
theorem Dev.frameStart_up {d : Dev} {p : Nat} (hup : d.portState p = 3) (hfree : d.receivingOf p = none) (stamp : Nat) (first : List Byte) :
    d.frameStart p stamp first =
      if d.loopback p = 2 then d.emit (.loopBack p first)
      else if first.length < 64 then d.macCount p 1 0
      else if d.flag IMG_STATUS IMG_STATUS_NO_IMAGE = true then
        d.newFrame ⟨first, d.actingSlice p, .net p, stamp, noEpoch, 1, 0xFFFF, d.facts (d.actingSlice p), 0, false, List.replicate 8 0, ParseMeta.none, [], [], none, .receiving 0 false⟩
      else if d.held (d.processing p first).1 + d.maxFrame p ≤ bufferBytes then
        d.newFrame ⟨first, (d.processing p first).1, .net p, stamp, d.slotFor (stamp / 2 ^ 16), 1, 0xFFFF, d.facts (d.processing p first).1, (d.processing p first).2, false,
          List.replicate 8 0, ParseMeta.none, [], [], none, .receiving (d.maxFrame p) false⟩
      else d.macCount p 1 4 := by
  refine if_neg ?_
  rw [hup, hfree]
  exact Bool.false_ne_true

theorem Dev.fwEntry_eq (d : Dev) (s k : Nat) : d.fwEntry s k = d.fwBase + s * 4210688 + k * 16448 := rfl

/-- The read of a slice's firmware queue, its entry judged by `check`. -/
def fwReadBy (check : Dev → Nat → Nat → Dev × Bool) (d : Dev) (s : Nat) : Dev :=
  match d.fwq.lookD s [] with
  | [] => d
  | (k, x) :: t => match check (d.setFwq (d.fwq.put s t)) (d.fwEntry s k) fwEntryBytes with
    | (d, true) => d.emit (.ulyarFrame x)
    | (d, false) => d

theorem Dev.fwRead_eq (d : Dev) (s : Nat) : d.fwRead s = fwReadBy Dev.sealedCheck d s := rfl

theorem fwReadBy_cons (check : Dev → Nat → Nat → Dev × Bool) {d : Dev} {s k : Nat} {x : List Byte} {t : List (Nat × List Byte)} (hq : d.fwq.lookD s [] = (k, x) :: t) :
    let r := check (d.setFwq (d.fwq.put s t)) (d.fwBase + s * 4210688 + k * 16448) 16448
    fwReadBy check d s = if r.2 = true then r.1.emit (.ulyarFrame x) else r.1 := by
  unfold fwReadBy
  rw [hq]
  dsimp only
  rw [Dev.fwEntry_eq, show fwEntryBytes = 16448 from rfl]
  generalize check (d.setFwq (d.fwq.put s t)) (d.fwBase + s * 4210688 + k * 16448) 16448 = y
  obtain ⟨e, b⟩ := y
  cases b <;> rfl

theorem exec_firmwareQueueRead {s : State} (h : s.runs = true) {sl : Fin 6} :
    exec (.firmwareQueueRead sl) s = .next (s.settled (fwReadBy Dev.sealedCheck s.toDev sl.val)) := by
  have hexec : exec (.firmwareQueueRead sl) s = .next (s.settled (s.fwRead sl.val)) := fin_eq_of_runs h _
  rw [hexec, Dev.fwRead_eq]

/-- Ulyar takes the oldest frame of its queue where `check` accepts its entry (05 R119). -/
theorem next_fwReadBy_cons {s : State} {sl : Fin 6} {k : Nat} {x : List Byte} {q : List (Nat × List Byte)} (hq : s.fwq.lookD sl.val [] = (k, x) :: q)
    (check : Dev → Nat → Nat → Dev × Bool) {o : Host.Outcome State Fault Refusal} (ho : o = .next (s.settled (fwReadBy check s.toDev sl.val))) :
    let r := check (s.toDev.setFwq (s.fwq.put sl.val q)) (s.fwBase + sl.val * 4210688 + k * 16448) 16448
    o = .next (s.settled (if r.2 = true then r.1.emit (.ulyarFrame x) else r.1)) := by
  intro r
  rw [ho]
  exact congrArg (fun d => Host.Outcome.next (s.settled d)) (fwReadBy_cons check hq)

theorem exec_frameStart {s : State} (h : s.runs = true) (p : Fin 16) (skew : Fin 524289) (first : List Byte) (hloop : s.loopback p.val ≠ 1) :
    exec (.frameStart p skew first) s = .next (s.settled (s.frameStart p.val (s.stampAt 2 skew.val) first)) := fin_of_runs h (if_neg hloop)

theorem exec_frameEnd {s : State} (h : s.runs = true) (p : Fin 16) (rest : List Byte) (sym fcs : Bool) (hloop : s.loopback p.val ≠ 1) :
    exec (.frameEnd p rest sym fcs) s = .next (s.settled (s.frameEnd p.val rest sym fcs)) := fin_of_runs h (if_neg hloop)

theorem Dev.mac_settle (d : Dev) : d.settle.mac = d.mac := by
  have h := congrArg Dev.mac d.settlesTo_settle.rest
  exact h

theorem Dev.frames_settle (d : Dev) : d.settle.frames = d.frames := by
  have h := congrArg Dev.frames d.settlesTo_settle.rest
  exact h

end Sys2Proof.Machine

/-- Settles O18: each command by the port's state; the mode register by what does not write it. -/
theorem portStatesAndIdle : Obligations.PortStatesAndIdle := by
  refine ⟨⟨fun s src sl v h => ⟨finSW_eq_of_hears h _ _, Dev.rd_halfModeWrite _ _ v⟩, fun s src sl port v h => ?_, fun s p h => ?_⟩, fun s p h hst hok hlpi hwire hwake hidle hready => ?_,
    fun s p h hnot => ?_, fun s p w h hw hdue => ?_, fun s p h hst hlpi => ?_, fun s p h hlpi => fin_of_runs h (if_pos hlpi), fun s sl h => ⟨fun hi => fin_of_runs h (if_pos hi),
      fun hi => fin_of_runs h (if_neg (Bool.eq_false_iff.1 hi)), fun hi => fin_of_runs h (if_pos hi)⟩⟩
  · intro p d
    have hwrite : ∀ e, s.portCtrlWrite p v = e → exec (.portCtrlWrite src sl port v) s = .next (s.settled e.lpiRecheck) := fun e he =>
      next_settled_congr (finSW_eq_of_hears h _ _) (congrArg Dev.lpiRecheck he)
    refine ⟨fun h0 => hwrite _ (Dev.portCtrlWrite_absent h0), fun h5 hen => hwrite _ ?_, fun h2 h5 hen => hwrite _ ?_, fun h1 hen hlife => hwrite _ (Dev.portCtrlWrite_enables h1 hen hlife)⟩
    · exact (Dev.portCtrlWrite_disables (by omega) hen).trans (if_pos (.inr h5))
    · exact (Dev.portCtrlWrite_disables (by omega) hen).trans (if_neg (by omega))
  · refine ⟨fun h2 husable => fin_of_runs h ?_, fun h3 => fin_of_runs h (if_pos h3), fun h3 => fin_of_runs h (if_neg h3), fun l at_ hsp h5 hlate => fin_of_runs h ?_,
      fun hnone => fin_of_runs h ?_⟩
    · unfold Dev.aligned
      rw [h2]
      extract_lets g e usable
      refine if_pos ?_
      rw [show e.portState p.val = 2 from h2, show usable = true from husable]
      rfl
    · unfold Dev.sparingTimeout
      rw [hsp]
      refine if_pos ?_
      rw [h5, decide_eq_true hlate]
      rfl
    · unfold Dev.sparingTimeout
      rw [hnone]
  · refine fin_of_runs h (if_pos ?_)
    rw [hst, hok, hlpi, hwire, hwake, decide_eq_true hidle, hready]
    rfl
  · refine fin_of_runs h (if_neg ?_)
    rw [hnot, Bool.and_false]
    simp
  · refine fin_of_runs h (if_pos ?_)
    rw [hw]
    exact decide_eq_true hdue
  · refine fin_of_runs h (if_pos ?_)
    rw [hst, hlpi]
    rfl

/-- Settles O20: by the checks on the frame, in their order. -/
theorem framesOnThePorts : Obligations.FramesOnThePorts := by
  refine ⟨fun s p skew first h hup hfree => ⟨fun h1 => fin_of_runs h (if_pos h1), fun h2 => ?_⟩, fun s p skew first h hup hfree h0 => ?_,
    fun s p id r f rest sym fcs broken h hrec hst hloop => ?_, fun s p skew h => ⟨fun hnone => fin_of_runs h ?_, fun id f hrise hwire hf hloop => ?_⟩, fun s sl k x q h hq => ?_⟩
  · rw [exec_frameStart h p skew first (by omega), Dev.frameStart_up hup hfree, if_pos h2]
  · intro stamp
    have hstart := next_settled_congr (exec_frameStart h p skew first (by omega)) ((Dev.frameStart_up hup hfree stamp first).trans (if_neg (by omega)))
    refine ⟨fun hrunt => next_settled_congr hstart (if_pos hrunt), fun hlong himg => ?_⟩
    exact next_settled_congr hstart ((if_neg (Nat.not_lt.2 hlong)).trans (if_neg (Bool.eq_false_iff.1 himg)))
  · intro n m
    have hend := next_settled_congr (exec_frameEnd h p rest sym fcs hloop) (Dev.frameEnd_receiving hrec hst rest sym fcs)
    refine ⟨fun hlong => next_settled_congr hend (if_pos hlong), fun hfits hbad => ?_, fun hfits hgood hfcs => ?_, fun hfits hgood hfcs hslot => ?_⟩
    · exact next_settled_congr hend ((if_neg (Nat.not_lt.2 hfits)).trans (if_pos hbad))
    · exact next_settled_congr hend ((if_neg (Nat.not_lt.2 hfits)).trans ((if_neg (Bool.eq_false_iff.1 hgood)).trans (if_pos (by rw [hfcs]; rfl))))
    · exact next_settled_congr hend ((if_neg (Nat.not_lt.2 hfits)).trans ((if_neg (Bool.eq_false_iff.1 hgood)).trans ((if_neg (by rw [hfcs]; exact Bool.false_ne_true)).trans
        (if_neg hslot))))
  · unfold Dev.frameSent
    rw [hnone]
  · obtain ⟨hport, hgone⟩ := Dev.frameSent_spec hrise hwire hf hloop (s.sentStamp p.val skew.val)
    refine ⟨_, fin_eq_of_runs h _, ?_, ?_, rfl⟩
    · exact (congrArg (fun m : MacU => (m.port.lookD p.val PortSt.reset).onWire) (Dev.mac_settle _)).trans hport
    · exact (congrArg (Tab.look · id) (Dev.frames_settle _)).trans hgone
  · exact next_fwReadBy_cons hq _ (exec_firmwareQueueRead h)
end

section
open Sys2Proof Sys2Proof.Machine
namespace Sys2Proof.Machine

/-! The switch of epochs (03 R69 to R73): what of its parts keeps the number of the last epoch. -/

theorem Dev.lastEpoch_tmRefresh (d : Dev) (s : Nat) : (d.tmRefresh s).lastEpoch = d.lastEpoch := by
  obtain ⟨x, hx⟩ := Dev.OnlyNodes.tmRefresh d s
  rw [hx]
  rfl

theorem Dev.lastEpoch_frameGone (d : Dev) (id : Nat) : (d.frameGone id).lastEpoch = d.lastEpoch := by
  unfold Dev.frameGone
  dsimp only
  split <;> rfl

theorem Dev.lastEpoch_headMoves (d : Dev) (k : Nat) : (d.headMoves k).lastEpoch = d.lastEpoch := by
  unfold Dev.headMoves
  dsimp only
  split <;> rfl

theorem Dev.lastEpoch_txWriteback (d : Dev) (k id status stamp : Nat) : (d.txWriteback k id status stamp).lastEpoch = d.lastEpoch := by
  unfold Dev.txWriteback
  split
  · split
    · exact Dev.lastEpoch_headMoves ..
    · rfl
  · rfl

theorem Dev.lastEpoch_frameStamped (d : Dev) (id status stamp : Nat) : (d.frameStamped id status stamp).lastEpoch = d.lastEpoch := by
  unfold Dev.frameStamped
  split
  · split
    · unfold Dev.chainLeaves
      split
      · split
        · exact Dev.lastEpoch_txWriteback ..
        · rfl
      · rfl
    · rfl
  · rfl

theorem Dev.lastEpoch_dropQueue (d : Dev) (s q ctr : Nat) : (d.dropQueue s q ctr).lastEpoch = d.lastEpoch :=
  Dev.each_kept Dev.lastEpoch (f := fun d id => d.dropAt id ctr) (fun d id => (Dev.lastEpoch_frameGone _ id).trans (Dev.lastEpoch_frameStamped d id 2 0)) d _

theorem Dev.lastEpoch_dropUnreachable (d : Dev) (s : Nat) : (d.dropUnreachable s).lastEpoch = d.lastEpoch := by
  refine Dev.each_kept Dev.lastEpoch (fun d q => ?_) d (d.busyQueues s)
  split
  · split
    · split
      · exact Dev.lastEpoch_dropQueue ..
      · split
        · exact Dev.lastEpoch_dropQueue ..
        · rfl
    · split
      · exact Dev.lastEpoch_dropQueue ..
      · rfl
  · rfl

theorem Dev.lastEpoch_wheelsAnew (d : Dev) (s : Nat) (ob b : SchedBody) : (d.wheelsAnew s ob b).lastEpoch = d.lastEpoch := by
  unfold Dev.wheelsAnew
  extract_lets kept old e
  refine (Dev.each_kept Dev.lastEpoch (fun d k => ?_) e old).trans rfl
  dsimp only
  split
  · split
    · split <;> rfl
    · split <;> rfl
  · rfl

theorem Dev.lastEpoch_treeSwitch (d : Dev) (s : Nat) (ob nb : SchedBody) : (d.treeSwitch s ob nb).lastEpoch = d.lastEpoch := by
  unfold Dev.treeSwitch
  refine (Dev.lastEpoch_tmRefresh _ s).trans ((Dev.each_kept Dev.lastEpoch (fun d k => ?_) _ _).trans ?_)
  · dsimp only
    split
    · split <;> rfl
    · rfl
  · exact (Dev.lastEpoch_dropUnreachable _ s).trans (Dev.lastEpoch_wheelsAnew _ s ob nb)

theorem Dev.lastEpoch_polSwitch (d : Dev) (s o : Nat) : (d.polSwitch s o).lastEpoch = d.lastEpoch := by
  refine Dev.each_kept Dev.lastEpoch (fun e i => ?_) d _
  unfold Dev.placePol
  dsimp only
  split <;> rfl

theorem Dev.lastEpoch_startNew (d : Dev) (s o : Nat) (first : Bool) : (d.startNew s o first).lastEpoch = d.lastEpoch := by
  unfold Dev.startNew
  dsimp only
  split
  · rfl
  · split
    · refine Dev.each_kept Dev.lastEpoch (fun e p => ?_) d _
      split
      · unfold Dev.startPos
        exact Dev.each_kept Dev.lastEpoch (f := fun d t => d.updThr (thrKey s p t) _) (fun _ _ => rfl) e _
      · rfl
    · rfl

theorem Dev.lastEpoch_engShow (d : Dev) (s p : Nat) : (d.engShow s p).lastEpoch = d.lastEpoch := by
  unfold Dev.engShow
  extract_lets b c compat nib d1 d2 d3
  change d3.lastEpoch = d.lastEpoch
  exact (Dev.onlyIf_kept Dev.lastEpoch (f := fun d => d.setRound (d.round.del (posKey s p))) (fun _ => rfl) d2 _).trans rfl

theorem Dev.lastEpoch_gateShow (d : Dev) (p : Nat) : (d.gateShow p).lastEpoch = d.lastEpoch := by
  unfold Dev.gateShow
  dsimp only
  split
  · rfl
  · split <;> rfl

theorem Dev.lastEpoch_portShow (d : Dev) (p : Nat) : (d.portShow p).lastEpoch = d.lastEpoch := by
  unfold Dev.portShow
  dsimp only
  split <;> rfl

theorem Dev.lastEpoch_gateSwitch (d : Dev) (p t : Nat) : (d.gateSwitch p t).lastEpoch = d.lastEpoch := by
  unfold Dev.gateSwitch
  split
  · rfl
  · split
    · exact Dev.lastEpoch_gateShow ..
    · rfl

/-- The epoch that a switch makes current is the last one taken. -/
theorem Dev.lastEpoch_epochSwitch (d : Dev) (e : Nat) (x : EpochSlot) : (d.epochSwitch e x).lastEpoch = x.epoch := by
  unfold Dev.epochSwitch
  extract_lets first o since tree olds d1 d2 d3 d4 d5 d6 d7 d8
  have h8 : d8.lastEpoch = d7.lastEpoch := Dev.each_kept Dev.lastEpoch (fun d p => (Dev.lastEpoch_gateSwitch _ p since).trans (Dev.lastEpoch_portShow d p)) d7 _
  have h7 : d7.lastEpoch = d6.lastEpoch :=
    Dev.each_kept Dev.lastEpoch (fun d s => Dev.each_kept Dev.lastEpoch (fun d p => Dev.lastEpoch_engShow d s p) d _) d6 _
  have h6 : d6.lastEpoch = d5.lastEpoch :=
    Dev.each_kept Dev.lastEpoch (fun d s =>
      (Dev.lastEpoch_startNew _ s o first).trans ((Dev.lastEpoch_polSwitch _ s o).trans (Dev.lastEpoch_treeSwitch d s _ _))) d5 _
  have h5 : d5.lastEpoch = x.epoch := rfl
  clear_value d8 d7 d6 d5
  exact h8.trans (h7.trans (h6.trans h5))

/-- A gate list whose time has come is in force from then, and nothing but the scheduler's state and what is due changes with it. -/
theorem Dev.gateListSwitch_spec {d : Dev} {p : Nat} {g : GateList} {t : Nat} {rest : List (GateList × Nat)} (hnext : (d.gateSt p).next = (g, t) :: rest) (ht : t ≤ d.now) :
    (d.gateListSwitch p).gateSt p = ⟨some g, rest, (t - g.base) / g.cycle, 0, (List.range 8).map g.longestOpen⟩ ∧ (d.gateListSwitch p).frames = d.frames := by
  unfold Dev.gateListSwitch
  rw [hnext]
  dsimp -zeta only
  rw [if_neg (Nat.not_lt.mpr ht)]
  extract_lets d1 d2 d3
  have h3 : d3.gate = d1.gate ∧ d3.frames = d.frames := by
    unfold d3
    split
    · refine ⟨Dev.onlyIf_kept Dev.gate (f := fun d => d.setDue (Due.insert _ d.due)) (fun _ => rfl) d2 _,
        Dev.onlyIf_kept Dev.frames (f := fun d => d.setDue (Due.insert _ d.due)) (fun _ => rfl) d2 _⟩
    · exact ⟨rfl, rfl⟩
  have hshow : (d3.gateShow p).gate = d3.gate ∧ (d3.gateShow p).frames = d3.frames := by
    unfold Dev.gateShow
    dsimp only
    split
    · exact ⟨rfl, rfl⟩
    · split <;> exact ⟨rfl, rfl⟩
  obtain ⟨x, hx⟩ := Dev.OnlyNodes.tmRefresh (d3.gateShow p) (d3.actingSlice p)
  rw [hx]
  refine ⟨?_, hshow.2.trans h3.2⟩
  show ((d3.gateShow p).gate).lookD p _ = _
  rw [hshow.1, h3.1]
  show (d.gate.put p _).lookD p _ = _
  simp

theorem Dev.gateSt_settle (d : Dev) (p : Nat) : d.settle.gateSt p = d.gateSt p := by
  have h := congrArg (Dev.gateSt · p) d.settlesTo_settle.rest
  exact h

end Sys2Proof.Machine

/-- Settles O17: the switch is read off its parts, of which none but the count itself touches the number of the last epoch. -/
theorem epochChange : Obligations.EpochChange := by
  refine ⟨?_, ?_, ?_, ?_⟩
  · intro s x hr hslot hstate hat hload
    refine ⟨fin_of_runs hr ?_, Dev.lastEpoch_epochSwitch .., rfl, rfl⟩
    rw [hslot, hstate, hload]
    simp [hat]
  · intro s hr hd hin
    show execEpochDrained s = _
    unfold execEpochDrained
    rw [hd, hin]
    exact finM_became hr _
  · intro s l hr hload hstate hlim hat
    show execForcedDrain s = _
    unfold execForcedDrain
    rw [hload, hstate]
    dsimp only
    rw [if_pos (by simp [hlim, hat])]
    exact finM_became hr _
  · intro s p g t rest hr hnext ht
    obtain ⟨hgate, hframes⟩ := Dev.gateListSwitch_spec hnext ht
    have hst : (s.settled (s.gateListSwitch p.val)).gateSt p.val = _ := (Dev.gateSt_settle _ _).trans hgate
    refine ⟨_, fin_of_runs hr rfl, congrArg GateSt.cur hst, congrArg GateSt.next hst, congrArg GateSt.longest hst, rfl, ?_⟩
    exact (Dev.frames_settle _).trans hframes
end

section
open Sys2Proof Sys2Proof.Machine
namespace Sys2Proof.Machine

/-! Mailbox requests that are served (17 R460 to R462), and the states of an image's load (03 R62 to R70). -/

/-- A request at the head of its channel that its channel and state allow is taken and served; refused ones behind it are answered then. -/
theorem Dev.mbServe_asks {s : State} {c cmd len h : Nat} {p : List Nat} (ha : s.asks c cmd len h p) (f : Dev → Nat → List Nat → Dev) :
    s.mbServe c cmd true true len f = (f (s.mbTake c) h p).mbRefuse c 32 := by
  obtain ⟨hfront, hcmd, hgood, hlen⟩ := ha
  unfold Dev.mbServe
  rw [hfront]
  subst hcmd hlen
  simp [hgood]

/-- Where an address argument's bytes can be had, its request waits for nothing. -/
theorem State.reqWaits_of_argBytes {s : State} {c cmd len h n : Nat} {p : List Nat} {data : HostData} {bs : List Byte} (hfront : (s.mb c).front = some (h, p))
    (hbytes : s.argBytes c p n data = some bs) (allowed state : Bool) : s.reqWaits c cmd allowed state len = false := by
  unfold Dev.reqWaits
  unfold State.argBytes at hbytes
  rw [hfront]
  dsimp only
  split at hbytes
  next pf hspace =>
    have hlt : pf < 4 := by
      unfold spaceOf at hspace
      grind
    have hcan : s.canIssue pf = true := by
      refine Decidable.byContradiction fun hno => ?_
      rw [if_neg hno] at hbytes
      cases hbytes
    have hheld : s.fnHeld (4096 + pf) = false := by
      have hpf : s.fnPf (4096 + pf) = pf := by simp [Dev.fnPf]
      unfold Dev.canIssue at hcan
      unfold Dev.fnHeld
      rw [hpf]
      simp_all
    rw [hspace]
    exact (congrArg _ hheld).trans (Bool.and_false _)
  next hspace =>
    rw [hspace]
    exact Bool.and_false _
  next hspace => cases hbytes

end Sys2Proof.Machine

/-- Settles O16: a load's request is one that is served; the checks' outcome is the match of the meaning itself. -/
theorem imageLoading : Obligations.ImageLoading := by
  refine ⟨?_, ?_, ?_, ?_⟩
  · intro s ch data h p hr ha hmay hlife hidle
    have hserve := Dev.mbServe_asks ha
    obtain ⟨hfront, -, -, -⟩ := id ha
    have hl : (s.life != 4) = true := by simpa using hlife
    refine ⟨fun hw => ?_, fun harg bs hbytes => ?_⟩
    · show execImageLoad ch data s = _
      unfold execImageLoad
      dsimp only
      rw [hidle, hmay, hl, hw]
      exact fin_eq_of_runs hr _
    · have hw := State.reqWaits_of_argBytes (cmd := 2) (len := 6) hfront hbytes true true
      show execImageLoad ch data s = _
      unfold execImageLoad
      dsimp only
      rw [hidle, hmay, hl, hw]
      refine fin_of_runs hr ((hserve _).trans ?_)
      rw [harg, hbytes]
      rfl
  · intro s ch data h len p hr ha hmay hlife hbusy
    have hserve := Dev.mbServe_asks ha
    obtain ⟨hfront, -, -, hlen⟩ := id ha
    have hl : (s.life != 4) = true := by simpa using hlife
    have hb : (s.fld IMG_STATUS IMG_STATUS_LOAD_STATE != 0) = true := by simpa using hbusy
    show execImageLoad ch data s = _
    unfold execImageLoad
    dsimp only
    rw [hb, hmay, hl, hfront]
    refine fin_of_runs hr ?_
    simp only [Option.map_some, Option.getD_some, hlen, if_true]
    exact hserve _
  · intro s l hr hload hstate d
    show execImageVerified s = _
    unfold execImageVerified
    rw [hload, hstate]
    dsimp only
    show (match Dev.checkImage d l.bytes (Config.free s.freeCtr) with
      | .inl code => fin s (d.loadRefused l code)
      | .inr i => _) = _
    cases hc : Dev.checkImage d l.bytes (Config.free s.freeCtr) with
    | inl code => exact fin_eq_of_runs hr _
    | inr i =>
      dsimp only
      split
      · rename_i hd
        exact (fin_eq_of_runs hr _).trans (if_pos hd).symm
      · rename_i hd
        exact (finM_became hr _).trans (if_neg hd).symm
  · intro d l code hchan
    have hreply : d.loadRefused l code = ((d.setLoad none).loadState 0).setF IMG_STATUS IMG_STATUS_LAST_ERROR code := by
      unfold Dev.loadRefused Dev.loadReply
      rw [decide_eq_false (Nat.not_lt.mpr hchan)]
      rfl
    rw [hreply]
    refine ⟨rfl, ?_, ?_⟩
    · exact (Dev.fld_setF_disjoint (by decide) _ _ _).trans (Dev.fld_setF_same (by decide) _ _ 0)
    · exact Dev.fld_setF_same (by decide) _ _ _
end

section
open Sys2Proof Sys2Proof.Machine
namespace Sys2Proof.Machine

/-! Sparing of engines (08 R241 to R245). -/

/-- Threads stopped one after another are all stopped. -/
theorem Dev.stopped_each {f : Thr → Thr} (hf : ∀ x, (f x).st = .stopped) {k : Nat} (l : List Nat) (d : Dev) (h : k ∈ l ∨ (d.thrAt k).st = .stopped) :
    ((d.each l fun d k => d.updThr k f).thrAt k).st = .stopped := by
  induction l generalizing d with
  | nil =>
    rcases h with h | h
    · cases h
    · exact h
  | cons j l ih =>
    refine ih (d.updThr j f) ?_
    by_cases hk : j = k
    · subst hk
      refine .inr ?_
      rw [Dev.thrAt_updThr_same]
      exact hf _
    · rw [Dev.thrAt_updThr_other (h := Ne.symm hk)]
      rcases h with h | h
      · rcases List.mem_cons.mp h with h | h
        · exact absurd h.symm hk
        · exact .inl h
      · exact .inr h

theorem Dev.thr_migAbandon (d : Dev) (c : Nat) : (d.migAbandon c).thr = d.thr := rfl

/-- A position that goes OFFLINE leaves its threads STOPPED. -/
theorem Dev.offlinePos_stopped (d : Dev) (s p : Nat) {t : Nat} (ht : t < 8) : ((d.offlinePos s p).thrAt (thrKey s p t)).st = .stopped := by
  unfold Dev.offlinePos
  extract_lets d1 d2 d3 d4 c
  have hmem : thrKey s p t ∈ thrsOf s p := List.mem_map_of_mem (List.mem_range.mpr ht)
  have h2 : (d2.thrAt (thrKey s p t)).st = .stopped := Dev.stopped_each (fun _ => rfl) _ d1 (.inl hmem)
  have h3 : d3.thr = d2.thr := by
    refine Dev.each_kept Dev.thr (fun d i => ?_) d2 (List.range 32)
    dsimp only
    split <;> rfl
  have h4 : d4.thr = d3.thr := rfl
  have h5 : (if (d4.mig.look c).any (fun m => m.pos == p) then d4.migAbandon c else d4).thr = d4.thr := by
    split
    · exact Dev.thr_migAbandon d4 c
    · rfl
  have hthr := h5.trans (h4.trans h3)
  rw [Dev.thrAt, hthr]
  exact h2

/-- The state that a migration's switch comes to (08 R244): the engine's memory copied, the spare's engine the position's. -/
def State.migrated (s : State) (c : Nat) (m : Mig) : State :=
  let old := s.physOf (c / 2) m.pos
  let new := 192 + c
  let d := s.setPoison (copyPoison s.poison (localAt old 0) (localAt new 0) 0x40000 (0x0500 + old))
  let d := ((d.setPhys (d.phys.put (posKey (c / 2) m.pos) new)).setMig (d.mig.del c)).setSpare c 3
  let d := ((d.setF (ENG_STATUS (c / 2) m.pos) ENG_STATUS_PHYS new).setF (ENG_STATUS (c / 2) m.pos) ENG_STATUS_MIGRATED 1).setF (ENG_SPARE_STATUS (c / 2)) ENG_SPARE_STATUS_DONE 1
  { s with toDev := d.each (thrsOf (c / 2) m.pos) fun d k => d.updThr k fun x => { x with migrated := true },
           mem := s.mem.copy (localAt old 0) (localAt new 0) 0x40000 }

/-- What a switch changes but for threads and registers. -/
theorem State.migrated_spec (s : State) (c : Nat) (m : Mig) :
    (s.migrated c m).phys = s.phys.put (posKey (c / 2) m.pos) (192 + c) ∧ (s.migrated c m).mig = s.mig.del c ∧ (s.migrated c m).frames = s.frames ∧ (s.migrated c m).ntu = s.ntu := by
  have kept {β : Type} (g : Dev → β) (hg : ∀ d k (f : Thr → Thr), g (Dev.updThr d k f) = g d) (d : Dev) (l : List Nat) (f : Thr → Thr) :
      g (d.each l fun d k => d.updThr k f) = g d := Dev.each_kept g (fun d k => hg d k f) d l
  refine ⟨(kept Dev.phys (fun _ _ _ => rfl) _ _ _).trans rfl, (kept Dev.mig (fun _ _ _ => rfl) _ _ _).trans rfl,
    (kept Dev.frames (fun _ _ _ => rfl) _ _ _).trans rfl, (kept Dev.ntu (fun _ _ _ => rfl) _ _ _).trans rfl⟩

end Sys2Proof.Machine

/-- Settles O41: each event's two outcomes are told apart by the spare's state and the time; a position that goes OFFLINE stops each of its threads. -/
theorem engineSparing : Obligations.EngineSparing := by
  refine ⟨?_, ?_, ?_, ?_, fun d sl p t => Dev.offlinePos_stopped d _ _ t.isLt⟩
  · intro s src sl p v hh d q c
    have key : exec (.migrationGo sl p (.go src v)) s = .next (s.settled (s.spareCfg sl.val v)) := finSW_eq_of_hears hh _ _
    refine ⟨fun hgo => ?_, fun hgo hidle => ?_, fun hgo hbusy => ?_⟩
    · refine next_settled_congr key ?_
      unfold Dev.spareCfg
      rw [hgo]
      rfl
    · refine next_settled_congr key ?_
      unfold Dev.spareCfg
      rw [hgo]
      exact if_pos hidle
    · refine next_settled_congr key ?_
      unfold Dev.spareCfg
      rw [hgo]
      exact if_neg hbusy
  · intro s sl p hr d e
    have auto (kind : Nat) : s.migAuto sl.val p.val kind = e kind := by
      show (if ((d kind).flag (ENG_SPARE_CFG sl.val) ENG_SPARE_CFG_AUTO || (d kind).spare (clusterOf sl.val p.val) != 0) = true then _ else d kind) = _
      simp only [e, Bool.or_eq_true, bne_iff_ne]
      rfl
    exact ⟨fin_of_runs hr (auto 4), fin_of_runs hr (auto 2)⟩
  · intro s c m hr hm
    refine ⟨fun hst hfr => ⟨fin_of_runs hr ?_, fin_of_runs hr ?_⟩, fun hst hfr hidle => fin_of_runs hr ?_, fun hst hlate => ?_, fun hst htime => ?_, fun ht => fin_of_runs hr ?_,
      fun ht => fin_of_runs hr ?_⟩
    · rw [hm]
      simp [hst, hfr]
    · rw [hm]
      simp [hst, hfr]
    · rw [hm]
      simp [hst, hfr, hidle]
    · show execMigrationSwitch c s = _
      unfold execMigrationSwitch
      extract_lets j sl
      rw [show s.mig.look j = some m from hm]
      dsimp only
      rw [hst]
      exact (congrArg (fun o => o) (if_pos hlate)).trans (fin_eq_of_runs hr _)
    · obtain ⟨hphys, hmig, hframes, hntu⟩ := s.migrated_spec c.val m
      refine ⟨s.migrated c.val m, ?_, rfl, hphys, hmig, hframes, hntu⟩
      show execMigrationSwitch c s = _
      unfold execMigrationSwitch
      extract_lets j sl
      rw [show s.mig.look j = some m from hm]
      dsimp only
      rw [hst]
      exact (if_neg (Nat.not_lt.mpr htime)).trans (finM_became hr (s.migrated c.val m))
    · rw [hm]
      exact if_pos ht
    · rw [hm]
      exact if_neg (Nat.not_le.mpr ht)
  · intro s sl p hr
    exact fin_eq_of_runs hr _
end

section
open Sys2Proof Sys2Proof.Machine
namespace Sys2Proof.Machine

/-! The traffic manager (10 R256 to R290): one equation per event. -/

section
variable {d : Dev}

/-- A frame on its way to a queue that no earlier frame of its order holds up is counted and policed. -/
theorem Dev.tmArrival_next {id : Nat} {f : Frame} {t : QTarget} (hf : d.frame? id = some f) (ht : f.stage = .toQueue t) (hb : d.behind id f = false) :
    d.tmArrival id = match (d.count (tmgCnt f.slice 0)).police id f (f.tmLen t.host) with
      | (some e, _) => e.toQueue id f t (f.tmLen t.host)
      | (none, e) => e := by
  unfold Dev.tmArrival
  rw [hf]
  dsimp only
  rw [ht]
  exact if_neg (by simp [hb])

theorem Dev.tmArrival_behind {id : Nat} {f : Frame} {t : QTarget} (hf : d.frame? id = some f) (ht : f.stage = .toQueue t) (hb : d.behind id f = true) :
    d.tmArrival id = d := by
  unfold Dev.tmArrival
  rw [hf]
  dsimp only
  rw [ht]
  exact if_pos hb

theorem Dev.tmArrival_elsewhere {id : Nat} {f : Frame} (hf : d.frame? id = some f) (ht : ∀ t, f.stage ≠ .toQueue t) : d.tmArrival id = d := by
  unfold Dev.tmArrival
  rw [hf]
  dsimp only
  split
  next t h => exact absurd h (ht t)
  next => rfl

theorem Dev.admitFrame_onchip {id s q len : Nat} {host : Bool} {r : NodeRec} (hov : (d.queueSt s q).ov = []) (hroom : d.lenSum host (d.queueSt s q).on + len ≤ r.onchip * 1024) :
    d.admitFrame id s q len host r = (d.updQueue s q fun x => { x with on := x.on ++ [id] }).updFrame id fun f => { f with stage := .queued s q false } :=
  if_pos (by simp [hov, hroom])

theorem Dev.admitFrame_tailDrop {id s q len : Nat} {host : Bool} {r : NodeRec} (hfull : r.onchip * 1024 < d.lenSum host (d.queueSt s q).on + len) (hdram : r.dram = 0) :
    d.admitFrame id s q len host r = (d.dropAt id (tmgCnt s 5)).updQueue s q fun x => { x with tailDrops := (x.tailDrops + 1) % 2 ^ 48 } := by
  unfold Dev.admitFrame
  extract_lets x fits room e
  have hfits : fits = false := by simp [fits, hdram]
  have he : e = d := by
    unfold e
    rw [hfits]
    rfl
  rw [if_neg (by simp [x, hfull]), hfits, he]
  exact if_neg (by simp)

/-- The port node as a choice finds it: oversized frames purged, its subtree's eligibility brought up to date. -/
def Dev.atChoice (d : Dev) (s p : Nat) : Dev :=
  (d.purgeOversize ((d.sched s).getD SchedBody.portsOnly) s p).refreshPort ((d.sched s).getD SchedBody.portsOnly) s p

theorem Dev.schedule_closed {s p : Nat} (h : (d.atChoice s p).macFree p = false ∨ (d.atChoice s p).portNodeUp s p = false) : d.schedule s p = d.atChoice s p := by
  refine if_pos ?_
  show (!((d.atChoice s p).macFree p && (d.atChoice s p).portNodeUp s p)) = true
  rcases h with h | h <;> simp [h]

theorem Dev.schedule_none {s p : Nat} {e : Dev} (hfree : (d.atChoice s p).macFree p = true) (hup : (d.atChoice s p).portNodeUp s p = true)
    (hpath : (d.atChoice s p).pathChoice ((d.sched s).getD SchedBody.portsOnly) s p = (none, e)) : d.schedule s p = e := by
  unfold Dev.schedule
  extract_lets b d1
  rw [show d1.macFree p = true from hfree, show d1.portNodeUp s p = true from hup, show d1.pathChoice b s p = (none, e) from hpath]
  rfl

/-- The nodes on the path to queue `q` pay for a frame of `n` bytes (10 R267, R272). -/
def Dev.pathPays (d : Dev) (b : SchedBody) (s p q n : Nat) : Option (Nat × Nat) → Dev
  | some (c, t) => (((d.nodePays b s 3 q p n).nodePays b s 2 t p n).nodePays b s 1 c p n).nodePays b s 0 p p n
  | none => d

theorem Dev.schedule_sends {s p q id : Nat} {rest : List Nat} {e : Dev} {path : Option (Nat × Nat)} (hfree : (d.atChoice s p).macFree p = true)
    (hup : (d.atChoice s p).portNodeUp s p = true) (hpath : (d.atChoice s p).pathChoice ((d.sched s).getD SchedBody.portsOnly) s p = (some (q, path), e))
    (hon : (e.queueSt s q).on = id :: rest) (hawake : p = 16 ∨ (e.flag (portStatus p) MAC_PORT_STATUS_TX_LPI = false ∧ (e.portSt p).wakeEnd = none)) :
    d.schedule s p = ((e.pathPays ((d.sched s).getD SchedBody.portsOnly) s p q (e.headLen s q p) path).sendFrom s p q (path.map Prod.fst) id (e.headLen s q p)).refreshPort ((d.sched s).getD SchedBody.portsOnly) s p := by
  unfold Dev.schedule
  extract_lets b d1
  rw [show d1.macFree p = true from hfree, show d1.portNodeUp s p = true from hup, show d1.pathChoice b s p = (some (q, path), e) from hpath]
  dsimp only
  have hlpi : (p != 16 && e.flag (portStatus p) MAC_PORT_STATUS_TX_LPI) = false := by
    rcases hawake with h | ⟨h, -⟩ <;> simp [h]
  have hwake : (p != 16 && (e.portSt p).wakeEnd.any fun t => decide (e.refNs < t)) = false := by
    rcases hawake with h | ⟨-, h⟩ <;> simp [h]
  rw [hlpi, hwake, hon]
  cases path <;> rfl

theorem Dev.fineRelease_idle {s : Nat} (h : d.dueFirst .wheel s = false) : d.fineRelease s = d := by
  unfold Dev.fineRelease
  split
  · rfl
  · rw [h]
    rfl

theorem Dev.coarseRelease_idle {s : Nat} (h : d.dueFirst .wheel (s + 8) = false) : d.coarseRelease s = d := by
  unfold Dev.coarseRelease
  split
  · rfl
  · rw [h]
    rfl

/-- The coarse slot that is next and due moves its entries and changes nothing but the wheel and what is due. -/
theorem Dev.coarseRelease_due {s j : Nat} (hj : d.wheelNext s true = some j) (hdue : d.dueFirst .wheel (s + 8) = true) (ht : j * 4194304 ≤ d.now) :
    (d.coarseRelease s).wheels = d.wheels.put s ((d.wheels.lookD s []).map fun w => if w.coarse && w.e / 4194304 == j then { w with coarse := false } else w) ∧
    (d.coarseRelease s).queue = d.queue ∧ (d.coarseRelease s).frames = d.frames ∧ (d.coarseRelease s).node = d.node := by
  unfold Dev.coarseRelease
  rw [hj]
  dsimp -zeta only
  rw [if_pos (by simp [hdue, ht])]
  extract_lets ws d1 d2
  split
  · split <;> exact ⟨rfl, rfl, rfl, rfl⟩
  · exact ⟨rfl, rfl, rfl, rfl⟩

theorem Dev.gateStep_idle {p : Nat} (h : d.dueFirst .gate p = false) : d.gateStep p = d := by
  unfold Dev.gateStep
  dsimp only
  split
  · rw [h]
    rfl
  · rfl

/-- Showing a gate's state in its register keeps the gate. -/
theorem Dev.gateDue_gateShow (d : Dev) (p : Nat) : (d.gateShow p).gateDue p = d.gateDue p := by
  unfold Dev.gateShow
  dsimp only
  split
  · rfl
  · split <;> rfl

/-- A gate schedule after its next transition (10 R281): the next entry, or the first of the next heat. -/
def GateSt.stepped (x : GateSt) (g : GateList) : GateSt := if g.spans.length ≤ x.entry + 1 then { x with heat := x.heat + 1, entry := 0 } else { x with entry := x.entry + 1 }

theorem Dev.gateStep_due {p t : Nat} {g : GateList} (hcur : (d.gateSt p).cur = some g) (hnext : (d.gateSt p).nextAt = some t) (hdue : d.dueFirst .gate p = true) (ht : t ≤ d.now) :
    d.gateStep p = (((d.setGate (d.gate.put p ((d.gateSt p).stepped g))).gateShow p).dueFired
      (((d.setGate (d.gate.put p ((d.gateSt p).stepped g))).gateShow p).gateDue p)).tmRefresh (d.actingSlice p) := by
  unfold Dev.gateStep
  extract_lets x
  rw [show x.cur = some g from hcur, show x.nextAt = some t from hnext]
  dsimp only
  rw [if_pos (by simp [hdue, ht]), Dev.gateDue_gateShow]
  have hx : (d.gateSt p).stepped g = { x with heat := if decide (g.spans.length ≤ x.entry + 1) then x.heat + 1 else x.heat, entry := if decide (g.spans.length ≤ x.entry + 1) then 0 else x.entry + 1 } := by
    unfold GateSt.stepped
    by_cases h : g.spans.length ≤ x.entry + 1
    · rw [if_pos h, decide_eq_true h]
      rfl
    · rw [if_neg h, decide_eq_false h]
      rfl
  rw [hx, show x.cur = some g from hcur]
  rfl

/-- OVERFLOW_READBACK with the check of the overflow granules given: `reach` is what the check comes to. -/
def readbackBy (reach : Dev → Nat → Dev × Bool) (d : Dev) (s q : Nat) (bad : Bool) : Dev :=
  let x := d.queueSt s q
  let host := d.queuePort s q == some 16
  let limit := (((d.sched s).bind fun b => b.rec? 3 q).map NodeRec.onchip).getD 24576 * 1024
  match x.ov with
  | [] => d
  | id :: rest =>
    if d.lenSum host x.on < limit then
      let (d, ok) := reach ((d.updQueue s q fun x => { x with ov := rest }).count (tmgCnt s 7)) s
      if bad || !ok then (d.ovfEcc s id).tmRefresh s
      else ((d.updQueue s q fun x => { x with on := x.on ++ [id] }).updFrame id fun f => { f with stage := .queued s q false }).tmRefresh s
    else d

theorem Dev.readback_eq (d : Dev) (s q : Nat) (bad : Bool) : d.readback s q bad = readbackBy Dev.ovfReach d s q bad := rfl

theorem readbackBy_empty (reach : Dev → Nat → Dev × Bool) {s q : Nat} {bad : Bool} (h : (d.queueSt s q).ov = []) : readbackBy reach d s q bad = d := by
  unfold readbackBy
  dsimp only
  rw [h]

theorem readbackBy_room (reach : Dev → Nat → Dev × Bool) {s q id : Nat} {rest : List Nat} (bad : Bool) (hov : (d.queueSt s q).ov = id :: rest)
    (hroom : d.lenSum (d.queuePort s q == some 16) (d.queueSt s q).on < (((d.sched s).bind fun b => b.rec? 3 q).map NodeRec.onchip).getD 24576 * 1024) :
    readbackBy reach d s q bad =
      let e := reach ((d.updQueue s q fun x => { x with ov := rest }).count (tmgCnt s 7)) s
      if bad || !e.2 then (e.1.ovfEcc s id).tmRefresh s
      else ((e.1.updQueue s q fun x => { x with on := x.on ++ [id] }).updFrame id fun f => { f with stage := .queued s q false }).tmRefresh s := by
  unfold readbackBy
  dsimp only
  rw [hov]
  exact if_pos hroom

end

end Sys2Proof.Machine

/-- Settles O43: one equation per event and outcome. -/
theorem trafficManager : Obligations.TrafficManager := by
  refine ⟨?_, ?_, ?_, ?_, ?_, ?_⟩
  · intro s id f hr hf
    exact ⟨fun t ht hb => fin_of_runs hr (Dev.tmArrival_behind hf ht hb), fun t ht hb => (fin_of_runs hr (Dev.tmArrival_next hf ht hb)).trans rfl,
      fun ht => fin_of_runs hr (Dev.tmArrival_elsewhere hf ht)⟩
  · intro d id sl q len h r hov
    exact ⟨Dev.admitFrame_onchip hov, Dev.admitFrame_tailDrop⟩
  · intro s sl p hr b d
    refine ⟨fun h => fin_of_runs hr (Dev.schedule_closed h), fun hfree hup => ⟨fun e he => fin_of_runs hr (Dev.schedule_none hfree hup he), ?_⟩⟩
    intro e q path id rest hpath hon hawake n paid
    refine (fin_of_runs hr (Dev.schedule_sends hfree hup hpath hon hawake)).trans ?_
    cases path <;> rfl
  · intro s sl hr
    refine ⟨fun h => fin_of_runs hr (Dev.fineRelease_idle h), fun h => fin_of_runs hr (Dev.coarseRelease_idle h), ?_, ?_⟩
    · intro j hj hdue ht ws out d e g
      refine fin_of_runs hr ?_
      unfold Dev.fineRelease
      rw [hj]
      dsimp -zeta only
      exact if_pos (by simp [hdue, ht])
    · intro j hj hdue ht ws
      obtain ⟨hwheels, hqueue, hframes, hnode⟩ := Dev.coarseRelease_due hj hdue ht
      exact ⟨_, fin_eq_of_runs hr _, hwheels, hqueue, hframes, hnode⟩
  · intro s p hr
    refine ⟨fun h => fin_of_runs hr (Dev.gateStep_idle h), fun g t hcur hnext hdue ht => ?_⟩
    exact fin_of_runs hr (Dev.gateStep_due hcur hnext hdue ht)
  · intro s sl q bad hr
    refine ⟨fun h => fin_of_runs hr ((Dev.readback_eq _ _ _ _).trans (readbackBy_empty Dev.ovfReach h)), fun id rest hov hroom => ?_⟩
    exact fin_of_runs hr ((Dev.readback_eq _ _ _ _).trans (readbackBy_room Dev.ovfReach bad hov hroom))
end

section
open Sys2Proof Sys2Proof.Machine
namespace Sys2Proof.Machine

/-! DMA channels (15 R426 to R436): how a channel is configured, started, aborted, and what one burst comes to. -/

/-- A state that came from `s` without touching its queue, settled. -/
theorem State.became_eq_settled {s t : State} (h : t.pending = s.pending) : t.settled t.toDev = s.became t := by
  obtain ⟨d, m, p⟩ := t
  cases h
  rfl

/-- A heard access that leaves the part running answers the state it came to, settled. -/
theorem finSM_became {s t : State} {src : Src} (h : s.hears src) (a : Nat) (hrun : t.pwrMode = s.pwrMode) (hq : t.pending = s.pending) : finSM s src a t = .next (s.became t) := by
  have ht : t.runs = true := by
    have hs := h.1
    unfold Dev.runs at *
    rw [hrun]
    exact hs
  rw [finSM_eq_of_hears h a ht, State.became_eq_settled hq]

/-- What the end of a descriptor of the channel's binding leaves (R430, R434). -/
def Dev.dmaDone (d : Dev) (c : Nat) (b : List Byte) (code result : Nat) : Dev :=
  let d := ((d.dmaForget c).setF (DMA_CH_STATUS c) DMA_CH_STATUS_LAST_RESULT code).updDma c fun _ => ⟨none, 0, 0, [], false⟩
  ((d.wr (DMA_CH_DESC c 1) (BitVec.ofNat 64 result)).wr (DMA_CH_DESC c 0) (BitVec.ofNat 64 (leAt b 4 4 * 2 ^ 32 + 2 ^ 31 + code))).setBitF DMA_EVENT DMA_EVENT_DONE c true

theorem State.dmaEnds_own (s : State) (c : Nat) {w : DmaFrom} (hw : w.isEngine = false) (b : List Byte) (code r : Nat) :
    s.dmaEnds c w b code r = s.onDev fun d => d.dmaDone c b code r := by
  cases w with
  | engine n o => cases hw
  | pf p => rfl
  | ulyar => rfl

theorem Dev.dmaForget_kept {β : Type} (g : Dev → β) (ha : ∀ d x, g (Dev.setArrived d x) = g d) (hl : ∀ d x, g (Dev.setLink d x) = g d) (hd : ∀ d x, g (Dev.setDmaCh d x) = g d)
    (d : Dev) (c : Nat) : g (d.dmaForget c) = g d :=
  (hd _ _).trans (Dev.each_kept g (fun _ _ => (hl _ _).trans (ha _ _)) d _)

theorem Dev.pwrMode_dmaDone (d : Dev) (c : Nat) (b : List Byte) (code r : Nat) : (d.dmaDone c b code r).pwrMode = d.pwrMode :=
  Dev.dmaForget_kept Dev.pwrMode (fun _ _ => rfl) (fun _ _ => rfl) (fun _ _ => rfl) d c

theorem Dev.ops_dmaDone (d : Dev) (c : Nat) (b : List Byte) (code r : Nat) : (d.dmaDone c b code r).ops = d.ops :=
  Dev.dmaForget_kept Dev.ops (fun _ _ => rfl) (fun _ _ => rfl) (fun _ _ => rfl) d c

theorem Dev.dmaAt_dmaDone (d : Dev) (c : Nat) (b : List Byte) (code r : Nat) : (d.dmaDone c b code r).dmaAt c = ⟨none, 0, 0, [], false⟩ := by
  show Tab.lookD (Tab.put _ c _) c _ = _
  simp

/-- With no descriptor queued by engines, the end of the channel's own leaves none current. -/
theorem Dev.dmaCurrent_dmaDone {d : Dev} {c : Nat} (hq : d.dmaQueue c = []) (b : List Byte) (code r : Nat) : (d.dmaDone c b code r).dmaCurrent c = none := by
  have hq' : (d.dmaDone c b code r).dmaQueue c = [] := by
    unfold Dev.dmaQueue
    rw [Dev.ops_dmaDone]
    exact hq
  unfold Dev.dmaCurrent
  rw [Dev.dmaAt_dmaDone, hq']

/-- The descriptor current beside those of engines is one of the channel's binding. -/
theorem Dev.dmaCurrent_own {d : Dev} {c : Nat} {w : DmaFrom} {b b' : List Byte} (hh : (d.dmaAt c).host = some b') (hc : d.dmaCurrent c = some (w, b)) : w.isEngine = false := by
  unfold Dev.dmaCurrent at hc
  rw [hh] at hc
  cases hc
  split <;> rfl

/-- An abort of the channel's own descriptor with nothing queued behind it ends that one. -/
theorem State.dmaAbort_own {s : State} {c : Nat} {w : DmaFrom} {b b' : List Byte} (hh : (s.dmaAt c).host = some b') (hq : s.dmaQueue c = []) (hc : s.dmaCurrent c = some (w, b)) (n : Nat) :
    State.dmaAbort c (n + 2) s = s.dmaEnds c w b 0x08 (if leAt b 4 2 = 5 then 0 else (s.dmaAt c).wrote) := by
  have hw := Dev.dmaCurrent_own hh hc
  rw [State.dmaAbort, hc]
  dsimp only
  rw [State.dmaEnds_own _ _ hw, State.dmaAbort]
  rw [show (s.onDev fun d => d.dmaDone c b 0x08 _).toDev.dmaCurrent c = none from Dev.dmaCurrent_dmaDone hq _ _ _]

/-- The bindings that a channel may have (R427). -/
theorem Dev.dmaConfig_refused {d : Dev} {src : Src} {c : Nat} {v : Word} (h : src ≠ .ulyar ∨ d.dmaState c ≠ 0 ∨
    (DMA_CH_CFG_BIND_KIND.get v = 1 ∧ 5 < DMA_CH_CFG_BIND_ID.get v) ∨ (DMA_CH_CFG_BIND_KIND.get v = 2 ∧ 3 < DMA_CH_CFG_BIND_ID.get v)) : d.dmaConfig src c v = d := by
  refine if_pos ?_
  rcases h with h | h | ⟨h, h'⟩ | ⟨h, h'⟩ <;> simp [h] <;> simp [h']

theorem Dev.dmaConfig_pf {d : Dev} {c : Nat} {v : Word} (hidle : d.dmaState c = 0) (hk : DMA_CH_CFG_BIND_KIND.get v = 2) (hid : DMA_CH_CFG_BIND_ID.get v ≤ 3) :
    d.dmaConfig .ulyar c v = (((((d.setF (DMA_CH_CFG c) DMA_CH_CFG_PACE_EN (DMA_CH_CFG_PACE_EN.get v)).setF (DMA_CH_CFG c) DMA_CH_CFG_PACE_ROLE (DMA_CH_CFG_PACE_ROLE.get v)).setF (DMA_CH_CFG c)
      DMA_CH_CFG_PACE_FIFO (DMA_CH_CFG_PACE_FIFO.get v)).setF (DMA_CH_CFG c) DMA_CH_CFG_BIND_KIND 2).setF (DMA_CH_CFG c) DMA_CH_CFG_BIND_ID (DMA_CH_CFG_BIND_ID.get v)) := by
  unfold Dev.dmaConfig
  extract_lets kind id bad put
  have hbad : bad = false := by simp [bad, kind, id, hk, hid]
  rw [if_neg (by simp [hidle, hbad]), show kind = 2 from hk]
  rfl

/-- A command that is the current descriptor's, or one that no command names, moves it on. -/
theorem dmaOp_moves {s : State} {code c k : Nat} {w : DmaFrom} {b : List Byte} (hc : s.dmaCurrent c = some (w, b)) (hv : leAt b 4 2 = code ∨ leAt b 4 2 = 0 ∨ 5 < leAt b 4 2) :
    dmaOp code c k s = .next (if (dmaJob b).formOk b w.isEngine then State.dmaBursts c w b k s else s.dmaEnds c w b 0x01 0).ended := by
  unfold dmaOp
  rw [hc]
  dsimp only
  rw [if_neg (by rcases hv with h | h | h <;> simp [h]), finM_ended]

theorem dmaOp_other {s : State} {code c k : Nat} {w : DmaFrom} {b : List Byte} (hr : s.runs = true) (hc : s.dmaCurrent c = some (w, b)) (hne : leAt b 4 2 ≠ code) (hlo : 1 ≤ leAt b 4 2)
    (hhi : leAt b 4 2 ≤ 5) : dmaOp code c k s = .next (s.settled s.toDev) := by
  unfold dmaOp
  rw [hc]
  dsimp only
  rw [if_pos (by simp [hne, hlo, hhi]), fin_eq_of_runs hr]

theorem dmaOp_idle {s : State} {code c k : Nat} (hr : s.runs = true) (hc : s.dmaCurrent c = none) : dmaOp code c k s = .next (s.settled s.toDev) := by
  unfold dmaOp
  rw [hc]
  exact fin_eq_of_runs hr _

/-! Where a burst reads and writes in device memory. -/

/-- `e` reaches the same device memory as `d`: their registers agree but for the ranks' power states. -/
structure Dev.SameReach (d e : Dev) : Prop where
  wipe : e.wipeFrom = d.wipeFrom
  rd : ∀ r : Reg, r.addr ≠ MEM_PWR.addr → e.rd r = d.rd r

theorem Dev.SameReach.refl (d : Dev) : d.SameReach d := ⟨rfl, fun _ _ => rfl⟩

theorem Dev.SameReach.trans {d e f : Dev} (h : d.SameReach e) (h' : e.SameReach f) : d.SameReach f := ⟨h'.wipe.trans h.wipe, fun r hr => (h'.rd r hr).trans (h.rd r hr)⟩

theorem Dev.SameReach.updDma (d : Dev) (c : Nat) (f : DmaCh → DmaCh) : d.SameReach (d.updDma c f) := ⟨rfl, fun _ _ => rfl⟩

theorem Dev.SameReach.each {α : Type} {f : Dev → α → Dev} (hf : ∀ (d : Dev) (x : α), d.SameReach (f d x)) (d : Dev) (l : List α) : d.SameReach (d.each l f) := by
  induction l generalizing d with
  | nil => exact .refl d
  | cons x l ih => exact (hf d x).trans (ih (f d x))

theorem Dev.SameReach.touchDram (d : Dev) (a n : Nat) : d.SameReach (d.touchDram a n) :=
  .each (f := fun d t => (d.setBitF MEM_PWR MEM_PWR_SR_STATE t false).setSetAt (d.setAt.put t d.refNs))
    (fun d _ => ⟨rfl, fun r hr => Dev.rd_setF_other d MEM_PWR r MEM_PWR_SR_STATE _ hr⟩) d _

section
variable {d e : Dev} (h : d.SameReach e)
include h

theorem Dev.SameReach.fld {r : Reg} (hr : r.addr ≠ MEM_PWR.addr) (f : Fld) : e.fld r f = d.fld r f := congrArg f.get (h.rd r hr)

theorem Dev.SameReach.dramIn (cls : List Nat) (a n : Nat) : e.dramIn cls a n = d.dramIn cls a n := by
  have hpop (f : Fld) : e.fld MEM_POP f = d.fld MEM_POP f := h.fld (by decide) f
  have hgran (g : Nat) (f : Fld) : e.fld (MEM_GRANULE g) f = d.fld (MEM_GRANULE g) f := h.fld (by simp [MEM_GRANULE, MEM_PWR]; omega) f
  unfold Dev.dramIn Dev.capacity Dev.granClass Dev.granPending Dev.flag
  simp only [hpop, hgran, h.wipe]

theorem Dev.SameReach.banksAsk (s : Nat) (l : List Nat) (kind id : Nat) : e.banksAsk s l kind id = d.banksAsk s l kind id := by
  have hbank (i : Nat) (f : Fld) : e.fld (ENG_BANK_STATUS s i) f = d.fld (ENG_BANK_STATUS s i) f := h.fld (by simp [ENG_BANK_STATUS, MEM_PWR]; omega) f
  unfold Dev.banksAsk Dev.bankAsk Dev.flag
  simp only [hbank]

/-- An access that reaches its place still does. -/
theorem Dev.SameReach.dmaDevice {c a n m : Nat} (hok : d.dmaDevice c a n = .ok m) : e.dmaDevice c a n = .ok m := by
  unfold Dev.dmaDevice at *
  dsimp only at *
  rw [h.banksAsk, h.dramIn]
  split
  · rw [if_pos ‹_›] at hok
    split at hok
    · exact hok
    · cases hok
    · cases hok
  · rw [if_neg ‹_›] at hok
    exact hok

end

/-- A write of device memory that reaches its place stores its bytes there. -/
theorem State.dmaWrite_device {s : State} {c a m : Nat} {j : DmaJob} {bs : List Byte} (hj : j.dstSpace = 1) (hok : s.dmaDevice c a bs.length = .ok m) :
    s.dmaWrite c .ulyar j a bs = .ok (s.store m bs) := by
  unfold State.dmaWrite
  rw [hj]
  dsimp only
  rw [hok]
  rfl

/-- A read of device memory that reaches its place. -/
theorem State.dmaRead_device {s : State} {c i a n m : Nat} {j : DmaJob} (hok : s.dmaDevice c a n = .ok m) :
    s.dmaRead c .ulyar j i 1 a n = .ok (s.mem.readN m n, s.badIn m n) := by
  unfold State.dmaRead
  dsimp only
  rw [hok]
  rfl

theorem length_patternAt (v p n : Nat) : (patternAt v p n).length = n := by simp [patternAt]

theorem Memory.length_readN (m : Memory) (a n : Nat) : (m.readN a n).length = n := by simp [Memory.readN]

/-- The state in which a burst that is not held by its pace begins (R435). -/
def State.dmaPaced (s : State) (c : Nat) : State := s.onDev fun d => d.updDma c fun x => { x with paused := false }

/-- The reads of a burst whose sources are at `srcs`, each with its number and space. -/
def DmaJob.burstReads (j : DmaJob) (srcs : List Nat) : List (Nat × Nat × Nat) := srcs.zipIdx.map fun y => (y.2, j.srcSpace, y.1)

/-- The state with the ranks of device memory that a burst read counted as touched. -/
def State.dmaTouched (s : State) (ins : List (Nat × Nat × Nat)) (n : Nat) : State :=
  s.onDev fun d => d.each (ins.filter fun y => y.2.1 == 1) fun d y => d.touchDram y.2.2 n

/-- A burst of another operation than COMPARE, its reads good and its write done, leaves the memory that the write left. -/
theorem State.dmaBurst_writes {s u : State} {c a k : Nat} {b : List Byte} {srcs : List Nat} {l : List (List Byte × Bool)} (hp : s.pacePaused c = false)
    (hcode : (dmaJob b).code ≠ 5) (hspot : (dmaJob b).spot (s.dmaAt c).pos = (a, srcs, k))
    (hreads : (s.dmaPaced c).dmaReads c .ulyar (dmaJob b) ((dmaJob b).burst (s.dmaAt c).pos) ((dmaJob b).burstReads srcs) = .ok l) (hgood : l.any Prod.snd = false)
    (hw : ((s.dmaPaced c).dmaTouched ((dmaJob b).burstReads srcs) ((dmaJob b).burst (s.dmaAt c).pos)).dmaWrite c .ulyar (dmaJob b) a
      (if (dmaJob b).pattern then patternAt (dmaJob b).src (s.dmaAt c).pos ((dmaJob b).burst (s.dmaAt c).pos) else xorAll (l.map Prod.fst)) = .ok u) :
    (s.dmaBurst c .ulyar b).1.mem = u.mem := by
  unfold State.dmaBurst
  dsimp only
  rw [hp, hspot, if_neg Bool.false_ne_true]
  dsimp only
  simp only [if_neg hcode]
  change (match (s.dmaPaced c).dmaReads c .ulyar (dmaJob b) ((dmaJob b).burst (s.dmaAt c).pos) ([] ++ (dmaJob b).burstReads srcs) with
    | .fails _ _ => _ | .wait _ => _ | .ok _ => _ : State × Bool).1.mem = _
  rw [List.nil_append, hreads]
  dsimp only
  rw [hgood, if_neg Bool.false_ne_true]
  change (match ((s.dmaPaced c).dmaTouched ((dmaJob b).burstReads srcs) ((dmaJob b).burst (s.dmaAt c).pos)).dmaWrite c .ulyar (dmaJob b) a _ with
    | .fails _ _ => _ | .wait _ => _ | .ok _ => _ : State × Bool).1.mem = _
  rw [hw]
  dsimp only
  split <;> rfl

theorem State.SameReach_touched (s : State) (c : Nat) (ins : List (Nat × Nat × Nat)) (n : Nat) : s.toDev.SameReach ((s.dmaPaced c).dmaTouched ins n).toDev :=
  (Dev.SameReach.updDma s.toDev c fun x => { x with paused := false }).trans (.each (f := fun d (y : Nat × Nat × Nat) => d.touchDram y.2.2 n) (fun _ _ => .touchDram ..) _ _)

/-- A burst of FILL writes the pattern (R432). -/
theorem State.dmaBurst_fill {s : State} {c m : Nat} {b : List Byte} (hp : s.pacePaused c = false) (hsp : (dmaJob b).dstSpace = 1) (hfix : (dmaJob b).dstFixed = false)
    (hcode : (dmaJob b).code = 4) (hok : s.dmaDevice c ((dmaJob b).dst + (s.dmaAt c).pos) ((dmaJob b).burst (s.dmaAt c).pos) = .ok m) :
    (s.dmaBurst c .ulyar b).1.mem = s.mem.writeN m (patternAt (dmaJob b).src (s.dmaAt c).pos ((dmaJob b).burst (s.dmaAt c).pos)) := by
  have hpat : (dmaJob b).pattern = true := by simp [DmaJob.pattern, hcode]
  have hspot : (dmaJob b).spot (s.dmaAt c).pos = ((dmaJob b).dst + (s.dmaAt c).pos, [], (dmaJob b).len - (s.dmaAt c).pos) := by
    simp [DmaJob.spot, hcode, hfix, hpat]
  have hw := State.dmaWrite_device (s := (s.dmaPaced c).dmaTouched [] ((dmaJob b).burst (s.dmaAt c).pos)) (bs := patternAt (dmaJob b).src (s.dmaAt c).pos ((dmaJob b).burst (s.dmaAt c).pos)) hsp
    (by rw [length_patternAt]; exact (s.SameReach_touched ..).dmaDevice hok)
  exact (State.dmaBurst_writes (l := []) hp (by simp [hcode]) hspot rfl rfl (by rw [if_pos hpat]; exact hw)).trans rfl

/-- A burst of COPY between places of device memory writes what was read (R432). -/
theorem State.dmaBurst_copy {s : State} {c m n : Nat} {b : List Byte} (hp : s.pacePaused c = false) (hsp : (dmaJob b).dstSpace = 1) (hfix : (dmaJob b).dstFixed = false)
    (hcode : (dmaJob b).code = 1) (hsrc : (dmaJob b).srcSpace = 1) (hsfix : (dmaJob b).srcFixed = false)
    (hread : s.dmaDevice c ((dmaJob b).src + (s.dmaAt c).pos) ((dmaJob b).burst (s.dmaAt c).pos) = .ok m)
    (hok : s.dmaDevice c ((dmaJob b).dst + (s.dmaAt c).pos) ((dmaJob b).burst (s.dmaAt c).pos) = .ok n) (hclean : s.badIn m ((dmaJob b).burst (s.dmaAt c).pos) = false) :
    (s.dmaBurst c .ulyar b).1.mem = s.mem.writeN n (s.mem.readN m ((dmaJob b).burst (s.dmaAt c).pos)) := by
  have hpat : (dmaJob b).pattern = false := by simp [DmaJob.pattern, hcode]
  have hspot : (dmaJob b).spot (s.dmaAt c).pos = ((dmaJob b).dst + (s.dmaAt c).pos, [(dmaJob b).src + (s.dmaAt c).pos], (dmaJob b).len - (s.dmaAt c).pos) := by
    simp [DmaJob.spot, hcode, hfix, hsfix, hpat]
  have hr : (s.dmaPaced c).dmaRead c .ulyar (dmaJob b) 0 1 ((dmaJob b).src + (s.dmaAt c).pos) ((dmaJob b).burst (s.dmaAt c).pos) =
      .ok (s.mem.readN m ((dmaJob b).burst (s.dmaAt c).pos), false) := by
    rw [State.dmaRead_device ((Dev.SameReach.updDma ..).dmaDevice hread)]
    exact congrArg (fun x => DmaGot.ok (_, x)) hclean
  have hins : (dmaJob b).burstReads [(dmaJob b).src + (s.dmaAt c).pos] = [(0, 1, (dmaJob b).src + (s.dmaAt c).pos)] := by simp [DmaJob.burstReads, hsrc]
  have hw := State.dmaWrite_device (s := (s.dmaPaced c).dmaTouched [(0, 1, (dmaJob b).src + (s.dmaAt c).pos)] ((dmaJob b).burst (s.dmaAt c).pos))
    (bs := s.mem.readN m ((dmaJob b).burst (s.dmaAt c).pos)) hsp (by rw [Memory.length_readN]; exact (s.SameReach_touched ..).dmaDevice hok)
  refine (State.dmaBurst_writes (l := [(s.mem.readN m ((dmaJob b).burst (s.dmaAt c).pos), false)])
    (u := ((s.dmaPaced c).dmaTouched [(0, 1, (dmaJob b).src + (s.dmaAt c).pos)] ((dmaJob b).burst (s.dmaAt c).pos)).store n (s.mem.readN m ((dmaJob b).burst (s.dmaAt c).pos)))
    hp (by simp [hcode]) hspot ?_ rfl ?_).trans rfl
  · rw [hins, State.dmaReads, hr]
    rfl
  · rw [hins, if_neg (by rw [hpat]; exact Bool.false_ne_true)]
    exact hw

end Sys2Proof.Machine

/-- Settles O52: each channel event through the equation of its outcome; a burst through what it reads and writes. -/
theorem dmaEngine : Obligations.DmaEngine := by
  refine ⟨?_, ?_, ?_, ?_, ?_⟩
  · intro s src c v hh kind id
    refine ⟨fun h => ?_, fun hsrc hidle hk hid => ?_⟩
    · exact (finW_eq_of_hears hh _ _).trans (by rw [Dev.dmaConfig_refused h])
    · subst hsrc
      refine ⟨_, finW_eq_of_hears hh _ _, ?_⟩
      rw [Dev.dmaConfig_pf hidle hk hid]
      have hb (f : Fld) : f.get v % 2 ^ f.w = f.get v := Nat.mod_mod _ _
      refine ⟨?_, (Dev.fld_setF_same (by decide) _ _ _).trans (hb _), ?_, ?_, rfl⟩
      · rw [Dev.fld_setF_disjoint (by decide)]
        exact Dev.fld_setF_same (by decide) _ _ 2
      · rw [Dev.fld_setF_disjoint (by decide), Dev.fld_setF_disjoint (by decide), Dev.fld_setF_disjoint (by decide), Dev.fld_setF_disjoint (by decide)]
        exact (Dev.fld_setF_same (by decide) _ _ _).trans (hb _)
      · rw [Dev.fld_setF_disjoint (by decide), Dev.fld_setF_disjoint (by decide)]
        exact (Dev.fld_setF_same (by decide) _ _ _).trans (hb _)
  · intro s src c hh
    have go : exec (.dmaGo src c) s = finSM s src (DMA_CH_CTRL c.val).addr (s.dmaGo src c.val) := rfl
    have abort : exec (.dmaAbort src c) s = finSM s src (DMA_CH_CTRL c.val).addr (State.dmaAbort c.val 66 s) := rfl
    have kept : finSM s src (DMA_CH_CTRL c.val).addr s = .next (s.settled s.toDev) := finSM_eq_of_hears hh _ hh.1
    have ends {w : DmaFrom} (hw : w.isEngine = false) (b : List Byte) (code r : Nat) :
        finSM s src (DMA_CH_CTRL c.val).addr (s.dmaEnds c.val w b code r) = .next (s.became (s.dmaEnds c.val w b code r)) := by
      rw [State.dmaEnds_own s c.val hw]
      exact finSM_became hh _ (Dev.pwrMode_dmaDone ..) rfl
    refine ⟨fun hbusy => ?_, fun hnone hno => ?_, fun hnone hof hst => ?_, fun hnone => ?_, fun b w hh' hq hc => ?_, fun f v => finW_eq_of_hears hh _ _⟩
    · rw [go, State.dmaGo, if_pos hbusy, kept]
    · rw [go, State.dmaGo, hnone, if_neg (by simp), if_pos (by rcases hno with h | h <;> simp [h]), ends rfl]
    · rw [go, State.dmaGo, hnone, if_neg (by simp), if_neg (by simp [hof, hst])]
      exact finSM_became hh _ rfl rfl
    · rw [abort, State.dmaAbort, hnone, kept]
    · rw [abort, State.dmaAbort_own hh' hq hc, ends (Dev.dmaCurrent_own hh' hc)]
  · intro s c k hr
    refine ⟨fun h => ⟨dmaOp_idle hr h, dmaOp_idle hr h⟩, ?_⟩
    intro w b hc v good r
    have moves {code : Nat} (hg : good = true) (hv : v = code) : dmaOp code c.val k s = r :=
      (dmaOp_moves hc (.inl hv)).trans (by rw [if_pos hg])
    refine ⟨fun hv => dmaOp_other hr hc (by simp [show leAt b 4 2 = 2 from hv]) (by simp [show leAt b 4 2 = 2 from hv]) (by simp [show leAt b 4 2 = 2 from hv]),
      fun hg => ⟨moves hg, moves hg, moves hg, moves hg, moves hg⟩, fun hg hv => ?_⟩
    have hbad : leAt b 4 2 = 1 ∨ leAt b 4 2 = 0 ∨ 5 < leAt b 4 2 := hv.elim (fun h => .inr (.inl h)) fun h => h.elim .inl fun h => .inr (.inr h)
    refine (dmaOp_moves hc hbad).trans ?_
    rw [if_neg (by rw [show (dmaJob b).formOk b w.isEngine = false from hg]; exact Bool.false_ne_true)]
  · intro s c b j p hp hsp hfix
    exact ⟨fun hcode m hok => State.dmaBurst_fill hp hsp hfix hcode hok, fun hcode hsrc hsfix m n hread hok hclean => State.dmaBurst_copy hp hsp hfix hcode hsrc hsfix hread hok hclean⟩
  · intro d c a n ha
    refine if_neg ?_
    simp [Nat.not_le.mpr ha]
end

section
open Sys2Proof Sys2Proof.Machine
namespace Sys2Proof.Machine

/-! Cipher operations (11 R302 to R311). -/

theorem length_leBytes (n v : Nat) : (leBytes n v).length = n := by
  induction n generalizing v with
  | zero => rfl
  | succ n ih => exact congrArg (· + 1) (ih _)

/-- A number's bytes, low ones first, make it again, modulo what they hold. -/
theorem leNat_leBytes (n v : Nat) : leNat (leBytes n v) = v % 256 ^ n := by
  induction n generalizing v with
  | zero => simp [leBytes, leNat, Nat.mod_one]
  | succ n ih =>
    have hb : (BitVec.ofNat 8 v).toNat = v % 256 := BitVec.toNat_ofNat v 8
    rw [leBytes, leNat, ih, hb, Nat.pow_succ', Nat.mod_mul (x := v) (a := 256)]

theorem Memory.readN_congr {m m' : Memory} {a n : Nat} (h : ∀ i < n, m'.read (a + i) = m.read (a + i)) : m'.readN a n = m.readN a n :=
  List.map_congr_left fun i hi => h i (List.mem_range.mp hi)

/-- The word of `n` bytes written last reads back. -/
theorem Memory.readLE_writeN_leBytes {m : Memory} (h : m.wf = true) (a n v : Nat) : (m.writeN a (leBytes n v)).readLE a n = v % 256 ^ n := by
  have hr := Memory.readN_writeN_same (leBytes n v) m a h
  rw [length_leBytes] at hr
  rw [Memory.readLE, hr, leNat_leBytes]

/-- The operation that offload command `n` of the cipher block stands for. -/
theorem Dev.cphEntry_op {d : Dev} {n : Nat} {o : OpRec} (ho : d.ops.look n = some o) (hu : o.unit = 0) :
    d.cphEntry (.op n) = some ⟨n, o.slice, leAt o.desc 0x10 4, leAt o.desc 4 2, .op n⟩ := by
  show (d.ops.look n).bind _ = _
  rw [ho]
  exact if_pos hu

theorem Dev.cphEntry_frame {d : Dev} {id : Nat} {f : Frame} {a : CiphAct} {next : Terminal} (hf : d.frame? id = some f) (hst : f.stage = .cipher a next) :
    d.cphEntry (.frame id) = some ⟨a.entered, f.slice, a.slot, bitsOf a.profile 8 4, .frame id⟩ := by
  show (d.frame? id).bind _ = _
  rw [hf]
  show Frame.cphEntry id f = _
  unfold Frame.cphEntry
  rw [hst]

/-- A command whose operation it is, and whose turn it is, does its work. -/
theorem cipherOp_works {s : State} {c : Nat} {w : Work} {e : CphEntry} {x : CphFacts} (he : s.cphEntry w = some e) (hc : e.code = c) (hfirst : s.cphFirst e = true) :
    cipherOp c w x s = .next (s.cphWork w x).ended := by
  unfold cipherOp
  rw [he]
  dsimp only
  rw [if_pos (by simp [hc, hfirst]), finM_ended]

/-- A command of another operation, or one whose turn it is not, does nothing. -/
theorem cipherOp_idle {s : State} {c : Nat} {w : Work} {e : CphEntry} {x : CphFacts} (hr : s.runs = true) (he : s.cphEntry w = some e)
    (h : (e.code ≠ c ∧ 1 ≤ e.code ∧ e.code ≤ 10) ∨ s.cphFirst e = false) : cipherOp c w x s = .next (s.settled s.toDev) := by
  unfold cipherOp
  rw [he]
  dsimp only
  rw [if_neg, finM_eq_of_runs hr]
  · rfl
  · rcases h with ⟨hne, hlo, hhi⟩ | h
    · simp [hne, Nat.not_lt.mpr hhi]
      omega
    · simp [h]

theorem State.cphWork_op {s : State} {n : Nat} {o : OpRec} (ho : s.ops.look n = some o) (x : CphFacts) : s.cphWork (.op n) x = s.ciphOp n o x := by
  show (match s.ops.look n with | some o => s.ciphOp n o x | none => s) = _
  rw [ho]

theorem State.cphWork_frame {s : State} {id : Nat} {f : Frame} {a : CiphAct} {next : Terminal} (hf : s.frame? id = some f) (hst : f.stage = .cipher a next) (x : CphFacts) :
    s.cphWork (.frame id) x = s.ciphAction id f a next x := by
  unfold State.cphWork
  dsimp only
  rw [hf]
  dsimp only
  rw [hst]

/-- The slot as an operation finds it: its record read, and its lease ended where its time is over (R297, R299). -/
def State.cphSlot (s : State) (j : CphJob) (x : CphFacts) : State := (s.fetchSlot j.slot x.miss).onDev fun d => d.leaseTick j.slice j.slot

/-- The first check that fails ends the operation with its code (R305). -/
theorem State.cphRun_refused {s : State} {j : CphJob} {act : Bool} {x : CphFacts} {c : Nat} (hc : j.check ((s.cphSlot j x).keySlot.look j.slot) act = some c) (hne : c ≠ 2) :
    (s.cphRun j act x).map (fun r => (r.1, r.2.code, r.2.result, r.2.trap)) = some ((s.cphSlot j x).onDev fun d => d.cphCount j.slice c, c, 0, false) := by
  have hc2 : (c == 2) = false := by simpa using hne
  unfold State.cphRun
  extract_lets s1 s2 y policy reason stop
  rw [show j.check y act = some c from hc]
  simp only [stop, Option.map_some, hc2, Bool.false_and]
  rfl

/-- A slot without the uses that the operation needs ends it with code 2. -/
theorem State.cphRun_spent {s : State} {j : CphJob} {act : Bool} {x : CphFacts} {y : KeySlot} (hy : (s.cphSlot j x).keySlot.look j.slot = some y)
    (hc : j.check (some y) act = none) (huses : y.hasUses j.slice j.uses = false) :
    (s.cphRun j act x).map (fun r => (r.1, r.2.code)) = some ((s.cphSlot j x).onDev fun d => d.cphCount j.slice 2, 2) := by
  unfold State.cphRun
  extract_lets s1 s2 z policy reason stop
  have hz : z = some y := hy
  rw [hz, hc]
  dsimp only
  rw [huses]
  rfl

/-! The end of an offload command (R303). -/

/-- The state that the end of a command with a ticket comes to, its descriptor in memory. -/
theorem State.opEnds_mem {s : State} {n : Nat} {o : OpRec} {m : Nat} (ht : o.ticket < 8) (hspot : s.spot? o.slice o.pos o.addr 16 = some (.mem m none)) (c r : Nat) :
    s.opEnds n o c r = (((s.onDev fun d => d.setOps (d.ops.del n)).store (m + 8) (leBytes 8 r)).store m (leBytes 4 (2 ^ 31 + c % 65536))).onDev fun d =>
      d.updThr (thrKey o.slice o.pos o.thread) fun x => { x with busy := setBit x.busy o.ticket false, done := setBit x.done o.ticket true } := by
  unfold State.opEnds
  have hspot' : (s.onDev fun d => d.setOps (d.ops.del n)).spot? o.slice o.pos o.addr 16 = some (.mem m none) := hspot
  dsimp only
  rw [if_neg (Nat.not_le.mpr ht), hspot']

theorem Dev.ops_touchDram (d : Dev) (a n : Nat) : (d.touchDram a n).ops = d.ops := Dev.each_kept Dev.ops (f := fun d t => (d.setBitF MEM_PWR MEM_PWR_SR_STATE t false).setSetAt (d.setAt.put t d.refNs)) (fun _ _ => rfl) d _

theorem State.ops_store (s : State) (a : Nat) (bs : List Byte) : (s.store a bs).ops = s.ops := Dev.ops_touchDram _ a bs.length

/-- What the end of a command with a ticket leaves: RESULT and STATUS in its descriptor, its ticket DONE, the command gone. -/
theorem State.opEnds_spec {s : State} {n : Nat} {o : OpRec} {m : Nat} (ht : o.ticket < 8) (hspot : s.spot? o.slice o.pos o.addr 16 = some (.mem m none)) (hm : s.memOk) (c r : Nat) :
    (s.opEnds n o c r).mem.readLE m 4 = 2 ^ 31 + c % 65536 ∧ (s.opEnds n o c r).mem.readLE (m + 8) 8 = r % 2 ^ 64 ∧
    ((s.opEnds n o c r).thrAt (thrKey o.slice o.pos o.thread)).busy.testBit o.ticket = false ∧ ((s.opEnds n o c r).thrAt (thrKey o.slice o.pos o.thread)).done.testBit o.ticket = true ∧
    (s.opEnds n o c r).ops = s.ops.del n ∧ ∀ b, b < m ∨ (m + 4 ≤ b ∧ b < m + 8) ∨ m + 16 ≤ b → (s.opEnds n o c r).mem.read b = s.mem.read b := by
  rw [State.opEnds_mem ht hspot]
  have hmem : ((((s.onDev fun d => d.setOps (d.ops.del n)).store (m + 8) (leBytes 8 r)).store m (leBytes 4 (2 ^ 31 + c % 65536))).onDev fun d =>
      d.updThr (thrKey o.slice o.pos o.thread) fun x => { x with busy := setBit x.busy o.ticket false, done := setBit x.done o.ticket true }).mem =
      (s.mem.writeN (m + 8) (leBytes 8 r)).writeN m (leBytes 4 (2 ^ 31 + c % 65536)) := rfl
  have hw := Memory.wf_writeN (leBytes 8 r) s.mem (m + 8) hm
  have hlow (b : Nat) (hb : b < m ∨ m + 4 ≤ b) := Memory.read_writeN_other (leBytes 4 (2 ^ 31 + c % 65536)) (s.mem.writeN (m + 8) (leBytes 8 r)) m b hw (by rw [length_leBytes]; exact hb)
  have hhigh (b : Nat) (hb : b < m + 8 ∨ m + 16 ≤ b) := Memory.read_writeN_other (leBytes 8 r) s.mem (m + 8) b hm (by rw [length_leBytes]; omega)
  rw [hmem]
  refine ⟨?_, ?_, ?_, ?_, ?_, fun b hb => (hlow b (by omega)).trans (hhigh b (by omega))⟩
  · exact (Memory.readLE_writeN_leBytes hw ..).trans (by omega)
  · rw [Memory.readLE, Memory.readN_congr fun i _ => hlow (m + 8 + i) (by omega), ← Memory.readLE]
    exact (Memory.readLE_writeN_leBytes hm ..).trans (by omega)
  · show ((Dev.updThr _ _ _).thrAt _).busy.testBit _ = _
    rw [Dev.thrAt_updThr_same]
    exact testBit_setBit_same _ _ _
  · show ((Dev.updThr _ _ _).thrAt _).done.testBit _ = _
    rw [Dev.thrAt_updThr_same]
    exact testBit_setBit_same _ _ _
  · exact (State.ops_store _ _ _).trans (State.ops_store _ _ _)

end Sys2Proof.Machine

/-- Settles O46: a command either works or does nothing; the checks and the end each by its own lemma. -/
theorem cipherOperations : Obligations.CipherOperations := by
  refine ⟨?_, ?_, ?_, ?_, ?_, ?_⟩
  · intro s n o x hr ho hu hfirst r
    have he := Dev.cphEntry_op (d := s.toDev) ho hu
    have works {c : Nat} (hc : leAt o.desc 4 2 = c) : cipherOp c (.op n) x s = r := (cipherOp_works he hc hfirst).trans (by rw [State.cphWork_op ho])
    exact ⟨works, works, works, works, works, works, works, works, works, works, fun h => cipherOp_idle hr he (.inl (by simp [h]))⟩
  · intro s w e x hr he hfirst
    exact cipherOp_idle hr he (.inr hfirst)
  · intro s id f a next x hr hf hst
    have he := Dev.cphEntry_frame (d := s.toDev) hf hst
    refine ⟨fun hfirst => ?_, fun hlo hhi => cipherOp_idle hr he (.inl (by dsimp only; omega))⟩
    have works {c : Nat} (hc : bitsOf a.profile 8 4 = c) : cipherOp c (.frame id) x s = .next (s.ciphAction id f a next x).ended :=
      (cipherOp_works he hc hfirst).trans (by rw [State.cphWork_frame hf hst])
    exact ⟨works, works⟩
  · intro s n o x hbad
    exact if_pos (by rw [hbad]; rfl)
  · intro s j act x e
    exact ⟨fun c => State.cphRun_refused, fun y => State.cphRun_spent⟩
  · intro s n o c r m ht hspot hm t k
    exact State.opEnds_spec ht hspot hm c r
end

section
open Sys2Proof Sys2Proof.Machine
namespace Sys2Proof.Machine

/-! Compression and PDU operations (12 R315 to R333). -/

/-- A command whose operation it is, and whose turn it is in its unit, does its work. -/
theorem compressOp_runs {s : State} {c n : Nat} {o : OpRec} {x : CmpFacts} (ho : s.ops.look n = some o) (hu : o.unit = 1) (hc : leAt o.desc 4 2 = c) (hfirst : s.cmpFirst n o = true) :
    compressOp c n x s = .next (s.cmpRun n (s.cmpJob o) x).ended := by
  have hcode : (s.cmpJob o).code = c := hc
  unfold compressOp
  rw [ho]
  dsimp only
  rw [if_pos (by simp [hu, hcode, hfirst]), finM_ended]

/-- A command of another operation, or one whose turn it is not, does nothing. -/
theorem compressOp_idle {s : State} {c n : Nat} {o : OpRec} {x : CmpFacts} (hr : s.runs = true) (ho : s.ops.look n = some o)
    (h : (leAt o.desc 4 2 ≠ c ∧ 1 ≤ leAt o.desc 4 2 ∧ leAt o.desc 4 2 ≤ 4) ∨ s.cmpFirst n o = false) : compressOp c n x s = .next (s.settled s.toDev) := by
  have hcode : (s.cmpJob o).code = leAt o.desc 4 2 := rfl
  unfold compressOp
  rw [ho]
  dsimp only
  rw [if_neg, fin_eq_of_runs hr]
  rcases h with ⟨hne, hlo, hhi⟩ | h
  · have : leAt o.desc 4 2 ≠ 0 := Nat.pos_iff_ne_zero.mp hlo
    simp [hcode, hne, this, Nat.not_lt.mpr hhi]
  · simp [h]

section
variable {s : State} {n : Nat} {j : CmpJob} {x : CmpFacts}

theorem State.cmpRun_badForm (h : j.formOk = false) : s.cmpRun n j x = s.cmpEnds n j 0x01 0 := if_pos (by rw [h]; rfl)

/-- An operation other than PDU_RX on buffers in memory, once its form is good. -/
theorem State.cmpRun_plain (hform : j.formOk = true) (hframe : j.frame = none) (hcode : j.code ≠ 3) :
    s.cmpRun n j x = match j.srcPlace s.toDev, j.dstPlace s.toDev with
      | .held, _ | _, .held => s
      | .at_ a, .at_ b =>
        if !j.lenOk then s.cmpEnds n j 0x03 0
        else if j.cap < j.room then s.cmpEnds n j 0x04 0
        else if x.ecc || s.badIn a j.len then s.cmpEcc n j j.src j.len 0
        else match j.code with
          | 1 => (s.touchBuf j.src j.len).compRun n j b ((s.touchBuf j.src j.len).mem.readN a j.len) x.verifyBad
          | 2 => (s.touchBuf j.src j.len).decompRun n j b ((s.touchBuf j.src j.len).mem.readN a j.len)
          | 3 => (s.touchBuf j.src j.len).rxRun n j 0 b ((s.touchBuf j.src j.len).mem.readN a j.len) x.hostErrors
          | _ => (s.touchBuf j.src j.len).txRun n j a ((s.touchBuf j.src j.len).mem.readN a j.len)
      | _, _ => s.cmpEnds n j 0x02 0 := by
  unfold State.cmpRun
  extract_lets sl ctx table e
  have he : e = s.touchBuf j.src j.len := if_neg (by rw [hframe]; exact Bool.false_ne_true)
  have hctx : ctx = some 0 := if_neg hcode
  have htable : table = true := by
    unfold table
    split
    · exact absurd ‹_› hcode
    · rfl
  rw [if_neg (by rw [hform]; exact Bool.false_ne_true), hframe, hctx, htable, he]
  cases j.srcPlace s.toDev <;> cases j.dstPlace s.toDev <;> simp [hcode] <;> rfl

/-- PDU_RX whose context, table and buffers are in reach, of good lengths: the context's checks come before its input (R333). -/
theorem State.cmpRun_pduRx {a b c : Nat} (hform : j.formOk = true) (hframe : j.frame = none) (hcode : j.code = 3) (hsrc : j.srcPlace s.toDev = .at_ a) (hdst : j.dstPlace s.toDev = .at_ b)
    (hctx : s.nearPlace j.op.slice j.op.pos j.ctx 256 64 = some c) (hlog : s.mem.readLE (c + 0x16) 1 ≤ 12)
    (htable : (s.nearPlace j.op.slice j.op.pos (s.mem.readLE (c + 0x18) 8) (32 * 2 ^ s.mem.readLE (c + 0x16) 1) 32).isSome = true) (hlen : j.lenOk = true) (hroom : j.room ≤ j.cap)
    (hclean : s.badIn c 256 = false) :
    s.cmpRun n j x = match j.ctxBad (s.mem.readN c 256) with
      | some code => s.cmpEnds n j code 0
      | none =>
        if s.placeHeld j.tf then s
        else if x.ecc || s.badIn a j.len then s.cmpEcc n j j.src j.len 0
        else (s.touchBuf j.src j.len).rxRun n j c b ((s.touchBuf j.src j.len).mem.readN a j.len) x.hostErrors := by
  unfold State.cmpRun
  extract_lets sl ctx table e
  have he : e = s.touchBuf j.src j.len := if_neg (by rw [hframe]; exact Bool.false_ne_true)
  have hctx' : ctx = some c := (if_pos hcode).trans hctx
  have htable' : table = true := by
    unfold table
    rw [hcode, hctx']
    simp [sl, hlog, htable]
  rw [if_neg (by rw [hform]; exact Bool.false_ne_true), hframe, hctx', htable', he, hsrc, hdst, hlen, hcode]
  simp [hclean, Nat.not_lt.mpr hroom] <;> rfl

theorem CmpJob.ctxBad_error {ctx : List Byte} (h : leAt ctx 0 1 = 4) : j.ctxBad ctx = some 0x0C := if_pos h

theorem CmpJob.ctxBad_order {ctx : List Byte} (h : leAt ctx 0 1 ≠ 4) (hs : leAt ctx 4 4 ≠ j.seq) : j.ctxBad ctx = some 0x09 :=
  (if_neg h).trans (if_pos (by simpa using hs))

theorem CmpJob.ctxBad_good {ctx : List Byte} (h : leAt ctx 0 1 ≠ 4) (hs : leAt ctx 4 4 = j.seq) : j.ctxBad ctx = none :=
  (if_neg h).trans (if_neg (by simpa using hs))

end

/-- DEFLATE_COMP that need not verify, or verifies, leaves its stream at the destination. -/
theorem State.compRun_good (s : State) (n b : Nat) (j : CmpJob) (bs : List Byte) (h : j.flags.testBit 1 = false ∨ verified (deflate j.level bs).1 bs = true) :
    ∃ d, s.compRun n j b bs false = (({ s with toDev := d } : State).store b (deflate j.level bs).1).cmpEnds n j 0 ((deflate j.level bs).1.length + crc32cFull bs * 2 ^ 32) := by
  unfold State.compRun
  generalize deflate j.level bs = r at h ⊢
  obtain ⟨out, st⟩ := r
  refine ⟨_, if_neg ?_⟩
  rcases h with h | h
  · rw [h]
    exact Bool.false_ne_true
  · rw [show verified out bs = true from h]
    simp

/-- DEFLATE_DECOMP leaves what the decoder gave and ends with the code of its end. -/
theorem State.decompRun_ends (s : State) (n b : Nat) (j : CmpJob) (bs : List Byte) :
    ∃ d, s.decompRun n j b bs = (({ s with toDev := d } : State).store b (inflate bs j.cap).2.1).cmpEnds n j
      (match (inflate bs j.cap).1 with | .done => 0 | .bad _ => 6 | .truncated => 7 | .full => 5)
      ((inflate bs j.cap).2.1.length + (match (inflate bs j.cap).1 with | .bad k => k | _ => 0) * 2 ^ 32 + min (inflate bs j.cap).2.2 0xFFFFFF * 2 ^ 40) := by
  unfold State.decompRun
  generalize inflate bs j.cap = r
  obtain ⟨e, out, used⟩ := r
  refine ⟨((s.count (cmpCnt j.op.slice 3) used).count (cmpCnt j.op.slice 4) out.length).meterAdd j.tf 5 out.length, ?_⟩
  cases e <;> rfl

/-- PDU_TX of bytes that are no PDU of the length given. -/
theorem State.txRun_bad {s : State} {n a : Nat} {j : CmpJob} {bs : List Byte} (h : pduOk bs = false ∨ pduPlen bs ≠ j.len) :
    s.txRun n j a bs = (s.onDev fun d => d.count (cmpCnt j.op.slice 6) bs.length).cmpEnds n j 0x0A 0 := by
  refine if_pos ?_
  rcases h with h | h <;> simp [h]

/-- PDU_TX of a PDU in memory, no data PDU that metering counts. -/
theorem State.txRun_good {s : State} {n a : Nat} {j : CmpJob} {bs : List Byte} (hok : pduOk bs = true) (hlen : pduPlen bs = j.len) (hframe : j.frame = none) (hop : leAt bs 0 1 ≠ 4) :
    s.txRun n j a bs = ((s.onDev fun d => d.count (cmpCnt j.op.slice 6) bs.length).store a (pduSealed bs)).cmpEnds n j 0 j.len := by
  unfold State.txRun
  dsimp only
  rw [if_neg (by simp [hok, hlen]), hframe, if_neg hop]

end Sys2Proof.Machine

/-- Settles O47: the order of the checks is that of the operation's own equation, for PDU_RX and for the others. -/
theorem compressionOperations : Obligations.CompressionOperations := by
  refine ⟨?_, ?_, ?_, ?_, ?_⟩
  · intro s n o x hr ho hu r
    refine ⟨fun hfirst => ?_, fun hfirst => compressOp_idle hr ho (.inr hfirst)⟩
    have runs {c : Nat} (hc : leAt o.desc 4 2 = c) : compressOp c n x s = r := compressOp_runs ho hu hc hfirst
    exact ⟨runs, runs, runs, runs, fun h => compressOp_idle hr ho (.inl (by simp [h]))⟩
  · intro s n j x
    refine ⟨State.cmpRun_badForm, fun hform hframe hcode => ⟨fun hsrc hdst => ?_, fun a b hsrc hdst => ⟨fun hlen => ?_, fun hlen hroom => ?_, ?_⟩⟩⟩
    · rw [State.cmpRun_plain hform hframe hcode, hsrc]
      split
      · cases ‹Place.bad = Place.held›
      · exact absurd ‹_› hdst
      · cases ‹Place.bad = Place.at_ _›
      · rfl
    · rw [State.cmpRun_plain hform hframe hcode, hsrc, hdst]
      exact if_pos (by rw [hlen]; rfl)
    · rw [State.cmpRun_plain hform hframe hcode, hsrc, hdst, hlen]
      exact if_pos hroom
    · intro hlen hroom hecc hclean e
      have key := State.cmpRun_plain (s := s) (n := n) (x := x) hform hframe hcode
      rw [hsrc, hdst, hlen, hecc] at key
      dsimp only at key
      rw [hclean, if_neg (by simp), if_neg (Nat.not_lt.mpr hroom), if_neg (by simp)] at key
      refine ⟨fun h => ?_, fun h => ?_, fun h => ?_⟩
      · rw [key, h]
        rfl
      · rw [key, h]
        rfl
      · rw [key, h]
        rfl
  · intro s n b j bs
    exact ⟨State.compRun_good s n b j bs, State.decompRun_ends s n b j bs⟩
  · intro s n a j bs e
    exact ⟨State.txRun_bad, State.txRun_good⟩
  · intro s n a b c j x hform hframe hcode hsrc hdst hctx hlog htable hlen hroom hclean ctx
    have key := State.cmpRun_pduRx (n := n) (x := x) hform hframe hcode hsrc hdst hctx hlog htable hlen hroom hclean
    refine ⟨fun h => ?_, fun h hs => ?_, fun h hs => ?_⟩
    · rw [key, CmpJob.ctxBad_error h]
    · rw [key, CmpJob.ctxBad_order h hs]
    · rw [CmpJob.ctxBad_good h hs] at key
      exact ⟨fun hheld => key.trans (if_pos hheld),
        fun hheld hbad => key.trans ((if_neg (by rw [hheld]; exact Bool.false_ne_true)).trans (if_pos (by simpa using hbad))),
        fun hheld hecc hgood => key.trans ((if_neg (by rw [hheld]; exact Bool.false_ne_true)).trans (if_neg (by simp [hecc, hgood])))⟩
end

section
open Sys2Proof Sys2Proof.Machine
namespace Sys2Proof.Machine

/-! Rings and functions (14 R376 to R402). -/

theorem Tab.look_mapVals {α : Type} (f : Nat → α → α) (t : Tab α) (n : Nat) : (Tab.mapVals t f).look n = (t.look n).map (f n) := by
  induction t with
  | nil => rfl
  | cons c t ih =>
    obtain ⟨k, v⟩ := c
    show (Tab.look ((k, f k v) :: Tab.mapVals t f) n) = (Tab.look ((k, v) :: t) n).map (f n)
    unfold Tab.look
    split
    · subst ‹n = k›
      rfl
    · split
      · rfl
      · exact ih

theorem length_setBytes (bs : List Byte) (off : Nat) (xs : List Byte) : (setBytes bs off xs).length = bs.length := by
  simp only [setBytes, List.length_append, List.length_take, List.length_drop]
  omega

@[simp] theorem Dev.ringAt_updRing_same (d : Dev) (r : Nat) (f : RingSt → RingSt) : (d.updRing r f).ringAt r = f (d.ringAt r) := Tab.lookD_put_same ..

section
variable {d : Dev} {r f : Nat}

theorem Dev.ringFetch_idle (ho : d.ringOwner r = some f) (h : (d.ringAt r).state ≠ 1 ∨
    min (idxSub (d.ringAt r).prod (d.ringAt r).nextFetch) ((d.ringAt r).size - (d.ringAt r).nextFetch % (d.ringAt r).size) = 0 ∨ d.fnCan f = false) : d.ringFetch r = d := by
  unfold Dev.ringFetch
  rw [ho]
  refine if_pos ?_
  rcases h with h | h | h <;> simp [h]

/-- A fetch that its ring may make, of a ring whose entries are read each time. -/
theorem Dev.ringFetch_reads {e : Dev} {n : Nat} (ho : d.ringOwner r = some f)
    (hn : min (idxSub (d.ringAt r).prod (d.ringAt r).nextFetch) ((d.ringAt r).size - (d.ringAt r).nextFetch % (d.ringAt r).size) = n)
    (hst : (d.ringAt r).state = 1) (hkind : (d.ringAt r).kind ≠ 3) (hfree : (d.ringAt r).fetching = none) (hsome : n ≠ 0) (himg : d.flag IMG_STATUS IMG_STATUS_NO_IMAGE = false)
    (hcan : d.fnCan f = true) (hco : (d.ringAt r).coherent = false) (hread : d.fnRead f (descUnit r) (d.ringAt r).roDefault ((d.ringAt r).slot (d.ringAt r).nextFetch) (32 * n) = some e) :
    d.ringFetch r = e.updRing r fun x => { x with fetching := some (x.nextFetch, n), nextFetch := (x.nextFetch + n) % 65536 } := by
  unfold Dev.ringFetch
  rw [ho]
  dsimp only
  rw [hn, if_neg (by simp [hst, hkind, hfree, hsome, himg, hcan]), hco, if_neg Bool.false_ne_true, hread]

section
variable {i n : Nat} {ls : List Byte} (ho : d.ringOwner r = some f) (hfetch : (d.ringAt r).fetching = some (i, n)) (hco : (d.ringAt r).coherent = false)
include ho hfetch hco

theorem Dev.ringArrival_waits (ha : d.arrived.look (descUnit r) = none) : d.ringArrival r ls = d := by
  unfold Dev.ringArrival
  dsimp only
  rw [hfetch, ho, hco]
  dsimp only
  rw [if_neg Bool.false_ne_true, ha]

theorem Dev.ringArrival_error (hst : (d.ringAt r).state = 1) (hcap : (d.ringAt r).captured = []) (ha : d.arrived.look (descUnit r) = some none) :
    d.ringArrival r ls = ((d.setArrived (d.arrived.del (descUnit r))).updRing r fun x => { x with fetching := none }).ringError r 5 i := by
  unfold Dev.ringArrival
  dsimp only
  rw [hfetch, ho, hco]
  dsimp only
  rw [if_neg Bool.false_ne_true, ha]
  dsimp only
  rw [hst, hcap]
  rfl

theorem Dev.ringArrival_captures {b : List Byte} (hst : (d.ringAt r).state = 1) (hkind : (d.ringAt r).kind ≠ 1) (ha : d.arrived.look (descUnit r) = some (some b))
    (hgood : (((List.range n).map fun k => ((i + k) % 65536, bytesAt b (32 * k) 32)).all fun e => rxReservedOk e.2) = true) :
    d.ringArrival r ls = (((d.setArrived (d.arrived.del (descUnit r))).updRing r fun x => { x with fetching := none }).count (rgmCnt 0) n).updRing r fun x =>
      { x with captured := x.captured ++ (List.range n).map fun k => ((i + k) % 65536, bytesAt b (32 * k) 32) } := by
  have hnone : ((List.range n).map fun k => ((i + k) % 65536, bytesAt b (32 * k) 32)).find? (fun e => !rxReservedOk e.2) = none := by
    rw [List.find?_eq_none]
    intro e he
    rw [List.all_eq_true.mp hgood e he]
    exact Bool.false_ne_true
  unfold Dev.ringArrival
  dsimp only
  rw [hfetch, ho, hco]
  dsimp only
  rw [if_neg Bool.false_ne_true, ha]
  dsimp only
  rw [hst, if_neg (by decide), if_neg hkind, hnone]

end

theorem Dev.txDataDone_noChain (h : (d.ringAt r).chains = []) : d.txDataDone r = d := by
  unfold Dev.txDataDone
  rw [h]
  split
  · cases ‹List.find? _ [] = some _›
  · rfl

section
variable {c : TxChain} (ho : d.ringOwner r = some f) (hc : ((d.ringAt r).chains.find? fun c => decide (c.stage ≤ 1)) = some c)
include ho hc

theorem Dev.txDataDone_unissued (hst : c.stage = 0) : d.txDataDone r = d.issueData f r := by
  unfold Dev.txDataDone
  rw [ho, hc]
  exact if_pos hst

/-- A chain whose reads are out, `p` being what each brought. -/
theorem Dev.txDataDone_waits (hst : c.stage = 1) (h : ∃ k, k < c.bufs.length ∧ d.arrived.look (dataUnit c.id k) = none) : d.txDataDone r = d := by
  obtain ⟨k, hk, hnone⟩ := h
  unfold Dev.txDataDone
  rw [ho, hc]
  dsimp only
  rw [if_neg (by simp [hst]), if_pos]
  rw [List.any_eq_true]
  exact ⟨none, List.mem_map.mpr ⟨k, List.mem_range.mpr hk, hnone⟩, rfl⟩

theorem Dev.txDataDone_error (hst : c.stage = 1) (hall : ∀ k, k < c.bufs.length → (d.arrived.look (dataUnit c.id k)).isSome = true)
    (hbad : ∃ k, k < c.bufs.length ∧ d.arrived.look (dataUnit c.id k) = some none) :
    let clear : Dev := d.each (List.range c.bufs.length) fun d k => d.setArrived (d.arrived.del (dataUnit c.id k))
    let put (st : Nat) (d : Dev) : Dev := d.updRing r fun x => { x with chains := x.chains.map fun y => if y.id = c.id then { y with stage := st } else y }
    d.txDataDone r = if c.ts then (put 2 (clear.count (rgmCnt 3))).txWriteback r c.id 2 0 else (put 3 (clear.count (rgmCnt 3))).headMoves r := by
  intro clear put
  obtain ⟨k, hk, hnone⟩ := hbad
  unfold Dev.txDataDone
  rw [ho, hc]
  dsimp only
  rw [if_neg (by simp [hst]), if_neg, if_pos]
  · rw [List.any_eq_true]
    exact ⟨some none, List.mem_map.mpr ⟨k, List.mem_range.mpr hk, hnone⟩, rfl⟩
  · rw [List.any_eq_true]
    rintro ⟨p, hp, hpn⟩
    obtain ⟨j, hj, rfl⟩ := List.mem_map.mp hp
    have := hall j (List.mem_range.mp hj)
    cases hlook : d.arrived.look (dataUnit c.id j) <;> simp_all

theorem Dev.txDataDone_frame (hst : c.stage = 1) {p : Nat → List Byte} (hall : ∀ k, k < c.bufs.length → d.arrived.look (dataUnit c.id k) = some (some (p k)))
    (hon : d.sliceOn (d.ringSlice (d.slotFor c.fetched) r) = true) :
    let clear : Dev := d.each (List.range c.bufs.length) fun d k => d.setArrived (d.arrived.del (dataUnit c.id k))
    let put (st : Nat) (d : Dev) : Dev := d.updRing r fun x => { x with chains := x.chains.map fun y => if y.id = c.id then { y with stage := st } else y }
    let e := (clear.count (rgmCnt 1)).newFrame (hostFrame d f r c ((List.range c.bufs.length).flatMap p))
    d.txDataDone r = (if c.ts then put 2 e else (put 3 e).headMoves r).issueData f r := by
  intro clear put e
  have hparts : ((List.range c.bufs.length).map fun k => d.arrived.look (dataUnit c.id k)) = (List.range c.bufs.length).map fun k => some (some (p k)) :=
    List.map_congr_left fun k hk => hall k (List.mem_range.mp hk)
  unfold Dev.txDataDone
  rw [ho, hc]
  dsimp only
  rw [hparts, hon, if_neg (by simp [hst]), if_neg (by simp), if_neg (by simp), if_neg (by simp), List.flatMap_map]
  rfl

end

theorem Dev.rxDelivery_empty (h : (d.ringAt r).rxq = []) : d.rxDelivery r = d := by
  unfold Dev.rxDelivery
  dsimp only
  rw [h]

/-- A slot's write keeps what its ring has captured, delivered and published. -/
theorem Dev.ringAt_slotWrite (d : Dev) (g r i off : Nat) (ro : Bool) (data : List Byte) :
    ((d.slotWrite g r i off ro data).ringAt r).head = (d.ringAt r).head ∧ ((d.slotWrite g r i off ro data).ringAt r).captured = (d.ringAt r).captured := by
  have h : (d.slotWrite g r i off ro data).ringAt r = (d.updRing r fun x => { x with held := x.held.filter fun h => h.addr != (d.ringAt r).slot i / 64 * 64 }).ringAt r := rfl
  rw [h, Dev.ringAt_updRing_same]
  exact ⟨rfl, rfl⟩

/-- The `n` slots of a delivery of the bytes `b` written (R394). -/
def Dev.slotsFilled (d : Dev) (f r n : Nat) (x : RingSt) (q : Deliv) (b : List Byte) : Dev :=
  d.each (List.range n) fun d k =>
    (d.fnWrite f x.roDefault (leAt ((x.captured.take n).getD k (0, [])).2 0 8) ((b.drop (k * x.bufBytes)).take x.bufBytes)).slotWrite f r ((x.captured.take n).getD k (0, [])).1 0 x.roDefault
      (rxSlotBytes q b.length k n x.bufBytes b.length)

theorem Dev.ringAt_slotsFilled (d : Dev) (f r n : Nat) (x : RingSt) (q : Deliv) (b : List Byte) :
    ((d.slotsFilled f r n x q b).ringAt r).head = (d.ringAt r).head ∧ ((d.slotsFilled f r n x q b).ringAt r).captured = (d.ringAt r).captured := by
  unfold Dev.slotsFilled
  exact ⟨Dev.each_kept (fun d => (d.ringAt r).head) (fun d k => (Dev.ringAt_slotWrite (d.fnWrite f x.roDefault _ _) f r _ 0 _ _).1) d _,
    Dev.each_kept (fun d => (d.ringAt r).captured) (fun d k => (Dev.ringAt_slotWrite (d.fnWrite f x.roDefault _ _) f r _ 0 _ _).2) d _⟩

/-- A delivery of `n` slots done: it is no longer waiting, HEAD moves and waits to be published. -/
def Dev.delivered (d : Dev) (r : Nat) (q : Deliv) (n : Nat) (rest : List Deliv) : Dev :=
  (((((d.updRing r fun x => { x with rxq := rest }).updRing r fun x => { x with captured := x.captured.drop n, head := (x.head + n) % 65536 }).pubWaits r 1).count (rgmCnt 2)).count
    (prsCnt q.slice 6))

theorem Dev.ringAt_delivered (d : Dev) (r : Nat) (q : Deliv) (n : Nat) (rest : List Deliv) :
    (d.delivered r q n rest).ringAt r = { d.ringAt r with
      rxq := rest
      captured := (d.ringAt r).captured.drop n
      head := ((d.ringAt r).head + n) % 65536
      pubWait := true
      evWait := setBit (d.ringAt r).evWait 1 true } := by
  have h (e : Dev) (a b : Nat) : ((e.count a).count b).ringAt r = e.ringAt r := rfl
  unfold Dev.delivered Dev.pubWaits
  rw [h, Dev.ringAt_updRing_same, Dev.ringAt_updRing_same, Dev.ringAt_updRing_same]
  rfl

theorem Dev.delivBytes_length {q : Deliv} (hq : q.frame = none) (d : Dev) : (d.delivBytes q).length = q.bytes.length := by
  unfold Dev.delivBytes
  rw [hq]
  exact length_setBytes ..

section
variable {q : Deliv} {rest : List Deliv} (ho : d.ringOwner r = some f) (hrxq : (d.ringAt r).rxq = q :: rest) (hq : q.frame = none)
include ho hrxq hq

theorem Dev.rxDelivery_short (hshort : (d.ringAt r).captured.length < (d.ringAt r).slotsFor q.bytes.length) : d.rxDelivery r = d := by
  unfold Dev.rxDelivery
  dsimp only
  rw [hrxq, ho]
  dsimp only
  rw [if_neg (by simp [hq]), Dev.delivBytes_length hq]
  exact if_pos (by simp [hshort])

/-- A delivery that its ring has slots for fills them, and then its ring moves on. -/
theorem Dev.rxDelivery_room (hst : (d.ringAt r).state = 1) (hroom : (d.ringAt r).slotsFor q.bytes.length ≤ (d.ringAt r).captured.length) (hcan : d.fnCan f = true) :
    d.rxDelivery r = (d.slotsFilled f r ((d.ringAt r).slotsFor q.bytes.length) (d.ringAt r) q (d.delivBytes q)).delivered r q ((d.ringAt r).slotsFor q.bytes.length) rest := by
  unfold Dev.rxDelivery
  dsimp only
  rw [hrxq, ho]
  dsimp only
  rw [if_neg (by simp [hq]), Dev.delivBytes_length hq, if_neg (by simp [hst, hcan, hroom]), hq]
  unfold Dev.slotsFilled Dev.delivered
  rw [Dev.delivBytes_length hq]

/-- A delivery that its ring has slots for takes them and moves HEAD. -/
theorem Dev.rxDelivery_fills (hst : (d.ringAt r).state = 1) (hroom : (d.ringAt r).slotsFor q.bytes.length ≤ (d.ringAt r).captured.length) (hcan : d.fnCan f = true) :
    ((d.rxDelivery r).ringAt r).head = ((d.ringAt r).head + (d.ringAt r).slotsFor q.bytes.length) % 65536 ∧
    ((d.rxDelivery r).ringAt r).captured = (d.ringAt r).captured.drop ((d.ringAt r).slotsFor q.bytes.length) ∧ ((d.rxDelivery r).ringAt r).rxq = rest := by
  obtain ⟨hhead, hcap⟩ := d.ringAt_slotsFilled f r ((d.ringAt r).slotsFor q.bytes.length) (d.ringAt r) q (d.delivBytes q)
  rw [Dev.rxDelivery_room ho hrxq hq hst hroom hcan, Dev.ringAt_delivered, hhead, hcap]
  exact ⟨rfl, rfl, rfl⟩

end

/-- With no write-back held, a publication's retry does nothing. -/
theorem Dev.wbRetry_none (h : ((d.ringAt r).chains.all fun c => c.wb.isNone) = true) : d.wbRetry r = d := by
  refine Dev.each_kept_of_mem id _ (fun c hc e => ?_) d
  have hwb := List.all_eq_true.mp h c hc
  cases hw : c.wb with
  | none => rfl
  | some x =>
    rw [hw] at hwb
    cases hwb

theorem Dev.publish_idle (ho : d.ringOwner r = some f) (h : (d.ringAt r).pubWait = false ∨ d.fnCan f = false) : d.publish r = d := by
  unfold Dev.publish
  rw [ho]
  refine if_pos ?_
  rcases h with h | h <;> simp [h]

theorem Dev.publish_waiting (ho : d.ringOwner r = some f) (hw : (d.ringAt r).pubWait = true) (hcan : d.fnCan f = true) :
    let x := d.ringAt r
    let e := (d.updRing r fun x => { x with pubWait := false, evWait := 0 }).fnWrite f false x.pub (d.pubBlock f r)
    let e := if x.evWait.testBit 2 then e.postEvent f r 2 else e
    let e := if x.evWait.testBit 3 then e.postEvent f r 3 else e
    d.publish r = if x.evWait.testBit 1 && e.progressFree r then e.postEvent f r 1 else e := by
  intro x e e' e''
  unfold Dev.publish
  rw [ho]
  exact if_neg (by simp [hw, hcan])

/-! Writes of a function's control register (R376 to R380). -/

theorem Dev.pwrMode_tfCtl (d : Dev) (f : Nat) (v : Word) : (d.tfCtl f v).pwrMode = d.pwrMode := by
  unfold Dev.tfCtl
  extract_lets st was on en st1 bad st2 e
  split
  · rfl
  · split
    · rfl
    · split <;> rfl

theorem Dev.tfCtl_refused {v : Word} (h : (d.ctlMoves f v = true ∧ 1 < d.fnState f) ∨ (RGM_FUNC_CTL_ENABLE.get v ≠ 1 ∧ d.liveRings f ≠ []) ∨
    (RGM_FUNC_CTL_ASSIGNED.get v ≠ 1 ∧ 1 < d.fnState f)) : d.tfCtl f v = d.fnRefuse f := by
  refine if_pos ?_
  rcases h with ⟨h, h'⟩ | ⟨h, h'⟩ | ⟨h, h'⟩
  · simp [h, h']
  · simp [h, h']
  · have h0 : d.fnState f ≠ 0 := by omega
    have h1 : d.fnState f ≠ 1 := by omega
    simp [h, h0, h1]

end

/-- A heard access that may end the running. -/
theorem finSM_ended {s : State} {src : Src} (h : s.hears src) (a : Nat) (t : State) : finSM s src a t = .next t.ended := by
  have hm := mode_of_runs h.1
  unfold finSM
  rw [if_neg (by simp [h.2, hm]), if_pos h.1, finM_ended]

theorem State.funcCtl_refused {s : State} {src : Src} {f : Nat} (h : s.mayFunc src f = false) (v : Word) : s.funcCtl src f v = s.onDev fun d => d.count (rgmCnt 14) := if_pos (by simp [h])

theorem State.funcCtl_tf {s : State} {src : Src} {f : Nat} {v : Word} (h : s.mayFunc src f = true) (hf : f < 4096) (hv : RGM_FUNC_CTL_RESET.get v = 0) :
    s.funcCtl src f v = s.onDev fun d => d.tfCtl f v := by
  unfold State.funcCtl
  rw [if_neg (by simp [h]), if_neg (Nat.not_le.mpr hf), if_neg (by simp [hv])]

theorem State.funcCtl_reset {s : State} {src : Src} {f : Nat} (h : s.mayFunc src f = true) (hf : f < 4096) : s.funcCtl src f 4 = s.fnReset f := by
  unfold State.funcCtl
  rw [if_neg (by simp [h]), if_neg (Nat.not_le.mpr hf), if_pos (by decide)]

end Sys2Proof.Machine

/-- Settles O51: one equation per event and outcome of a ring, and the cases of a function's control register. -/
theorem ringsAndFunctions : Obligations.RingsAndFunctions := by
  intro s hr
  refine ⟨?_, ?_, ?_, ?_, ?_, ?_⟩
  · intro r f ho x n
    refine ⟨fun hst hkind hfree hsome himg hcan hco d hread => fin_of_runs hr (Dev.ringFetch_reads ho rfl hst hkind hfree hsome himg hcan hco hread),
      fun h => fin_of_runs hr (Dev.ringFetch_idle ho h), ?_, fun h => fin_of_runs hr (Dev.txDataDone_noChain h), ?_, fun h => fin_of_runs hr (Dev.rxDelivery_empty h), ?_, ?_, ?_⟩
    · intro i n ls hfetch hco d
      exact ⟨fun ha => fin_of_runs hr (Dev.ringArrival_waits ho hfetch hco ha), fun hst hcap ha => fin_of_runs hr (Dev.ringArrival_error ho hfetch hco hst hcap ha),
        fun b hst hkind ha hgood => fin_of_runs hr (Dev.ringArrival_captures ho hfetch hco hst hkind ha hgood)⟩
    · intro c hc
      refine ⟨fun hst => fin_of_runs hr (Dev.txDataDone_unissued ho hc hst), fun hst => ?_⟩
      intro clear put
      exact ⟨fun p hall hon => fin_of_runs hr (Dev.txDataDone_frame ho hc hst hall hon), fun hall hbad => fin_of_runs hr (Dev.txDataDone_error ho hc hst hall hbad),
        fun h => fin_of_runs hr (Dev.txDataDone_waits ho hc hst h)⟩
    · intro q rest hrxq hq hst n
      refine ⟨fun h => fin_of_runs hr (Dev.rxDelivery_short ho hrxq hq h), fun h hcan => ?_⟩
      obtain ⟨hhead, hcap, hrx⟩ := Dev.rxDelivery_fills ho hrxq hq hst h hcan
      exact ⟨_, fin_eq_of_runs hr _, hhead, hcap, hrx⟩
    · intro hwb
      have hretry := Dev.wbRetry_none (d := s.toDev) hwb
      refine ⟨fun h => fin_of_runs hr ?_, fun hw hcan => fin_of_runs hr ?_⟩
      · rw [hretry]
        exact Dev.publish_idle ho h
      · rw [hretry]
        exact Dev.publish_waiting ho hw hcan
    · intro hcan
      refine fin_of_runs hr ?_
      rw [ho]
      exact if_pos hcan
  · intro p a r
    exact ⟨_, fin_eq_of_runs hr _, Tab.look_mapVals _ _ _⟩
  · intro src tf v h hfr
    have hh : s.hears src := ⟨hr, hfr⟩
    refine ⟨fun hmay => ⟨?_, ?_⟩, fun hmay => ⟨fun hv => ?_, fun hst => ?_, fun hst => ?_⟩⟩
    · show finSM s src _ (s.funcCtl src tf.val v) = _
      rw [State.funcCtl_refused hmay]
      exact finSM_eq_of_hears hh _ hr
    · show finSM s src _ (s.funcCtl src tf.val 4) = _
      rw [State.funcCtl_refused hmay]
      exact finSM_eq_of_hears hh _ hr
    · show finSM s src _ (s.funcCtl src tf.val v) = _
      rw [State.funcCtl_tf hmay tf.isLt hv]
      exact finSM_became hh _ (Dev.pwrMode_tfCtl ..) rfl
    · show finSM s src _ (s.funcCtl src tf.val 4) = _
      rw [State.funcCtl_reset hmay tf.isLt, State.fnReset, if_neg (by rcases hst with h | h <;> simp [h])]
      exact finSM_eq_of_hears hh _ hr
    · intro e
      show finSM s src _ (s.funcCtl src tf.val 4) = _
      rw [State.funcCtl_reset hmay tf.isLt, State.fnReset, if_pos (by simp [hst]), finSM_ended hh]
      simp only [if_neg (Nat.not_le.mpr tf.isLt)]
      rfl
  · intro d f v
    refine ⟨fun hen hlive => Dev.tfCtl_refused (.inr (.inl ⟨hen, hlive⟩)), fun has hst => Dev.tfCtl_refused (.inr (.inr ⟨has, hst⟩)), fun hm hst => Dev.tfCtl_refused (.inl ⟨hm, hst⟩), fun hv hm => ?_⟩
    have hgo : d.pfCtl f v = if d.pfFixed f || !d.ringsFit f (RGM_FUNC_CTL_RING_BASE.get v) (RGM_FUNC_CTL_RING_COUNT.get v) then d.fnRefuse f else d.setCtl f v := if_neg (by simp [hv, hm])
    refine ⟨fun hfix hfit => hgo.trans (if_neg (by simp [hfix, hfit])), fun h => hgo.trans (if_pos ?_)⟩
    rcases h with h | h <;> simp [h]
  · intro fn
    refine ⟨fun h => fin_of_runs hr (if_neg ?_), fun h h' => fin_of_runs hr (if_pos (by simp [h, h']))⟩
    rcases h with h | h <;> simp [h]
  · intro src p tf hfr
    have hh : s.hears src := ⟨hr, hfr⟩
    have key : exec (.medNotify src p tf) s = .next (s.settled (s.toDev.medNotify src p.val tf.val)) := finW_eq_of_hears hh _ _
    refine ⟨fun h => next_settled_congr key (if_pos ?_), fun hmay hst hpf hcount => next_settled_congr key ?_⟩
    · rcases h with h | h <;> simp [h]
    · unfold Dev.medNotify
      rw [if_neg (by simp [hmay, hst, hpf]), if_neg hcount]
end

section
open Sys2Proof Sys2Proof.Machine
namespace Sys2Proof.Machine

/-! Metering epochs, their blocks and the sketch (16 R442 to R450). -/

theorem finK_of_runs {s : State} (h : s.runs = true) {d e : Dev} (hd : d = e) : finK s d = .next (s.settled e) := hd ▸ finK_eq_of_runs h d

theorem Dev.epochPlan_old (d : Dev) (o : MtrEpoch) : (d.epochPlan o).old = o := by
  unfold Dev.epochPlan
  dsimp only
  split <;> rfl

/-- Where no boundary has passed, the next one is the old epoch's end. -/
theorem EpochPlan.passed_none {p : EpochPlan} {now : Nat} (h : (p.passed now).1 = 0) : (p.passed now).2.2 = p.old.stop := by
  unfold EpochPlan.passed at *
  dsimp only at *
  obtain ⟨h0, h1⟩ := Nat.add_eq_zero_iff.mp h
  rw [h0, Nat.zero_mul, Nat.add_zero] at h1 ⊢
  rw [h1, Nat.zero_mul, Nat.add_zero]

theorem Dev.mtrOpens_kept (d : Dev) (p : EpochPlan) (e : MtrEpoch) :
    (d.mtrOpens p e).mtrOpen = e ∧ (d.mtrOpens p e).mtrOld = d.mtrOld ∧ (d.mtrOpens p e).mtrBlocks = d.mtrBlocks := by
  unfold Dev.mtrOpens
  extract_lets d1 d2
  have h1 : d1.mtrOpen = e ∧ d1.mtrOld = d.mtrOld ∧ d1.mtrBlocks = d.mtrBlocks := by
    unfold d1 Dev.onlyIf
    split <;> exact ⟨rfl, rfl, rfl⟩
  exact h1

/-- An epoch's end that no later boundary has passed keeps it for its grace and opens the next. -/
theorem Dev.epochEnds_plain {d : Dev} (h : ((((d.cxlSync d.mtrOpen.stop).graceEnd).epochPlan ((d.cxlSync d.mtrOpen.stop).graceEnd).mtrOpen).passed ((d.cxlSync d.mtrOpen.stop).graceEnd).now).1 = 0) :
    d.epochEnds.mtrOld = some ((d.cxlSync d.mtrOpen.stop).graceEnd).mtrOpen ∧ d.epochEnds.mtrOpen.start = ((d.cxlSync d.mtrOpen.stop).graceEnd).mtrOpen.stop ∧ d.epochEnds.mtrOpen.cnt = [] ∧
    d.epochEnds.mtrBlocks = ((d.cxlSync d.mtrOpen.stop).graceEnd).mtrBlocks := by
  unfold Dev.epochEnds
  generalize (d.cxlSync d.mtrOpen.stop).graceEnd = e at h ⊢
  have hnext := (EpochPlan.passed_none h).trans (congrArg MtrEpoch.stop (e.epochPlan_old e.mtrOpen))
  dsimp only
  generalize ((e.epochPlan e.mtrOpen).passed e.now) = k at h hnext ⊢
  obtain ⟨k, last, next⟩ := k
  dsimp only at h hnext ⊢
  rw [if_pos h]
  obtain ⟨hopen, hold, hblocks⟩ := Dev.mtrOpens_kept ((e.setMtrOld (some e.mtrOpen)).sketchSwap) (e.epochPlan e.mtrOpen) ((e.epochPlan e.mtrOpen).epochAt next e.assignedTfs)
  rw [hopen, hold, hblocks]
  exact ⟨rfl, hnext, rfl, rfl⟩

theorem Dev.graceEnd_none {d : Dev} (h : d.mtrOld = none) : d.graceEnd = d := by
  unfold Dev.graceEnd
  rw [h]

theorem Dev.graceEnd_early {d : Dev} {o : MtrEpoch} (h : d.mtrOld = some o) (ht : d.now < o.stop + 1000000) : d.graceEnd = d := by
  have hdone : d.graceDone = false := by
    unfold Dev.graceDone
    rw [h]
    simp [ht]
  unfold Dev.graceEnd
  rw [h, hdone]
  rfl

theorem Dev.graceEnd_over {d : Dev} {o : MtrEpoch} (h : d.mtrOld = some o) (ht : o.stop + 1000000 ≤ d.now) : d.graceEnd = (d.setMtrOld none).mtrClose 1 o := by
  have hdone : d.graceDone = true := by
    unfold Dev.graceDone
    rw [h]
    simp [ht]
  unfold Dev.graceEnd
  rw [h, hdone]
  exact if_pos rfl

/-- Counts of one epoch only are no merged ones. -/
theorem Dev.onlyIf_one {n : Nat} (hn : n = 1) (d : Dev) (f : Dev → Dev) : d.onlyIf (decide (1 < n)) f = d := by
  rw [Dev.onlyIf, if_neg]
  simp [hn]

/-- Closing one epoch, no counts held, with room in the buffer. The closing and the check of the room are generalised, so that nothing evaluates them. -/
theorem Dev.mtrClose_room {d e : Dev} {o : MtrEpoch} (hheld : d.mtrHeld = none) (hroom : d.mtrRoom (o.tfs.length + 64) = (e, true)) :
    d.mtrClose 1 o = (((e.setMtrBlocks (e.mtrBlocks ++ [⟨(e.mtrBlockOf 1 o).1, none⟩])).setMtrRoot (some (e.mtrBlockOf 1 o).2)).setMtrHeld none).mtrShow := by
  generalize hf : @Dev.mtrClose = f
  delta Dev.mtrClose at hf
  subst hf
  generalize Dev.mtrRoom = room at hroom ⊢
  generalize Dev.mtrBlockOf = block
  dsimp -iota -zeta only
  extract_lets h
  have hh : h = ⟨1, o⟩ := by
    unfold h
    rw [hheld]
  clear_value h
  subst hh
  have hroom' : room d ((⟨1, o⟩ : MtrHeld).e.tfs.length + 2 + 62) = (e, true) := hroom
  rw [hroom']
  refine (if_pos rfl).trans ?_
  exact congrArg Dev.mtrShow (Dev.onlyIf_one rfl _ _)

theorem Dev.mtrClose_full {d e : Dev} {o : MtrEpoch} (hheld : d.mtrHeld = none) (hroom : d.mtrRoom (o.tfs.length + 64) = (e, false)) :
    d.mtrClose 1 o = ((e.setMtrHeld (some ⟨1, o⟩)).setF MTR_STATUS MTR_STATUS_BUF_FULL 1).mtrShow := by
  generalize hf : @Dev.mtrClose = f
  delta Dev.mtrClose at hf
  subst hf
  generalize Dev.mtrRoom = room at hroom ⊢
  generalize Dev.mtrBlockOf = block
  dsimp -iota -zeta only
  extract_lets h
  have hh : h = ⟨1, o⟩ := by
    unfold h
    rw [hheld]
  clear_value h
  subst hh
  have hroom' : room d ((⟨1, o⟩ : MtrHeld).e.tfs.length + 2 + 62) = (e, false) := hroom
  rw [hroom']
  exact if_neg Bool.false_ne_true

/-- The first block without a signature gets it. -/
theorem signFirst_append (sig : List Byte → List Byte) {a : List MtrBlock} (ha : ∀ x ∈ a, x.sig.isSome = true) {b : MtrBlock} (hb : b.sig = none) (c : List MtrBlock) :
    signFirst sig (a ++ b :: c) = a ++ { b with sig := some (sig (b.recs.getLastD [])) } :: c := by
  induction a with
  | nil => exact if_pos (by rw [hb]; rfl)
  | cons x a ih =>
    have hx := ha x List.mem_cons_self
    exact (if_neg (by rw [Option.isNone_eq_false_iff.mpr hx]; exact Bool.false_ne_true)).trans (congrArg (x :: ·) (ih fun y hy => ha y (List.mem_cons_of_mem _ hy)))

theorem Dev.blockPublish_empty {d : Dev} (h : d.mtrBlocks = []) : d.blockPublish = d := by
  unfold Dev.blockPublish
  rw [h]

theorem Dev.blockPublish_idle {d : Dev} {b : MtrBlock} {rest : List MtrBlock} (h : d.mtrBlocks = b :: rest) (hno : b.sig = none ∨ d.flag MTR_RING_CFG MTR_RING_CFG_EN = false) : d.blockPublish = d := by
  unfold Dev.blockPublish
  rw [h]
  dsimp only
  split
  · rfl
  next g hg =>
    rcases hno with hno | hno
    · rw [hno] at hg
      cases hg
    · exact if_pos (by simp [hno])

/-- A signed block that the enabled ring has room for leaves the buffer, and PROD moves by its slots. -/
theorem Dev.blockPublish_room {d : Dev} {b : MtrBlock} {rest : List MtrBlock} {g : List Byte} (h : d.mtrBlocks = b :: rest) (hg : b.sig = some g) (hen : d.flag MTR_RING_CFG MTR_RING_CFG_EN = true)
    (hcan : d.fnCan (4096 + d.fld MTR_RING_CFG MTR_RING_CFG_PF) = true)
    (hroom : idxSub (d.fld MTR_RING_PROD MTR_RING_PROD_PROD) (d.fld MTR_RING_CONS MTR_RING_CONS_CONS) + b.slots ≤ 2 ^ d.fld MTR_RING_CFG MTR_RING_CFG_SIZE_LOG2) :
    d.blockPublish.mtrBlocks = rest ∧ d.blockPublish.fld MTR_RING_PROD MTR_RING_PROD_PROD = (d.fld MTR_RING_PROD MTR_RING_PROD_PROD + b.slots) % 65536 := by
  unfold Dev.blockPublish
  rw [h]
  dsimp -zeta only
  rw [hg]
  dsimp -zeta only
  extract_lets f n p base tail d1 q d2
  rw [if_neg (by simp [hen, f, p, n, hcan, hroom])]
  have hne : MTR_RING_PROD.addr ≠ MTR_STATUS.addr := by decide
  have h2 : d2.fld MTR_RING_PROD MTR_RING_PROD_PROD = q % 65536 := Dev.fld_setF_same (by decide) _ _ q
  clear_value d2
  refine ⟨rfl, ?_⟩
  unfold Dev.mtrShow
  rw [Dev.fld_setF_other _ _ _ _ _ _ hne, Dev.fld_setF_other _ _ _ _ _ _ hne, Dev.fld_setF_other _ _ _ _ _ _ hne, Dev.fld_setF_other _ _ _ _ _ _ hne]
  exact h2.trans (Nat.mod_mod _ _)

end Sys2Proof.Machine

/-- Settles O54: one equation per event and outcome. -/
theorem metering : Obligations.Metering := by
  intro s hr
  refine ⟨fun h => finK_of_runs hr ?_, fun h => finK_of_runs hr ?_, fun d => Dev.epochEnds_plain, fun h => finK_of_runs hr (Dev.graceEnd_none h), ?_, ?_, ?_,
    fun h => finK_of_runs hr (Dev.blockPublish_empty h), ?_, ?_⟩
  · rw [h]
    rfl
  · rw [h]
    rfl
  · intro o ho
    exact ⟨fun ht => finK_of_runs hr (Dev.graceEnd_early ho ht), fun ht => finK_of_runs hr (Dev.graceEnd_over ho ht)⟩
  · intro d e o hheld
    exact ⟨Dev.mtrClose_room hheld, Dev.mtrClose_full hheld⟩
  · intro a b c hblocks ha hb
    refine finK_of_runs hr ?_
    rw [hblocks, signFirst_append _ ha hb]
  · intro b rest hblocks
    refine ⟨fun h => finK_of_runs hr (Dev.blockPublish_idle hblocks h), fun g hg hen hcan hroom => ?_⟩
    obtain ⟨hrest, hprod⟩ := Dev.blockPublish_room hblocks hg hen hcan hroom
    exact ⟨_, finK_eq_of_runs hr _, hrest, hprod⟩
  · intro src sl v hfr hon r d t n col
    have key : exec (.sketchQuery src sl v) s = .next (s.settled (s.toDev.sketchQuery sl.val v)) := finSW_eq_of_hears ⟨⟨hr, hfr⟩, hon⟩ _ _
    refine ⟨fun hgo => next_settled_congr key (if_pos hgo), fun hgo => next_settled_congr key ?_⟩
    unfold Dev.sketchQuery
    dsimp only
    exact if_neg (by rw [hgo]; decide)
end

section
open Sys2Proof Sys2Proof.Machine
namespace Sys2Proof.Machine

/-! The mailbox channels' FIFOs (17 R456 to R464). -/

/-- Folding a change of one place at a time over places that differ changes each of them once. -/
theorem Dev.each_point {β : Type} (g : Dev → Nat → β) (F : β → β) {f : Dev → Nat → Dev} (l : List Nat)
    (hsame : ∀ c ∈ l, ∀ d, g (f d c) c = F (g d c)) (hother : ∀ c ∈ l, ∀ d e, e ≠ c → g (f d c) e = g d e) (hl : l.Nodup) (d : Dev) (e : Nat) :
    g (d.each l f) e = if e ∈ l then F (g d e) else g d e := by
  induction l generalizing d with
  | nil => rfl
  | cons c l ih =>
    obtain ⟨hc, hl⟩ := List.nodup_cons.mp hl
    have step := ih (fun c hc => hsame c (List.mem_cons_of_mem _ hc)) (fun c hc => hother c (List.mem_cons_of_mem _ hc)) hl (f d c)
    refine step.trans ?_
    by_cases h : e = c
    · subst h
      rw [if_neg hc, if_pos List.mem_cons_self, hsame e List.mem_cons_self]
    · rw [hother c List.mem_cons_self d e h]
      simp [h]

/-- Folding steps that each leave the device as it was leaves it as it was. -/
theorem Dev.each_id {α : Type} {f : Dev → α → Dev} (d : Dev) (l : List α) (h : ∀ x ∈ l, f d x = d) : d.each l f = d := by
  induction l with
  | nil => rfl
  | cons x l ih =>
    show (f d x).each l f = d
    rw [h x List.mem_cons_self]
    exact ih fun y hy => h y (List.mem_cons_of_mem _ hy)

theorem Dev.msix_mailbox (d : Dev) (n v : Nat) : (d.msix n v).mbx = d.mbx ∧ (d.msix n v).sealWait = d.sealWait ∧ ∀ q, (d.msix n v).rd q = d.rd q := by
  unfold Dev.msix
  split <;> exact ⟨rfl, rfl, fun _ => rfl⟩

theorem mbxChStatus_addr_ne (c : Nat) {a : Nat} (h : a < 0x100000008) : (MBX_CH_STATUS c).addr ≠ a := by
  show 0x100000008 + c * 0x1000 ≠ a
  omega

/-- What an event of a channel may change: the channels, the waiting seals and every register but its status and MBX_EVENT stay; its status bit sets. -/
theorem Dev.mbEvent_spec (d : Dev) (c : Nat) (st ie ev : Fld) :
    (d.mbEvent c st ie ev).mbx = d.mbx ∧ (d.mbEvent c st ie ev).sealWait = d.sealWait ∧
    (∀ q : Reg, q.addr ≠ (MBX_CH_STATUS c).addr → q.addr ≠ MBX_EVENT.addr → (d.mbEvent c st ie ev).rd q = d.rd q) ∧
    (c < 6 → (d.mbEvent c st ie ev).rd (MBX_CH_STATUS c) = st.set 1 (d.rd (MBX_CH_STATUS c))) := by
  unfold Dev.mbEvent
  by_cases hc : 6 ≤ c
  · rw [if_pos hc]
    exact ⟨rfl, rfl, fun _ _ _ => rfl, fun h => absurd h (by omega)⟩
  · rw [if_neg hc]
    extract_lets d1 d2 r
    have h1 : ∀ q : Reg, q.addr ≠ (MBX_CH_STATUS c).addr → d1.rd q = d.rd q := fun q hq => Dev.rd_setF_other _ _ _ _ _ hq
    have hst : d1.rd (MBX_CH_STATUS c) = st.set 1 (d.rd (MBX_CH_STATUS c)) := Dev.rd_setF_same ..
    have h2 : d2.mbx = d.mbx ∧ d2.sealWait = d.sealWait ∧ ∀ q : Reg, q.addr ≠ MBX_EVENT.addr → d2.rd q = d1.rd q := by
      refine ⟨Dev.onlyIf_kept Dev.mbx (f := fun d => d.setBitF MBX_EVENT ev c true) (fun _ => rfl) d1 _,
        Dev.onlyIf_kept Dev.sealWait (f := fun d => d.setBitF MBX_EVENT ev c true) (fun _ => rfl) d1 _, fun q hq => Dev.onlyIf_kept (Dev.rd · q) (fun e => ?_) d1 _⟩
      exact Dev.rd_setF_other _ _ _ _ _ hq
    obtain ⟨hmbx, hseal, hrd⟩ := h2
    have hev : (MBX_CH_STATUS c).addr ≠ MBX_EVENT.addr := mbxChStatus_addr_ne c (by decide)
    split
    · obtain ⟨hm, hs, hr⟩ := d2.msix_mailbox (if c < 4 then c else d2.fld r MBX_CH_ROUTE_PF) (d2.fld r MBX_CH_ROUTE_VECTOR)
      unfold Dev.onlyIf
      split
      · exact ⟨hm.trans hmbx, hs.trans hseal, fun q hq he => (hr q).trans ((hrd q he).trans (h1 q hq)), fun _ => (hr _).trans ((hrd _ hev).trans hst)⟩
      · exact ⟨hmbx, hseal, fun q hq he => (hrd q he).trans (h1 q hq), fun _ => (hrd _ hev).trans hst⟩
    · exact ⟨rfl, rfl, fun q hq _ => h1 q hq, fun _ => hst⟩

/-- What a change of a channel's FIFOs leaves: the waiting seals and every register but the channel's status. -/
theorem Dev.updMb_kept (d : Dev) (c : Nat) (f : Mbx → Mbx) : (d.updMb c f).sealWait = d.sealWait ∧
    ∀ q : Reg, q.addr ≠ (MBX_CH_STATUS c).addr → (d.updMb c f).rd q = d.rd q := by
  unfold Dev.updMb Dev.mbShow
  split
  · exact ⟨rfl, fun _ _ => rfl⟩
  · refine ⟨rfl, fun q hq => ?_⟩
    rw [Dev.rd_setF_other _ _ _ _ _ hq, Dev.rd_setF_other _ _ _ _ _ hq]
    rfl

/-- RX_COUNT shows the words of the reply FIFO. -/
theorem Dev.rxCount_updMb (d : Dev) {c : Nat} (hc : c < 6) (f : Mbx → Mbx) :
    (d.updMb c f).fld (MBX_CH_STATUS c) MBX_CH_STATUS_RX_COUNT = (f (d.mb c)).rx.length % 64 := by
  have hmb : (d.setMbx (d.mbx.put c (f (d.mb c)))).mb c = f (d.mb c) := Dev.mb_setMbx_put ..
  unfold Dev.updMb Dev.mbShow
  rw [if_neg (by omega), Dev.fld_setF_disjoint (by decide), Dev.fld_setF_same (by decide), hmb]
  rfl

/-- A reply of words `w` that waits alone: it enters the reply FIFO whole, or waits on (R457). -/
def Mbx.replied (w : List Nat) (m : Mbx) : Mbx := if m.rx.length + w.length ≤ 32 then { m with rx := m.rx ++ w, out := [] } else { m with out := [w] }

theorem Dev.mbFlush_single (d : Dev) {c : Nat} (hc : c < 6) {w : List Nat} (hw : (d.mb c).out = [w]) :
    d.mbFlush c = if (d.mb c).rx.length + w.length ≤ 32 then
      (d.updMb c fun m => { m with rx := m.rx ++ w, out := m.out.tail }).mbEvent c MBX_CH_STATUS_RX_READY MBX_CH_CTRL_IE_RX MBX_EVENT_RX_READY else d := by
  unfold Dev.mbFlush
  rw [hw]
  show (if 6 ≤ c then _ else _) = _
  rw [if_neg (by omega), hw]
  simp

theorem Dev.mb_mbEvent (d : Dev) (c : Nat) (st ie ev : Fld) (e : Nat) : (d.mbEvent c st ie ev).mb e = d.mb e := by
  unfold Dev.mb
  rw [(d.mbEvent_spec c st ie ev).1]

/-- What the flush of a channel, whose one waiting reply is `w`, leaves. -/
theorem Dev.mbFlush_spec (d : Dev) {c : Nat} (hc : c < 6) {w : List Nat} (hw : (d.mb c).out = [w]) :
    (d.mbFlush c).mb c = (d.mb c).replied w ∧ (∀ e, e ≠ c → (d.mbFlush c).mb e = d.mb e) ∧ (d.mbFlush c).sealWait = d.sealWait ∧
    ∀ q : Reg, q.addr ≠ (MBX_CH_STATUS c).addr → q.addr ≠ MBX_EVENT.addr → (d.mbFlush c).rd q = d.rd q := by
  rw [d.mbFlush_single hc hw]
  unfold Mbx.replied
  split
  · obtain ⟨hs, hr⟩ := d.updMb_kept c fun m => { m with rx := m.rx ++ w, out := m.out.tail }
    obtain ⟨-, hes, her, -⟩ := (d.updMb c fun m => { m with rx := m.rx ++ w, out := m.out.tail }).mbEvent_spec c MBX_CH_STATUS_RX_READY MBX_CH_CTRL_IE_RX MBX_EVENT_RX_READY
    refine ⟨?_, fun e he => ?_, hes.trans hs, fun q hq hv => (her q hq hv).trans (hr q hq)⟩
    · rw [Dev.mb_mbEvent, Dev.mb_updMb_same, hw]
      rfl
    · rw [Dev.mb_mbEvent, Dev.mb_updMb_other _ _ _ _ he]
  · refine ⟨?_, fun _ _ => rfl, rfl, fun _ _ _ => rfl⟩
    rw [← hw]

/-- The reply to a channel on which none waits. -/
theorem Dev.mb_mbReply (d : Dev) {c : Nat} (hc : c < 6) (h st : Nat) (p : List Nat) (ho : (d.mb c).out = []) :
    (d.mbReply c h st p).mb c = ({ d.mb c with busy := false } : Mbx).replied ((h / 2 ^ 16 * 2 ^ 16 + st * 256 + p.length) :: p) := by
  unfold Dev.mbReply
  extract_lets w
  obtain ⟨hmb, -⟩ := (d.updMb c fun m => { m with out := m.out ++ [w :: p], busy := false }).mbFlush_spec hc (w := w :: p) (by rw [Dev.mb_updMb_same, ho]; rfl)
  rw [hmb, Dev.mb_updMb_same]
  rfl

/-- A reply that has room shows: RX_READY sets and RX_COUNT counts its words. -/
theorem Dev.mbReply_shows (d : Dev) {c : Nat} (hc : c < 6) (h st : Nat) (p : List Nat) (ho : (d.mb c).out = []) (hroom : (d.mb c).rx.length + (p.length + 1) ≤ 32) :
    (d.mbReply c h st p).flag (MBX_CH_STATUS c) MBX_CH_STATUS_RX_READY = true ∧
    (d.mbReply c h st p).fld (MBX_CH_STATUS c) MBX_CH_STATUS_RX_COUNT = (d.mb c).rx.length + (p.length + 1) := by
  unfold Dev.mbReply
  extract_lets w
  have hmb : (d.updMb c fun m => { m with out := m.out ++ [w :: p], busy := false }).mb c = { d.mb c with out := [w :: p], busy := false } := by
    rw [Dev.mb_updMb_same, ho]
    rfl
  rw [Dev.mbFlush_single _ hc (w := w :: p) (congrArg Mbx.out hmb), hmb, if_pos (c := _ + (w :: p).length ≤ 32) hroom]
  generalize hd : ((d.updMb c fun m => { m with out := m.out ++ [w :: p], busy := false }).updMb c fun m => { m with rx := m.rx ++ w :: p, out := m.out.tail }) = e
  have hcount : e.fld (MBX_CH_STATUS c) MBX_CH_STATUS_RX_COUNT = (d.mb c).rx.length + (p.length + 1) := by
    rw [← hd, Dev.rxCount_updMb _ hc, hmb]
    show (((d.mb c).rx ++ w :: p).length) % 64 = _
    rw [List.length_append]
    exact Nat.mod_eq_of_lt (by simp only [List.length_cons]; omega)
  have hst : (e.mbEvent c MBX_CH_STATUS_RX_READY MBX_CH_CTRL_IE_RX MBX_EVENT_RX_READY).rd (MBX_CH_STATUS c) = (e.setF (MBX_CH_STATUS c) MBX_CH_STATUS_RX_READY 1).rd (MBX_CH_STATUS c) :=
    ((e.mbEvent_spec c _ _ _).2.2.2 hc).trans (Dev.rd_setF_same ..).symm
  refine ⟨?_, ?_⟩
  · unfold Dev.flag Dev.fld
    rw [hst]
    exact bne_iff_ne.mpr (trans_ne (Dev.fld_setF_same (by decide) e _ 1) (by decide))
  · unfold Dev.fld
    rw [hst]
    exact (Dev.fld_setF_disjoint (by decide) e _ 1).trans hcount

/-- Requests at the head that are no bad command are not refused. -/
theorem Dev.mbRefuse_good (d : Dev) (c n : Nat) (h : ∀ w p, (d.mb c).front = some (w, p) → badCommand w = false) : d.mbRefuse c n = d := by
  cases n with
  | zero => rfl
  | succ n =>
    unfold Dev.mbRefuse
    split
    next w p hf => rw [h w p hf]; rfl
    next => rfl

/-- An abandoned channel is empty, with nothing in progress (R464). -/
theorem Dev.mb_mbAbandon (d : Dev) (c : Nat) : (d.mbAbandon c).mb c = ⟨[], [], [], false⟩ := by
  unfold Dev.mbAbandon
  extract_lets st e
  exact Dev.mb_updMb_same ..

theorem Dev.mbCtrl_abort (d : Dev) (c : Nat) {v : Word} (h : MBX_CH_CTRL_ABORT.get v = 1) : d.mbCtrl c v = (d.wr (MBX_CH_CTRL c) (v &&& 3)).mbAbandon c := by
  unfold Dev.mbCtrl Dev.onlyIf
  exact if_pos (by rw [h]; rfl)

theorem Dev.mbCtrl_plain (d : Dev) (c : Nat) {v : Word} (h : MBX_CH_CTRL_ABORT.get v = 0) : d.mbCtrl c v = d.wr (MBX_CH_CTRL c) (v &&& 3) := by
  unfold Dev.mbCtrl Dev.onlyIf
  exact if_neg (by rw [h]; decide)

/-! The watchdog's restart (17 R459). -/

/-- What a restart leaves of a channel: no request in progress and no reply waiting. -/
def Mbx.restarted (m : Mbx) : Mbx := { m with busy := false, out := [] }

/-- The notice enters a channel. -/
def Mbx.noticed (w : List Nat) (m : Mbx) : Mbx := ({ m with out := [w] } : Mbx).replied w

/-- Every channel restarts. -/
def Dev.mbRestart (d : Dev) : Dev := d.each (List.range 8) fun d c => d.updMb c fun m => { m with busy := false, out := [] }

/-- The notice `w` goes to channels 0 to 5. -/
def Dev.mbNotice (d : Dev) (w : List Nat) : Dev := d.each (List.range 6) fun d c => (d.updMb c fun m => { m with out := [w] }).mbFlush c

theorem Dev.mb_mbRestart (d : Dev) {c : Nat} (hc : c < 8) : d.mbRestart.mb c = (d.mb c).restarted := by
  have h := Dev.each_point Dev.mb Mbx.restarted (f := fun d c => d.updMb c fun m => { m with busy := false, out := [] }) (List.range 8)
    (fun c _ d => Dev.mb_updMb_same ..) (fun c _ d e he => Dev.mb_updMb_other _ _ _ _ he) List.nodup_range d c
  exact h.trans (if_pos (List.mem_range.mpr hc))

theorem Dev.mbRestart_kept (d : Dev) : d.mbRestart.sealWait = d.sealWait ∧ d.mbRestart.rd MBX_BOOT_STATUS = d.rd MBX_BOOT_STATUS :=
  ⟨Dev.each_kept Dev.sealWait (fun d c => (d.updMb_kept c _).1) _ _,
    Dev.each_kept (Dev.rd · MBX_BOOT_STATUS) (fun d c => (d.updMb_kept c _).2 _ (mbxChStatus_addr_ne c (by decide)).symm) _ _⟩

theorem Dev.mbNotice_step (d : Dev) (w : List Nat) {c : Nat} (hc : c < 6) :
    ((d.updMb c fun m => { m with out := [w] }).mbFlush c).mb c = (d.mb c).noticed w ∧
    (∀ e, e ≠ c → ((d.updMb c fun m => { m with out := [w] }).mbFlush c).mb e = d.mb e) ∧
    ((d.updMb c fun m => { m with out := [w] }).mbFlush c).sealWait = d.sealWait ∧
    ((d.updMb c fun m => { m with out := [w] }).mbFlush c).rd MBX_BOOT_STATUS = d.rd MBX_BOOT_STATUS := by
  have hmb : (d.updMb c fun m => { m with out := [w] }).mb c = { d.mb c with out := [w] } := Dev.mb_updMb_same ..
  obtain ⟨hs, hr⟩ := d.updMb_kept c fun m => { m with out := [w] }
  obtain ⟨hm, ho, hfs, hfr⟩ := (d.updMb c fun m => { m with out := [w] }).mbFlush_spec hc (w := w) (congrArg Mbx.out hmb)
  refine ⟨hm.trans (congrArg _ hmb), fun e he => (ho e he).trans (Dev.mb_updMb_other _ _ _ _ he), hfs.trans hs, ?_⟩
  have hst := (mbxChStatus_addr_ne c (a := MBX_BOOT_STATUS.addr) (by decide)).symm
  exact (hfr _ hst (by decide)).trans (hr _ hst)

theorem Dev.mb_mbNotice (d : Dev) (w : List Nat) (c : Nat) : (d.mbNotice w).mb c = if c < 6 then (d.mb c).noticed w else d.mb c := by
  have h := Dev.each_point Dev.mb (Mbx.noticed w) (f := fun d c => (d.updMb c fun m => { m with out := [w] }).mbFlush c) (List.range 6)
    (fun c hc d => (d.mbNotice_step w (List.mem_range.mp hc)).1) (fun c hc d => (d.mbNotice_step w (List.mem_range.mp hc)).2.1) List.nodup_range d c
  refine h.trans ?_
  simp only [List.mem_range]

theorem Dev.mbNotice_kept (d : Dev) (w : List Nat) : (d.mbNotice w).sealWait = d.sealWait ∧ (d.mbNotice w).rd MBX_BOOT_STATUS = d.rd MBX_BOOT_STATUS :=
  ⟨Dev.each_kept_of_mem Dev.sealWait _ (fun _ hc d => (d.mbNotice_step w (List.mem_range.mp hc)).2.2.1) _,
    Dev.each_kept_of_mem (Dev.rd · MBX_BOOT_STATUS) _ (fun _ hc d => (d.mbNotice_step w (List.mem_range.mp hc)).2.2.2) _⟩

/-- What the notice leaves of a restarted channel. -/
theorem Mbx.noticed_spec (w : List Nat) (m : Mbx) : (m.restarted.noticed w).busy = false ∧ (m.restarted.noticed w).tx = m.tx ∧
    (m.rx = [] → w.length ≤ 32 → (m.restarted.noticed w).rx = w) ∧ ∀ r, (m.restarted.noticed w).front = some r → m.restarted.front = some r := by
  unfold Mbx.noticed Mbx.replied
  split
  · refine ⟨rfl, rfl, fun h _ => ?_, fun r hr => hr⟩
    show m.rx ++ w = w
    rw [h, List.nil_append]
  next hfull =>
    refine ⟨rfl, rfl, fun h hw => absurd ?_ hfull, fun r hr => ?_⟩
    · show m.rx.length + w.length ≤ 32
      rw [h]
      simpa using hw
    · exfalso
      unfold Mbx.front at hr
      cases htx : m.tx <;> simp [Mbx.restarted, htx] at hr

/-- What the watchdog does to a load in progress: one in verification ends, another goes on with its reply discarded. -/
def Dev.wdLoad (d : Dev) : Dev :=
  match d.load with
  | some l => if 8 ≤ l.chan then d
    else if d.fld IMG_STATUS IMG_STATUS_LOAD_STATE = 1 then (d.setLoad none).loadState 0 else d.setLoad (some { l with chan := 9 })
  | none => d

theorem Dev.wdLoad_kept (d : Dev) : d.wdLoad.mbx = d.mbx ∧ d.wdLoad.rd MBX_BOOT_STATUS = d.rd MBX_BOOT_STATUS := by
  unfold Dev.wdLoad
  split
  · split
    · exact ⟨rfl, rfl⟩
    · split
      · exact ⟨rfl, Dev.rd_setF_other _ _ _ _ _ (by decide)⟩
      · exact ⟨rfl, rfl⟩
  · exact ⟨rfl, rfl⟩

/-- The device after the watchdog's restart, before refused requests are answered. -/
def Dev.wdRestart (d : Dev) : Dev :=
  let e := ((d.satAdd MBX_BOOT_STATUS MBX_BOOT_STATUS_RESTARTS 1).wdLoad.setSealWait [])
  e.mbRestart.mbNotice [0xFF * 2 ^ 24 + 1, e.fld MBX_BOOT_STATUS MBX_BOOT_STATUS_RESTARTS]

/-- The restart, told: the count, no waiting seal, and what each channel holds. -/
theorem Dev.wdRestart_spec (d : Dev) : d.wdRestart.fld MBX_BOOT_STATUS MBX_BOOT_STATUS_RESTARTS = min (d.fld MBX_BOOT_STATUS MBX_BOOT_STATUS_RESTARTS + 1) 255 ∧
    d.wdRestart.sealWait = [] ∧
    ∀ c, c < 8 → d.wdRestart.mb c = if c < 6 then (d.mb c).restarted.noticed [0xFF000001, min (d.fld MBX_BOOT_STATUS MBX_BOOT_STATUS_RESTARTS + 1) 255] else (d.mb c).restarted := by
  unfold Dev.wdRestart
  extract_lets e
  have hmbx : e.mbx = d.mbx := (Dev.wdLoad_kept _).1
  have hn : e.fld MBX_BOOT_STATUS MBX_BOOT_STATUS_RESTARTS = min (d.fld MBX_BOOT_STATUS MBX_BOOT_STATUS_RESTARTS + 1) 255 := by
    have h1 : e.fld MBX_BOOT_STATUS MBX_BOOT_STATUS_RESTARTS = (d.satAdd MBX_BOOT_STATUS MBX_BOOT_STATUS_RESTARTS 1).fld MBX_BOOT_STATUS MBX_BOOT_STATUS_RESTARTS :=
      congrArg (MBX_BOOT_STATUS_RESTARTS.get ·) (Dev.wdLoad_kept _).2
    rw [h1]
    exact (Dev.fld_setF_same (by decide) _ _ _).trans (Nat.mod_eq_of_lt (Nat.lt_succ_of_le (Nat.min_le_right ..)))
  have hseal : e.sealWait = [] := rfl
  clear_value e
  rw [hn]
  obtain ⟨hns, hnr⟩ := e.mbRestart.mbNotice_kept [0xFF * 2 ^ 24 + 1, min (d.fld MBX_BOOT_STATUS MBX_BOOT_STATUS_RESTARTS + 1) 255]
  obtain ⟨hrs, hrr⟩ := e.mbRestart_kept
  refine ⟨(congrArg (MBX_BOOT_STATUS_RESTARTS.get ·) (hnr.trans hrr)).trans hn, hns.trans (hrs.trans hseal), fun c hc => ?_⟩
  have hmb : e.mb c = d.mb c := by
    unfold Dev.mb
    rw [hmbx]
  rw [show (0xFF * 2 ^ 24 + 1 : Nat) = 0xFF000001 from rfl, Dev.mb_mbNotice, Dev.mb_mbRestart _ hc, hmb]

end Sys2Proof.Machine

/-- Settles O55: one equation per access and what it meets; a reply, and each channel's notice, by what a flush leaves. -/
theorem mailboxChannels : Obligations.MailboxChannels := by
  refine ⟨fun d c n tee => ⟨rfl, fun hc => if_pos hc, fun hc => ?_⟩, fun s src ch v hh => ?_, fun d ch v => ?_, fun d ch h st p ho => ?_, fun s hr => ?_⟩
  · refine (if_neg (by omega)).trans ?_
    unfold Dev.secured Dev.flag Dev.ls
    cases tee
    · rfl
    · have hbit : (d.fld (HIF_LINK_STATUS n.val) HIF_LINK_STATUS_FLIT) < 2 := Nat.mod_lt _ (by decide)
      simp only [Bool.true_and, true_and, bne_iff_ne, ne_eq]
      exact ite_congr (propext (by omega)) (fun _ => rfl) fun _ => rfl
  · intro c
    have push : exec (.mbxTxPush src ch v) s = .next (s.settled (s.mbWrite src c fun d => d.mbPush c (v.toNat % 2 ^ 32))) := finW_eq_of_hears hh _ _
    have pop : exec (.mbxRxPop src ch) s = .next (s.settled ((s.mbPop src c).2.emit (.readData (s.mbPop src c).1))) := finR_eq_of_hears hh _ _ _ _
    have abort : exec (.mbxAbort src ch v) s = .next (s.settled (s.mbWrite src c fun d => d.mbCtrl c v)) := finW_eq_of_hears hh _ _
    rw [push, pop, abort]
    unfold Dev.mbWrite Dev.mbPop Dev.mbPush
    refine ⟨fun hw => ?_, fun hw => ?_, fun hw => ?_⟩ <;> rw [hw]
    · refine ⟨fun hf => ?_, fun hf => ?_, fun w t hrx => ?_, fun hrx => ?_, rfl⟩
      · exact congrArg (fun d => Host.Outcome.next (s.settled d)) (if_pos hf)
      · exact congrArg (fun d => Host.Outcome.next (s.settled d)) (if_neg (by omega))
      · rw [hrx]
      · rw [hrx]
    · exact ⟨rfl, rfl, rfl⟩
    · exact ⟨rfl, rfl, rfl⟩
  · exact ⟨fun h => by rw [Dev.mbCtrl_abort _ _ h, Dev.mb_mbAbandon], fun h => Dev.mbCtrl_plain _ _ h⟩
  · intro c w
    have hmb := d.mb_mbReply ch.isLt h st p ho
    refine ⟨fun hroom => ?_, fun hfull => ?_⟩
    · obtain ⟨hready, hcount⟩ := d.mbReply_shows ch.isLt h st p ho hroom
      rw [hmb]
      unfold Mbx.replied
      rw [if_pos (c := _ + (_ :: p).length ≤ 32) hroom]
      exact ⟨rfl, rfl, hready, hcount⟩
    · rw [hmb]
      unfold Mbx.replied
      rw [if_neg (c := _ + (_ :: p).length ≤ 32) (Nat.not_le.mpr hfull)]
      exact ⟨rfl, rfl⟩
  · intro n
    have key : exec .watchdogExpiry s = .next (s.settled (s.toDev.wdRestart.each (List.range 8) fun d c => d.mbRefuse c 32)) := fin_eq_of_runs hr _
    refine ⟨_, key, fun hgood => ?_⟩
    obtain ⟨hcount, hseal, hmb⟩ := s.toDev.wdRestart_spec
    have same : (s.toDev.wdRestart.each (List.range 8) fun d c => d.mbRefuse c 32) = s.toDev.wdRestart := by
      refine Dev.each_id _ _ fun c hc => Dev.mbRefuse_good _ _ _ fun w p hf => ?_
      have hc := List.mem_range.mp hc
      rw [hmb c hc] at hf
      refine hgood c hc w p ?_
      split at hf
      · exact (Mbx.noticed_spec _ _).2.2.2 _ hf
      · exact hf
    rw [same]
    refine ⟨hcount, hseal, fun c hc => ?_⟩
    rw [hmb c hc]
    by_cases h6 : c < 6
    · rw [if_pos h6]
      obtain ⟨hbusy, htx, hrx, -⟩ := Mbx.noticed_spec [0xFF000001, n] (s.mb c)
      exact ⟨hbusy, htx, fun _ hempty => hrx hempty (by simp)⟩
    · rw [if_neg h6]
      exact ⟨rfl, rfl, fun h => absurd h h6⟩
end

section
open Sys2Proof Sys2Proof.Machine
namespace Sys2Proof.Machine

/-! What mailbox traffic leaves alone. -/

/-- A reading that looks at none of what mailbox traffic changes: the channels, registers, links, and what the part emits. -/
structure MailboxBlind {β : Type} (g : Dev → β) : Prop where
  mbx : ∀ d x, g (d.setMbx x) = g d
  regs : ∀ d x, g (d.setRegs x) = g d
  link : ∀ d x, g (d.setLink x) = g d
  out : ∀ d x, g (d.setOut x) = g d

section
variable {β : Type} {g : Dev → β} (hg : MailboxBlind g)
include hg

theorem MailboxBlind.setF (d : Dev) (r : Reg) (f : Fld) (x : Nat) : g (d.setF r f x) = g d := hg.regs _ _

theorem MailboxBlind.emit (d : Dev) (e : Emit) : g (d.emit e) = g d := hg.out _ _

theorem MailboxBlind.updMb (d : Dev) (c : Nat) (f : Mbx → Mbx) : g (d.updMb c f) = g d := by
  unfold Dev.updMb Dev.mbShow
  split
  · exact hg.mbx _ _
  · rw [hg.setF, hg.setF, hg.mbx]

theorem MailboxBlind.msix (d : Dev) (n v : Nat) : g (d.msix n v) = g d := by
  unfold Dev.msix
  split
  · exact hg.emit _ _
  · exact hg.link _ _

theorem MailboxBlind.mbEvent (d : Dev) (c : Nat) (st ie ev : Fld) : g (d.mbEvent c st ie ev) = g d := by
  unfold Dev.mbEvent
  split
  · rfl
  · extract_lets d1 d2 r
    have h1 : g d1 = g d := hg.setF ..
    split
    · exact (Dev.onlyIf_kept g (fun d => hg.msix d _ _) _ _).trans ((Dev.onlyIf_kept g (f := fun d => d.setBitF MBX_EVENT ev c true) (fun d => hg.setF d _ _ _) _ _).trans h1)
    · exact h1

theorem MailboxBlind.mbFlush (d : Dev) (c : Nat) : g (d.mbFlush c) = g d := by
  refine Dev.each_kept g (fun d r => ?_) d _
  split
  · rw [hg.emit, hg.updMb]
  · split
    · rw [hg.mbEvent, hg.updMb]
    · rfl

theorem MailboxBlind.mbReply (d : Dev) (c h st : Nat) (p : List Nat) : g (d.mbReply c h st p) = g d := by
  unfold Dev.mbReply
  rw [hg.mbFlush, hg.updMb]

theorem MailboxBlind.mbTake (d : Dev) (c : Nat) : g (d.mbTake c) = g d := by
  unfold Dev.mbTake
  split
  · rw [Dev.onlyIf_kept g (fun d => hg.mbEvent d _ _ _ _), hg.updMb]
  · rfl

theorem MailboxBlind.mbRefuse (d : Dev) (c n : Nat) : g (d.mbRefuse c n) = g d := by
  induction n generalizing d with
  | zero => rfl
  | succ n ih =>
    unfold Dev.mbRefuse
    split
    · split
      · rw [ih, hg.mbReply, hg.mbTake]
      · rfl
    · rfl

end

theorem mailboxBlind_runs : MailboxBlind Dev.runs := ⟨fun _ _ => rfl, fun _ _ => rfl, fun _ _ => rfl, fun _ _ => rfl⟩

/-! The mailbox commands (17 R461 to R475). -/

theorem secureChannel_true {c : Nat} (h : c = 4 ∨ c = 5) : (c == 4 || c == 5) = true := by simpa using h

theorem secureChannel_false {c : Nat} (h : c < 4 ∨ 5 < c) : (c == 4 || c == 5) = false := by
  simp only [Bool.or_eq_false_iff, beq_eq_false_iff_ne]
  omega

theorem manageChannel_true {c : Nat} (h4 : 4 ≤ c) (h6 : c ≤ 6) : (decide (4 ≤ c) && decide (c ≤ 6)) = true := by simp [h4, h6]

theorem manageChannel_false {c : Nat} (h : c < 4 ∨ 6 < c) : (decide (4 ≤ c) && decide (c ≤ 6)) = false := by
  simp only [Bool.and_eq_false_iff, decide_eq_false_iff_not]
  omega

/-- A request on a channel that does not give its command is answered NOT_PERMITTED. -/
theorem Dev.mbServe_forbidden {s : State} {c cmd len h : Nat} {p : List Nat} (ha : s.asks c cmd len h p) (st : Bool) (f : Dev → Nat → List Nat → Dev) :
    s.mbServe c cmd false st len f = ((s.mbTake c).mbReply c h 2 []).mbRefuse c 32 := Dev.mbServe_of_asks ha false st f

/-- A request in another life-cycle state than its command's is answered STATE. -/
theorem Dev.mbServe_wrongState {s : State} {c cmd len h : Nat} {p : List Nat} (ha : s.asks c cmd len h p) (f : Dev → Nat → List Nat → Dev) :
    s.mbServe c cmd true false len f = ((s.mbTake c).mbReply c h 4 []).mbRefuse c 32 := Dev.mbServe_of_asks ha true false f

/-- A request that is not served, for its channel or state, waits for no Bus Master Enable. -/
theorem Dev.reqWaits_refused (d : Dev) (c cmd len : Nat) {allowed st : Bool} (h : (allowed && st) = false) : d.reqWaits c cmd allowed st len = false := by
  unfold Dev.reqWaits
  split
  · cases allowed
    · simp
    · rw [Bool.true_and] at h
      simp [h]
  · rfl

/-- Where the address argument of a request is wrong, it names no host memory and waits for nothing. -/
theorem State.reqWaits_badArg {s : State} {c cmd len h n : Nat} {p : List Nat} (ha : s.asks c cmd len h p) (d : Dev) (hbad : d.argOk c p n = false) :
    s.reqWaits c cmd true true len = false := by
  obtain ⟨hfront, -⟩ := ha
  unfold Dev.reqWaits
  unfold Dev.argOk at hbad
  rw [hfront]
  dsimp only
  split at hbad
  next => exact absurd hbad (by decide)
  next hspace => rw [hspace]; exact Bool.and_false _
  next hspace => rw [hspace]; exact Bool.and_false _

theorem Dev.argFits_eq {s : State} {c cmd len h : Nat} {p : List Nat} (ha : s.asks c cmd len h p) (n : Nat) : s.argFits c n = decide (p.getD 3 0 ≤ n) := by
  obtain ⟨hfront, -⟩ := ha
  unfold Dev.argFits
  rw [hfront]
  rfl

/-- A request for at most `n` bytes that a meaning checks before it serves: it waits only where the argument is good and fits. -/
theorem State.argWaits_false {s : State} {c cmd len h n : Nat} {p : List Nat} (ha : s.asks c cmd len h p) (d : Dev)
    (hbad : d.argOk c p (p.getD 3 0) = false ∨ n < p.getD 3 0) : (s.reqWaits c cmd true true len && s.argFits c n) = false := by
  rcases hbad with hbad | hbad
  · rw [State.reqWaits_badArg ha d hbad]
    rfl
  · rw [Dev.argFits_eq ha, decide_eq_false (by omega), Bool.and_false]

theorem serves_of_runs {s : State} (hr : s.runs = true) {c cmd len h : Nat} {p : List Nat} (ha : s.asks c cmd len h p) {f : Dev → Nat → List Nat → Dev} {d : Dev}
    (hd : f (s.mbTake c) h p = d) : fin s (s.mbServe c cmd true true len f) = .next (s.settled (d.mbRefuse c 32)) :=
  fin_of_runs hr ((Dev.mbServe_asks ha f).trans (congrArg (Dev.mbRefuse · c 32) hd))

theorem argBad_true {a : Bool} {l n : Nat} (h : a = false ∨ n < l) : (!a || decide (n < l)) = true := by
  rcases h with h | h <;> simp [h]

theorem argBad_false {a : Bool} {l n : Nat} (ha : a = true) (h : l ≤ n) : (!a || decide (n < l)) = false := by simp [ha, h]

theorem lifeBad_iff {t l x : Nat} : (t != l + 1 || decide (4 < t) || x != 2 ^ 32 - 1 - t) = true ↔ t ≠ l + 1 ∨ 4 < t ∨ x ≠ 2 ^ 32 - 1 - t := by
  simp [or_assoc]

/-- What an accepted FW_UPDATE of `bs` is answered. -/
def Dev.fwAnswer (d : Dev) (c h : Nat) (bs : List Byte) : Dev :=
  match d.ulyarUpdate bs with
  | (d, some e) => d.mbReply c h 5 [e]
  | (d, none) => d.mbReply c h 0 [d.bankSel]

theorem Dev.fwAnswer_eq (d : Dev) (c h : Nat) (bs : List Byte) : d.fwAnswer c h bs =
    match (if 1 - d.bankSel = 0 then d.setBankA bs else d.setBankB bs).ulyarCheck bs with
    | some e => (if 1 - d.bankSel = 0 then d.setBankA bs else d.setBankB bs).mbReply c h 5 [e]
    | none => ((if 1 - d.bankSel = 0 then d.setBankA bs else d.setBankB bs).setBankSel (1 - d.bankSel)).mbReply c h 0 [1 - d.bankSel] := by
  unfold Dev.fwAnswer Dev.ulyarUpdate
  dsimp only
  cases (if 1 - d.bankSel = 0 then d.setBankA bs else d.setBankB bs).ulyarCheck bs <;> rfl

/-- Whether a SEAL of `n` granules from `first`, `l` of them, is a bad argument. -/
def Dev.sealBad (d : Dev) (first n act : Nat) (l : List Nat) : Bool :=
  n = 0 || 1 < act || decide (d.capacity < (first + n) * 2 ^ 28) || (if act = 1 then l.any fun g => d.granClass g != 0 || d.granPending g else l.any fun g => !d.unsealOk g)

/-- What a good SEAL of `n` granules from `first`, `l` of them, does: each granule's class changes by zeroing, and the request waits for it. -/
def Dev.sealed (d : Dev) (c h first n act : Nat) (l : List Nat) : Dev :=
  let d := d.each l fun d g => d.granChange g (if act = 1 then 3 else 0) 0
  let d := d.setSeals (if act = 1 then d.seals ++ l else d.seals.filter fun g => !l.contains g)
  (d.setSealWait (d.sealWait ++ [⟨c, h, first, n⟩])).sealReplies

theorem Dev.sealBad_range (d : Dev) {first n act : Nat} (l : List Nat) (h : n = 0 ∨ 1 < act ∨ d.capacity < (first + n) * 2 ^ 28) : d.sealBad first n act l = true := by
  unfold Dev.sealBad
  rcases h with h | h | h <;> simp only [decide_eq_true h, Bool.true_or, Bool.or_true]

theorem Dev.sealBad_seal (d : Dev) {first n : Nat} (l : List Nat) (hn : n ≠ 0) (h : (first + n) * 2 ^ 28 ≤ d.capacity) :
    d.sealBad first n 1 l = l.any fun g => d.granClass g != 0 || d.granPending g := by
  unfold Dev.sealBad
  rw [decide_eq_false hn, decide_eq_false (Nat.not_lt.mpr h)]
  rfl

theorem Dev.sealBad_unseal (d : Dev) {first n : Nat} (l : List Nat) (hn : n ≠ 0) (h : (first + n) * 2 ^ 28 ≤ d.capacity) :
    d.sealBad first n 0 l = l.any fun g => !d.unsealOk g := by
  unfold Dev.sealBad
  rw [decide_eq_false hn, decide_eq_false (Nat.not_lt.mpr h)]
  rfl

theorem Dev.sealBad_seal_any (d : Dev) (first n : Nat) {l : List Nat} (h : (l.any fun g => d.granClass g != 0 || d.granPending g) = true) : d.sealBad first n 1 l = true := by
  unfold Dev.sealBad
  rw [if_pos rfl, h, Bool.or_true]

theorem Dev.sealBad_unseal_any (d : Dev) (first n : Nat) {l : List Nat} (h : (l.any fun g => !d.unsealOk g) = true) : d.sealBad first n 0 l = true := by
  unfold Dev.sealBad
  rw [if_neg (by decide), h, Bool.or_true]

/-- What GET_CERT, served, makes of the state. -/
def State.certSent (t : State) (c h : Nat) (p : List Nat) : State :=
  if t.argOk c p (t.chain.take (p.getD 3 0)).length then
    match t.argWrite c p (t.chain.take (p.getD 3 0)) with
    | some u => u.onDev fun d => (d.mbReply c h 0 [(t.chain.take (p.getD 3 0)).length]).mbRefuse c 32
    | none => t.onDev fun d => (d.mbReply c h 6 []).mbRefuse c 32
  else t.onDev fun d => (d.mbReply c h 3 []).mbRefuse c 32

theorem getCert_serves {s : State} {ch : Fin 8} {h : Nat} {p : List Nat} (ha : s.asks ch.val 4 4 h p) (hc : ch.val < 6) (hw : ¬ s.reqWaits ch.val 4 true true 4 = true) :
    exec (.getCert ch) s = .next (State.ended ((s.onDev fun d => d.mbTake ch.val).certSent ch.val h p)) := by
  show execGetCert ch s = _
  unfold execGetCert
  extract_lets c t
  have hallow : decide (c < 6) = true := decide_eq_true hc
  have ht : t = (s.onDev fun d => d.mbTake c).certSent c h p := by
    obtain ⟨hfront, hcmd, hgood, hlen⟩ := ha
    unfold t State.mbServeM State.certSent
    rw [hfront]
    dsimp only
    rw [if_pos ⟨hcmd, hgood, hallow, rfl, hlen⟩]
    cases (s.onDev fun d => d.mbTake c).argOk c p ((s.onDev fun d => d.mbTake c).chain.take (p.getD 3 0)).length
    · rfl
    · simp only [Bool.not_true, Bool.false_eq_true, if_false, if_true]
      cases (s.onDev fun d => d.mbTake c).argWrite c p ((s.onDev fun d => d.mbTake c).chain.take (p.getD 3 0)) <;> rfl
  rw [hallow, if_neg hw, finM_ended, ht]

section
variable {s : State} (hr : s.runs = true) {ch : Fin 8} {h : Nat} {p : List Nat}
include hr

theorem getInfo_answers (ha : s.asks ch.val 1 0 h p) : exec (.getInfo ch) s =
    .next (s.settled (((s.mbTake ch.val).mbReply ch.val h 0 [ulyarVersion (s.mbTake ch.val).ulyar, (s.mbTake ch.val).life, (s.mbTake ch.val).bootCount % 2 ^ 32]).mbRefuse ch.val 32)) := by
  have hsafe : s.pwrMode ≠ .safe := fun hs => by simp [Dev.runs, hs] at hr
  exact (if_neg hsafe).trans (serves_of_runs hr ha rfl)

theorem imageQuery_answers (ha : s.asks ch.val 3 0 h p) : exec (.imageQuery ch) s =
    .next (s.settled (((s.mbTake ch.val).mbReply ch.val h 0 [((s.mbTake ch.val).rd IMG_STATUS).toNat % 2 ^ 32, (s.mbTake ch.val).imgEpochView]).mbRefuse ch.val 32)) :=
  serves_of_runs hr ha rfl

/-! GET_CERT. -/

theorem getCert_forbidden (ha : s.asks ch.val 4 4 h p) (hc : 6 ≤ ch.val) : exec (.getCert ch) s =
    .next (s.settled (((s.mbTake ch.val).mbReply ch.val h 2 []).mbRefuse ch.val 32)) := by
  show execGetCert ch s = _
  unfold execGetCert
  extract_lets c t
  have hallow : decide (c < 6) = false := decide_eq_false (by omega)
  have ht : t = s.onDev fun d => ((d.mbTake c).mbReply c h 2 []).mbRefuse c 32 := by
    obtain ⟨hfront, -⟩ := id ha
    unfold t State.mbServeM
    rw [hfront, hallow]
    dsimp only
    rw [if_neg (by simp)]
    exact congrArg (fun d => { s with toDev := d }) (Dev.mbServe_forbidden ha true _)
  rw [Dev.reqWaits_refused _ _ _ _ (by rw [hallow]; rfl), if_neg Bool.false_ne_true, finM_ended, ht]
  have hruns : ((s.onDev fun d => ((d.mbTake c).mbReply c h 2 []).mbRefuse c 32).toDev).runs = true := by
    show Dev.runs (((s.mbTake c).mbReply c h 2 []).mbRefuse c 32) = true
    rw [mailboxBlind_runs.mbRefuse, mailboxBlind_runs.mbReply, mailboxBlind_runs.mbTake, hr]
  unfold State.ended
  rw [if_pos hruns]
  rfl

theorem getCert_waits (hc : ch.val < 6) (hw : s.reqWaits ch.val 4 true true 4 = true) :
    exec (.getCert ch) s = .next (s.settled s.toDev) := by
  show execGetCert ch s = _
  unfold execGetCert
  extract_lets c t
  rw [decide_eq_true (show c < 6 from hc)]
  exact (if_pos hw).trans (fin_eq_of_runs hr _)

/-! CERT_WRITE and FW_UPDATE. -/

variable {data : HostData}

theorem certWrite_forbidden (ha : s.asks ch.val 5 4 h p) (hc : ch.val < 4 ∨ ch.val = 7) : exec (.certWrite ch data) s =
    .next (s.settled (((s.mbTake ch.val).mbReply ch.val h 2 []).mbRefuse ch.val 32)) := by
  show execCertWrite ch data s = _
  unfold execCertWrite
  extract_lets c
  rw [show (decide (4 ≤ c) && decide (c ≤ 6)) = false from manageChannel_false (by omega), Dev.reqWaits_refused _ _ _ _ rfl]
  exact fin_of_runs hr (Dev.mbServe_forbidden ha _ _)

theorem certWrite_wrongState (ha : s.asks ch.val 5 4 h p) (h4 : 4 ≤ ch.val) (h6 : ch.val ≤ 6) (hl : s.life ≠ 1) : exec (.certWrite ch data) s =
    .next (s.settled (((s.mbTake ch.val).mbReply ch.val h 4 []).mbRefuse ch.val 32)) := by
  show execCertWrite ch data s = _
  unfold execCertWrite
  extract_lets c
  rw [show (decide (4 ≤ c) && decide (c ≤ 6)) = true from manageChannel_true h4 h6, beq_eq_false_iff_ne.mpr hl, Dev.reqWaits_refused _ _ _ _ rfl]
  exact fin_of_runs hr (Dev.mbServe_wrongState ha _)

/-- What CERT_WRITE comes to on a channel that may send it, in PROVISIONED. -/
theorem certWrite_served (ha : s.asks ch.val 5 4 h p) (h4 : 4 ≤ ch.val) (h6 : ch.val ≤ 6) (hl : s.life = 1) : exec (.certWrite ch data) s =
    if s.reqWaits ch.val 5 true true 4 && s.argFits ch.val 0x100000 then fin s s.toDev else
    .next (s.settled ((if !(s.mbTake ch.val).argOk ch.val p (p.getD 3 0) || decide (0x100000 < p.getD 3 0) then (s.mbTake ch.val).mbReply ch.val h 3 []
      else match s.argBytes ch.val p (p.getD 3 0) data with
        | some bs => ((s.mbTake ch.val).setChain bs).mbReply ch.val h 0 []
        | none => (s.mbTake ch.val).mbReply ch.val h 6 []).mbRefuse ch.val 32)) := by
  show execCertWrite ch data s = _
  unfold execCertWrite
  extract_lets c
  rw [show (decide (4 ≤ c) && decide (c ≤ 6)) = true from manageChannel_true h4 h6, beq_iff_eq.mpr hl]
  exact congrArg (ite _ _) (serves_of_runs hr ha rfl)

theorem fwUpdate_forbidden (ha : s.asks ch.val 6 4 h p) (hc : ch.val < 4 ∨ 5 < ch.val) : exec (.fwUpdate ch data) s =
    .next (s.settled (((s.mbTake ch.val).mbReply ch.val h 2 []).mbRefuse ch.val 32)) := by
  show execFwUpdate ch data s = _
  unfold execFwUpdate
  extract_lets c
  rw [show (c == 4 || c == 5) = false from secureChannel_false hc, Dev.reqWaits_refused _ _ _ _ rfl]
  exact fin_of_runs hr (Dev.mbServe_forbidden ha _ _)

/-- What FW_UPDATE comes to on a channel that may send it. -/
theorem fwUpdate_served (ha : s.asks ch.val 6 4 h p) (hc : ch.val = 4 ∨ ch.val = 5) : exec (.fwUpdate ch data) s =
    if s.reqWaits ch.val 6 true true 4 && s.argFits ch.val 16777216 then fin s s.toDev else
    .next (s.settled ((if !(s.mbTake ch.val).argOk ch.val p (p.getD 3 0) || decide (16777216 < p.getD 3 0) then (s.mbTake ch.val).mbReply ch.val h 3 []
      else match s.argBytes ch.val p (p.getD 3 0) data with
        | some bs => (s.mbTake ch.val).fwAnswer ch.val h bs
        | none => (s.mbTake ch.val).mbReply ch.val h 6 []).mbRefuse ch.val 32)) := by
  show execFwUpdate ch data s = _
  unfold execFwUpdate
  extract_lets c
  rw [show (c == 4 || c == 5) = true from secureChannel_true hc]
  exact congrArg (ite _ _) (serves_of_runs hr ha rfl)

/-! LIFECYCLE, SET_MIN_VERSION and KEY_REVOKE. -/

theorem lifecycle_forbidden (ha : s.asks ch.val 7 2 h p) (hc : ch.val < 4 ∨ ch.val = 7) : exec (.lifecycle ch) s =
    .next (s.settled (((s.mbTake ch.val).mbReply ch.val h 2 []).mbRefuse ch.val 32)) := by
  show execLifecycle ch s = _
  unfold execLifecycle
  extract_lets c
  rw [show (decide (4 ≤ c) && decide (c ≤ 6)) = false from manageChannel_false (by omega)]
  exact fin_of_runs hr (Dev.mbServe_forbidden ha _ _)

/-- A LIFECYCLE request that its channel may send is served. -/
theorem lifecycle_served (ha : s.asks ch.val 7 2 h p) (h4 : 4 ≤ ch.val) (h6 : ch.val ≤ 6) {d : Dev}
    (hd : (if p.getD 0 0 != (s.mbTake ch.val).life + 1 || decide (4 < p.getD 0 0) || p.getD 1 0 != 2 ^ 32 - 1 - p.getD 0 0 then (s.mbTake ch.val).mbReply ch.val h 3 []
      else if (s.mbTake ch.val).life = 0 then
        (((s.mbTake ch.val).fresh.2).setLifeNext (some ⟨p.getD 0 0, ch.val, ((s.mbTake ch.val).fresh.2).refNs, leBytes 32 (s.mbTake ch.val).fresh.1⟩)).mbReply ch.val h 0
          ((List.range 8).map fun i => leAt (leBytes 32 (s.mbTake ch.val).fresh.1) (4 * i) 4)
      else ((s.mbTake ch.val).setLifeNext (some ⟨p.getD 0 0, ch.val, (s.mbTake ch.val).refNs, []⟩)).mbReply ch.val h 0 []) = d) :
    exec (.lifecycle ch) s = .next (s.settled (d.mbRefuse ch.val 32)) := by
  show execLifecycle ch s = _
  unfold execLifecycle
  extract_lets c
  rw [show (decide (4 ≤ c) && decide (c ≤ 6)) = true from manageChannel_true h4 h6]
  exact serves_of_runs hr ha hd

theorem setMinVersion_forbidden (ha : s.asks ch.val 8 2 h p) (hc : ch.val < 4 ∨ 5 < ch.val) : exec (.setMinVersion ch) s =
    .next (s.settled (((s.mbTake ch.val).mbReply ch.val h 2 []).mbRefuse ch.val 32)) := by
  show execSetMinVersion ch s = _
  unfold execSetMinVersion
  extract_lets c
  rw [show (c == 4 || c == 5) = false from secureChannel_false hc]
  exact fin_of_runs hr (Dev.mbServe_forbidden ha _ _)

theorem setMinVersion_served (ha : s.asks ch.val 8 2 h p) (hc : ch.val = 4 ∨ ch.val = 5) {f : Fld} {top : Nat}
    (hf : (p.getD 0 0 = 0 ∧ f = MBX_FUSE_IMAGE_MIN ∧ top = (s.mbTake ch.val).imageVersion) ∨ (p.getD 0 0 = 1 ∧ f = MBX_FUSE_ULYAR_MIN ∧ top = ulyarVersion (s.mbTake ch.val).ulyar)) :
    exec (.setMinVersion ch) s = if (s.mbTake ch.val).fld MBX_FUSE f ≤ p.getD 1 0 ∧ p.getD 1 0 ≤ 64 ∧ p.getD 1 0 ≤ top
      then .next (s.settled ((((s.mbTake ch.val).setF MBX_FUSE f (p.getD 1 0)).mbReply ch.val h 0 []).mbRefuse ch.val 32))
      else .next (s.settled (((s.mbTake ch.val).mbReply ch.val h 3 []).mbRefuse ch.val 32)) := by
  show execSetMinVersion ch s = _
  unfold execSetMinVersion
  extract_lets c
  rw [show (c == 4 || c == 5) = true from secureChannel_true hc]
  refine (serves_of_runs hr ha (d := if p.getD 1 0 < (s.mbTake ch.val).fld MBX_FUSE f ∨ 64 < p.getD 1 0 ∨ top < p.getD 1 0 then (s.mbTake ch.val).mbReply ch.val h 3 []
    else ((s.mbTake ch.val).setF MBX_FUSE f (p.getD 1 0)).mbReply ch.val h 0 []) ?_).trans ?_
  · extract_lets v go
    rcases hf with ⟨hp, rfl, rfl⟩ | ⟨hp, rfl, rfl⟩ <;> (rw [hp]; rfl)
  · split
    next hbad => exact (if_neg (by omega)).symm
    next hgood => exact (if_pos (by omega)).symm

theorem keyRevoke_forbidden (ha : s.asks ch.val 9 1 h p) (hc : ch.val < 4 ∨ 5 < ch.val) : exec (.keyRevoke ch) s =
    .next (s.settled (((s.mbTake ch.val).mbReply ch.val h 2 []).mbRefuse ch.val 32)) := by
  show execKeyRevoke ch s = _
  unfold execKeyRevoke
  extract_lets c
  rw [show (c == 4 || c == 5) = false from secureChannel_false hc]
  exact fin_of_runs hr (Dev.mbServe_forbidden ha _ _)

theorem keyRevoke_served (ha : s.asks ch.val 9 1 h p) (hc : ch.val = 4 ∨ ch.val = 5) :
    exec (.keyRevoke ch) s = if p.getD 0 0 ≤ 3 ∧ p.getD 0 0 ≠ ulyarKey (s.mbTake ch.val).ulyar ∧ setBit ((s.mbTake ch.val).fld MBX_FUSE MBX_FUSE_REVOKED) (p.getD 0 0) true ≠ 15
      then .next (s.settled ((((s.mbTake ch.val).setF MBX_FUSE MBX_FUSE_REVOKED (setBit ((s.mbTake ch.val).fld MBX_FUSE MBX_FUSE_REVOKED) (p.getD 0 0) true)).mbReply ch.val h 0 []).mbRefuse ch.val 32))
      else .next (s.settled (((s.mbTake ch.val).mbReply ch.val h 3 []).mbRefuse ch.val 32)) := by
  show execKeyRevoke ch s = _
  unfold execKeyRevoke
  extract_lets c
  rw [show (c == 4 || c == 5) = true from secureChannel_true hc]
  refine (serves_of_runs hr ha rfl).trans ?_
  dsimp only
  split
  next hbad => exact (if_neg (by omega)).symm
  next hgood => exact (if_pos (by omega)).symm

/-! SEAL. -/

theorem seal_served (ha : s.asks ch.val 10 3 h p) (hc : ch.val = 4 ∨ ch.val = 5 ∨ (ch.val < 4 ∧ (s.fld RGM_MEDIATOR RGM_MEDIATOR_PF_MASK).testBit ch.val = true)) {d : Dev}
    (hd : (if (s.mbTake ch.val).sealBad (p.getD 0 0) (p.getD 1 0) (p.getD 2 0) ((List.range (min (p.getD 1 0) granules)).map fun i => p.getD 0 0 + i) then (s.mbTake ch.val).mbReply ch.val h 3 []
      else (s.mbTake ch.val).sealed ch.val h (p.getD 0 0) (p.getD 1 0) (p.getD 2 0) ((List.range (min (p.getD 1 0) granules)).map fun i => p.getD 0 0 + i)) = d) :
    exec (.seal ch) s = .next (s.settled (d.mbRefuse ch.val 32)) := by
  have hallow : (ch.val == 4 || ch.val == 5 || (decide (ch.val < 4) && (s.fld RGM_MEDIATOR RGM_MEDIATOR_PF_MASK).testBit ch.val)) = true := by
    simp only [Bool.or_eq_true, Bool.and_eq_true, beq_iff_eq, decide_eq_true_eq, or_assoc]
    exact hc
  show execSeal ch s = _
  unfold execSeal
  extract_lets c allowed
  rw [show allowed = true from hallow]
  exact serves_of_runs hr ha hd

end

end Sys2Proof.Machine

/-- Settles O56: one equation per command, channel and argument. -/
theorem mailboxCommands : Obligations.MailboxCommands := by
  refine ⟨fun s ch h p data hr => ?_, fun s h p hs ha => ?_⟩
  · intro c k waits re
    refine ⟨getInfo_answers hr, imageQuery_answers hr, fun ha => ⟨getCert_forbidden hr ha, fun hc hw => getCert_waits hr hc hw, fun hc hw => ?_⟩,
      fun ha => ⟨certWrite_forbidden hr ha, fun h4 h6 => ⟨certWrite_wrongState hr ha h4 h6, fun hl => ?_⟩⟩,
      fun ha => ⟨fwUpdate_forbidden hr ha, fun hc => ?_⟩, fun ha => ⟨lifecycle_forbidden hr ha, fun h4 h6 => ?_⟩,
      fun ha => ⟨setMinVersion_forbidden hr ha, fun hc f top hf => ?_⟩, fun ha => ⟨keyRevoke_forbidden hr ha, fun hc => ?_⟩, fun ha hc => ?_⟩
    · exact (getCert_serves ha hc hw).trans (apply_ite (fun t : State => Host.Outcome.next t.ended) ..)
    · have key := certWrite_served hr (data := data) ha h4 h6 hl
      refine ⟨fun hbad => ?_, fun hok hfit hw => ?_, fun hok hfit hw => ?_⟩
      · rw [key, State.argWaits_false ha k hbad, if_neg Bool.false_ne_true, if_pos (argBad_true hbad)]
      · rw [key, Dev.argFits_eq ha, decide_eq_true hfit, hw]
        exact fin_eq_of_runs hr _
      · rw [key, eq_false_of_ne_true hw, Bool.false_and, if_neg Bool.false_ne_true, if_neg (Bool.not_eq_true _ ▸ argBad_false hok hfit)]
        cases s.argBytes c p (p.getD 3 0) data <;> rfl
    · have key := fwUpdate_served hr (data := data) ha hc
      refine ⟨fun hbad => ?_, fun hok hfit hw => ?_, fun hok hfit hw => ?_⟩
      · rw [key, State.argWaits_false ha k hbad, if_neg Bool.false_ne_true, if_pos (argBad_true hbad)]
      · rw [key, Dev.argFits_eq ha, decide_eq_true hfit, hw]
        exact fin_eq_of_runs hr _
      · rw [key, eq_false_of_ne_true hw, Bool.false_and, if_neg Bool.false_ne_true, if_neg (Bool.not_eq_true _ ▸ argBad_false hok hfit)]
        cases s.argBytes c p (p.getD 3 0) data with
        | none => rfl
        | some bs =>
          show Host.Outcome.next (s.settled ((k.fwAnswer c h bs).mbRefuse c 32)) = _
          rw [Dev.fwAnswer_eq]
          dsimp only
          generalize (if 1 - k.bankSel = 0 then k.setBankA bs else k.setBankB bs) = u
          cases u.ulyarCheck bs <;> rfl
    · refine ⟨fun hbad => lifecycle_served hr ha h4 h6 (if_pos ?_), fun hnext hle hcompl => ?_⟩
      · exact lifeBad_iff.mpr hbad
      have hgood : ¬ (p.getD 0 0 ≠ k.life + 1 ∨ 4 < p.getD 0 0 ∨ p.getD 1 0 ≠ 2 ^ 32 - 1 - p.getD 0 0) := by
        rintro (h | h | h)
        · exact h hnext
        · exact absurd hle (Nat.not_le.mpr h)
        · exact h hcompl
      refine ⟨fun hl => ?_, fun hl => ?_⟩
      · exact lifecycle_served hr ha h4 h6 ((if_neg (mt lifeBad_iff.mp hgood)).trans (if_neg hl))
      · exact lifecycle_served hr ha h4 h6 ((if_neg (mt lifeBad_iff.mp hgood)).trans (if_pos hl))
    · exact setMinVersion_served hr ha hc hf
    · exact keyRevoke_served hr ha hc
    · intro l
      refine ⟨fun hbad => seal_served hr ha hc (if_pos (k.sealBad_range l hbad)), fun hact hany => ?_, fun hn hact hcap hany => ?_, fun hn hact hcap hany => ?_, fun hact hany => ?_⟩
      · refine seal_served hr ha hc (if_pos ?_)
        rw [hact]
        exact k.sealBad_seal_any _ _ hany
      · refine seal_served hr ha hc ((if_neg ?_).trans ?_) <;> rw [hact]
        · exact fun h => Bool.false_ne_true (hany.symm.trans ((k.sealBad_seal l hn hcap).symm.trans h))
        · rfl
      · refine seal_served hr ha hc ((if_neg ?_).trans ?_) <;> rw [hact]
        · exact fun h => Bool.false_ne_true (hany.symm.trans ((k.sealBad_unseal l hn hcap).symm.trans h))
        · rfl
      · refine seal_served hr ha hc (if_pos ?_)
        rw [hact]
        exact k.sealBad_unseal_any _ _ hany
  · exact (if_pos hs).trans (congrArg (finA s) (Dev.mbServe_asks ha fun d w _ => d.mbReply 6 w 0 [(d.rd MBX_BOOT_STATUS).toNat]))
end

section
open Sys2Proof Sys2Proof.Machine
namespace Sys2Proof.Machine

/-! The management controller's transports (17 R465 to R467). -/

/-- A message is whole when it has the words that its header announces, each of 32 bits. -/
theorem mctpVendorMessage_whole {s : State} (hr : s.runs = true) {h : Nat} {t : List Nat} (hidle : (s.mb 6).busy = false) (hempty : (s.mb 6).tx = []) (hlen : h % 32 = t.length)
    (hwords : ((h :: t).all fun w => decide (w < 2 ^ 32)) = true) :
    exec (.mctpVendorMessage (h :: t)) s = .next (s.settled ((s.updMb 6 fun m => { m with tx := h :: t }).mbRefuse 6 32)) := by
  have hsafe : s.pwrMode ≠ .safe := fun hs => by simp [Dev.runs, hs] at hr
  refine (if_neg hsafe).trans (fin_of_runs hr (if_neg ?_))
  simp only [hidle, hempty, hlen, hwords, beq_self_eq_true]
  decide

theorem mctpVendorMessage_dropped {s : State} (hr : s.runs = true) (l : WordList) (h : (s.mb 6).busy = true ∨ (s.mb 6).tx ≠ []) :
    exec (.mctpVendorMessage l) s = .next (s.settled s.toDev) := by
  have hsafe : s.pwrMode ≠ .safe := fun hs => by simp [Dev.runs, hs] at hr
  refine (if_neg hsafe).trans (fin_of_runs hr (if_pos ?_))
  rcases h with h | h
  · rw [h, Bool.true_or, Bool.true_or]
  · rw [List.isEmpty_eq_false_iff.mpr h, Bool.not_false, Bool.or_true, Bool.true_or]

/-- An SPDM request in its order is answered. -/
theorem spdmServe_inOrder {s : State} (hr : s.runs = true) {need : Nat} (h : need ≤ s.spdm) (next : Nat) (name : String) (data : Dev → List Byte) :
    spdmServe need next name data s = .next (s.settled ((s.setSpdm next).emit (.spdm name (data s.toDev)))) :=
  fin_of_runs hr (if_neg (Nat.not_lt.mpr h))

theorem spdmServe_outOfOrder {s : State} (hr : s.runs = true) {need : Nat} (h : s.spdm < need) (next : Nat) (name : String) (data : Dev → List Byte) :
    spdmServe need next name data s = .next (s.settled (s.toDev.emit (.spdm "ERROR" []))) :=
  fin_of_runs hr (if_pos h)

section
variable {s : State} (hr : s.runs = true)
include hr

theorem getVersion_answers : exec .getVersion s = .next (s.settled ((s.setSpdm 1).emit (.spdm "VERSION" [0x13]))) :=
  spdmServe_inOrder (need := 0) hr (Nat.zero_le _) 1 "VERSION" fun _ => [0x13]

theorem getCapabilities_answers (h : 1 ≤ s.spdm) : exec .getCapabilities s = .next (s.settled ((s.setSpdm 2).emit (.spdm "CAPABILITIES" ([19] ++ leBytes 4 0x16)))) := by
  show execGetCapabilities s = _
  unfold execGetCapabilities
  exact spdmServe_inOrder hr h _ _ _

theorem negotiateAlgorithms_answers (h : 2 ≤ s.spdm) :
    exec .negotiateAlgorithms s = .next (s.settled ((s.setSpdm 3).emit (.spdm "ALGORITHMS" (leBytes 4 1 ++ [0x03] ++ leBytes 2 0x1E7A ++ leBytes 2 1)))) := by
  show execNegotiateAlgorithms s = _
  unfold execNegotiateAlgorithms
  exact spdmServe_inOrder hr h _ _ _

theorem getDigests_answers (h : 3 ≤ s.spdm) : exec .getDigests s = .next (s.settled ((s.setSpdm 3).emit (.spdm "DIGESTS" (sha256 s.chain)))) := by
  show execGetDigests s = _
  unfold execGetDigests
  exact spdmServe_inOrder hr h _ _ _

theorem getCertificate_answers (h : 3 ≤ s.spdm) (off len : Nat) :
    exec (.getCertificate 0 off len) s = .next (s.settled ((s.setSpdm 3).emit (.spdm "CERTIFICATE" ((s.chain.drop off).take len)))) := by
  show execGetCertificate 0 off len s = _
  unfold execGetCertificate
  exact (if_pos rfl).trans (spdmServe_inOrder hr h _ _ _)

theorem challenge_answers (h : 3 ≤ s.spdm) : exec (.challenge 0) s =
    .next (s.settled (((s.toDev.setFreeCtr (s.freeCtr + 1)).setSpdm 3).emit (.spdm "CHALLENGE_AUTH" (s.toDev.signed (anyBytes (Config.free s.freeCtr)))))) := by
  show execChallenge 0 s = _
  unfold execChallenge
  exact (if_pos rfl).trans (spdmServe_inOrder (s := { s with toDev := s.fresh.2 }) hr h _ _ _)

theorem getCapabilities_error (h : s.spdm = 0) : exec .getCapabilities s = .next (s.settled (s.toDev.emit (.spdm "ERROR" []))) := by
  show execGetCapabilities s = _
  unfold execGetCapabilities
  exact spdmServe_outOfOrder hr (by omega) _ _ _

theorem negotiateAlgorithms_error (h : s.spdm < 2) : exec .negotiateAlgorithms s = .next (s.settled (s.toDev.emit (.spdm "ERROR" []))) := by
  show execNegotiateAlgorithms s = _
  unfold execNegotiateAlgorithms
  exact spdmServe_outOfOrder hr h _ _ _

theorem getDigests_error (h : s.spdm < 3) : exec .getDigests s = .next (s.settled (s.toDev.emit (.spdm "ERROR" []))) := by
  show execGetDigests s = _
  unfold execGetDigests
  exact spdmServe_outOfOrder hr h _ _ _

theorem getCertificate_error {slot : Nat} (h : slot ≠ 0 ∨ s.spdm < 3) (off len : Nat) :
    exec (.getCertificate slot off len) s = .next (s.settled (s.toDev.emit (.spdm "ERROR" []))) := by
  show execGetCertificate slot off len s = _
  unfold execGetCertificate
  by_cases h0 : slot = 0
  · exact (if_pos h0).trans (spdmServe_outOfOrder hr (h.resolve_left (not_not_intro h0)) _ _ _)
  · exact (if_neg h0).trans (fin_eq_of_runs hr _)

end

/-- The blocks of R467 are those with index 1 to 5. -/
theorem Dev.measurement_isSome {d : Dev} {i : Nat} {b : List Byte} (h : d.measurement i = some b) : 1 ≤ i ∧ i ≤ 5 := by
  unfold Dev.measurement at h
  split at h
  next => decide
  next => decide
  next => decide
  next => decide
  next => decide
  next => cases h

theorem Dev.measurement_none {d : Dev} {i : Nat} (h : i = 0 ∨ 5 < i) : d.measurement i = none := by
  cases hm : d.measurement i with
  | none => rfl
  | some b =>
    obtain ⟨h1, h5⟩ := Dev.measurement_isSome hm
    omega

theorem getMeasurements_one {s : State} {i : Nat} {b : List Byte} (hi : s.measurement i = some b) (sg : Bool) :
    exec (.getMeasurements i sg) s = spdmServe 3 3 "MEASUREMENTS" (fun d => (BitVec.ofNat 8 i :: (d.measurement i).getD []) ++ if sg then d.signed (BitVec.ofNat 8 i :: (d.measurement i).getD []) else []) s := by
  have hne : i ≠ 0xFF := fun h => by
    have := (Dev.measurement_isSome hi).2
    omega
  show execGetMeasurements i sg s = _
  unfold execGetMeasurements
  extract_lets blocks data
  have hdata : data = fun d => BitVec.ofNat 8 i :: (d.measurement i).getD [] := by
    funext d
    show blocks.flatMap _ = _
    rw [show blocks = [i] from if_neg hne]
    exact List.append_nil _
  rw [hi, if_neg (by simp), hdata]

theorem getMeasurements_all (s : State) (sg : Bool) : exec (.getMeasurements 0xFF sg) s =
    spdmServe 3 3 "MEASUREMENTS" (fun d => ([1, 2, 3, 4, 5].flatMap fun i => BitVec.ofNat 8 i :: (d.measurement i).getD []) ++
      if sg then d.signed ([1, 2, 3, 4, 5].flatMap fun i => BitVec.ofNat 8 i :: (d.measurement i).getD []) else []) s := rfl

theorem getMeasurements_error {s : State} (hr : s.runs = true) {i : Nat} (sg : Bool) (h : i = 0 ∨ (5 < i ∧ i ≠ 0xFF) ∨ s.spdm < 3) :
    exec (.getMeasurements i sg) s = .next (s.settled (s.toDev.emit (.spdm "ERROR" []))) := by
  show execGetMeasurements i sg s = _
  unfold execGetMeasurements
  extract_lets blocks data
  by_cases hnone : (i != 0xFF && (s.measurement i).isNone) = true
  · exact (if_pos hnone).trans (fin_eq_of_runs hr _)
  · rw [if_neg hnone]
    refine spdmServe_outOfOrder hr ?_ _ _ _
    rcases h with h | h | h
    · exact absurd (by rw [Dev.measurement_none (.inl h), h]; rfl) hnone
    · exact absurd (by rw [Dev.measurement_none (.inr h.1), bne_iff_ne.mpr h.2]; rfl) hnone
    · exact h

theorem pldmMessage_query {s : State} (hr : s.runs = true) (n : Bytes) :
    exec (.pldmMessage (.query n)) s = .next (s.settled ((s.toDev.setFreeCtr (s.freeCtr + 1)).emit (.reply 7 (anyBytes (Config.free s.freeCtr))))) :=
  fin_eq_of_runs hr _

/-- An update's component: 1 is Ulyar's bank, 2 the default image. -/
theorem pldmMessage_update {s : State} (hr : s.runs = true) (n : Nat) (b : Bytes) (d : Dev) (hd : d = if n = 1 then (s.ulyarUpdate b).1 else if n = 2 then s.setDefImage b else s.toDev) :
    exec (.pldmMessage (.update n b)) s = .next (s.settled ((d.setFreeCtr (d.freeCtr + 1)).emit (.reply 7 (anyBytes (Config.free d.freeCtr))))) := by
  show execPldmMessage (.update n b) s = _
  unfold execPldmMessage
  refine fin_of_runs hr ?_
  subst hd
  by_cases h1 : n = 1
  · subst h1; rfl
  · by_cases h2 : n = 2
    · subst h2; rfl
    · rw [if_neg h1, if_neg h2]
      split
      next hm => cases hm
      next hm => cases hm; exact absurd rfl h1
      next hm => cases hm; exact absurd rfl h2
      next hm => rfl

end Sys2Proof.Machine

/-- Settles O57: one equation per transport and message. -/
theorem bmcTransports : Obligations.BmcTransports := by
  refine ⟨fun s m data hr => ⟨fun h t hidle hempty hlen hwords => mctpVendorMessage_whole hr hidle hempty hlen hwords, fun l h => mctpVendorMessage_dropped hr l h, ?_,
    getVersion_answers hr, getCapabilities_answers hr, negotiateAlgorithms_answers hr, fun h => ?_, ?_, fin_eq_of_runs hr _⟩, fun s e hheld => ?_⟩
  · cases m with
    | query n =>
      intro d
      have hd : d = s.toDev := rfl
      clear_value d
      subst hd
      exact pldmMessage_query hr n
    | update n b =>
      intro d
      have hd : d = if n = 1 then (s.ulyarUpdate b).1 else if n = 2 then s.setDefImage b else s.toDev := rfl
      clear_value d
      exact pldmMessage_update hr n b d hd
  · intro ok
    refine ⟨getDigests_answers hr h, getCertificate_answers hr h, challenge_answers hr h, fun i b hi => ⟨?_, ?_⟩, ?_⟩
    · refine (getMeasurements_one hi false).trans ((spdmServe_inOrder hr h _ _ _).trans ?_)
      rw [hi]
      simp [ok]
    · refine (getMeasurements_one hi true).trans ((spdmServe_inOrder hr h _ _ _).trans ?_)
      rw [hi]
      simp [ok]
    · refine (getMeasurements_all s false).trans ((spdmServe_inOrder hr h _ _ _).trans ?_)
      rw [if_neg Bool.false_ne_true, List.append_nil]
  · intro no
    exact ⟨fun h => getCapabilities_error hr h, fun h => negotiateAlgorithms_error hr h, fun h => getDigests_error hr h, fun slot off len h => getCertificate_error hr h off len,
      fun slot h => (if_neg h).trans (fin_eq_of_runs hr _), fun i sg h => getMeasurements_error hr sg h⟩
  · exact ⟨if_neg hheld, if_neg hheld⟩
end

section
open Sys2Proof Sys2Proof.Machine
namespace Sys2Proof.Machine

/-! Faults found while the part runs, and their records (18 R481 to R489). -/

/-! Aging. -/

theorem Dev.aging_quiet {d : Dev} {e ppm : Nat} (h : ppm < (d.setF (RAS_AGING e) RAS_AGING_DRIFT_PPM (min ppm 0xFFFFF)).fld RAS_SRAM_CFG RAS_SRAM_CFG_WARN_PPM ∨
    (d.setF (RAS_AGING e) RAS_AGING_DRIFT_PPM (min ppm 0xFFFFF)).flag (RAS_AGING e) RAS_AGING_WARN = true) : d.aging e ppm = d.setF (RAS_AGING e) RAS_AGING_DRIFT_PPM (min ppm 0xFFFFF) := by
  unfold Dev.aging
  refine if_neg ?_
  rcases h with h | h
  · rw [decide_eq_false (Nat.not_le.mpr h)]
    exact Bool.false_ne_true
  · rw [h, Bool.not_true, Bool.and_false]
    exact Bool.false_ne_true

theorem Dev.aging_warns {d : Dev} {e ppm : Nat} (h : (d.setF (RAS_AGING e) RAS_AGING_DRIFT_PPM (min ppm 0xFFFFF)).fld RAS_SRAM_CFG RAS_SRAM_CFG_WARN_PPM ≤ ppm)
    (hw : (d.setF (RAS_AGING e) RAS_AGING_DRIFT_PPM (min ppm 0xFFFFF)).flag (RAS_AGING e) RAS_AGING_WARN = false) :
    d.aging e ppm = (d.setF (RAS_AGING e) RAS_AGING_DRIFT_PPM (min ppm 0xFFFFF)).agingWarn e := by
  unfold Dev.aging
  refine if_pos ?_
  rw [decide_eq_true h, hw]
  rfl

/-- The warning of a PHY is a report. -/
theorem Dev.agingWarn_phy (d : Dev) {e : Nat} (h : 224 ≤ e) : d.agingWarn e = (d.setF (RAS_AGING e) RAS_AGING_WARN 1).reportOpen (0x0C00 + (e - 224)) 4 hubUnit := by
  unfold Dev.agingWarn
  dsimp only
  rw [if_neg (by omega), if_neg (by omega)]

/-! SRAM scrub and repair. -/

theorem Dev.sramFound_corrected (d : Dev) (m : Sram) (row w : Nat) : d.sramFound m row w .corrected =
    if (if (d.sramErr.lookD (sramRow m row) (0, 0)).1 = d.scrubPeriod then (d.sramErr.lookD (sramRow m row) (0, 0)).2 + 1 else 1) =
        max 1 ((d.setSramErr (d.sramErr.put (sramRow m row) (d.scrubPeriod, if (d.sramErr.lookD (sramRow m row) (0, 0)).1 = d.scrubPeriod then (d.sramErr.lookD (sramRow m row) (0, 0)).2 + 1 else 1))).fld
          RAS_SRAM_CFG RAS_SRAM_CFG_CE_LIMIT) then
      ((d.setSramErr (d.sramErr.put (sramRow m row) (d.scrubPeriod, if (d.sramErr.lookD (sramRow m row) (0, 0)).1 = d.scrubPeriod then (d.sramErr.lookD (sramRow m row) (0, 0)).2 + 1 else 1))).setSramBad
        (d.sramBad.put (sramRow m row) ())).reportOpen (sramSource m) 1 (sramReporter m)
    else d.setSramErr (d.sramErr.put (sramRow m row) (d.scrubPeriod, if (d.sramErr.lookD (sramRow m row) (0, 0)).1 = d.scrubPeriod then (d.sramErr.lookD (sramRow m row) (0, 0)).2 + 1 else 1)) := rfl

/-- What an uncorrectable word poisons: nothing outside an engine's memory, quad memory and the cluster banks. -/
def Dev.sramPoison (d : Dev) (m : Sram) (w : Nat) : Dev :=
  match m with
  | .engineLocal n => d.setPoison (d.poison.put (localAt n.val (w % 32768 * 8) / 8) 0)
  | .quad q => d.setPoison (d.poison.put (quadAt q.val (w % 131072 * 8) / 8) 0)
  | .bank k b => d.setPoison (d.poison.put (bankAt k.val b.val (w % 32768 * 8) / 8) 0)
  | _ => d

/-- An uncorrectable word in a row not repaired before makes the row await repair. -/
theorem Dev.sramFound_uncorrectable {d : Dev} {m : Sram} {row : Nat} (w : Nat) (h : (d.sramFixed.look (sramRow m row)).isNone = true) :
    d.sramFound m row w .uncorrectable = ((d.sramPoison m w).setSramBad (d.sramBad.put (sramRow m row) ())).reportOpen (sramSource m) 2 (sramReporter m) := by
  have hno : ¬ (d.sramFixed.look (sramRow m row)).isSome = true := by
    rw [Option.isNone_iff_eq_none.mp h]
    exact Bool.false_ne_true
  unfold Dev.sramFound Dev.sramPoison
  cases m <;> exact if_neg hno

/-- In a row repaired before, a memory that is neither poisoned nor an engine's is reported again. -/
theorem Dev.sramFound_again {d : Dev} {m : Sram} {row : Nat} (w : Nat) {sl tl : Fin 6} (hm : m = .buffer sl ∨ m = .tables tl ∨ m = .hub) (h : (d.sramFixed.look (sramRow m row)).isSome = true) :
    d.sramFound m row w .uncorrectable = d.reportOpen (sramSource m) 2 (sramReporter m) := by
  unfold Dev.sramFound
  rcases hm with rfl | rfl | rfl <;> exact if_pos h

theorem Dev.sramRepair_idle {d : Dev} {m : Sram} {row : Nat} (left : Bool) (h : d.sramBad.look (sramRow m row) = none) : d.sramRepair m row left = d := by
  unfold Dev.sramRepair
  dsimp only
  rw [h]
  exact if_pos rfl

theorem Dev.sramRepair_done {d : Dev} {m : Sram} {row : Nat} (h : (d.sramBad.look (sramRow m row)).isSome = true) :
    d.sramRepair m row true = ((d.setSramBad (d.sramBad.del (sramRow m row))).setSramErr (d.sramErr.del (sramRow m row))).setSramFixed (d.sramFixed.put (sramRow m row) ()) := by
  obtain ⟨u, hu⟩ := Option.isSome_iff_exists.mp h
  unfold Dev.sramRepair
  dsimp only
  rw [hu]
  exact if_neg Bool.false_ne_true

/-! Lost locks. -/

theorem State.pllLoss_die0 (s : State) {p : Nat} (h : p = 0 ∨ p = 3) : s.pllLoss p = (s.onDev fun d => d.reportOpen (0x0F00 + p) 5 hubUnit).dieDown 0 := by
  rcases h with rfl | rfl <;> rfl

theorem State.pllLoss_die1 (s : State) {p : Nat} (h : p = 1 ∨ p = 4) : s.pllLoss p = (s.onDev fun d => d.reportOpen (0x0F00 + p) 5 hubUnit).dieDown 1 := by
  rcases h with rfl | rfl <;> rfl

theorem State.pllLoss_links (s : State) {p : Nat} (h : p = 5 ∨ p = 6) : s.pllLoss p = (s.onDev fun d => d.reportOpen (0x0F00 + p) 5 hubUnit).onDev fun d =>
    d.each ([2 * (p - 5), 2 * (p - 5) + 1].filter d.pfPresent) fun d n => ((d.freeze n 3).cfgReset n).linkLost n := by
  rcases h with rfl | rfl <;> rfl

theorem State.pllLoss_safe (s : State) {p : Nat} (h : p = 2 ∨ p = 7) :
    s.pllLoss p = (s.onDev fun d => d.reportOpen (0x0F00 + p) 5 hubUnit).onDev fun d => d.enterSafe (0x050 + p) 0 := by
  rcases h with rfl | rfl <;> rfl

theorem State.became_onDev (s : State) (f g : Dev → Dev) : s.became ((s.onDev f).onDev g) = s.settled (g (f s.toDev)) := rfl

theorem pllLockLoss_became {s t : State} (hr : s.runs = true) (p : Fin 8) (h : s.pllLoss p.val = t) : exec (.pllLockLoss p) s = .next (s.became t) :=
  h ▸ finM_became hr _

theorem pllLockLoss_settled {s : State} {f g : Dev → Dev} (hr : s.runs = true) (p : Fin 8) (h : s.pllLoss p.val = (s.onDev f).onDev g) :
    exec (.pllLockLoss p) s = .next (s.settled (g (f s.toDev))) := by
  rw [pllLockLoss_became hr p h, State.became_onDev]

/-! Fault records. -/

theorem Dev.ras_rasAgain (d : Dev) (k : Nat) (r : RasRec) : ∃ b, (d.rasAgain k r).ras = d.ras.put k { r with count := min (r.count + 1) 0xFFFF, window := min (r.window + 1) 0xFFFF, storm := b } := by
  unfold Dev.rasAgain
  dsimp only
  split <;> exact ⟨_, rfl⟩

/-- A report of a fault that a record holds counts there. -/
theorem Dev.report_held {d : Dev} {id k : Nat} {r : RasRec} (h : d.rasFind id = some (k, r)) (kind detail : Nat) (who : Reporter) (code : Nat) :
    ∃ r', (d.report id kind detail who code).ras = d.ras.put k r' ∧ r'.id = r.id ∧ r'.firstNs = r.firstNs ∧ r'.count = min (r.count + 1) 0xFFFF := by
  unfold Dev.report
  rw [h]
  dsimp only
  split
  · obtain ⟨b, hb⟩ := d.ras_rasAgain k { r with detail := detail, kind := kind, slice := who.slice, pos := who.pos, thread := who.thread, code := code }
    exact ⟨_, hb, rfl, rfl, rfl⟩
  · obtain ⟨b, hb⟩ := d.ras_rasAgain k r
    exact ⟨_, hb, rfl, rfl, rfl⟩

/-- With every record held, a report of another fault only counts as lost. -/
theorem Dev.report_lost {d : Dev} {id : Nat} (h : d.rasFind id = none) (hfull : d.ras.firstFree 256 = 256) (kind detail : Nat) (who : Reporter) (code : Nat) :
    d.report id kind detail who code = (d.satAdd RAS_LOST RAS_LOST_COUNT 1).setF RAS_STATUS RAS_STATUS_OVERFLOW 1 := by
  unfold Dev.report
  rw [h]
  exact if_pos hfull

/-- A report of a fault that no record holds takes the first free one. -/
theorem Dev.report_new {d : Dev} {id : Nat} (h : d.rasFind id = none) (hfree : d.ras.firstFree 256 ≠ 256) (kind detail : Nat) (who : Reporter) (code : Nat) :
    d.report id kind detail who code =
      ((((d.setRas (d.ras.put (d.ras.firstFree 256) ⟨d.now, detail, id, 0, 0, kind, false, who.slice, who.pos, who.thread, code⟩)).rasAgain (d.ras.firstFree 256)
        ⟨d.now, detail, id, 0, 0, kind, false, who.slice, who.pos, who.thread, code⟩).rasCount).setF RAS_STATUS RAS_STATUS_NEW 1).emit (.pldmEvent id) := by
  unfold Dev.report
  rw [h]
  exact if_neg hfree

end Sys2Proof.Machine

/-- Settles O58: one equation per event and outcome; a report by whether a record holds its fault, or one is free. -/
theorem reliability : Obligations.Reliability := by
  refine ⟨fun s e ppm hr => ?_, fun s m row w hr => ?_, fun s rail hr => ⟨finK_eq_of_runs hr _, finK_eq_of_runs hr _⟩, fun s src v hh => finW_eq_of_hears hh _ _, fun s p hr => ?_,
    fun d id kind detail code who => ⟨fun hnone => ⟨fun hfull => ?_, fun hfree => ?_⟩, fun k r hheld => d.report_held hheld kind detail who code⟩⟩
  · intro d
    exact ⟨fun h => fin_of_runs hr (Dev.aging_quiet h), fun h hw => ⟨fin_of_runs hr (Dev.aging_warns h hw), fun he => d.agingWarn_phy he⟩⟩
  · intro k
    refine ⟨fin_eq_of_runs hr _, ?_, ⟨fun sl hm h => ?_, fun sl hm h => fin_of_runs hr (Dev.sramFound_again w hm h), fun q hm h => ?_, fun q b hm h => ?_, fun n hm h => ?_⟩,
      fun left h => fin_of_runs hr (Dev.sramRepair_idle left h), fun h => fin_of_runs hr (Dev.sramRepair_done h)⟩
    · intro old n d top
      exact ⟨fun h => fin_of_runs hr ((s.toDev.sramFound_corrected m row w).trans (if_neg h)), fun h => fin_of_runs hr ((s.toDev.sramFound_corrected m row w).trans (if_pos h))⟩
    · refine fin_of_runs hr ((Dev.sramFound_uncorrectable w h).trans ?_)
      rcases hm with rfl | rfl | rfl <;> rfl
    · exact fin_of_runs hr ((Dev.sramFound_uncorrectable w h).trans (by subst hm; rfl))
    · exact fin_of_runs hr ((Dev.sramFound_uncorrectable w h).trans (by subst hm; rfl))
    · exact fin_of_runs hr ((Dev.sramFound_uncorrectable w h).trans (by subst hm; rfl))
  · intro t
    have ht : t.toDev = s.toDev.reportOpen (0x0F00 + p.val) 5 hubUnit := rfl
    refine ⟨fun h => pllLockLoss_became hr p (s.pllLoss_die0 h), fun h => pllLockLoss_became hr p (s.pllLoss_die1 h), fun h => ?_, fun h => ?_⟩
    · rw [pllLockLoss_settled hr p (s.pllLoss_links h), ht]
    · rw [pllLockLoss_settled hr p (s.pllLoss_safe h), ht]
  · rw [Dev.report_lost hnone hfull]
    refine ⟨rfl, ?_, ?_⟩
    · exact bne_iff_ne.mpr (trans_ne (Dev.fld_setF_same (by decide) _ _ 1) (by decide))
    · refine (Dev.fld_setF_other _ _ _ _ _ _ (by decide)).trans ((Dev.fld_setF_same (by decide) _ _ _).trans (Nat.mod_eq_of_lt ?_))
      exact Nat.lt_of_le_of_lt (Nat.min_le_right ..) (by decide)
  · rw [Dev.report_new hnone hfree]
    refine ⟨bne_iff_ne.mpr (trans_ne (Dev.fld_setF_same (by decide) _ _ 1) (by decide)), ?_⟩
    generalize hr : (⟨d.now, detail, id, 0, 0, kind, false, who.slice, who.pos, who.thread, code⟩ : RasRec) = r
    obtain ⟨b, hb⟩ := (d.setRas (d.ras.put (d.ras.firstFree 256) r)).ras_rasAgain (d.ras.firstFree 256) r
    refine ⟨_, (congrArg (Tab.look · _) hb).trans (Tab.look_put_same ..), ?_⟩
    subst hr
    exact ⟨rfl, rfl, rfl, rfl, rfl, rfl, rfl, rfl, rfl, rfl⟩
end

section
open Sys2Proof Sys2Proof.Machine
namespace Sys2Proof.Machine

/-! Resets and boot (17 R470 to R475, 18 R476 to R480, 19 R499 and R500, 20 R509). -/

/-! What changes registers alone leaves alone. -/

section
variable {β : Type} {g : Dev → β} (hg : ∀ d x, g (d.setRegs x) = g d)
include hg

theorem Dev.refreshLanes_kept (d : Dev) (h : Nat) : g (d.refreshLanes h) = g d := by
  refine Dev.each_kept g (fun d l => ?_) d _
  split
  · rfl
  · split
    · exact hg _ _
    · split
      · exact (hg _ _).trans (hg _ _)
      · exact hg _ _

theorem Dev.warmLanes_kept (n d : Dev) : g (n.warmLanes d) = g n := by
  refine Dev.each_kept g (fun n h => ?_) n _
  refine (Dev.refreshLanes_kept hg _ _).trans (Dev.each_kept g (fun n l => ?_) n _)
  extract_lets r n1 n2
  have h1 : g n1 = g n := Dev.onlyIf_kept g (fun n => hg n _) n _
  have h2 : g n2 = g n1 := Dev.onlyIf_kept g (fun n => hg n _) n1 _
  exact (Dev.onlyIf_kept g (fun n => (hg _ _).trans (hg n _)) n2 _).trans (h2.trans h1)

theorem Dev.warmSpares_kept (n d : Dev) : g (n.warmSpares d) = g n := by
  refine Dev.each_kept g (fun n c => ?_) n _
  split
  · rfl
  · exact (hg _ _).trans (hg _ _)

theorem Dev.strapLinks_kept (d : Dev) (x : Straps) : g (d.strapLinks x) = g d := by
  refine Dev.each_kept g (fun d n => ?_) d _
  extract_lets two cxl
  split
  · exact hg _ _
  · rfl

end

/-! The warm reset. -/

/-- What a warm reset keeps and what it ends: network time, the fault records and the mode; no thread. -/
theorem Dev.warm_spec (d : Dev) : d.warm.ntu = d.ntu ∧ d.warm.ras = d.ras ∧ d.warm.pwrMode = .warm ∧ d.warm.thr = [] := by
  unfold Dev.warm
  extract_lets tfs d1 r1 n1 n2 r2 n3 r3 n4 r4 n5 r5 n6 r6 n7 r7 n8
  have hntu : d1.ntu = d.ntu := Dev.each_kept Dev.ntu (f := Dev.mtrWithdrawn) (fun _ _ => rfl) d tfs
  have hrel : d1.rel = d.rel := Dev.each_kept Dev.rel (f := Dev.mtrWithdrawn) (fun _ _ => rfl) d tfs
  clear_value d1
  have kept : ∀ {β : Type} (g : Dev → β), (∀ d x, g (d.setRegs x) = g d) →
      g ((((n8.warmLanes d1).warmSpares d1).setPs PWR_STATUS_IN_TRANSITION 0).setPs PWR_STATUS_EASY_WAIT 0 |>.setPs PWR_STATUS_SLICES 0) = g n8 := fun g hg =>
    (hg _ _).trans ((hg _ _).trans ((hg _ _).trans ((Dev.warmSpares_kept hg _ _).trans (Dev.warmLanes_kept hg _ _))))
  exact ⟨(kept Dev.ntu fun _ _ => rfl).trans hntu, (kept Dev.ras fun _ _ => rfl).trans (congrArg RelU.ras hrel), kept Dev.pwrMode fun _ _ => rfl, kept Dev.thr fun _ _ => rfl⟩

/-! The cold reset. -/

/-- A reading that looks at none of what a report, or a repair, changes. -/
structure ReportBlind {β : Type} (g : Dev → β) : Prop where
  regs : ∀ d x, g (d.setRegs x) = g d
  out : ∀ d x, g (d.setOut x) = g d
  rel : ∀ d x, g (d.setRel x) = g d
  free : ∀ d x, g (d.setFreeCtr x) = g d
  dma : ∀ d x, g (d.setDma x) = g d

section
variable {β : Type} {g : Dev → β} (hg : ReportBlind g)
include hg

theorem ReportBlind.rasAgain (d : Dev) (k : Nat) (r : RasRec) : g (d.rasAgain k r) = g d := by
  unfold Dev.rasAgain
  extract_lets w th storm e
  split
  · exact (hg.out _ _).trans (hg.rel _ _)
  · exact hg.rel _ _

theorem ReportBlind.report (d : Dev) (id kind detail : Nat) (who : Reporter) (code : Nat) : g (d.report id kind detail who code) = g d := by
  unfold Dev.report
  split
  · exact hg.rasAgain _ _ _
  · dsimp only
    split
    · exact (hg.regs _ _).trans (hg.regs _ _)
    · exact (hg.out _ _).trans ((hg.regs _ _).trans ((hg.regs _ _).trans ((hg.rasAgain _ _ _).trans (hg.rel _ _))))

theorem ReportBlind.reportOpen (d : Dev) (id kind : Nat) (who : Reporter) : g (d.reportOpen id kind who) = g d :=
  (hg.report _ _ _ _ _ _).trans ((hg.free _ _).trans (hg.free _ _))

theorem ReportBlind.pprBoot (d old : Dev) : g (d.pprBoot old) = g d := by
  unfold Dev.pprBoot
  split
  · rfl
  · refine Dev.each_kept g (fun d c => ?_) d _
    extract_lets r soft left m e
    split
    · rfl
    · exact (Dev.onlyIf_kept g (fun d => hg.reportOpen d _ _ _) _ _).trans ((hg.regs _ _).trans ((hg.regs _ _).trans (hg.dma _ _)))

end

/-- What a cold reset keeps: flash, the count of boots, and on the exit from EASY network time; no thread and no key slot. -/
theorem Dev.cold_spec (d : Dev) (x : Straps) (easy : Bool) : (d.cold x easy).mgt = d.mgt.flash ∧ (d.cold x easy).bootCount = d.bootCount ∧ (d.cold x easy).straps = x ∧
    (d.cold x easy).thr = [] ∧ (d.cold x easy).keySlot = [] ∧ (d.cold x easy).ntu = if easy then d.ntu else Dev.reset.ntu := by
  unfold Dev.cold
  extract_lets r1 n1 r2 n2 n3
  have kept : ∀ {β : Type} (g : Dev → β), ReportBlind g → g ((((n3.strapLinks x).setHardUsed d.hardUsed).pprBoot d).emit (.pin "MGT_FAULT_N" true)) = g n3 := fun g hg =>
    (hg.out _ _).trans ((hg.pprBoot _ _).trans ((hg.dma _ _).trans (Dev.strapLinks_kept hg.regs _ _)))
  have still : ∀ {β : Type} (g : Dev → β), (∀ d a b, g ((d.setNtu a).setMtr b) = g d) → g n3 = g n2 := fun g hg => Dev.onlyIf_kept g (fun d => hg d _ _) _ _
  have blind : ReportBlind fun d => (d.mgt, d.bootCount, d.straps, d.thr, d.keySlot, d.ntu) := ⟨fun _ _ => rfl, fun _ _ => rfl, fun _ _ => rfl, fun _ _ => rfl, fun _ _ => rfl⟩
  have h := kept _ blind
  simp only [Prod.mk.injEq] at h
  obtain ⟨hmgt, hboot, hstraps, hthr, hkey, hntu⟩ := h
  refine ⟨hmgt.trans (still Dev.mgt fun _ _ _ => rfl), hboot.trans (still Dev.bootCount fun _ _ _ => rfl), hstraps.trans (still Dev.straps fun _ _ _ => rfl),
    hthr.trans (still Dev.thr fun _ _ _ => rfl), hkey.trans (still Dev.keySlot fun _ _ _ => rfl), hntu.trans ?_⟩
  cases easy <;> rfl

/-- The fuses outlive a cold reset. -/
theorem Dev.mem_coldRegs {d : Dev} (easy : Bool) {kv : Nat × Word} (hkv : kv ∈ d.regs) (h : kv.1 = MBX_FUSE.addr ∨ kv.1 = MBX_LIFECYCLE.addr) : kv ∈ d.coldRegs easy := by
  refine List.mem_filter.mpr ⟨hkv, ?_⟩
  rcases h with h | h <;> rw [h, beq_self_eq_true]
  · rw [Bool.or_true, Bool.true_or]
  · rw [Bool.true_or, Bool.true_or]

/-! The safe state. -/

theorem Dev.pwrMode_enterSafe (d : Dev) (t e : Nat) : (d.enterSafe t e).pwrMode = .safe := rfl

/-- A link that goes down leaves MBX_BOOT_STATUS as it was. -/
theorem Dev.bootStatus_linkLost (d : Dev) {n : Nat} (hn : n < 4) : (d.linkLost n).rd MBX_BOOT_STATUS = d.rd MBX_BOOT_STATUS := by
  have hls : MBX_BOOT_STATUS.addr ≠ (HIF_LINK_STATUS n).addr := by
    show 0x800000 ≠ 0x200000 + n * 0x1000
    omega
  have hout : MBX_BOOT_STATUS.addr ≠ (HIF_OUTSTANDING n).addr := by
    show 0x800000 ≠ 0x200030 + n * 0x1000
    omega
  have set_ (d : Dev) (f : Fld) (x : Nat) : (d.setLs n f x).rd MBX_BOOT_STATUS = d.rd MBX_BOOT_STATUS := Dev.rd_setF_other _ _ _ _ _ hls
  have changed (d : Dev) : (d.readsChanged n).rd MBX_BOOT_STATUS = d.rd MBX_BOOT_STATUS := by
    unfold Dev.readsChanged
    extract_lets d1
    have h1 : d1.rd MBX_BOOT_STATUS = d.rd MBX_BOOT_STATUS := Dev.rd_wr_other _ _ _ _ hout
    split
    · exact (Dev.rd_setF_other _ _ _ _ _ (by decide)).trans ((set_ _ _ _).trans h1)
    · exact h1
  unfold Dev.linkLost
  extract_lets d1
  have h1 : d1.rd MBX_BOOT_STATUS = d.rd MBX_BOOT_STATUS := (set_ _ _ _).trans ((set_ _ _ _).trans ((set_ _ _ _).trans (set_ _ _ _)))
  exact (changed _).trans ((set_ d1 _ _).trans h1)

/-- What MBX_BOOT_STATUS and PWR_STATUS show in the safe state. -/
theorem Dev.enterSafe_shows (d : Dev) (t e : Nat) : (d.enterSafe t e).fld MBX_BOOT_STATUS MBX_BOOT_STATUS_PHASE = 15 ∧ (d.enterSafe t e).fld PWR_STATUS PWR_STATUS_SLICES = 0 ∧
    (d.enterSafe t e).fld MBX_BOOT_STATUS MBX_BOOT_STATUS_TEST = t % 4096 ∧ (d.enterSafe t e).fld MBX_BOOT_STATUS MBX_BOOT_STATUS_ERROR = e % 256 := by
  unfold Dev.enterSafe
  extract_lets d1 d2
  have hphase : d1.fld MBX_BOOT_STATUS MBX_BOOT_STATUS_PHASE = 15 := by
    unfold d1
    rw [Dev.fld_setF_disjoint (by decide), Dev.fld_setF_disjoint (by decide), Dev.fld_setF_same (by decide)]
    rfl
  have htest : d1.fld MBX_BOOT_STATUS MBX_BOOT_STATUS_TEST = t % 4096 := by
    unfold d1
    rw [Dev.fld_setF_disjoint (by decide), Dev.fld_setF_same (by decide)]
    rfl
  have herror : d1.fld MBX_BOOT_STATUS MBX_BOOT_STATUS_ERROR = e % 256 := Dev.fld_setF_same (by decide) _ _ e
  have hlinks : d2.rd MBX_BOOT_STATUS = d1.rd MBX_BOOT_STATUS :=
    Dev.each_kept_of_mem (Dev.rd · MBX_BOOT_STATUS) _ (fun n hn d => d.bootStatus_linkLost (List.mem_range.mp (List.mem_filter.mp hn).1)) _
  have hrd : ((((d2.setF PWR_STATUS PWR_STATUS_SLICES 0).emit (.pin "MGT_FAULT_N" false)).setPwrMode .safe).rd MBX_BOOT_STATUS) = d1.rd MBX_BOOT_STATUS :=
    (Dev.rd_setF_other d2 PWR_STATUS MBX_BOOT_STATUS _ _ (by decide)).trans hlinks
  refine ⟨(congrArg MBX_BOOT_STATUS_PHASE.get hrd).trans hphase, ?_, (congrArg MBX_BOOT_STATUS_TEST.get hrd).trans htest, (congrArg MBX_BOOT_STATUS_ERROR.get hrd).trans herror⟩
  exact Dev.fld_setF_same (by decide) d2 PWR_STATUS 0

/-! Boot. -/

/-- The device that boot tests: after the cold reset, the boot counted unless the part is BLANK. -/
def Dev.bootTested (d : Dev) (b : BootIn) (easy : Bool) : Dev :=
  (((d.cold b.straps easy).onlyIf (decide (1 ≤ (d.cold b.straps easy).life)) fun d => d.setBootCount (d.bootCount + 1)).avsWrite b.avsAck)

/-- What follows the tests. -/
def Dev.bootFrom (b : BootIn) (r : Dev × Option Nat) : Dev :=
  match r with
  | (d, some t) => d.enterSafe t 0
  | (d, none) => (((((d.setF KEY_STATUS KEY_STATUS_READY 1).setPs PWR_STATUS_SLICES d.availSlices).ulyarStart).boardOwner).ulyarPlaces b).pwrEval

theorem Dev.boot_eq (d : Dev) (b : BootIn) (easy : Bool) : d.boot b easy = Dev.bootFrom b ((d.bootTested b easy).bist b) := rfl

theorem Dev.boot_of_tests {d k : Dev} {b : BootIn} {easy : Bool} {r : Option Nat} (h : (d.bootTested b easy).bist b = (k, r)) : d.boot b easy = Dev.bootFrom b (k, r) := by
  rw [Dev.boot_eq, h]

/-! A loss of power good. -/

theorem powerGoodLoss_short (s : State) {ns : Nat} (h : ns < 1000) : exec (.powerGoodLoss ns) s = .next (s.settled s.toDev) := by
  show execPowerGoodLoss ns s = _
  unfold execPowerGoodLoss
  rw [if_neg (by omega), decide_eq_false (by omega)]
  rfl

theorem powerGoodLoss_long (s : State) {ns : Nat} (h : 10000 ≤ ns) (he : s.pwrMode ≠ .easy) :
    exec (.powerGoodLoss ns) s = .next (s.settled (((s.toDev.setPwrMode .held).emit (.pin "MGT_THERMTRIP_N" true)).emit (.pin "MGT_FAULT_N" true))) := by
  show execPowerGoodLoss ns s = _
  unfold execPowerGoodLoss
  rw [if_neg (by omega), decide_eq_true h]
  exact if_pos (bne_iff_ne.mpr he)

theorem powerGoodLoss_between (s : State) {ns : Nat} (h1 : 1000 ≤ ns) (h10 : ns < 10000) (he : s.pwrMode ≠ .easy) :
    exec (.powerGoodLoss ns) s = .next (s.settled (if Config.free s.freeCtr % 2 = 1 then
      (((s.toDev.setFreeCtr (s.freeCtr + 1)).setPwrMode .held).emit (.pin "MGT_THERMTRIP_N" true)).emit (.pin "MGT_FAULT_N" true) else s.toDev.setFreeCtr (s.freeCtr + 1))) := by
  show execPowerGoodLoss ns s = _
  unfold execPowerGoodLoss
  rw [if_pos ⟨h1, h10⟩]
  unfold Dev.freshBool
  dsimp only
  rw [bne_iff_ne.mpr he, Bool.and_true]
  by_cases hb : Config.free s.freeCtr % 2 = 1
  · rw [if_pos hb, if_pos (beq_iff_eq.mpr hb)]
    rfl
  · rw [if_neg hb, if_neg (fun h => hb (beq_iff_eq.mp h))]
    rfl

/-! Resets by a register write. -/

theorem finP_frozen {s : State} {src : Src} (hr : s.runs = true) (hf : s.srcFrozen src = true) (d : Dev) : finP s src d = .next (s.settled (s.inboundDiscard src)) := by
  unfold finP
  rw [if_pos (.inl (mode_of_runs hr)), if_pos hf]
  rfl

theorem lifecycleBurn_burns {s : State} {l : LifeNext} (b : BootIn) (h : s.lifeNext = some l) (hheld : s.pwrMode ≠ .held) (hdue : s.lifeRead l = true ∨ l.since + 1000000000 ≤ s.refNs) :
    exec (.lifecycleBurn b) s = .next (s.became ((s.onDev fun d => d.lifeBurn l).coldReset b false)) := by
  show execLifecycleBurn b s = _
  unfold execLifecycleBurn
  rw [h]
  refine if_pos ?_
  rw [bne_iff_ne.mpr hheld]
  rcases hdue with hdue | hdue
  · rw [hdue]
    rfl
  · rw [decide_eq_true hdue, Bool.or_true]
    rfl

theorem lifecycleBurn_waits {s : State} {l : LifeNext} (b : BootIn) (h : s.lifeNext = some l) (hread : s.lifeRead l = false) (hdue : s.refNs < l.since + 1000000000) :
    exec (.lifecycleBurn b) s = .next s := by
  show execLifecycleBurn b s = _
  unfold execLifecycleBurn
  rw [h]
  refine if_neg ?_
  rw [hread, decide_eq_false (Nat.not_le.mpr hdue), Bool.or_false, Bool.and_false]
  exact Bool.false_ne_true

theorem lifecycleBurn_none {s : State} (b : BootIn) (h : s.lifeNext = none) : exec (.lifecycleBurn b) s = .next s := by
  show execLifecycleBurn b s = _
  unfold execLifecycleBurn
  rw [h]

section
variable {s : State} {src : Src} (hr : s.runs = true)
include hr

theorem warmReset_heard (hf : s.srcFrozen src = false) : exec (.warmReset src) s = .next (s.became s.warmReset) := by
  show execWarmReset src s = _
  unfold execWarmReset
  rw [hf, if_neg Bool.false_ne_true, if_pos hr]
  exact finM_became hr _

theorem sliceReset_heard (hf : s.srcFrozen src = false) (sl : Fin 6) : exec (.sliceReset src sl) s = .next (s.became (s.sliceResetBy sl.val)) := by
  show execSliceReset src sl s = _
  unfold execSliceReset
  rw [hf, if_neg Bool.false_ne_true, if_pos hr]
  exact finM_became hr _

end

end Sys2Proof.Machine

/-- Settles O60: one equation per reset and what ends it; what a cold and a warm reset keep by what their last steps leave alone. -/
theorem resetsAndBoot : Obligations.ResetsAndBoot := by
  refine ⟨fun s b => ⟨fun h => if_neg h, fun h => if_pos h, fun easy => ⟨rfl, rfl⟩, fun l hl hheld => ⟨lifecycleBurn_burns b hl hheld, lifecycleBurn_waits b hl⟩, lifecycleBurn_none b⟩,
    fun d x easy => ?_, fun d k b easy t => ?_, fun d t e => ⟨d.pwrMode_enterSafe t e, d.enterSafe_shows t e⟩, fun s ns => ?_, fun s src sl hr => ?_, fun s => ?_, fun s g hr => ?_⟩
  · intro c
    obtain ⟨hmgt, hboot, hstraps, hthr, hkey, hntu⟩ := d.cold_spec x easy
    have flash {β : Type} (f : MgtU → β) : f c.mgt = f d.mgt.flash := congrArg f hmgt
    exact ⟨flash MgtU.chain, flash MgtU.pubKey, flash MgtU.bankSel, flash MgtU.bankA, flash MgtU.bankB, flash MgtU.defImage, hboot, hstraps, hthr,
      hkey, hntu, fun kv hkv h => Dev.mem_coldRegs easy hkv h⟩
  · intro e
    exact ⟨fun h => Dev.boot_of_tests h, fun h => Dev.boot_of_tests h, rfl, rfl⟩
  · intro held d
    exact ⟨powerGoodLoss_short s, powerGoodLoss_long s, powerGoodLoss_between s⟩
  · refine ⟨fun hf => ⟨warmReset_heard hr hf, sliceReset_heard hr hf sl, fun hoff => if_neg (by rw [hoff]; exact Bool.false_ne_true), fun hon => if_pos hon⟩,
      fun hf => ⟨(if_pos hf).trans (finP_frozen hr hf _), (if_pos hf).trans (finP_frozen hr hf _)⟩, fun h => fin_of_runs hr (if_pos h), fun h => fin_of_runs hr (if_neg ?_)⟩
    rw [h]
    exact Bool.false_ne_true
  · obtain ⟨hntu, hras, hmode, hthr⟩ := s.toDev.warm_spec
    refine ⟨fun c => ?_, hntu, hras, hmode, hthr, fun h => if_pos h, fun h => if_neg h⟩
    exact List.mem_filter.trans (and_congr_right fun _ => decide_eq_true_iff)
  · exact ⟨fun h => fin_of_runs hr (if_pos h), fun h => fin_of_runs hr (if_neg h), fin_eq_of_runs hr _⟩
end
